-- ==== Sys2Proof/Word.lean ====
section
/-! DEFINITION. The fabric word of the Miuri and its plainest arithmetic (spec/00_scope.md R11, R12). -/

namespace Sys2Proof

/-- A word: the fabric word, a window-table entry, a Caldera vector, an Obsidian block, an optical payload, an event
record and a Sinter word are all this one unit (spec/00_scope.md R11). -/
abbrev Word := BitVec 128

/-- A byte of a word. -/
abbrev Byte := BitVec 8

/-- A halfword, the unit of the host buses (spec/00_scope.md R12). -/
abbrev Half := BitVec 16

/-- Halfword `n` of a word, bits [16n+15:16n] (spec/00_scope.md R12). -/
def Word.half (w : Word) (n : Nat) : Half := w.extractLsb' (16 * n) 16

/-- `w` with halfword `n` replaced (spec/00_scope.md R12). -/
def Word.setHalf (w : Word) (n : Nat) (h : Half) : Word :=
  (w &&& ~~~ ((0xFFFF#128) <<< (16 * n))) ||| ((h.setWidth 128) <<< (16 * n))

/-- Byte `n` of a word, bits [8n+7:8n] (spec/00_scope.md R12). -/
def Word.byte (w : Word) (n : Nat) : Byte := w.extractLsb' (8 * n) 8

/-- The sixteen bytes of a word, byte 0 first. -/
def Word.bytes (w : Word) : List Byte := (List.range 16).map w.byte

/-- The word whose byte 0 is the first of the list; missing bytes are 0. -/
def Word.ofBytes : List Byte → Word
  | [] => 0
  | b :: t => (b.setWidth 128) ||| (Word.ofBytes t <<< 8)

/-- Bits [lo+w-1:lo] of a word as a number. -/
def Word.bits (x : Word) (lo w : Nat) : Nat := (x.toNat >>> lo) % 2 ^ w

/-- Bit `n` of a number. -/
def bitOf (x n : Nat) : Bool := x.testBit n

/-- A Bool as the number 0 or 1. -/
def b2n (b : Bool) : Nat := if b then 1 else 0

/-- A number as a list of `n` bits, bit 0 first. -/
def bitsLE (x : Nat) : Nat → List Bool
  | 0 => []
  | n + 1 => (x % 2 == 1) :: bitsLE (x / 2) n

/-- The number whose bit 0 is the first of the list. -/
def ofBitsLE : List Bool → Nat
  | [] => 0
  | b :: t => b2n b + 2 * ofBitsLE t

/-- The number whose most significant bit is the first of the list. -/
def ofBitsBE (l : List Bool) : Nat := l.foldl (fun a b => 2 * a + b2n b) 0

/-- A number as a list of `n` bits, most significant bit first. -/
def bitsBE (x n : Nat) : List Bool := (bitsLE x n).reverse

/-- A list cut into pieces of `k`, the last one possibly shorter; `fuel` bounds the number of pieces. -/
def chunksOf {α : Type} (k : Nat) : Nat → List α → List (List α)
  | 0, _ => []
  | fuel + 1, l => if l.isEmpty then [] else l.take k :: chunksOf k fuel (l.drop k)

/-- Bytes gathered into words, byte 0 of each word first, the last word padded with zero bytes. -/
def wordsOfBytes (l : List Byte) : List Word := (chunksOf 16 l.length l).map Word.ofBytes

/-- Entry `i` of a vector, or a default beyond its end. -/
def vget {α : Type} {n : Nat} [Inhabited α] (v : Vector α n) (i : Nat) : α := (v[i]?).getD default

/-- A vector with entry `i` replaced; unchanged beyond its end. -/
def vset {α : Type} {n : Nat} (v : Vector α n) (i : Nat) (x : α) : Vector α n := v.setIfInBounds i x

/-- A vector with `f` applied to entry `i`. -/
def vmod {α : Type} {n : Nat} [Inhabited α] (v : Vector α n) (i : Nat) (f : α → α) : Vector α n :=
  vset v i (f (vget v i))

/-- Round a quotient up. -/
def ceilDiv (a b : Nat) : Nat := (a + b - 1) / b

/-- The lower of two numbers capped: `a` but at most `m`. -/
def capAt (m a : Nat) : Nat := if a ≤ m then a else m

end Sys2Proof
end

