-- ==== Sys2Proof/Syntax.lean ====
section
/-! DEFINITION. The commands of the Miuri (one constructor of `Instr` for each row of the command table) and the types
of their operands. -/

namespace Sys2Proof

/-- The two host ports: the parallel bus and the Tuichex serial port (spec/02_host_access.md R38). -/
inductive PortId where
  | p0 | p1
  deriving DecidableEq, Repr, Inhabited

/-- Units and event sources (spec/00_scope.md R20, Table SC-5). -/
inductive Src where
  | gy | line | cald | obs | radio | opt1 | opt2 | sens | loop | msp | rng | gov | sinter | host | arb
  deriving DecidableEq, Repr, Inhabited

/-- The identifier of a unit or source (spec/00_scope.md R20). -/
def Src.code : Src → Nat
  | .gy => 0x1 | .line => 0x2 | .cald => 0x3 | .obs => 0x4 | .radio => 0x5 | .opt1 => 0x6 | .opt2 => 0x7 | .sens => 0x8
  | .loop => 0x9 | .msp => 0xA | .rng => 0xB | .gov => 0xC | .sinter => 0xD | .host => 0xE | .arb => 0xF

/-- The units that have a state mirror (spec/03_units_events.md R82). -/
def Src.units : List Src :=
  [.gy, .line, .cald, .obs, .radio, .opt1, .opt2, .sens, .loop, .msp, .rng, .gov, .sinter]

/-- The index of a unit's mirror or a source's queue. -/
def Src.idx (u : Src) : Nat := u.code - 1

/-- Every event source (spec/00_scope.md R20). -/
def Src.all : List Src := Src.units ++ [.host, .arb]

/-- The unit an identifier names, where it has a state mirror (spec/00_scope.md R20). -/
def Src.unitOf (c : Nat) : Option Src := Src.units.find? (fun u => u.code == c)

/-- A Tuichex host frame whose CRC is good, less its OP (spec/02_host_access.md R47, Table HA-4). -/
structure Frame where
  /-- H0[11:8] ALIVE -/
  alive : BitVec 4
  /-- H0[7:2] TENANT -/
  tenant : BitVec 6
  /-- H0[1] SNAPCONT -/
  snapcont : Bool
  /-- H0[0], which must be 0 -/
  h0bit0 : Bool
  /-- H1[15:12], which must be 0 -/
  h1top : BitVec 4
  /-- H1[11:8] RCNT -/
  rcnt : BitVec 4
  /-- H1[7:0] ADDR -/
  addr : BitVec 8
  /-- the data halfwords -/
  data : List Half
  deriving DecidableEq, Repr, Inhabited

/-- An in-line Obsidian job as its port presents it (spec/10_obsidian_cipher.md R365, R660). -/
structure Inline where
  /-- mode, as OB_Q.MODE -/
  mode : Nat := 0
  /-- direction, as OB_Q.DIR -/
  dir : Nat := 0
  /-- the slot the port names -/
  slot : Nat := 0
  /-- tag bytes of CCM -/
  m : Nat := 0
  /-- nonce or chaining value -/
  nonce : List Byte := []
  /-- associated data -/
  aad : List Byte := []
  /-- message -/
  msg : List Byte := []
  /-- input tag -/
  tag : List Byte := []
  deriving DecidableEq, Repr, Inhabited

/-- What the learner has measured on one phase of a slot, or of a quarter of an access slot (spec/07_line_learning.md
R246, Table LL-1). -/
structure Sample where
  /-- phase, 0 to 2 -/
  phase : Nat := 0
  /-- 0 quiet access region, 1 quiet slot, 2 slot of a frame -/
  kind : Nat := 1
  /-- slot of the cycle, 0 to 31; for kind 0 four times the access slot's place among slots 0, 1, 16 and 17, plus the
  quarter -/
  slot : Nat := 2
  /-- the slot is marked reduced-confidence -/
  reduced : Bool := false
  /-- energies as FP32 codes, by grid index -/
  tones : List (Nat × Nat) := []
  /-- grid indices of the decided tones -/
  decided : List Nat := []
  /-- the decided tones are those of TWIN8 -/
  twin : Bool := false
  deriving DecidableEq, Repr, Inhabited

/-- What a kernel invocation hands to its consumer (spec/09_caldera_jobs.md R326). -/
structure KernelData where
  /-- in-phase result of K3 or K5 -/
  i : Int := 0
  /-- quadrature result of K3 or K5 -/
  q : Int := 0
  /-- average photocurrent of K3's samples -/
  avg : Nat := 0
  /-- samples of a K2 slot update -/
  samples : List Sample := []
  deriving DecidableEq, Repr, Inhabited

/-- The commands, one constructor for each row of the command table of the spec. Operands are what the sender gives:
a port, a window, data, or what arrives on a pin or from the world outside. -/
inductive Instr where
  /-- REGISTER_WRITE (R42): A host write to a top-level register that has no behaviour of its own takes effect in the last core tick of its profile, or is refused, and its outcome goes to ACC_STAT. -/
  | registerWrite (p : PortId) (addr : Nat) (data : Option Half)
  /-- UNDEFINED_ADDRESS_ACCESS (R651): A port 0 access to byte addresses 0x60-0x7E is refused with NOT_AVAILABLE in the short profile. -/
  | undefinedAddressAccess (addr : Nat) (write : Bool)
  /-- HOST_FRAME_NOP (R49): A good Tuichex NOP frame executes at the rise of HSSEL_N, performs no access and advances ALIVE tracking. -/
  | hostFrameNop (f : Frame)
  /-- HOST_FRAME_READ (R50): A good Tuichex READ frame performs RCNT+1 reads in order, stops at the first refusal and prepares its reply. -/
  | hostFrameRead (f : Frame)
  /-- HOST_FRAME_WRITE (R50): A good Tuichex WRITE frame performs k writes in order, stops at the first refusal and prepares its reply. -/
  | hostFrameWrite (f : Frame)
  /-- HOST_FRAME_REPLAY (R55): A REPLAY frame performs no access and its reply copies the reply shifted out during the preceding frame, with REPLAYED set. -/
  | hostFrameReplay (f : Frame)
  /-- BAD_FRAME (R48): A frame with a wrong CRC, a wrong length or a partial halfword performs no access and is answered BAD_FRAME. -/
  | badFrame (hws : List Half) (fraction : Bool)
  /-- EARLY_FRAME (R53): A frame begun before the previous one finished executing is discarded, and the previous reply stays held. -/
  | earlyFrame (n : Nat)
  /-- WIN_SEL_WRITE (R56): A write to WINn_SEL selects a table, makes the acting tenant the holder, resets the position and discards the snapshot and staging word. -/
  | winSelWrite (p : PortId) (win : Fin 4) (data : Half)
  /-- WIN_IDX_WRITE (R56): A write to WINn_IDX sets the entry, halfword and AINC, and a change of entry discards the snapshot and staging word. -/
  | winIdxWrite (p : PortId) (win : Fin 4) (data : Half)
  /-- WIN_DATA_READ (R57): A read of WINn_DATA returns a halfword of the entry, takes a snapshot at halfword 0 and advances the position under AINC. -/
  | winDataRead (p : PortId) (win : Fin 4)
  /-- WIN_DATA_WRITE (R59): A write of halfwords 0-6 of WINn_DATA opens or continues a staging sequence. -/
  | winDataWrite (p : PortId) (win : Fin 4) (data : Half)
  /-- WIN_COMMIT (R59): A write of halfword 7 commits the staging word's RW and WC fields to the entry in one step, or refuses it as a whole. -/
  | winCommit (p : PortId) (win : Fin 4) (data : Half)
  /-- TENANT_ENABLE (R93): A commit of ENABLE=1 to a TENANTS entry enables the tenant, starts its view empty and advances GEN. -/
  | tenantEnable (p : PortId) (win : Fin 4) (t : Nat) (label : BitVec 64)
  /-- TENANT_DISABLE (R37): A commit of ENABLE=0 aborts the tenant's queued and granted requests, discards its log, windows and snapshots, and releases its claims. -/
  | tenantDisable (p : PortId) (win : Fin 4) (t : Nat) (label : BitVec 64)
  /-- HP_BIND_WRITE (R64): An owner write to HP_BIND selects a tenant and, with APPLY=1, sets its P0 and P1 bindings. -/
  | hpBindWrite (p : PortId) (data : Half)
  /-- HP_CFG_WRITE (R68): An accepted write of HP_CFG sets the port and interrupt options and WDOG_PER and restarts the host watchdog. -/
  | hpCfgWrite (p : PortId) (data : Half)
  /-- HOST_WDOG_KICK (R68): A write of 0x5A5A to HOST_WDOG restarts the host watchdog count. -/
  | hostWdogKick (p : PortId) (data : Half)
  /-- HOST_LOST (R69): Expiry of the host watchdog count sets HOST_LOST, raises HOST_LOST and takes up the host-absence posture. -/
  | hostLost
  /-- UNIT_START (R83): Command START moves the selected unit toward STARTING, sets REARM during STOPPING, or is refused under Table UE-2. -/
  | unitStart (p : PortId) (check : Bool)
  /-- UNIT_STOP (R83): Command STOP moves the selected unit to STOPPING, clears GOV_HELD or REARM, or is refused under Table UE-2. -/
  | unitStop (p : PortId) (check : Bool)
  /-- UNIT_RESET (R83): Command RESET takes a unit in FAULT to OFF and is refused in every other state. -/
  | unitReset (p : PortId) (check : Bool)
  /-- UNIT_FORCE (R88): Command FORCE sets FORCED with a pending substate that takes effect at the unit's next safe boundary. -/
  | unitForce (p : PortId) (check : Bool) (arg : Byte)
  /-- FORCE_BOUNDARY (R88): At the unit's safe boundary the pending forced substate takes effect, FORCED clears and SUB shows the new substate. -/
  | forceBoundary (u : Src)
  /-- START_STEPS_DONE (R84): Completion of the last start step moves the unit from STARTING to ON. -/
  | startStepsDone (u : Src)
  /-- STOP_STEPS_DONE (R84): Completion of the last stop step moves the unit from STOPPING to OFF, or to STARTING when REARM is set, and releases its claims. -/
  | stopStepsDone (u : Src)
  /-- START_STEP_FAIL (R84): A failed start step sends the unit to STOPPING with RESOURCE_HELD or to FAULT with cause FAULT. -/
  | startStepFail (u : Src) (claim : Bool)
  /-- UNIT_STATE_READ (R86): A read of UNIT_STATE takes the port's snapshot of the selected unit's whole mirror in the long profile. -/
  | unitStateRead (p : PortId)
  /-- EVENT_GRANT (R89): The arbiter grants one presented event per core tick, by age and priority, and produces one record for each admitting view. -/
  | eventGrant
  /-- EVT_DATA_READ (R94): A read of EVT_DATA returns halfword POS of the view's oldest record, snapshots at POS 0 and advances POS. -/
  | evtDataRead (p : PortId)
  /-- EVT_POP (R95): A read of EVT_POP removes the view's oldest record, returns its SEQ and resets POS. -/
  | evtPop (p : PortId)
  /-- EVT_LOST_READ (R92): A read of EVT_LOST returns the view's count of lost records and clears it. -/
  | evtLostRead (p : PortId)
  /-- IRQ_CLR (R97): A write to IRQ_CLR clears IRQ_PEND bits and releases the interrupt line once no bound view requests. -/
  | irqClr (p : PortId) (data : Half)
  /-- CLAIM (R100): CLAIM_CMD CLAIM gives the selected resource to the acting tenant when it is free, or refuses under Table UE-7a. -/
  | claim (p : PortId)
  /-- RELEASE (R100): CLAIM_CMD RELEASE frees a resource that the acting tenant holds, or refuses under Table UE-7a. -/
  | release (p : PortId)
  /-- ZC_EDGE (R114): An accepted zero-cross edge is judged against the expected period, updates qualification, and corrects the rate as a phase event. -/
  | zcEdge (inp : Fin 3) (ago : Nat)
  /-- ZC_MISSED_TIMEOUT (R114): When no edge has been accepted by 3.05 P, three periods count as missed and the input may be disqualified. -/
  | zcMissedTimeout (inp : Fin 3)
  /-- ACQ_MAX_EXPIRE (R128): After ACQ_MAX cycles in ACQUIRE with no usable reference, Geyser enters HOLDOVER or FREERUN. -/
  | acqMaxExpire
  /-- HOLD_MAX_EXPIRE (R128): After HOLD_MAX cycles in HOLDOVER, Geyser enters FREERUN. -/
  | holdMaxExpire
  /-- NET_TIME_TIMEOUT (R150): A member that hears no BEACON for 512 cycles sets NET_TIME to 0 and raises NET_TIME. -/
  | netTimeTimeout
  /-- HALF_CYCLE_BOUNDARY (R120): The stamp reaching a grid half-cycle boundary applies every change that waits for such a boundary. -/
  | halfCycleBoundary
  /-- GY_REALIGN (R142): Geyser command REALIGN makes a REALIGN pending. -/
  | gyRealign (p : PortId) (gen : Byte) (check : Bool)
  /-- GY_RELEARN (R142): Geyser command RELEARN invalidates every learned offset and phase identity. -/
  | gyRelearn (p : PortId) (gen : Byte) (check : Bool)
  /-- GY_SNAP_READ (R135): A read of GY_SNAP latches CYCLE, ANGLE and the fraction into the port's snapshot in one core tick. -/
  | gySnapRead (p : PortId)
  /-- CMP (R139): A comparator fires when the stamp reaches its target, drives its pin and raises CMP for a tenant holder. -/
  | cmp (c : Fin 16)
  /-- CMP_PULSE_END (R140): A comparator pin pulse ends after PW x 16 a.u. -/
  | cmpPulseEnd (c : Fin 16)
  /-- AGC_STEP (R175): At a slot start a receive channel lowers its gain after clipping or raises it after 8 quiet slots. -/
  | agcStep (ch : Fin 3) (peak : Nat)
  /-- COMMON_MAP_APPLY (R182): A pending common map takes effect at the first half-cycle boundary with no frame in progress and raises MAP_APPLIED. -/
  | commonMapApply
  /-- LINE_TX_SUBMIT (R218): A commit to LA_TXQ entry 16 submits a line transmit request and returns OK, DEFERRED or a refusal. -/
  | lineTxSubmit (p : PortId) (win : Fin 4) (word : Word)
  /-- LINE_GRANT (R220): When the staging frame is free, the first request in service order is granted, names h0 and raises GRANT. -/
  | lineGrant
  /-- LINE_STAGE_CHECK (R220): At x - 32,768 a.u. before a contention half-cycle, an incompletely filled staging frame ends the request UNDERRUN. -/
  | lineStageCheck
  /-- LINE_TX_ABORT (R221): A commit of CMD=1 ends a queued or granted request ABORTED, or is refused TOO_LATE after the point of no return. -/
  | lineTxAbort (p : PortId) (win : Fin 4) (q : Nat)
  /-- LINE_CONTEND (R204): In a half-cycle where it may contend, the station sends priority and contention bursts and, if it wins, starts its header. -/
  | lineContend (idle : Bool) (pw : Option (Fin 4)) (cw : Option (Fin 4))
  /-- LINE_ORIGIN_HALF_CYCLE (R205): In each origin half-cycle of a frame in progress, the station sends the header and payload carriers of that half-cycle. -/
  | lineOriginHalfCycle
  /-- LINE_ATTEMPT_END (R214): After the acknowledgement half-cycles an attempt ends, updating TEC, confinement and the request's outcome or retry. -/
  | lineAttemptEnd (ack : Option (BitVec 9))
  /-- LINE_HEADER_RX (R195): A decoded header is checked, discarded or taken as a frame in progress addressed to this station or another. -/
  | lineHeaderRx (header : BitVec 48) (burst : Bool) (back : Nat) (ago : Nat) (copy : Fin 4) (lq : Byte)
  /-- LINE_FRAME_RX (R223): A received frame addressed to the station is stored in a free receive buffer and chooses its acknowledgement. -/
  | lineFrameRx (bits : List Bool)
  /-- LINE_ACK_TX (R207): The destination sends the 9-bit acknowledgement in half-cycle A. -/
  | lineAckTx
  /-- LINE_RELAY_COPY (R209): A repeater of tier t re-sends, slot for slot, what it decided in the previous half-cycle of a relayed frame. -/
  | lineRelayCopy (tiers : Fin 4) (pw : Option (Fin 4)) (slots : List (Fin 16 × Fin 8))
  /-- LINE_RX_RELEASE (R223): A commit of RELEASE=1 to an LA_RX descriptor frees the receive buffer. -/
  | lineRxRelease (p : PortId) (win : Fin 4) (buf : Nat)
  /-- BEACON_QUEUE (R212): At each cycle boundary with CYCLE mod 256 = 0 the MASTER queues a BEACON, replacing one not yet sent. -/
  | beaconQueue
  /-- BEACON_RX (R122): A received BEACON serves as the NET phase event, offset comparison and source of domain values. -/
  | beaconRx (bits : List Bool) (t : Fin 4) (ago : Nat)
  /-- LA_CFG_APPLY (R213): An owner commit to LA_CFG takes effect at the next half-cycle boundary with no frame in progress. -/
  | laCfgApply
  /-- BUCKET_REFILL (R219): Each beacon period refills every tenant bucket by REFILL half-cycles up to BKT_MAX. -/
  | bucketRefill
  /-- RESUME (R216): LINE command RESUME leaves MUTED and sets TEC and REC to 0 at the next half-cycle boundary. -/
  | resume (p : PortId) (gen : Byte) (check : Bool)
  /-- ALARM_CREDIT (R216): Each ALARM_CREDIT period in MUTED grants one ALARM-class frame. -/
  | alarmCredit
  /-- DORMANT (R224): MASTER command DORMANT broadcasts a DORMANT_PROPOSE with a commit half-cycle C. -/
  | dormant (p : PortId) (gen : Byte) (check : Bool) (arg : Byte)
  /-- WAKE (R226): LINE command WAKE is served by a CANCEL before C or by the wake tone. -/
  | wake (p : PortId) (gen : Byte) (check : Bool)
  /-- DORMANT_PROPOSE_RX (R224): A received DORMANT_PROPOSE, or a BEACON with DORM_PEND, makes the commit pending. -/
  | dormantProposeRx (bits : List Bool)
  /-- CANCEL_RX (R226): A received CANCEL before C drops the pending commit. -/
  | cancelRx (bits : List Bool)
  /-- DORMANT_COMMIT (R225): At the start of C every station with a pending commit enters WATCH. -/
  | dormantCommit
  /-- WAKE_DETECT (R225): A WATCH station that detects the wake tone in 8 or more slots of a half-cycle wakes at its end. -/
  | wakeDetect (n : Nat)
  /-- LEARN_READY (R253): OBS reaching 3,000 counted cycles moves LSTATE to READY. -/
  | learnReady
  /-- PROPOSAL (R250): At each beacon boundary while READY the learner evaluates a proposal and may start a publication. -/
  | proposal
  /-- LL_APPROVE (R255): An owner commit of APPROVE with APPROVE_VER = PVER starts a publication. -/
  | llApprove (p : PortId) (win : Fin 4) (word : Word)
  /-- OWN_MAP_COMMIT (R255): An owner commit to LS_MAPS entries 2 and 3 with AUTO=0 starts a publication of that map. -/
  | ownMapCommit (p : PortId) (win : Fin 4) (e : Nat) (word : Word)
  /-- LL_CLEAR (R264): A commit of CLEAR=1 clears the statistics and publishes the common map. -/
  | llClear (p : PortId) (win : Fin 4) (word : Word)
  /-- OWN_MAP_APPLY (R257): The pending own map takes effect at the first free half-cycle boundary at or after ACT_CYCLE, advancing MAPVER. -/
  | ownMapApply
  /-- MAP_REPEAT (R258): Every REPEAT beacon periods, or after a new neighbour entry, a MAP frame is queued. -/
  | mapRepeat
  /-- NBR_MAP (R259): A received MAP frame stores the neighbour's map as in use, pending or incompatible. -/
  | nbrMap (bits : List Bool)
  /-- NBR_MAP_STALE (R260): A neighbour map whose AGE exceeds MAP_TTL becomes STALE. -/
  | nbrMapStale (n : Fin 32)
  /-- CJ_SUBMIT (R319): A commit to CJ_Q entry 8 submits a Caldera job. -/
  | cjSubmit (p : PortId) (win : Fin 4) (word : Word)
  /-- CJ_JOB_CHOOSE (R320): A job first chosen for the engine is checked against pages and reservation and runs or takes the refusal path. -/
  | cjJobChoose
  /-- CJ_JOB_DONE (R324): A Caldera job ends OK, ABORTED or FAULT and raises DONE. -/
  | cjJobDone
  /-- CJ_PREEMPT (R323): A job reaching a pre-emption point while pre-emption is due is held PREEMPTED with its context. -/
  | cjPreempt
  /-- CJ_BUDGET_CAP (R322): A tenant reaching HC_BUDGET x 256 unbound cycles in a half-cycle is pre-empted and ineligible until the next boundary. -/
  | cjBudgetCap
  /-- CJ_ABORT (R325): A commit of CMD=1 to a CJ_QSTAT entry aborts the job under R102. -/
  | cjAbort (p : PortId) (win : Fin 4) (q : Nat)
  /-- CJ_RELEASE (R325): A commit of CMD=2 frees an ENDED Caldera queue entry. -/
  | cjRelease (p : PortId) (win : Fin 4) (q : Nat)
  /-- CJ_PAGE_COMMIT (R309): A commit that changes a page's assignment zeroes its 64 words. -/
  | cjPageCommit (p : PortId) (win : Fin 4) (page : Nat) (word : Word)
  /-- KERNEL_WINDOW_OPEN (R328): A kernel window opens and pre-empts lower-priority work to run its invocation. -/
  | kernelWindowOpen (e : Fin 56)
  /-- KERNEL_WINDOW_END (R328): At a window's end an unstarted K2 update is shed and running invocations count as late. -/
  | kernelWindowEnd (e : Fin 56)
  /-- KERNEL_DONE (R328): A kernel invocation completes and delivers its results to its consumer unit. -/
  | kernelDone (d : KernelData)
  /-- ECC (R333): A detected memory error is corrected and counted, or an uncorrectable one faults CALD, the job or nothing, by region. -/
  | ecc (word : Nat) (uncorr : Bool)
  /-- SCRUB (R333): In each host slack period of 1,024 cycles the scrubber reads and corrects one word. -/
  | scrub
  /-- OB_LOAD (R357): Slot command LOAD gives the slot the key in OB_KEYIN while PROV_OPEN = 1. -/
  | obLoad (p : PortId) (win : Fin 4) (slot : Nat) (usage : Byte) (persist : Bool) (klen : Nat)
  /-- OB_UNWRAP (R357): Slot command UNWRAP gives the slot the key that KW-AD recovers under a KEK. -/
  | obUnwrap (p : PortId) (win : Fin 4) (slot : Nat) (usage : Byte) (persist : Bool) (klen kek : Nat)
  /-- OB_GENERATE (R357): Slot command GENERATE gives the slot a fresh key from the DRBG. -/
  | obGenerate (p : PortId) (win : Fin 4) (slot : Nat) (usage : Byte) (persist : Bool) (klen : Nat)
  /-- OB_ERASE (R357): Slot command ERASE empties the slot and deletes its Sinter record. -/
  | obErase (p : PortId) (win : Fin 4) (slot : Nat)
  /-- OB_RESTRICT (R357): Slot command RESTRICT removes usage bits from the slot. -/
  | obRestrict (p : PortId) (win : Fin 4) (slot : Nat) (usage : Byte)
  /-- SLOT_CMD_DONE (R357): A deferred slot command completes, advances KGEN, raises KEY_CHANGE and DONE. -/
  | slotCmdDone (slot : Nat)
  /-- OB_PLACE (R360): A commit to OB_Q entry 16 places a host job in state FILLING. -/
  | obPlace (p : PortId) (win : Fin 4) (word : Word)
  /-- OB_GO (R360): A commit of GO to a FILLING entry starts the job or queues it. -/
  | obGo (p : PortId) (win : Fin 4) (q : Nat)
  /-- OB_JOB_CHOOSE (R363): A job first chosen is checked against slot, key and usage bits and runs or takes the refusal path. -/
  | obJobChoose
  /-- OB_INLINE_JOB (R660): A port presents an in-line job that is checked, run ahead of host jobs and reported to the port. -/
  | obInlineJob (port : Fin 4) (x : Inline)
  /-- OB_PREEMPT (R364): A waiting in-line job pre-empts a running host job at its next block boundary. -/
  | obPreempt
  /-- OB_JOB_DONE (R366): A job ends after its fixed time with OK, FAULT or BAD_FRAME and its output. -/
  | obJobDone (fault : Fin 4)
  /-- OB_ABORT (R372): A commit of CMD=1 to an OB_Q entry aborts the job under R102. -/
  | obAbort (p : PortId) (win : Fin 4) (q : Nat)
  /-- OB_RELEASE (R372): A commit of CMD=2 frees an ENDED Obsidian entry and zeroes its data area. -/
  | obRelease (p : PortId) (win : Fin 4) (q : Nat)
  /-- PROV_CLOSE (R374): OBS command PROV_CLOSE clears PROV_OPEN and records it. -/
  | provClose (p : PortId) (gen : Byte) (check : Bool)
  /-- ZEROIZE (R374): OBS command ZEROIZE aborts every job, empties every slot and sets PROV_OPEN. -/
  | zeroize (p : PortId) (gen : Byte) (check : Bool) (arg : Byte)
  /-- RESEED (R374): RNG command RESEED reseeds the DRBG. -/
  | reseed (p : PortId) (gen : Byte) (check : Bool)
  /-- RNG_SAMPLE (R376): Every 2,048 core ticks a raw entropy sample is taken and health-tested. -/
  | rngSample (bit : Bool) (line : Word)
  /-- RNG_READY (R379): After 2,560 samples and instantiation the RNG reaches READY. -/
  | rngReady (kat : Bool)
  /-- RNG_POOL_ADD (R380): Every 256 core ticks the RNG adds one block to its pool. -/
  | rngPoolAdd
  /-- DRBG_RESEED (R378): After 2^16 requests the DRBG reseeds. -/
  | drbgReseed
  /-- RNG_DATA_READ (R380): A read of RNG_DATA returns the next halfword of the port's block for the acting tenant. -/
  | rngDataRead (p : PortId)
  /-- MS_SUBMIT (R417): An owner commit to MS entry 24 submits a master serial entry. -/
  | msSubmit (p : PortId) (win : Fin 4) (word : Word)
  /-- MS_ENTRY_START (R416): When no chain runs, the port starts the first radio entry or complete host chain. -/
  | msEntryStart
  /-- MS_READY_POINT (R407): At a ready point the chunk starts once MRDY is judged high. -/
  | msReadyPoint (wait : Nat) (miso : List Bool)
  /-- RDY_TIMEOUT (R408): A stretch longer than RDY_TO ends the entry NOT_READY. -/
  | rdyTimeout
  /-- MS_ENTRY_DONE (R421): A master serial entry ends and raises DONE for host entries. -/
  | msEntryDone
  /-- MS_ABORT (R422): A commit of CMD=1 aborts a queued or running master serial entry. -/
  | msAbort (p : PortId) (win : Fin 4) (q : Nat)
  /-- MS_RELEASE (R421): A commit of CMD=2 frees an ENDED master serial entry. -/
  | msRelease (p : PortId) (win : Fin 4) (q : Nat)
  /-- RF_IRQ (R433): An RF_IRQ assertion signals a reception or the end of a transmission. -/
  | rfIrq (asserted : Bool)
  /-- RF_SFD (R434): An RF_SFD edge is stamped. -/
  | rfSfd (ago : Nat)
  /-- RF_FAULT (R437): A failed script raises RF_FAULT and resets the transceiver. -/
  | rfFault
  /-- HOP_SLOT_START (R439): At a hop slot start the coordinator moves to the slot's channel. -/
  | hopSlotStart
  /-- BEACON_TX (R441): In a beacon slot the coordinator sends its beacon. -/
  | beaconTx
  /-- RADIO_FRAME_RX (R447): A received frame is filtered, verified and stored. -/
  | radioFrameRx
  /-- RADIO_ACK_TX (R450): ACK_DLY after a reception, an ACK is sent. -/
  | radioAckTx
  /-- JOIN_RSP_TX (R445): ACK_DLY after a JOIN_REQ, a JOIN_RSP is sent. -/
  | joinRspTx
  /-- TAG_ALLOW (R445): Tag command allow makes a pair ALLOWED. -/
  | tagAllow (p : PortId) (win : Fin 4) (pair : Nat) (word : Word)
  /-- TAG_FREE (R466): Tag command free frees a pair. -/
  | tagFree (p : PortId) (win : Fin 4) (pair : Nat)
  /-- JOIN_OPEN (R446): RADIO command JOIN_OPEN sets JOIN_OPEN for ARG minutes. -/
  | joinOpen (p : PortId) (gen : Byte) (check : Bool) (arg : Byte)
  /-- JOIN_OPEN_EXPIRE (R446): JOIN_OPEN clears after its minutes. -/
  | joinOpenExpire
  /-- RF_RESET (R462): RADIO command RF_RESET resets the transceiver. -/
  | rfReset (p : PortId) (gen : Byte) (check : Bool)
  /-- RADIO_TX_SUBMIT (R451): A commit to RC_TXQ entry 8 submits a downlink. -/
  | radioTxSubmit (p : PortId) (win : Fin 4) (word : Word)
  /-- RADIO_GRANT (R452): After a POLL the first request for the tag is granted. -/
  | radioGrant
  /-- RADIO_DEADLINE (R452): At D an incomplete staging ends the request UNDERRUN. -/
  | radioDeadline
  /-- RADIO_ANSWER_TX (R454): Once staging is complete the answer is sent. -/
  | radioAnswerTx
  /-- EMPTY_ANSWER (R453): When no answer has begun in time an empty DATA frame is sent. -/
  | emptyAnswer
  /-- RADIO_ANSWER_ACK_TIMEOUT (R454): Without the tag's ACK the request returns to the queue. -/
  | radioAnswerAckTimeout
  /-- WAKE_UP_CALL (R456): A WAKE request sends one wake-up call. -/
  | wakeUpCall
  /-- RADIO_TX_END (R457): The end of a transmission charges its on-air time. -/
  | radioTxEnd
  /-- BUDGET_BIN_TURN (R458): Each W/32 a budget bin turns over. -/
  | budgetBinTurn (duty : Bool) (b : Fin 4)
  /-- RADIO_TX_ABORT (R466): A commit of CMD=1 aborts a downlink request. -/
  | radioTxAbort (p : PortId) (win : Fin 4) (q : Nat)
  /-- RADIO_TX_RELEASE (R476): A commit of CMD=2 frees an ended RC_TXQ entry. -/
  | radioTxRelease (p : PortId) (win : Fin 4) (q : Nat)
  /-- RADIO_RX_RELEASE (R449): A commit of RELEASE=1 frees a radio receive buffer. -/
  | radioRxRelease (p : PortId) (win : Fin 4) (buf : Nat)
  /-- RADIO_DORMANT (R460): At the end of the hop slot RADIO enters or leaves DORMANT. -/
  | radioDormant
  /-- OPT_CELL_TX (R489): Each cell slot sends the first waiting cell. -/
  | optCellTx (n : Fin 2) (mpd : Nat)
  /-- TIME_CELL_DUE (R492): After a cycle boundary a TIME cell becomes due. -/
  | timeCellDue (n : Fin 2)
  /-- OPT_CELL_RX (R483): A received cell is delineated, checked and handled. -/
  | optCellRx (n : Fin 2) (cell : BitVec 192) (ago : Nat)
  /-- OPT_SUBMIT (R490): A commit to the submission entry reserves a transmit buffer. -/
  | optSubmit (p : PortId) (win : Fin 4) (n : Fin 2) (word : Word)
  /-- OPT_PAYLOAD_COMMIT (R490): A commit of the payload makes the cell READY. -/
  | optPayloadCommit (p : PortId) (win : Fin 4) (n : Fin 2) (buf : Fin 4) (word : Word)
  /-- OPT_CELL_ABORT (R490): A commit of CMD=1 frees a FILLING or READY buffer. -/
  | optCellAbort (p : PortId) (win : Fin 4) (n : Fin 2) (buf : Fin 4)
  /-- OPT_RX_RELEASE (R491): A commit of RELEASE=1 frees an optical receive buffer. -/
  | optRxRelease (p : PortId) (win : Fin 4) (n : Fin 2) (buf : Fin 4)
  /-- LASER_FAIL (R494): A failure condition held for FAIL_US marks the laser FAILED. -/
  | laserFail (n : Fin 2) (cause : Nat)
  /-- CAL_WINDOW_START (R497): A calibration window begins. -/
  | calWindowStart (n : Fin 2)
  /-- CAL_DONE (R497): In cycle 9 the device fits the line and ends the window. -/
  | calDone (n : Fin 2) (mpd : List Nat)
  /-- LOS (R501): LOS sets or clears. -/
  | los (n : Fin 2) (set : Bool)
  /-- ALS_PULSE (R501): PERIOD_S in SHUT starts a restart pulse. -/
  | alsPulse (n : Fin 2)
  /-- ALS_PULSE_END (R501): A pulse or test ends. -/
  | alsPulseEnd (n : Fin 2)
  /-- OPT_RESTART (R503): OPT command RESTART starts a pulse. -/
  | optRestart (p : PortId) (n : Fin 2) (gen : Byte) (check : Bool)
  /-- OPT_TEST (R503): OPT command TEST starts the test pulse. -/
  | optTest (p : PortId) (n : Fin 2) (gen : Byte) (check : Bool) (arg : Byte)
  /-- CALIBRATE (R503): OPT command CALIBRATE schedules a window. -/
  | calibrate (p : PortId) (n : Fin 2) (gen : Byte) (check : Bool) (arg : Byte)
  /-- CLEAR (R503): OPT command CLEAR clears FAILED and calibrates. -/
  | clear (p : PortId) (n : Fin 2) (gen : Byte) (check : Bool) (arg : Byte)
  /-- PWR_AVG_UPDATE (R500): Every 2^PINT ms PWR_AVG updates. -/
  | pwrAvgUpdate (n : Fin 2) (mean : Nat)
  /-- SINC3_OUTPUT (R522): Every 1 ms a SINC3 channel delivers a conversion. -/
  | sinc3Output (n : Fin 4) (x : Int) (ovl : Bool) (iexc : Nat)
  /-- CYCLE_WINDOW_END (R523): At the closing boundary a CYCLE window delivers its conversion. -/
  | cycleWindowEnd (n : Fin 4) (x : Int) (ovl : Bool) (iexc : Nat)
  /-- AUX_CONVERSION (R527): At each cycle boundary the auxiliary converter delivers. -/
  | auxConversion (x : Int) (ovl : Bool)
  /-- SF_CHANGE_APPLY (R524): A channel change takes effect at the next boundary. -/
  | sfChangeApply (n : Fin 4) (x : Int) (ovl : Bool)
  /-- EXC_TRIP (R519): An over-current or low VEXC trips excitation. -/
  | excTrip (n : Fin 4) (cause : Nat)
  /-- EXC_RESTORE (R519): After EXC_RETRY_S excitation is re-applied. -/
  | excRestore (n : Fin 4)
  /-- SF_LOAD (R530): A commit of LOAD=1 stages coefficients for copy. -/
  | sfLoad (p : PortId) (win : Fin 4) (n : Fin 4) (word : Word)
  /-- IMP_CHECK_DUE (R536): Every IMP_PERIOD a check falls due. -/
  | impCheckDue (n : Fin 4)
  /-- IMP_CHECK_START (R537): At a cycle boundary a check starts. -/
  | impCheckStart
  /-- IMP_RESULT (R535): After 96 cycles the check ends. -/
  | impResult (vsn iexc ad : Nat)
  /-- IMP_CHECK (R540): SENS command IMP_CHECK starts a check. -/
  | impCheck (p : PortId) (gen : Byte) (check : Bool) (arg : Byte)
  /-- LOW_RATE (R538): SENS enters or leaves LOW_RATE. -/
  | lowRate
  /-- LOOP_UPDATE (R555): At each grid half-cycle boundary the loop updates. -/
  | loopUpdate (imeas vh : Nat)
  /-- LOOP_SRC (R554): After HOLD_MS without a valid sample SRC_FAIL sets. -/
  | loopSrc
  /-- POWER_ON_RESET (R574): Rails in range release reset; out of range reasserts it. -/
  | powerOnReset (inRange kept test : Bool) (aon : Nat)
  /-- RESET_N (R579): RESET_N low resets the device. -/
  | resetN (low : Bool)
  /-- CLOCK_FAIL (R578): Crystal stop or PLL lock loss resets with cause CLOCK. -/
  | clockFail
  /-- X32_FAIL (R578): 32.768 kHz crystal stop sets X32_FAIL. -/
  | x32Fail
  /-- START_UP (R580): After reset the device starts in order. -/
  | startUp
  /-- RAIL (R575): An analogue rail changes state. -/
  | rail (r : Fin 4) (bad : Bool)
  /-- GOV_SAMPLE (R589): A monitor mean or sample is judged. -/
  | govSample (mean : Bool) (feed hold : Nat)
  /-- PFAIL_N (R590): PFAIL_N falls. -/
  | pfailN (low : Bool)
  /-- GOV_LEVEL_FALL (R593): The level falls and steps take effect. -/
  | govLevelFall
  /-- GOV_LEVEL_RISE (R591): After RISE_MS the level rises. -/
  | govLevelRise
  /-- BLACK (R595): At BLACK outputs go off and last gasp follows. -/
  | black
  /-- THERMAL (R592): A die temperature read changes CAPPED or HOT. -/
  | thermal (t : Int)
  /-- HIBERNATE (R587): GOV command HIBERNATE removes the rails. -/
  | hibernate (p : PortId) (gen : Byte) (check : Bool) (arg : Byte)
  /-- HIBERNATE_TIMEOUT (R587): Rails not removed 1 s after reset cause 7. -/
  | hibernateTimeout
  /-- FLOOR (R594): GOV command FLOOR sets the highest level. -/
  | floor (p : PortId) (gen : Byte) (check : Bool) (arg : Byte)
  /-- BLACK_HOLD_EXPIRE (R588): After BLACK_HOLD_S EMB_PWREN rises. -/
  | blackHoldExpire
  /-- WAKE_SOURCE (R587): A wake source raises EMB_PWREN. -/
  | wakeSource (w : Fin 3)
  /-- DOOR (R585): A debounced DOOR change raises DOOR. -/
  | door (level : Bool)
  /-- RTC_ALARM (R585): SECONDS equal to ALARM fires the alarm. -/
  | rtcAlarm
  /-- PW_EMBER_COMMIT (R586): A commit to PW_EMBER reaches AON. -/
  | pwEmberCommit
  /-- SINTER_SUBMIT (R604): A commit to PW_SINTER entry 5 submits a transaction. -/
  | sinterSubmit (p : PortId) (win : Fin 4) (word : Word)
  /-- SINTER_TXN_START (R601): The next transaction begins when accepted. -/
  | sinterTxnStart
  /-- SINTER_TXN_DONE (R599): A transaction completes and raises DONE. -/
  | sinterTxnDone
  /-- SINTER_ABORT (R604): A commit of CMD=1 aborts a transaction. -/
  | sinterAbort (p : PortId) (win : Fin 4) (q : Nat)
  /-- SINTER_RELEASE (R604): A commit of CMD=2 frees an ENDED entry. -/
  | sinterRelease (p : PortId) (win : Fin 4) (q : Nat)
  /-- COUNTER_RAISE (R602): A counter within 16,384 of its mark queues a raise. -/
  | counterRaise (key : Nat)
  /-- COMPACTION (R605): Under 1,024 free words the device compacts. -/
  | compaction
  /-- COMPACT (R606): SINTER command COMPACT compacts. -/
  | compact (p : PortId) (gen : Byte) (check : Bool)
  /-- TAP_INSTRUCTION (R642): A new TAP instruction takes effect. -/
  | tapInstruction (code : Fin 32)
  /-- CYCLE_BOUNDARY (R127): The stamp's ANGLE passing from 65,535 to 0 applies what waits for a cycle boundary, such as a CYCLE load, a GRID_OFFSET change and the low-rate excitation switching. -/
  | cycleBoundary
  /-- HOST_RESERVATION_WINDOW (R321): A host Caldera reservation window of ASCHED entries 56-63 opens, letting its BOUND jobs take the engine, or closes, holding them. -/
  | hostReservationWindow (r : Fin 8) (opens : Bool)
  /-- SCRIPT_DELAY (R436): A DELAY step of a running profile script, or an RST_US wait of a transceiver reset, runs out and the script continues. -/
  | scriptDelay
  /-- TX_END_TIMEOUT (R457): No ending RF_IRQ arrives within twice the estimate plus 1 ms, so twice the estimate is charged and the script failure handling of R437 applies. -/
  | txEndTimeout
  /-- RAIL_BAD_PERSIST (R575): An analogue rail that has stayed bad for 1 ms sends the units it feeds that are in ON to FAULT with cause FAULT. -/
  | railBadPersist (r : Fin 4)
  deriving DecidableEq, Repr

end Sys2Proof
end

