-- ==== Sys2Proof/Decode.lean ====
section
/-! DEFINITION. Words of the command table. The table of this block gives no row any bits: commands come from outside, as
accesses, frames and events, and no word spells one. -/

namespace Sys2Proof

/-- The command that a word spells by the table's bits; the table gives bits to no row, so none. -/
def decodeTableWord (nbits w : Nat) : Option Instr :=
  match nbits, w with
  | _, _ => none

end Sys2Proof
end

