-- ==== Sys2Proof/Config.lean ====
section
/-! DEFINITION. What one device fixes and the spec leaves open, and the free values: constants with no body, so that a
statement about one holds for every value of it (notes/assumptions/2.md). -/

namespace Sys2Proof.Config

open Sys2Proof

/-- DEVINFO.UID, the factory's number (spec/02_host_access.md R80). -/
opaque uid : BitVec 64

/-- The device secret in key slot 256, 32 bytes that no path reads out (spec/10_obsidian_cipher.md R354). -/
opaque deviceSecret : BitVec 256

/-- The fixed key of the conditioner (spec/10_obsidian_cipher.md R377). -/
opaque rngKey : BitVec 256

/-- A free value: what a rule leaves open at one use of it; the use's number comes from `State.free`. -/
opaque freeValue : Nat → Nat

/-- Which way a tie goes where a rule rounds a quotient and does not say (spec/04_geyser_time_base.md R119, R124). -/
opaque tieUp : Int → Bool

/-- The block exponent of an AUTO conversion whose largest magnitude no exponent brings within the format
(spec/08_caldera_formats.md R283), by the job's result word address. -/
opaque autoScale : Nat → Nat

/-- The HIST bin of an element whose scaled difference is NaN although the element is not (spec/09_caldera_jobs.md
R315), by the job's result word address. -/
opaque nanBin : Nat → Nat

/-- What the elements past the end of a vector result leave in its last word (spec/09_caldera_jobs.md R312, R314), by
word address times 128 plus position. -/
opaque padElem : Nat → Nat

end Sys2Proof.Config
end

