-- ==== Sys2Proof/Machine/CalderaFormats.lean ====
section
/-! DEFINITION. Caldera's number formats and arithmetic (spec/08_caldera_formats.md): encodings, conversion and rounding,
the stochastic generator, products and the order of summation. Values are exact, so every rounding is written once. -/

namespace Sys2Proof.Machine.Cf

open Sys2Proof

/-- A value: NaN, an infinity, or the exact number `m * 2^e` with its sign. -/
inductive Fv where
  | nan
  | inf (neg : Bool)
  | fin (neg : Bool) (m : Nat) (e : Int)
  deriving DecidableEq, Repr, Inhabited

/-- The only zero that arithmetic leaves (spec/08_caldera_formats.md R293). -/
def Fv.zero : Fv := .fin false 0 0

/-- One. -/
def Fv.one : Fv := .fin false 1 0

/-- A floating format: exponent bits, fraction bits, bias, and whether it has infinities (spec/08_caldera_formats.md
R277 to R279). -/
structure Ff where
  eb : Nat
  mb : Nat
  bias : Nat
  ieee : Bool

def fp32 : Ff := ⟨8, 23, 127, true⟩
def fp16 : Ff := ⟨5, 10, 15, true⟩
def bf16 : Ff := ⟨8, 7, 127, true⟩
def t8 : Ff := ⟨4, 3, 7, false⟩
def t4 : Ff := ⟨2, 1, 1, false⟩

/-- The floating format of a format code (spec/08_caldera_formats.md R275, Table CF-2). -/
def ffOf : Nat → Ff
  | 0 => fp32 | 1 => fp16 | 2 => bf16 | 3 => t8 | _ => t4

/-- The width of an element of a format code (spec/08_caldera_formats.md R275, Table CF-2). -/
def fmtWidth : Nat → Nat
  | 0 => 32 | 1 => 16 | 2 => 16 | 3 => 8 | 4 => 4 | 5 => 8 | 6 => 4 | _ => 32

/-- Elements of a word (spec/08_caldera_formats.md R274). -/
def fmtElems (f : Nat) : Nat := 128 / fmtWidth f

/-- A format of the float family. -/
def isFloat (f : Nat) : Bool := decide (f ≤ 4)

/-- A tephra format: T8 or T4, whose blocks share a scale (spec/08_caldera_formats.md R281). -/
def isTephra (f : Nat) : Bool := f == 3 || f == 4

/-- FMT of a format byte (spec/08_caldera_formats.md R275). -/
def fmtOf (b : Nat) : Nat := b % 16

/-- Block size of a format byte (spec/08_caldera_formats.md R275). -/
def blockOf (b : Nat) : Nat := if bitOf b 5 then 32 else 16

/-- A legal format byte (spec/08_caldera_formats.md R275). -/
def fmtLegal (b : Nat) : Bool :=
  let f := fmtOf b
  decide (b < 64 ∧ f < 8) && (!bitOf b 4 || f == 5 || f == 6) && (!bitOf b 5 || isTephra f)

/-- A legal rounding byte (spec/08_caldera_formats.md R288). -/
def rndLegal (b : Nat) : Bool := decide (b < 64) && (if b % 4 = 3 then b / 4 % 4 != 3 else b / 4 % 4 == 0)

/-- FTZ of a rounding byte. -/
def ftzOf (rnd : Nat) : Bool := bitOf rnd 4

/-- SPLIT2 of a rounding byte. -/
def split2Of (rnd : Nat) : Bool := bitOf rnd 5

/-! The working context of a job: the sticky flags and the lane generators. -/

/-- Sticky flags and lane generators (spec/08_caldera_formats.md R291, R295). -/
structure Cx where
  flags : Nat
  lanes : List Nat

/-- A computation over the context. -/
abbrev M := StateM Cx

def INVALID : Nat := 1
def OVERFLOW : Nat := 2
def SAT : Nat := 4
def FLUSH : Nat := 8
def BLOCK_NAN : Nat := 16

/-- A flag is set (spec/08_caldera_formats.md R295). -/
def flag (f : Nat) : M Unit := fun c => ((), { c with flags := c.flags ||| f })

/-- The flags that a computation sets are dropped. -/
def quiet {α : Type} (m : M α) : M α := fun c => let r := m c; (r.1, { r.2 with flags := c.flags })

/-- One step of a lane's generator (spec/08_caldera_formats.md R291). -/
def xorshift (x : Nat) : Nat :=
  let x := x ^^^ (x <<< 13 % 2 ^ 32)
  let x := x ^^^ (x >>> 17)
  x ^^^ (x <<< 5 % 2 ^ 32)

/-- A lane's generator at the start of a job (spec/08_caldera_formats.md R291). -/
def laneSeed (seed l : Nat) : Nat :=
  let x := seed % 2 ^ 32 ^^^ (0x9E3779B9 * (l + 1) % 2 ^ 32)
  if x = 0 then 1 else x

/-- The context at the start of a job. -/
def Cx.start (seed : Nat) : Cx := ⟨0, (List.range 32).map (laneSeed seed)⟩

/-- The next random number of a lane (spec/08_caldera_formats.md R291). -/
def nextRandom (l n : Nat) : M Nat := fun c =>
  let x := xorshift (c.lanes.getD l 1)
  (x >>> (32 - n), { c with lanes := c.lanes.set l x })

/-! Encodings. -/

/-- Exponent of the smallest subnormal of a format. -/
def Ff.emin (f : Ff) : Int := 1 - (f.bias : Int) - f.mb

/-- Significand of the largest finite value. -/
def Ff.maxM (f : Ff) : Nat := 2 ^ (f.mb + 1) - 1

/-- Exponent of the largest finite value. -/
def Ff.maxE (f : Ff) : Int := ((2 ^ f.eb - (if f.ieee then 2 else 1) : Nat) : Int) - f.bias - f.mb

/-- The value of a code; −0 reads as +0 (spec/08_caldera_formats.md R277 to R279, R293). -/
def Ff.decode (f : Ff) (c : Nat) : Fv :=
  let neg := bitOf c (f.eb + f.mb)
  let ex := c / 2 ^ f.mb % 2 ^ f.eb
  let fr := c % 2 ^ f.mb
  if f.ieee ∧ ex = 2 ^ f.eb - 1 then (if fr = 0 then .inf neg else .nan)
  else if !f.ieee ∧ neg ∧ ex = 0 ∧ fr = 0 then .nan
  else if ex = 0 ∧ fr = 0 then .zero
  else if ex = 0 then .fin neg fr f.emin
  else .fin neg (fr + 2 ^ f.mb) (f.emin + (ex - 1 : Nat))

/-- Bits a number needs. -/
def bitLen (m : Nat) : Nat := if m = 0 then 0 else m.log2 + 1

/-- The exponent of the last place of `m * 2^e` in a format. -/
def Ff.ulpE (f : Ff) (m : Nat) (e : Int) : Int := max ((bitLen m : Int) + e - (f.mb + 1)) f.emin

/-- `m * 2^e` cut at exponent `ue`: quotient, remainder, and the remainder's scale as a power of 2. -/
def cut (m : Nat) (e ue : Int) : Nat × Nat × Nat :=
  if ue ≤ e then (m <<< (e - ue).toNat, 0, 0)
  else let sh := (ue - e).toNat; (m >>> sh, m % 2 ^ sh, sh)

/-- The code of a value that the format holds exactly; a NaN takes the canonical code (spec/08_caldera_formats.md Table
CF-4). -/
def Ff.encode (f : Ff) : Fv → Nat
  | .nan => if f.ieee then (2 ^ f.eb - 1) * 2 ^ f.mb + 2 ^ (f.mb - 1) else 2 ^ (f.eb + f.mb)
  | .inf neg => b2n neg * 2 ^ (f.eb + f.mb) + (2 ^ f.eb - 1) * 2 ^ f.mb
  | .fin neg m e =>
    if m = 0 then 0
    else
      let ue := f.ulpE m e
      let k := (cut m e ue).1
      let ex := if k < 2 ^ f.mb then 0 else (ue - f.emin).toNat + 1
      b2n neg * 2 ^ (f.eb + f.mb) + ex * 2 ^ f.mb + k % 2 ^ f.mb

/-! Rounding. -/

/-- Rounding modes (spec/08_caldera_formats.md R288, R289). -/
inductive Mode where
  | rne | rtz | rto
  /-- stochastic with `n` random bits drawn as `r` -/
  | sr (n r : Nat)

/-- The rounded quotient (spec/08_caldera_formats.md R289, R290). -/
def roundCut (md : Mode) (c : Nat × Nat × Nat) : Nat :=
  let (q, rem, sh) := c
  match md with
  | .rne => if 2 ^ sh < 2 * rem ∨ (2 * rem = 2 ^ sh ∧ q % 2 = 1) then q + 1 else q
  | .rtz => q
  | .rto => if rem ≠ 0 ∧ q % 2 = 0 then q + 1 else q
  | .sr n r => if 2 ^ n ≤ rem * 2 ^ n / 2 ^ sh + r then q + 1 else q

/-- `m * 2^e` is greater than `k * 2^d`. -/
def gtExp (m : Nat) (e : Int) (k : Nat) (d : Int) : Bool :=
  decide (k <<< (d - min e d).toNat < m <<< (e - min e d).toNat)

/-- A mode that rounds a value beyond the range outward. -/
def Mode.outward : Mode → Bool
  | .rne => true | .sr _ _ => true | _ => false

/-- A value rounded to a floating format (spec/08_caldera_formats.md R289, R294; notes/assumptions/12.md). -/
def Ff.round (f : Ff) (md : Mode) (ftz : Bool) : Fv → M Fv
  | .nan => pure .nan
  | .inf neg =>
    if f.ieee then pure (.inf neg) else do flag SAT; pure (.fin neg f.maxM f.maxE)
  | .fin neg m e =>
    if m = 0 then pure .zero
    else if gtExp m e f.maxM f.maxE then
      if f.ieee then do
        flag OVERFLOW
        pure (if md.outward then .inf neg else .fin neg f.maxM f.maxE)
      else do
        flag SAT
        pure (.fin neg f.maxM f.maxE)
    else
      let ue := f.ulpE m e
      let k := roundCut md (cut m e ue)
      if f.ieee ∧ ftz ∧ k < 2 ^ f.mb then do
        flag FLUSH
        pure .zero
      else pure (if k = 0 then .zero else .fin neg k ue)

/-- The exact value rounded to FP32 to nearest even (spec/08_caldera_formats.md R284, R285). -/
def rne32 (ftz : Bool) (v : Fv) : M Fv := fp32.round .rne ftz v

/-- A value rounded to INT32 (spec/08_caldera_formats.md R289). -/
def toInt32 (md : Mode) : Fv → M Int
  | .nan => do flag INVALID; pure 0
  | .inf neg => do flag SAT; pure (if neg then -2 ^ 31 else 2 ^ 31 - 1)
  | .fin neg m e =>
    let big := if neg then gtExp m e (2 ^ 31) 0 else gtExp m e (2 ^ 31 - 1) 0
    if big then do flag SAT; pure (if neg then -2 ^ 31 else 2 ^ 31 - 1)
    else
      let k : Int := roundCut md (cut m e 0)
      pure (if neg then -k else k)

/-- The mode of a conversion in lane `l` under a rounding byte; under SR the lane's generator steps once
(spec/08_caldera_formats.md R290). -/
def modeOf (rnd l : Nat) : M Mode :=
  match rnd % 4 with
  | 0 => pure .rne
  | 1 => pure .rtz
  | 2 => pure .rto
  | _ => do
    let n := 8 + 4 * (rnd / 4 % 4)
    let r ← nextRandom l n
    pure (.sr n r)

/-! Exact sums and products. -/

/-- A signed integer times a power of 2. -/
def ofInt (x e : Int) : Fv := if x = 0 then .zero else .fin (decide (x < 0)) x.natAbs e

/-- The signed significand at exponent `d`, which is not above `e`. -/
def signedAt (neg : Bool) (m : Nat) (e d : Int) : Int :=
  let k : Int := (m <<< (e - d).toNat : Nat)
  if neg then -k else k

/-- Exact sum (spec/08_caldera_formats.md R285). -/
def addX : Fv → Fv → M Fv
  | .nan, _ => pure .nan
  | _, .nan => pure .nan
  | .inf a, .inf b => if a = b then pure (.inf a) else do flag INVALID; pure .nan
  | .inf a, _ => pure (.inf a)
  | _, .inf b => pure (.inf b)
  | .fin a m e, .fin b k d =>
    let x := min e d
    pure (ofInt (signedAt a m e x + signedAt b k d x) x)

/-- Exact product (spec/08_caldera_formats.md R284). -/
def mulX : Fv → Fv → M Fv
  | .nan, _ => pure .nan
  | _, .nan => pure .nan
  | .inf a, .inf b => pure (.inf (a != b))
  | .inf a, .fin b k _ => if k = 0 then do flag INVALID; pure .nan else pure (.inf (a != b))
  | .fin b k _, .inf a => if k = 0 then do flag INVALID; pure .nan else pure (.inf (a != b))
  | .fin a m e, .fin b k d => pure (if m * k = 0 then .zero else .fin (a != b) (m * k) (e + d))

/-- The opposite value. -/
def Fv.neg : Fv → Fv
  | .nan => .nan
  | .inf a => .inf (!a)
  | .fin a m e => if m = 0 then .zero else .fin (!a) m e

/-- Rounded sum. -/
def add32 (ftz : Bool) (a b : Fv) : M Fv := do rne32 ftz (← addX a b)

/-- Rounded difference. -/
def sub32 (ftz : Bool) (a b : Fv) : M Fv := add32 ftz a b.neg

/-- Rounded product of R284; block scales stand in the values already (spec/08_caldera_formats.md R284). -/
def mul32 (ftz : Bool) (a b : Fv) : M Fv := do rne32 ftz (← mulX a b)

/-- The first value is less than the second; neither is NaN. -/
def ltX : Fv → Fv → Bool
  | .inf a, .inf b => a && !b
  | .inf a, _ => a
  | _, .inf b => !b
  | .fin a m e, .fin b k d => let x := min e d; decide (signedAt a m e x < signedAt b k d x)
  | _, _ => false

/-- The larger value, NaN when either is (spec/08_caldera_formats.md R287). -/
def maxX (a b : Fv) : Fv := if a = .nan ∨ b = .nan then .nan else if ltX a b then b else a

/-- The smaller value, NaN when either is (spec/08_caldera_formats.md R287). -/
def minX (a b : Fv) : Fv := if a = .nan ∨ b = .nan then .nan else if ltX b a then b else a

/-! Inputs. -/

/-- A subnormal input reads as +0 under FTZ (spec/08_caldera_formats.md R294). -/
def flushIn (f : Ff) (ftz : Bool) (v : Fv) : M Fv :=
  match v with
  | .fin _ m e =>
    if f.ieee ∧ ftz ∧ m ≠ 0 ∧ !gtExp m e (2 ^ f.mb - 1) f.emin then do flag FLUSH; pure .zero
    else pure v
  | _ => pure v

/-- The value of a floating element with its block exponent (spec/08_caldera_formats.md R282, R294, R302). -/
def floatIn (f : Nat) (ftz : Bool) (code scale : Nat) : M Fv :=
  if isTephra f then
    if scale % 256 = 255 then do flag BLOCK_NAN; pure .nan
    else
      match (ffOf f).decode code with
      | .fin a m e => pure (.fin a m (e + (scale % 256 : Nat) - 127))
      | v => pure v
  else flushIn (ffOf f) ftz ((ffOf f).decode code)

/-- The value of an integer element under its format byte (spec/08_caldera_formats.md R280). -/
def intOf (b code : Nat) : Int :=
  let w := fmtWidth (fmtOf b)
  if bitOf b 4 ∨ fmtOf b = 7 then (if code % 2 ^ w < 2 ^ (w - 1) then (code % 2 ^ w : Nat) else (code % 2 ^ w : Nat) - 2 ^ w)
  else (code % 2 ^ w : Nat)

/-- The value of an element under its format byte, float or integer. -/
def elemIn (b : Nat) (ftz : Bool) (code scale : Nat) : M Fv :=
  if isFloat (fmtOf b) then floatIn (fmtOf b) ftz code scale else pure (ofInt (intOf b code) 0)

/-! Split-precision products (spec/08_caldera_formats.md R296, R297). -/

/-- A value's pieces: hi, mid and lo; mid is 0 in the two-piece split (spec/08_caldera_formats.md R296). -/
def pieces (split2 : Bool) (x : Fv) : M (Fv × Fv × Fv) := quiet do
  let hi ← bf16.round .rtz false x
  let r1 ← addX x hi.neg
  if split2 then
    let lo ← bf16.round .rne false r1
    pure (hi, .zero, lo)
  else
    let mid ← bf16.round .rtz false r1
    let r2 ← addX r1 mid.neg
    let lo ← bf16.round .rtz false r2
    pure (hi, mid, lo)

/-- The product of two pieces. -/
def piece (ftz : Bool) (a b : Fv) : M Fv := do
  let a ← flushIn bf16 ftz a
  let b ← flushIn bf16 ftz b
  mul32 ftz a b

/-- A value is finite. -/
def Fv.finite : Fv → Bool
  | .fin _ _ _ => true
  | _ => false

/-- The lane term of two FP32 values (spec/08_caldera_formats.md R297). -/
def lane (split2 ftz : Bool) (a b : Fv) : M Fv :=
  if a.finite && b.finite then do
    let (ha, ma, la) ← pieces split2 a
    let (hb, mb, lb) ← pieces split2 b
    let s1 ← add32 ftz (← piece ftz ha lb) (← piece ftz la hb)
    let top ← piece ftz ha hb
    if split2 then add32 ftz s1 top
    else
      let s2 ← add32 ftz s1 (← piece ftz ma mb)
      let s3 ← add32 ftz (← piece ftz ha mb) (← piece ftz ma hb)
      let s4 ← add32 ftz s2 s3
      add32 ftz s4 top
  else mul32 ftz a b

/-- The product of two operands under their format codes: the lane term where one is FP32, after the other is converted
to FP32, and the rounded product otherwise (spec/08_caldera_formats.md R284, R296). -/
def prod (rnd fa fb : Nat) (a b : Fv) : M Fv := do
  let ftz := ftzOf rnd
  if fa = 0 ∨ fb = 0 then
    let a ← if fa = 0 then pure a else rne32 ftz a
    let b ← if fb = 0 then pure b else rne32 ftz b
    lane (split2Of rnd) ftz a b
  else mul32 ftz a b

/-! Reductions. -/

/-- One level of the pairwise tree (spec/08_caldera_formats.md R285). -/
def pairs (ftz : Bool) : List Fv → M (List Fv)
  | a :: b :: t => do
    let x ← add32 ftz a b
    let r ← pairs ftz t
    pure (x :: r)
  | l => pure l

/-- The pairwise tree of a group; `fuel` bounds its levels (spec/08_caldera_formats.md R285). -/
def tree (ftz : Bool) : Nat → List Fv → M Fv
  | 0, l => pure (l.headD .zero)
  | fuel + 1, l => if l.length ≤ 1 then pure (l.headD .zero) else do tree ftz fuel (← pairs ftz l)

/-- Terms `n`, `n + 1`, … of a group of `g`, with +0 past the end (spec/08_caldera_formats.md R285). -/
def groupTerms (term : Nat → M Fv) (count n : Nat) : Nat → M (List Fv)
  | 0 => pure []
  | g + 1 => do
    let x ← if n < count then term n else pure .zero
    let r ← groupTerms term count (n + 1) g
    pure (x :: r)

/-- Groups in order onto the accumulator (spec/08_caldera_formats.md R285). -/
def reduceF (ftz : Bool) (term : Nat → M Fv) (count g : Nat) : Nat → Nat → Fv → M Fv
  | 0, _, acc => pure acc
  | k + 1, n, acc => do
    let s ← tree ftz 6 (← groupTerms term count n g)
    let acc ← add32 ftz acc s
    reduceF ftz term count g k (n + g) acc

/-- A float reduction of `count` terms in groups of `g` from an initial value (spec/08_caldera_formats.md R285). -/
def sumF (ftz : Bool) (term : Nat → M Fv) (count g : Nat) (init : Fv) : M Fv :=
  reduceF ftz term count g (ceilDiv count g) 0 init

/-- The INT32 accumulator's clamp (spec/08_caldera_formats.md R286). -/
def clamp32 (x : Int) : M Int :=
  if x < -2 ^ 31 then do flag SAT; pure (-2 ^ 31)
  else if 2 ^ 31 - 1 < x then do flag SAT; pure (2 ^ 31 - 1)
  else pure x

/-- Groups of exact integer products onto the INT32 accumulator (spec/08_caldera_formats.md R286, R305). -/
def reduceI (term : Nat → Int) (count g : Nat) : Nat → Nat → Int → M Int
  | 0, _, acc => pure acc
  | k + 1, n, acc => do
    let w := (List.range g).foldl (fun a i => if n + i < count then a + term (n + i) else a) 0
    reduceI term count g k (n + g) (← clamp32 (acc + w))

/-- An integer reduction (spec/08_caldera_formats.md R286). -/
def sumI (term : Nat → Int) (count g : Nat) (init : Int) : M Int := reduceI term count g (ceilDiv count g) 0 init

/-! Results. -/

/-- A result element: its exact value, and whether it is converted under RNE in place of the job's mode
(spec/09_caldera_jobs.md R316). -/
abbrev El := Fv × Bool

/-- The block exponent of an AUTO conversion (spec/08_caldera_formats.md R283, R304). -/
def autoE (f : Ff) (at_ : Nat) (l : List El) : Nat :=
  if l.all (fun x => x.1 == .nan) then 255
  else
    let big := l.foldl (fun a x => match x.1 with | .fin _ m e => maxX a (.fin false m e) | _ => a) Fv.zero
    match big with
    | .fin _ m e =>
      if m = 0 then 127
      else ((List.range 255).find? (fun (k : Nat) => !gtExp m (e + 127 - (k : Int)) f.maxM f.maxE)).getD (Config.autoScale at_ % 255)
    | _ => 127

/-- One element converted to a floating or tephra format in lane `l` (spec/08_caldera_formats.md R283, R289). -/
def convF (f : Ff) (rnd l e : Nat) (x : El) : M Nat := do
  let md ← if x.2 then pure Mode.rne else modeOf rnd l
  let v := match x.1 with
    | .fin a m d => if f.ieee then .fin a m d else .fin a m (d + 127 - e)
    | v => v
  let r ← f.round md (ftzOf rnd) v
  pure (f.encode r)

/-- Elements of one block, converted in order. -/
def convBlock (f : Ff) (rnd per e : Nat) : Nat → List El → M (List Nat)
  | _, [] => pure []
  | i, x :: t => do
    let c ← convF f rnd (i % per) e x
    let r ← convBlock f rnd per e (i + 1) t
    pure (c :: r)

/-- Blocks in order: codes and block exponents. `given` is E of EMODE 1 (spec/08_caldera_formats.md R283). -/
def convBlocks (f : Ff) (rnd per bs at_ : Nat) (given : Option Nat) : Nat → List (List El) → M (List Nat × List Nat)
  | _, [] => pure ([], [])
  | i, b :: t => do
    let e := given.getD (autoE f at_ b)
    let c ← convBlock f rnd per e i b
    let r ← convBlocks f rnd per bs at_ given (i + bs) t
    pure (c ++ r.1, e :: r.2)

/-- Values converted to INT32. -/
def convInts (rnd : Nat) : Nat → List El → M (List Nat)
  | _, [] => pure []
  | i, x :: t => do
    let md ← if x.2 then pure Mode.rne else modeOf rnd (i % 4)
    let v ← toInt32 md x.1
    let r ← convInts rnd (i + 1) t
    pure ((v % (2 ^ 32 : Int)).toNat :: r)

/-- Result elements as codes of a format byte, with the block exponents of a tephra format. -/
def results (b rnd at_ : Nat) (given : Option Nat) (l : List El) : M (List Nat × List Nat) :=
  let f := fmtOf b
  if f = 7 then do pure (← convInts rnd 0 l, [])
  else if isTephra f then
    convBlocks (ffOf f) rnd (fmtElems f) (blockOf b) at_ given 0 (chunksOf (blockOf b) l.length l)
  else do pure (← convBlock (ffOf f) rnd (fmtElems f) 0 0 l, [])

/-- Codes of width `w` packed into words from address `a`; the positions past the end hold what `pad` gives
(spec/08_caldera_formats.md R274). -/
def packCodes (w : Nat) (pad : Nat → Nat) (a : Nat) (l : List Nat) : List (Nat × Word) :=
  let per := 128 / w
  (List.range (ceilDiv l.length per)).map (fun q =>
    (a + q, BitVec.ofNat 128 ((List.range per).foldr (fun i acc =>
      acc * 2 ^ w + (l.getD (q * per + i) (pad ((a + q) * 128 + i))) % 2 ^ w) 0)))

end Sys2Proof.Machine.Cf
end

