-- ==== Sys2Proof/Machine/State.lean ====
section
/-! DEFINITION. The state of the Miuri as plain data, and the state right after reset. Window-table words are kept in
`State.cells`; everything else the spec gives the machine, and the working state its rules imply, stands in the
structures below, one for each unit. -/

namespace Sys2Proof.Machine

open Sys2Proof

/-- Nothing stops this block: every meaning answers a next state (notes/assumptions/5.md). No constructor, nobody raises
one: safe. -/
inductive Fault where
  deriving DecidableEq, Repr

/-- The reasons a command is rejected. -/
inductive Refusal where
  /-- A command without a meaning yet, by its mnemonic. Raised by Machine/Dispatch.lean's refused arms only. Safe: it stops. -/
  | notModelled (mnemonic : String)
  deriving DecidableEq, Repr

/-- The states of a unit (spec/03_units_events.md R82, Table UE-1). -/
inductive UState where
  | off | starting | on | stopping | fault
  deriving DecidableEq, Repr, Inhabited

/-- The number UNIT_STATE.STATE shows (spec/03_units_events.md R82). -/
def UState.code : UState → Nat
  | .off => 0 | .starting => 1 | .on => 2 | .stopping => 3 | .fault => 4

/-- Outcome codes (spec/00_scope.md R18, Table SC-4). -/
inductive Oc where
  | ok | deferred | busy | notAvailable | budget | queueFull | stateMismatch | resourceHeld | tooLate | aborted | notReady
  | muted | underrun | fault | power | badFrame | param
  deriving DecidableEq, Repr, Inhabited

/-- The 8-bit code of an outcome (spec/00_scope.md R18). -/
def Oc.code : Oc → Nat
  | .ok => 0x00 | .deferred => 0x01 | .busy => 0x02 | .notAvailable => 0x03 | .budget => 0x04 | .queueFull => 0x05
  | .stateMismatch => 0x06 | .resourceHeld => 0x07 | .tooLate => 0x08 | .aborted => 0x09 | .notReady => 0x0A
  | .muted => 0x0B | .underrun => 0x0C | .fault => 0x0D | .power => 0x0E | .badFrame => 0x0F | .param => 0x10

/-- Where the device stands between reset and service (spec/16_power_start_sinter.md R574, R579, R580, R595, R587). -/
inductive Phase where
  | por | reset | starting | ready | black | hib
  deriving DecidableEq, Repr, Inhabited

/-- What a port's top-level snapshot holds (spec/03_units_events.md R86). -/
inductive SnapData where
  /-- UNIT_STATE and UNIT_INFO of a unit -/
  | unit (u : Src) (state info : Half)
  /-- CYCLE, ANGLE and fraction -/
  | geyser (stamp : BitVec 80)
  /-- an event record and the number of its admission -/
  | event (record : Word) (pop : Nat)
  deriving DecidableEq, Repr, Inhabited

/-- A window-table word that has been written, and how often it has changed (spec/02_host_access.md R58). -/
structure Cell where
  word : Word
  ver : Nat
  deriving DecidableEq, Repr, Inhabited

/-- A window snapshot: the entry as it stood when halfword 0 was read (R57), the tenant it was taken for (R656), and the entry's version at that moment (R58). -/
structure WinSnap where
  /-- the entry's content (R57 02) -/
  word : Word := 0
  /-- version of the source entry when the snapshot was taken (model's own count) (R58 02) -/
  ver : Nat := 0
  /-- tenant in whose name it was taken (R656 18) -/
  tenant : Nat := 0
  deriving DecidableEq, Repr, Inhabited

/-- One window copy of a port (R38, R79). -/
structure Win where
  /-- WINn_SEL.TABLE, 6 bits (R79 02) -/
  sel : Nat := 0
  /-- WINn_IDX.ENTRY, 12 bits (R79 02) -/
  entry : Nat := 0
  /-- WINn_IDX.HW, 3 bits (R79 02) -/
  hw : Nat := 0
  /-- WINn_IDX.AINC (R79 02) -/
  ainc : Bool := true
  /-- tenant that holds the window; tenant 0 at reset (R65 R79 02) -/
  holder : Nat := 0
  /-- snapshot (SNAP_VALID) (R57 02) -/
  snap : Option WinSnap := none
  /-- WINn_STAT.SNAP_STALE (R58 02) -/
  stale : Bool := false
  /-- staging word (STAGED) (R59 02) -/
  staging : Option Word := none
  /-- WINn_STAT.OUTCOME, 8 bits (R79 02) -/
  outcome : Nat := 0
  /-- WINn_STAT.STAGE_LOST (R61 02) -/
  stageLost : Bool := false
  deriving DecidableEq, Repr, Inhabited

/-- A port's top-level snapshot (R86, R94, R135, R656). -/
structure TopSnap where
  /-- what was latched (R86 R94 R135) -/
  data : SnapData := .geyser 0
  /-- change count of the source at that moment (model's own count) (R86 R95 R135) -/
  ver : Nat := 0
  /-- tenant in whose name it was taken (R656 18) -/
  tenant : Nat := 0
  deriving DecidableEq, Repr, Inhabited

/-- The block a port holds for RNG_DATA (R380). -/
structure RngBlk where
  /-- tenant the block was taken for (R380 10) -/
  tenant : Nat := 0
  /-- the block (R380 10) -/
  word : Word := 0
  /-- halfwords not yet given, 0 to 8 (R380 10) -/
  left : Nat := 0
  deriving DecidableEq, Repr, Inhabited

/-- The registers and windows each host port has a copy of (R38). -/
structure Port where
  /-- CTX.TENANT, 6 bits (R63 R78 02) -/
  ctx : Nat := 0
  /-- ACC_STAT.OUTCOME, 8 bits (R44 R78 02) -/
  outcome : Nat := 0
  /-- ACC_STAT.SNAP_STALE (R78 02) -/
  stale : Bool := false
  /-- ACC_STAT.REFUSED (R78 02) -/
  refused : Bool := false
  /-- SCRATCH (R78 02) -/
  scratch : BitVec 16 := 0
  /-- WIN0 to WIN3 (R38 R79 02) -/
  win : Vector Win 4 := Vector.replicate 4 {}
  /-- top-level snapshot (ACC_STAT.SNAP_VALID) (R86 03) -/
  snap : Option TopSnap := none
  /-- EVT_STAT.POS of each tenant view, 3 bits (R94 R109 03) -/
  pos : Vector Nat 64 := Vector.replicate 64 0
  /-- RNG_DATA block (R38 R380) -/
  rngBlk : Option RngBlk := none
  /-- data of the port's last read, as HD or the reply carries it (R40 R44 02) -/
  hd : BitVec 16 := 0
  deriving DecidableEq, Repr, Inhabited

/-- A Tuichex reply held whole (R51). -/
structure Reply where
  /-- D0 (R51 02) -/
  status : BitVec 16 := 0
  /-- D1 and the halfwords read; the CRC follows them (R51 02) -/
  body : List (BitVec 16) := []
  deriving DecidableEq, Repr, Inhabited

/-- The serial frame state of port 1 (R46 to R55). -/
structure Tuichex where
  /-- ALIVE of the last executed frame; none after reset (R54 02) -/
  alive : Option Nat := none
  /-- reply of the last frame executed or found bad (R51 R52 02) -/
  held : Option Reply := none
  /-- reply shifted out during the last frame (R55 02) -/
  shifted : Option Reply := none
  /-- halfwords driven on HSDO during the last frame (R46 R51 02) -/
  hsdo : List (BitVec 16) := []
  /-- core tick at which the last frame's execution ends (R53 02) -/
  busyUntil : Nat := 0
  deriving DecidableEq, Repr, Inhabited

/-- The registers with one value per tenant (R38, R109). -/
structure TenantSel where
  /-- UNIT_SEL (R109 03) -/
  unitSel : BitVec 16 := 1
  /-- CLAIM_SEL (R109 03) -/
  claimSel : BitVec 16 := 0
  /-- CLAIM_STAT (R109 03) -/
  claimStat : BitVec 16 := 0
  deriving DecidableEq, Repr, Inhabited

/-- A tenant's event view (R92 to R97). -/
structure View where
  /-- records held, oldest first, at most 64 (R92 03) -/
  log : List Word := []
  /-- next SEQ (R92 R93 03) -/
  seq : BitVec 16 := 0
  /-- EVT_LOST (R92 R109 03) -/
  lost : BitVec 16 := 0
  /-- IRQ_PEND (R97 R109 03) -/
  pend : BitVec 5 := 0
  /-- IRQ_EN; 0x1C in the owner's view at reset (R97 R109 03) -/
  en : BitVec 5 := 0
  /-- the next record stored carries AFTER_LOSS (R92 03) -/
  afterLoss : Bool := false
  /-- records removed since reset (model's own count, for R58 and R95) (R95 R96 03) -/
  pops : Nat := 0
  deriving DecidableEq, Repr, Inhabited

/-- An event a source has raised (R89 to R91). -/
structure Ev where
  /-- common record (R91 03) -/
  common : Bool := true
  /-- tenant of a tenant record (R91 03) -/
  tenant : Nat := 0
  /-- severity 0 to 3 (R90 03) -/
  sev : Nat := 0
  /-- CODE (R90 03) -/
  code : Nat := 0
  /-- ARG, 32 bits (R90 03) -/
  arg : Nat := 0
  /-- the queue entry a DONE ends, plus 1; 0 for every other event (model's own) (R102 03) -/
  ref : Nat := 0
  deriving DecidableEq, Repr, Inhabited

/-- A source's events: the head is the one presented (R89). -/
structure EvSrc where
  /-- events raised and not yet granted, in order (R89 03) -/
  q : List Ev := []
  /-- core tick since which the head is presented (R89 03) -/
  since : Nat := 0
  deriving DecidableEq, Repr, Inhabited

/-- A unit's state mirror (R85). -/
structure Mirror where
  /-- STATE (R82 R85 03) -/
  st : UState := .off
  /-- REARM (R82 R85 03) -/
  rearm : Bool := false
  /-- FORCED (R82 R85 03) -/
  forced : Bool := false
  /-- GOV_HELD (R82 R85 03) -/
  govHeld : Bool := false
  /-- SUB, 8 bits (GY: 3 at reset, R118; LOOP: 2, R564 and R572; OBS: PROV_OPEN, R393) (R85 03) -/
  sub : Nat := 0
  /-- CAUSE, 8 bits (R85 03) -/
  cause : Nat := 0
  /-- GEN (R85 03) -/
  gen : BitVec 8 := 0
  /-- changes since reset (model's own count, for R86) (R86 03) -/
  chg : Nat := 0
  /-- pending forced substate (R88 03) -/
  pend : Option Nat := none
  /-- forced substate in force, 0 for none (R88 R130 R503) -/
  held : Nat := 0
  /-- core tick of the last change (model's own) (R85 03) -/
  chgAt : Option Nat := none
  /-- STATE before the changes of that tick (model's own) (R85 03) -/
  was : UState := .off
  deriving DecidableEq, Repr, Inhabited

/-- Device-wide state: start-up, watchdog, pins. -/
structure Dev where
  /-- power-on reset, reset, starting, ready, held at BLACK, hibernating; starting at the release of reset (R574 R579 R580 16) -/
  phase : Phase := .starting
  /-- core tick of the release of reset (R580 16) -/
  released : Nat := 0
  /-- DEV_STAT.READY (R78 R580 02) -/
  ready : Bool := false
  /-- DEV_STAT.HOST_LOST (R69 R78 02) -/
  hostLost : Bool := false
  /-- DEV_STAT.IMG_APPLIED (R78 R583 02) -/
  imgApplied : Bool := false
  /-- HP_CFG.P1_EN (R75 R78 02) -/
  p1En : Bool := true
  /-- HP_CFG.HIRQ_OD (R78 02) -/
  hirqOd : Bool := false
  /-- HP_CFG.HSIRQ_OD (R78 02) -/
  hsirqOd : Bool := false
  /-- HP_CFG.WDOG_PER, 8 bits (R68 R78 02) -/
  wdogPer : Nat := 20
  /-- HP_BIND.TENANT, 6 bits (R78 02) -/
  bindTenant : Nat := 0
  /-- core tick at which the watchdog count expires; none before READY and once expired (R68 02) -/
  wdogEnd : Option Nat := none
  /-- VDD09, VDD_PLL, VDD33 and VDD_NV in range (R574 16) -/
  mainRails : Bool := true
  /-- held in reset by TEST (R623 17) -/
  testHeld : Bool := false
  /-- TAP instruction in force, 5 bits; IDCODE after TAP reset (R641 17) -/
  tapIr : Nat := 2
  /-- GOV_STAT.RAIL_BAD, 4 bits (R575 R617 16) -/
  anaBad : Nat := 0
  /-- core tick at which each analogue rail last went bad (R575 16) -/
  anaSince : Vector Nat 4 := Vector.replicate 4 0
  /-- start-up steps of Table PW-4 taken, 0 to 8 (R580 16) -/
  step : Nat := 0
  /-- cause of this start, recorded in LAST_RESET at step 2 (R579 16) -/
  cause : Nat := 1
  /-- VDD33 and VBAT have both been absent since the last start (R584 16) -/
  emberLost : Bool := true
  /-- the sequence of HIBERNATE is under way (R587 16) -/
  hibReq : Bool := false
  /-- core tick at which HIBERNATE or BLACK let EMB_PWREN fall (R587 16) -/
  hibAt : Nat := 0
  deriving DecidableEq, Repr, Inhabited

/-- A zero-cross input's measurement state (R113 to R115, R124, R125). -/
structure Zc where
  /-- core tick of the last accepted edge (R114 04) -/
  last : Option Nat := none
  /-- stamp at the last accepted edge (R124 04) -/
  lastStamp : Nat := 0
  /-- previous period in core ticks (R114 04) -/
  prev : Nat := 0
  /-- last good periods, newest first, at most 8 (R114 04) -/
  periods : List Nat := []
  /-- consecutive comparisons not applied (R124 04) -/
  skipped : Nat := 0
  /-- candidate the last comparisons named, 1 to 3; 0 none (R125 04) -/
  cand : Nat := 0
  /-- consecutive comparisons naming it (R125 04) -/
  run : Nat := 0
  /-- consecutive comparisons far from every candidate (R125 04) -/
  far : Nat := 0
  deriving DecidableEq, Repr, Inhabited

/-- A stamped reference's measurement state: NET or an OPT port (R122). -/
structure NetRef where
  /-- core tick of the last phase event (R122 04) -/
  last : Option Nat := none
  /-- reference's own stamp at it (R122 04) -/
  lastStamp : Nat := 0
  /-- core ticks times 65,536 between the last two stamps, 0 unknown (R117 04) -/
  pNum : Nat := 0
  /-- a.u. between them (R117 04) -/
  pDen : Nat := 0
  deriving DecidableEq, Repr, Inhabited

/-- Geyser (chapter 04). -/
structure Gy where
  /-- CYCLE, ANGLE and the 32-bit fraction (R116 R118 04) -/
  stamp : BitVec 80 := 0
  /-- RATE, 32.32 a.u. per core tick; nominal 50 Hz at reset (R116 04) -/
  rate : BitVec 64 := 0x04444444
  /-- index of the grid half-cycle last begun (model's own) (R120 04) -/
  hcDone : Nat := 0
  /-- CYCLE last begun (model's own) (R127 04) -/
  cycDone : BitVec 32 := 0
  /-- ZC1 to ZC3 (R114 04) -/
  zc : Vector Zc 3 := Vector.replicate 3 {}
  /-- NET (R122 04) -/
  net : NetRef := {}
  /-- OPT1 and OPT2 (R122 04) -/
  opt : Vector NetRef 2 := Vector.replicate 2 {}
  /-- active reference, coded as R143 (R122 R143 R152 04) -/
  ref : Nat := 0
  /-- NET_TIME (R126 R152 04) -/
  netTime : Bool := false
  /-- references whose latest measured period is outside 45.0 to 66.0 Hz, one bit each (R119 R152 04) -/
  oor : Nat := 0
  /-- GY_FREQ (R119 R152 04) -/
  freq : BitVec 16 := 0x3200
  /-- consecutive events with the error within LOCK_WIN (R128 04) -/
  lockRun : Nat := 0
  /-- consecutive events with the error beyond UNLOCK_WIN (R128 04) -/
  outRun : Nat := 0
  /-- a reference switch is in progress (R132 04) -/
  switching : Bool := false
  /-- events of the new reference within LOCK_WIN (R132 04) -/
  switchRun : Nat := 0
  /-- the next event is the first of a new reference (R128 R133 04) -/
  firstEv : Bool := false
  /-- c is limited by the clamp (R132 04) -/
  clamped : Bool := false
  /-- phase error of the latest event, in units of the stamp fraction (R117 04) -/
  err : Int := 0
  /-- RATE over the last cycles spent in LOCK, at most 64 (R129 04) -/
  lockRates : List (BitVec 64) := []
  /-- cycles since the lock state was entered (R128 04) -/
  since : Nat := 0
  /-- REALIGN_PEND (R131 R152 04) -/
  realign : Bool := false
  /-- the pending REALIGN was commanded (R131 04) -/
  realignCmd : Bool := false
  /-- correction to CYCLE waiting for a cycle boundary (R127 04) -/
  cycleLoad : Option Int := none
  /-- GRID_OFFSET announced and not yet applied (R121 04) -/
  gridNew : Option Nat := none
  /-- CYCLE of the BEACON that announced it (R121 04) -/
  gridHeard : Option Nat := none
  /-- GRID_OFFSET in force (R120 R121 04) -/
  grid : Nat := 0
  /-- GY_CFG in force while a commit waits for a free grid boundary (R151 04) -/
  cfgOld : Option Word := none
  /-- half-cycle number, plus 1, of each comparator's last firing (R141 04) -/
  cmpDone : Vector Nat 16 := Vector.replicate 16 0
  /-- stamp at which each comparator's pin pulse ends (R140 04) -/
  pulse : Vector (Option Nat) 16 := Vector.replicate 16 none
  /-- CYCLE of the latest BEACON (R126 R150 04) -/
  beaconAt : Option (BitVec 32) := none
  /-- phase error at the latest BEACON, in units of the stamp fraction (R126 R162 04) -/
  beaconErr : Int := 0
  /-- address of the current master (R150 04) -/
  master : Nat := 0
  /-- REALIGN steps and CYCLE loads taken (model's own count) (R524 14) -/
  jumps : Nat := 0
  /-- REALIGN, CYCLE load and GRID_OFFSET changes taken (model's own count) (R135 04) -/
  steps : Nat := 0
  deriving DecidableEq, Repr, Inhabited

/-- What the transmit path sends in one slot (R159, R165, R209). -/
structure TxSlot where
  /-- slot of the half-cycle, 0 to 15 (R160 05) -/
  slot : Nat := 0
  /-- grid indices sent together (R159 05) -/
  tones : List Nat := []
  /-- shift of every tone, in hertz (R181 05) -/
  dither : Int := 0
  deriving DecidableEq, Repr, Inhabited

/-- A line frame the device has queued for itself (R197, R212, R224, R258). -/
structure DevFrame where
  /-- TYPE (R197 06) -/
  ftype : Nat := 0
  /-- CLASS (R197 06) -/
  cls : Nat := 2
  /-- TIERS (R212 06) -/
  tiers : Nat := 0
  /-- payload words (R196 06) -/
  words : List Word := []
  /-- a MAP frame that carries a publication (R257 07) -/
  publish : Bool := false
  deriving DecidableEq, Repr, Inhabited

/-- A line frame in progress at this station (R205). -/
structure LineFrame where
  /-- sent by this station (R205 06) -/
  own : Bool := false
  /-- an own frame built by the device (R197 06) -/
  device : Bool := false
  /-- LA_TXQ entry of an own host frame (R241 06) -/
  entry : Nat := 0
  /-- header bits (R194 06) -/
  header : BitVec 48 := 0
  /-- half-cycle index it began in (R205 06) -/
  h : Nat := 0
  /-- K, origin half-cycles (R205 06) -/
  k : Nat := 0
  /-- origin half-cycles sent or received (R205 06) -/
  done : Nat := 0
  /-- word 0 of the payload map in force at the first priority window (R182 R188 05) -/
  map0 : Word := 0
  /-- word 1 of it (R182 R188 05) -/
  map1 : Word := 0
  /-- word 0 of the common map in force then (R182 05) -/
  cmap0 : Word := 0
  /-- word 1 of it (R182 05) -/
  cmap1 : Word := 0
  /-- information bits of the payload section of an own frame (R196 06) -/
  payload : List Bool := []
  /-- coupler selection of the frame, one bit a phase (R179 R186 05) -/
  phases : Nat := 0
  /-- this station owes the acknowledgement (R207 06) -/
  acked : Bool := false
  /-- its code (R207 06) -/
  ackCode : Nat := 0
  /-- stamp of the header's first core sample (R243 06) -/
  stamp : Nat := 0
  /-- tier copies heard (R211 R243 06) -/
  copies : Nat := 0
  /-- header sent or decoded (R127 06) -/
  started : Bool := false
  /-- what an own device frame carries (R197 06) -/
  dev : Option DevFrame := none
  /-- sent on an ALARM credit (R216 06) -/
  muted : Bool := false
  deriving DecidableEq, Repr, Inhabited

/-- Automatic gain of one receive channel (R175). -/
structure Agc where
  /-- consecutive slots below -21 dBFS (R175 05) -/
  quiet : Nat := 0
  /-- consecutive slots clipping at 0 dB (R175 05) -/
  clips : Nat := 0
  /-- AGC_LIMIT raised for this run (R175 05) -/
  limited : Bool := false
  deriving DecidableEq, Repr, Inhabited

/-- A receive buffer (R26, R223, R449, R491). -/
structure Buf where
  /-- holds a frame or cell (R223) -/
  full : Bool := false
  /-- its reception event has been arbitrated (R26 01) -/
  seen : Bool := false
  /-- tag (R223) -/
  tenant : Nat := 0
  deriving DecidableEq, Repr, Inhabited

/-- Line access and signal (chapters 05 and 06). -/
structure Ln where
  /-- frame in progress (R205 06) -/
  frame : Option LineFrame := none
  /-- bursts heard, no header decoded (R206 06) -/
  unknown : Bool := false
  /-- the last half-cycle was observed idle (R203 06) -/
  idleSeen : Bool := false
  /-- device frames waiting (R197 R219 06) -/
  queue : List DevFrame := []
  /-- LA_TXQ entry that holds the staging frame (R220 06) -/
  granted : Option Nat := none
  /-- staging words committed since the grant, one bit a word (R220 06) -/
  filled : Nat := 0
  /-- staging frame locked (R220 06) -/
  locked : Bool := false
  /-- first half-cycle of the grant (R220 06) -/
  h0 : Nat := 0
  /-- queued LA_TXQ entries in submission order (R219 06) -/
  order : List Nat := []
  /-- round-robin deficit of tenant t in class c at 64 c + t (R219 06) -/
  deficit : Vector Nat 256 := Vector.replicate 256 0
  /-- tenant served last in each class (R219 06) -/
  rr : Vector Nat 4 := Vector.replicate 4 0
  /-- half-cycles charged to each request (R219 06) -/
  charged : Vector Nat 16 := Vector.replicate 16 0
  /-- tenant that submitted each request (R241 06) -/
  owner : Vector Nat 16 := Vector.replicate 16 0
  /-- requests whose completion goes to the owner's view, one bit each (R37 01) -/
  toOwner : Nat := 0
  /-- cycle of the last frame accepted from each neighbour (R208 06) -/
  accAt : Vector Nat 32 := Vector.replicate 32 0
  /-- the other MASTER's address, while this station waits to become MEMBER (R33 01) -/
  demote : Option Nat := none
  /-- half-cycles still to skip (R214 06) -/
  backoff : Nat := 0
  /-- the last attempt went on a destination's map (R261 07) -/
  onDest : Bool := false
  /-- acknowledgement code of the last attempt, 7 for none (R221 R237 06) -/
  lastCode : Nat := 7
  /-- SEQ last used toward each destination (R208 06) -/
  seqs : List (Nat × Nat) := []
  /-- core tick of entry to MUTED (R216 06) -/
  mutedAt : Nat := 0
  /-- an ALARM credit is open (R216 06) -/
  credit : Bool := false
  /-- RESUME waits for the half-cycle boundary (R216 R217 06) -/
  resume : Bool := false
  /-- BEACON count (R212 06) -/
  bseq : BitVec 8 := 0
  /-- LA_CFG in force while a commit waits for a free half-cycle boundary (R213 06) -/
  cfgOld : Option Word := none
  /-- receive buffers (R223 06) -/
  bufs : Vector Buf 2 := Vector.replicate 2 {}
  /-- buffer to fill first (R223 06) -/
  nextBuf : Nat := 0
  /-- pending dormancy commit: its half-cycle index (R224 06) -/
  commit : Option Nat := none
  /-- commit for which a CANCEL is held (R234 06) -/
  cancelled : Option Nat := none
  /-- half-cycles of wake tone still to send (R226 06) -/
  wakeLeft : Nat := 0
  /-- half-cycle index from which they go out (R226 06) -/
  wakeAt : Nat := 0
  /-- word 0 of the common map held until word 1 commits (R182 05) -/
  stage0 : Option Word := none
  /-- pending common map (COMMON_PEND) (R182 R190 05) -/
  cmapNew : Option (Word × Word) := none
  /-- receive channels 1 to 3 (R175 05) -/
  agc : Vector Agc 3 := Vector.replicate 3 {}
  /-- destination, map version and slot already reported (R169 05) -/
  dropped : List (Nat × Nat × Nat) := []
  /-- destinations reported by MAP_MISSING in this beacon period (R260 07) -/
  missing : List Nat := []
  /-- access bursts of this half-cycle: quarter and grid index (R200 06) -/
  txQuarters : List (Nat × Nat) := []
  /-- symbols of this half-cycle (R160 05) -/
  txSlots : List TxSlot := []
  /-- LTXEN1 to LTXEN3, one bit a phase (R160 R179 05) -/
  ltxen : Nat := 0
  /-- committed high-water mark of the line FC (R199 R602) -/
  fcMark : Nat := 0
  deriving DecidableEq, Repr, Inhabited

/-- Learning the cycle (chapter 07). -/
structure Ll where
  /-- word 0 of a host own map held until word 1 commits (R255 07) -/
  stage0 : Option Word := none
  /-- published map whose MAP frame has not begun, and COMMON (R257 07) -/
  pub : Option (Word × Word × Bool) := none
  /-- pending own map, whose MAP frame has begun (R257 07) -/
  own : Option (Word × Word × Bool) := none
  /-- ACT_CYCLE of the pending own map (R257 07) -/
  actCycle : BitVec 32 := 0
  /-- the station receives by the common map (R253 R256 07) -/
  ownCommon : Bool := true
  /-- cycle at which the map in force took effect (R258 07) -/
  ownSince : BitVec 32 := 0
  /-- beacon periods since the last publication started (R255 07) -/
  lastPub : Option Nat := none
  /-- beacon periods since the last MAP frame (R258 07) -/
  repeatIn : Nat := 0
  /-- a neighbour entry was created (R258 07) -/
  newNbr : Bool := false
  /-- the first MAP frame after a start is due (R258 07) -/
  firstMap : Bool := false
  /-- PROFILE or a tone set changed since the statistics were gathered (R254 07) -/
  setsChanged : Bool := false
  /-- a K2 update or evaluation was shed in this cycle (R253 R267 07) -/
  shed : Bool := false
  /-- K2 is not running (R253 07) -/
  paused : Bool := false
  /-- a condition of OBS failed in this cycle (R253 07) -/
  broken : Bool := false
  /-- half-cycles of this cycle in which K2 ran, one bit each (R253 07) -/
  k2Halves : Nat := 0
  deriving DecidableEq, Repr, Inhabited

/-- A host job's engine context (R320 to R324). -/
structure CjRun where
  /-- 0 never chosen, 1 running normally, 2 on the refusal path (R320 09) -/
  phase : Nat := 0
  /-- CALD cycles still to run (R314 R320 09) -/
  left : Nat := 0
  /-- core tick at which it last took the engine (R321 09) -/
  start : Nat := 0
  /-- an abort waits for the next pre-emption point (R325 09) -/
  abort : Bool := false
  /-- submitter (R319 09) -/
  tenant : Nat := 0
  /-- parameter word taken at the submission (R311 09) -/
  p0 : Word := 0
  deriving DecidableEq, Repr, Inhabited

/-- A kernel invocation (R328). -/
structure Kinv where
  /-- priority of its window in Table CJ-6 (R327 09) -/
  row : Nat := 0
  /-- kernel 1 to 5 (R326 09) -/
  kern : Nat := 0
  /-- ASCHED entry of its window (R327 09) -/
  idx : Nat := 0
  /-- has taken the engine (R328 09) -/
  begun : Bool := false
  /-- still running at its window's end (R328 09) -/
  late : Bool := false
  /-- CALD cycles still to run (R326 09) -/
  left : Nat := 0
  /-- core tick at which it last took the engine (R328 09) -/
  start : Nat := 0
  /-- its cost in CALD cycles (R326 09) -/
  cost : Nat := 0
  /-- core tick at which its window opened (R338 09) -/
  openAt : Nat := 0
  deriving DecidableEq, Repr, Inhabited

/-- Caldera (chapters 08 and 09). -/
structure Cj where
  /-- CJ_Q entries not ended, in submission order (R321 09) -/
  order : List Nat := []
  /-- entry that holds the engine (R321 09) -/
  running : Option Nat := none
  /-- engine contexts (R320 09) -/
  jobs : Vector CjRun 8 := Vector.replicate 8 {}
  /-- round-robin deficit in cycles (R321 09) -/
  deficit : Vector Int 64 := Vector.replicate 64 0
  /-- unbound cycles in this half-cycle (R322 09) -/
  hcUsed : Vector Nat 64 := Vector.replicate 64 0
  /-- tenant at its cap until the next boundary (R322 09) -/
  capped : Vector Bool 64 := Vector.replicate 64 false
  /-- tenant of the round served last (R321 09) -/
  rr : Nat := 0
  /-- host reservation windows open, one bit each (R321 09) -/
  openMask : Nat := 0
  /-- invocations not ended, in order of opening (R328 09) -/
  kernels : List Kinv := []
  /-- K2 skips in this beacon period (R342 09) -/
  shedPer : Nat := 0
  /-- late invocations in this beacon period (R342 09) -/
  latePer : Vector Nat 5 := Vector.replicate 5 0
  /-- corrected errors already raised in this beacon period (R333 09) -/
  eccRaised : Bool := false
  /-- words known uncorrectable (R333 09) -/
  bad : List Nat := []
  /-- next word the scrubber reads (R333 09) -/
  scrubAt : Nat := 0
  /-- host cycles in this half-cycle (R350 09) -/
  hostCyc : Nat := 0
  /-- kernel cycles in this half-cycle (R350 09) -/
  kernCyc : Nat := 0
  /-- clock change waiting for a pre-emption point (R331 09) -/
  capNew : Option Bool := none
  deriving DecidableEq, Repr, Inhabited

/-- A key held in key RAM (R353). No path reads it out (R355). -/
structure KeyEnt where
  /-- slot (R353 10) -/
  slot : Nat := 0
  /-- key bytes, 16, 24 or 32 (R352 10) -/
  key : List (BitVec 8) := []
  deriving DecidableEq, Repr, Inhabited

/-- A slot command in progress (R357 to R359). -/
structure SlotCmd where
  /-- slot (R357 10) -/
  slot : Nat := 0
  /-- Table OB-3 (R357 10) -/
  cmd : Nat := 0
  /-- key the slot is to take (R357 10) -/
  key : List (BitVec 8) := []
  /-- usage bits it is to take (R357 10) -/
  usage : Nat := 0
  /-- NEWLEN (R357 10) -/
  klen : Nat := 0
  /-- KEK of an UNWRAP (R357 10) -/
  kek : Nat := 0
  /-- blob of an UNWRAP (R357 10) -/
  blob : List (BitVec 8) := []
  /-- ended OK at its commit and waits for a job that names the slot (R383 10) -/
  quiet : Bool := false
  /-- to be held in a Sinter key record (R359 10) -/
  persist : Bool := false
  /-- outcome decided so far (R357 10) -/
  result : Nat := 0
  /-- still needs the engine (R358 10) -/
  engine : Bool := false
  /-- still needs its Sinter transaction (R359 10) -/
  store : Bool := false
  /-- its transaction has begun (R373 10) -/
  begun : Bool := false
  deriving DecidableEq, Repr, Inhabited

/-- An Obsidian job's engine context (R363 to R366). -/
structure ObJob where
  /-- 0 not chosen, 1 running, 2 on the refusal path (R363 10) -/
  phase : Nat := 0
  /-- L, fixed when first chosen (R366 10) -/
  total : Nat := 0
  /-- ticks still to run (R366 10) -/
  left : Nat := 0
  /-- core tick at which it last took the engine (R366 10) -/
  start : Nat := 0
  /-- ticks of one padded block (R366 10) -/
  block : Nat := 0
  /-- an abort waits for the next block boundary (R372 10) -/
  abort : Bool := false
  /-- key bytes in force when first chosen (R366 10) -/
  keyLen : Nat := 0
  /-- key in force when first chosen (R383 10) -/
  key : List (BitVec 8) := []
  deriving DecidableEq, Repr, Inhabited

/-- Obsidian (chapter 10). -/
structure Ob where
  /-- key RAM (R353 R354 10) -/
  keys : List KeyEnt := []
  /-- jobs waiting for the engine, in order, numbered as running (R364 10) -/
  ready : List Nat := []
  /-- submitter of each host entry (R360 R397 10) -/
  owner : Vector Nat 16 := Vector.replicate 16 0
  /-- job that holds the engine: entry 0 to 15, or 256 plus the slot of a slot command (R364 10) -/
  running : Option Nat := none
  /-- host job held PREEMPTED (R364 10) -/
  held : Option Nat := none
  /-- engine contexts (R366 10) -/
  jobs : Vector ObJob 18 := Vector.replicate 18 {}
  /-- tenant served last (R364 10) -/
  rr : Nat := 0
  /-- each port's in-line job (R365 10) -/
  inl : Vector Inline 4 := Vector.replicate 4 {}
  /-- result written to the port's buffer (R365 10) -/
  inlineOut : Vector (List (BitVec 8)) 4 := Vector.replicate 4 []
  /-- outcome the port learned (R660 10) -/
  inlineRes : Vector Nat 4 := Vector.replicate 4 0
  /-- core ticks of the integrity failures in the current window (R370 10) -/
  fails : List Nat := []
  /-- slot commands in progress (R357 10) -/
  cmds : List SlotCmd := []
  deriving DecidableEq, Repr, Inhabited

/-- The RNG (chapter 10). -/
structure Rng where
  /-- raw samples taken since start (R376 R379 10) -/
  samples : Nat := 0
  /-- raw samples of the conditioning input, newest first (R377 10) -/
  bits : List Bool := []
  /-- last raw sample (R376 10) -/
  lastBit : Bool := false
  /-- repetition count (R376 10) -/
  repRun : Nat := 0
  /-- first sample of the adaptive proportion window (R376 10) -/
  aptBit : Bool := false
  /-- samples taken in that window (R376 10) -/
  aptPos : Nat := 0
  /-- occurrences of it (R376 10) -/
  aptCount : Nat := 0
  /-- conditioned blocks of the next seed (R377 10) -/
  blocks : List Word := []
  /-- DRBG key; empty before instantiation (R378 10) -/
  key : List (BitVec 8) := []
  /-- DRBG V (R378 10) -/
  v : Word := 0
  /-- a reseed is due (R378 10) -/
  due : Bool := false
  /-- pool, at most 8 blocks (R380 10) -/
  pool : List Word := []
  /-- key of the carry-over stream (R381 10) -/
  carryKey : List (BitVec 8) := []
  /-- bits of the stream consumed (R381 R382 10) -/
  carryPos : Nat := 0
  /-- RNG_STAT.CARRY_SAVED (R382 R401 10) -/
  saved : Bool := false
  /-- RNG_STAT.CAUSE (R376 R401 10) -/
  cause : Nat := 0
  deriving DecidableEq, Repr, Inhabited

/-- Master serial port (chapter 11). -/
structure Ms where
  /-- queued queue-entry numbers 0 to 15, in submission order (R416 11) -/
  order : List Nat := []
  /-- running entry and the later entries of its chain (R415 11) -/
  chain : List Nat := []
  /-- profile in force for the running chain (R403 11) -/
  prof : Word := 0
  /-- last code on MSEL[2:0] (R412 11) -/
  sel : Nat := 0
  /-- a select is asserted (R411 R412 11) -/
  selLow : Bool := false
  /-- core tick of the ready point P (R407 11) -/
  readyAt : Nat := 0
  /-- chunks of the running entry begun (R407 11) -/
  chunk : Nat := 0
  /-- bits received by the running entry, in time order (R419 11) -/
  rx : List Bool := []
  /-- an abort waits for the chunk boundary (R422 11) -/
  abort : Bool := false
  /-- a stop waits for the chunk boundary (R423 R429 11) -/
  stopping : Bool := false
  /-- chain number of each entry (model's own) (R415 11) -/
  tags : Vector Nat 16 := Vector.replicate 16 0
  /-- chain number of the next submission (model's own) (R415 11) -/
  nextChain : Nat := 0
  /-- radio frame bytes a TXDATA step sends (R436 12) -/
  radioTx : List (BitVec 8) := []
  /-- select whose revoked claim becomes free at the release (R418 11) -/
  freeClaim : Option Nat := none
  /-- an uncorrectable word was read; the running entry stops at the chunk boundary (R420 11) -/
  fault : Bool := false
  /-- bits driven on MMOSI by the running entry, in time order (R404 R405 11) -/
  sent : List Bool := []
  deriving DecidableEq, Repr, Inhabited

/-- An open listen window (R452). -/
structure Poll where
  /-- tag address (R452 12) -/
  addr : Nat := 0
  /-- core tick t_p (R452 12) -/
  tp : Nat := 0
  /-- an answer has begun (R453 12) -/
  answered : Bool := false
  deriving DecidableEq, Repr, Inhabited

/-- A budget account: 33 bins, newest first (R458). -/
structure Bin where
  /-- charges in microseconds, at most 33 (R458 12) -/
  bins : List Nat := []
  deriving DecidableEq, Repr, Inhabited

/-- A radio frame to be sent or read (R443). -/
structure RadioFrame where
  /-- header and payload (R443 12) -/
  bytes : List (BitVec 8) := []
  /-- 0 device frame, 1 tenant frame, 2 wake-up call (R458 12) -/
  kind : Nat := 0
  /-- tenant charged (R458 12) -/
  tenant : Nat := 0
  /-- RC_TXQ entry of an answer or call (R454 12) -/
  entry : Nat := 0
  deriving DecidableEq, Repr, Inhabited

/-- Radio coordinator (chapter 12). -/
structure Rc where
  /-- hop slot number (R439 12) -/
  slot : BitVec 32 := 0
  /-- channel in use (R440 12) -/
  chan : Nat := 0
  /-- hop entry of the channel in use (R440 12) -/
  hopEnt : Nat := 0
  /-- an exchange is in progress (R442 12) -/
  exchange : Bool := false
  /-- script that runs (R435 12) -/
  script : Option Nat := none
  /-- its step (R436 12) -/
  step : Nat := 0
  /-- script last run (R433 12) -/
  lastScript : Nat := 0
  /-- LAST_RXD (R436 12) -/
  lastRxd : BitVec 32 := 0
  /-- 0 not waiting, 1 transfer, 2 RF_IRQ, 3 delay, 4 reset wait (R436 12) -/
  waiting : Nat := 0
  /-- consecutive INIT failures (R437 12) -/
  initFails : Nat := 0
  /-- stage of a transceiver reset, 0 none (R437 12) -/
  rst : Nat := 0
  /-- level of RF_RST_N (R432 12) -/
  rstN : Bool := false
  /-- RF_IRQ asserted (R433 12) -/
  irq : Bool := false
  /-- tick count of the last SFD edge (R434 12) -/
  sfdTick : BitVec 32 := 0
  /-- Geyser stamp of it (R434 12) -/
  sfdStamp : Nat := 0
  /-- SFD_OFS for the next beacon (R443 12) -/
  sfdOfs : Nat := 0
  /-- BEACON count (R443 12) -/
  bcnSeq : BitVec 8 := 0
  /-- the slot's beacon has not begun (R441 12) -/
  beaconDue : Bool := false
  /-- frame loaded or being sent (R435 12) -/
  loaded : Option RadioFrame := none
  /-- core tick at which the transmission began (R457 12) -/
  txSince : Nat := 0
  /-- core tick at which JOIN_OPEN clears (R446 12) -/
  joinUntil : Option Nat := none
  /-- open listen windows (R452 12) -/
  polls : List Poll := []
  /-- queued RC_TXQ entries in submission order (R451 12) -/
  order : List Nat := []
  /-- entry that holds the staging frame (R452 12) -/
  granted : Option Nat := none
  /-- staging words committed since the grant (R452 12) -/
  filled : Nat := 0
  /-- D of the granted request (R452 12) -/
  deadline : Nat := 0
  /-- entry whose answer awaits the tag's ACK (R454 12) -/
  ackWait : Option Nat := none
  /-- destination and SEQ of an ACK owed (R450 12) -/
  ackDue : Option (Nat × Nat) := none
  /-- pair whose JOIN_RSP is owed (R445 12) -/
  joinDue : Option Nat := none
  /-- WAKE requests whose call is not yet sent (R456 12) -/
  callDue : List Nat := []
  /-- SEQ of each request (R454 12) -/
  seqs : Vector Nat 8 := Vector.replicate 8 0
  /-- receive frames (R449 12) -/
  bufs : Vector Buf 2 := Vector.replicate 2 {}
  /-- buffer to fill first (R449 12) -/
  nextBuf : Nat := 0
  /-- dwell of each hop entry's channel (R458 12) -/
  dwell : Vector Bin 64 := Vector.replicate 64 {}
  /-- duty of each band (R458 12) -/
  duty : Vector Bin 4 := Vector.replicate 4 {}
  /-- share of tenant t in band b at 4 t + b (R458 12) -/
  share : Vector Bin 256 := Vector.replicate 256 {}
  /-- round-robin deficit of each tenant (R451 12) -/
  deficit : Vector Nat 64 := Vector.replicate 64 0
  /-- NOACK clears at the next slot (R461 12) -/
  noackOff : Bool := false
  /-- committed high-water mark of TX_FC per tag address (R444 R602) -/
  fcMarks : List (Nat × Nat) := []
  /-- hop seed in force (R462 12) -/
  seed : BitVec 32 := 0
  /-- scripts to run after the one that runs (R435 12) -/
  plan : List Nat := []
  /-- core tick at which TX_START may begin (R441 R450 12) -/
  txAt : Nat := 0
  /-- core tick at which a DELAY, a WAITIRQ timeout or a reset stage ends (R436 R437 12) -/
  waitEnd : Nat := 0
  /-- how the chain of the running script ended, until the script takes it up (R437 12) -/
  xferOk : Option Bool := none
  /-- frame read by the last RXDATA (R436 R438 12) -/
  rxBytes : List (BitVec 8) := []
  /-- core tick of the last RF_IRQ assertion (R450 12) -/
  irqTick : Nat := 0
  /-- estimate of the transmission in progress, in microseconds (R457 12) -/
  txEst : Nat := 0
  /-- a transmission awaits its ending RF_IRQ (R457 12) -/
  txBusy : Bool := false
  /-- wake code of the call being sent (R455 12) -/
  wucCode : Nat := 0
  /-- INIT has ended OK since the start (R462 12) -/
  initOk : Bool := false
  /-- start steps begun: 0 none, 1 waiting for INIT (R462 12) -/
  stage : Nat := 0
  /-- core tick at which the hop slot began (R441 12) -/
  slotTick : Nat := 0
  /-- LINE's WATCH has been followed (R460 12) -/
  followed : Bool := false
  /-- core tick until which the tag's ACK is awaited (R454 12) -/
  ackEnd : Nat := 0
  /-- tenant that submitted each request (R476 12) -/
  owner : Vector Nat 8 := Vector.replicate 8 0
  /-- requests whose completion goes to the owner's view, one bit each (R37 01) -/
  toOwner : Nat := 0
  /-- tenant served last (R451 12) -/
  rr : Nat := 0
  /-- a frame has been read and awaits its checks (R433 R447 12) -/
  rxDue : Bool := false
  /-- WAKE requests whose call has been sent (R456 12) -/
  callSent : List Nat := []
  /-- core tick of the RADIO start, to which the bins are aligned (R458 12) -/
  startTick : Nat := 0
  /-- bins turned since the RADIO start: dwell of band b at b, duty and shares of band b at 4 + b (R458 12) -/
  binTurn : Vector Nat 8 := Vector.replicate 8 0
  deriving DecidableEq, Repr, Inhabited

/-- A received cell of a group, as the CMAC covers it (R484). -/
structure CellIn where
  /-- cell bits [183:32] (R484 13) -/
  body : BitVec 152 := 0
  /-- AUTH (R484 13) -/
  auth : BitVec 16 := 0
  /-- NOAUTH (R481 13) -/
  noauth : Bool := false
  deriving DecidableEq, Repr, Inhabited

/-- One optical port (chapter 13). -/
structure Op where
  /-- SEQ of the next cell sent (R481 R502 13) -/
  txSeq : BitVec 8 := 0
  /-- 0 HUNT, 1 PRESYNC, 2 SYNC (R483 13) -/
  rxLock : Nat := 0
  /-- good cells in PRESYNC (R483 13) -/
  good : Nat := 0
  /-- consecutive bad cells in SYNC (R483 13) -/
  badRun : Nat := 0
  /-- cell sent in the last cell slot (R481 13) -/
  out : BitVec 192 := 0
  /-- cells of the group being sent (R484 13) -/
  txGroup : List (BitVec 152) := []
  /-- tag of the previous group (R484 13) -/
  txTag : Option Word := none
  /-- cells of the group being received (R484 13) -/
  rxGroup : List CellIn := []
  /-- cells of the previous group (R486 13) -/
  rxPrev : List CellIn := []
  /-- first failure of the group being received (R486 13) -/
  rxCause : Nat := 0
  /-- that of the previous group (R486 13) -/
  prevCause : Nat := 0
  /-- SEQ of its first cell (R486 13) -/
  rxGseq : BitVec 8 := 0
  /-- transit cell waiting to be sent (R488 13) -/
  transit : Option (BitVec 192) := none
  /-- a TIME cell is due (R492 13) -/
  timeDue : Bool := false
  /-- TIME cell waiting for its group to verify: tick, stamp and group (R493 13) -/
  timeIn : Option (Nat × Nat × Nat) := none
  /-- READY transmit buffers, oldest first (R489 13) -/
  txOrder : List Nat := []
  /-- receive buffers (R491 13) -/
  bufs : Vector Buf 4 := Vector.replicate 4 {}
  /-- core tick from which PERIOD_S counts (R501 13) -/
  alsAt : Nat := 0
  /-- core tick at which the pulse or test ends (R501 13) -/
  pulseEnd : Nat := 0
  /-- laser of the running calibration window (R497 13) -/
  calLaser : Option Nat := none
  /-- laser to which traffic returns (R497 13) -/
  calReturn : Nat := 0
  /-- lasers of commanded windows not yet begun, oldest first (R503 13) -/
  calReq : List Nat := []
  /-- laser of the next scheduled window (R496 13) -/
  calNext : Nat := 0
  /-- the live laser is lit (R494 13) -/
  lit : Bool := false
  /-- AUTH in force for the group being sent (R509 13) -/
  txAuth : Bool := false
  /-- KEY in force for it (R509 13) -/
  txKey : Nat := 0
  /-- AUTH in force for the group being received (R509 13) -/
  rxAuth : Bool := false
  /-- KEY in force for it (R509 13) -/
  rxKey : Nat := 0
  /-- a previous group awaits its tag (R486 13) -/
  prevOn : Bool := false
  /-- cell slot last sent in (R489 13) -/
  lastSlot : Option Nat := none
  /-- stamp at which the running window began (R497 13) -/
  calStart : Nat := 0
  /-- received cells carry CAL (R499 13) -/
  rxCal : Bool := false
  /-- OP_CFG in force while a commit waits for a cell boundary (R509 13) -/
  cfgOld : Option Word := none
  /-- consecutive pilot results of one sign (R499 13) -/
  pilotRun : Nat := 0
  /-- that sign (R499 13) -/
  pilotCand : Nat := 0
  /-- AUTH failures since the last AUTH_FAIL record (R513 13) -/
  authFails : Nat := 0
  /-- core tick of the last AUTH_FAIL record (R513 13) -/
  authLast : Option Nat := none
  /-- operating bias of each laser's last good calibration (R495 13) -/
  calBias : Vector (Option Nat) 2 := Vector.replicate 2 none
  /-- a laser CLEAR has named and no good calibration has returned to use (R495 R503 13) -/
  clearing : Vector Bool 2 := Vector.replicate 2 false
  /-- OP_LASER entry in force while a commit waits for a cell boundary (R509 13) -/
  lasOld : Vector (Option Word) 2 := Vector.replicate 2 none
  /-- SEQ expected of the next cell received (R486 13) -/
  rxNext : Nat := 0
  /-- a group boundary has been met since SYNC (R486 13) -/
  rxTrack : Bool := false
  /-- the TAP has switched the sink off during the running window (R649 17) -/
  calOff : Bool := false
  deriving DecidableEq, Repr, Inhabited

/-- A completed bridge conversion waiting for K4 (R528). -/
structure SfConv where
  /-- channel (R528 14) -/
  ch : Nat := 0
  /-- RAW (R520 14) -/
  raw : BitVec 24 := 0
  /-- REASON (R525 14) -/
  reason : Nat := 0
  /-- TIME_UNLOCKED (R526 14) -/
  unlocked : Bool := false
  /-- stamp (R522 R523 14) -/
  stamp : Nat := 0
  /-- tenant in force at the stamp (R546 14) -/
  tenant : Nat := 0
  /-- VALUE, once K4 has begun (R528 14) -/
  value : BitVec 32 := 0
  /-- TSTALE, once K4 has begun (R529 14) -/
  tstale : Bool := false
  deriving DecidableEq, Repr, Inhabited

/-- A bridge channel (chapter 14). -/
structure SfCh where
  /-- configuration in force, as SF_CFG entry 2 + n (R524 14) -/
  cur : Word := 0
  /-- a change waits for the next conversion boundary (R524 14) -/
  pend : Bool := false
  /-- core tick of its commit (R541 14) -/
  pendAt : Nat := 0
  /-- outputs still invalid for each reason code (R524 R525 14) -/
  left : Vector Nat 9 := Vector.replicate 9 0
  /-- boundary of the last output: its millisecond or its cycle (R522 R523 14) -/
  lastOut : Option Nat := none
  /-- steps of the stamp already taken up by a CYCLE window (R524 14) -/
  jumps : Nat := 0
  /-- excitation applied (R519 14) -/
  excOn : Bool := false
  /-- core tick of the next re-application (R519 14) -/
  retryAt : Option Nat := none
  /-- active coefficient words, six when loaded (R530 14) -/
  coef : List Word := []
  /-- core tick of the waiting LOAD (R542 14) -/
  loadAt : Nat := 0
  /-- published conversions since the EVT_DIV commit (R532 14) -/
  evtCnt : Nat := 0
  /-- core tick at which the next check falls due (R536 14) -/
  due : Option Nat := none
  /-- a check is due and waits (R536 14) -/
  dueNow : Bool := false
  /-- RAW of the last valid conversion (R535 14) -/
  lastRaw : BitVec 24 := 0
  deriving DecidableEq, Repr, Inhabited

/-- Sensor front end (chapter 14). -/
structure Sf where
  /-- channels (R518 14) -/
  ch : Vector SfCh 4 := Vector.replicate 4 {}
  /-- conversions waiting for K4 (R528 14) -/
  batch : List SfConv := []
  /-- batch K4 is working on (R528 14) -/
  inK4 : List SfConv := []
  /-- source the auxiliary converter converts: 0 TEMP, 1 to 4 AUX0 to AUX3 (R527 14) -/
  auxAt : Option Nat := none
  /-- steps of the stamp already taken up by the auxiliary converter (R524 14) -/
  auxJumps : Nat := 0
  /-- its present window began at a step (R524 14) -/
  auxStep : Bool := false
  /-- sources with a valid result since start, one bit each (R529 14) -/
  srcOk : Nat := 0
  /-- latest valid RAW of each source (R529 14) -/
  srcLast : Vector Nat 5 := Vector.replicate 5 0
  /-- sources whose latest result is not valid, one bit each (R529 14) -/
  srcStale : Nat := 0
  /-- channel under check (R533 14) -/
  check : Option Nat := none
  /-- channel of a commanded check not yet begun (R540 14) -/
  checkReq : Option Nat := none
  /-- stamp at which the check began (R533 14) -/
  checkAt : Nat := 0
  /-- half-cycles of the check for which K5 has reported (R533 14) -/
  half : Nat := 0
  /-- sum of I of each stage (R534 14) -/
  lockI : Vector Int 6 := Vector.replicate 6 0
  /-- sum of Q of each stage (R534 14) -/
  lockQ : Vector Int 6 := Vector.replicate 6 0
  /-- low-rate excitation on (R538 14) -/
  lrOn : Bool := false
  /-- core tick of the last valid sample published by each channel and AUX input (R554 15) -/
  validAt : Vector (Option Nat) 8 := Vector.replicate 8 none
  /-- VALUE of it (R554 15) -/
  validVal : Vector (BitVec 32) 8 := Vector.replicate 8 0
  deriving DecidableEq, Repr, Inhabited

/-- Current loop (chapter 15). -/
structure Lp where
  /-- drive on (R562 R563 15) -/
  drive : Bool := false
  /-- updates still governed by a start or stop step (R563 15) -/
  phase : Nat := 0
  /-- target code (R553 15) -/
  target : Nat := 0
  /-- core tick from which HOLD_MS counts when no sample has been published since (R554 15) -/
  since : Nat := 0
  /-- target of the last valid sample (R554 15) -/
  validCode : Nat := 9830
  /-- core tick at which the shortfall timer started (R558 15) -/
  shortAt : Option Nat := none
  /-- core tick at which the recovery timer started (R558 15) -/
  recAt : Option Nat := none
  /-- I_MEAS and V_H of the previous update (R557 15) -/
  prev : Option (Nat × Nat) := none
  /-- R_EST (R557 15) -/
  r : Nat := 0
  /-- half-cycle of the last update (R555 15) -/
  lastUpd : Option Nat := none
  deriving DecidableEq, Repr, Inhabited

/-- Power governor and Ember (chapter 16). -/
structure Pw where
  /-- governor level 0 GREEN to 3 BLACK (R590 R617 16) -/
  level : Nat := 2
  /-- PFAIL_N low (R617 16) -/
  pfail : Bool := false
  /-- CAPPED (R592 R617 16) -/
  capped : Bool := false
  /-- HOT (R592 R617 16) -/
  hot : Bool := false
  /-- FLOOR (R594 R617 16) -/
  floor : Nat := 0
  /-- HOLD_OK (R617 16) -/
  holdOk : Bool := false
  /-- shedding steps in force, 0 to 6 (R593 16) -/
  steps : Nat := 0
  /-- consecutive means below F_AMBER (R590 16) -/
  amberRun : Nat := 0
  /-- consecutive samples below H_BLACK (R590 16) -/
  blackRun : Nat := 0
  /-- core tick since which every rise condition holds (R591 16) -/
  riseAt : Option Nat := none
  /-- core tick of the last fall to RED (R603 16) -/
  redAt : Nat := 0
  /-- its cause (R603 16) -/
  redCause : Nat := 0
  /-- the first level has been set (R591 16) -/
  firstLevel : Bool := false
  /-- EMB_PWREN (R587 16) -/
  pwren : Bool := true
  /-- PW_EMBER commits on their way to the AON domain, oldest first: core tick of the commit, entry and content (R586 R614 16) -/
  emberNew : List (Nat × Nat × Word) := []
  /-- debounced level of DOOR (R585 16) -/
  doorRaw : Bool := false
  /-- carry-over seed; no path reads it out (R382 R584) -/
  seed : Word := 0
  /-- core tick at which SECONDS and FRAC stood as PW_EMBER holds them (model's own) (R585 16) -/
  rtcAt : Nat := 0
  /-- the alarm has fired in the present SECONDS (R585 16) -/
  alarmDone : Bool := false
  /-- a wake source has raised EMB_PWREN again (R587 R613 16) -/
  woke : Bool := false
  /-- the last mean of FEED_V is below its rise threshold (R591 16) -/
  feedLow : Bool := false
  deriving DecidableEq, Repr, Inhabited

/-- A Sinter transaction (R599, R604). -/
structure SnTxn where
  /-- queue entry 1 to 4; 0 for a device transaction (R601 16) -/
  who : Nat := 0
  /-- 1 WRITE, 2 READ, 3 DELETE (R599 16) -/
  kind : Nat := 0
  /-- RTYPE (R598 16) -/
  rtype : Nat := 0
  /-- TENANT (R598 16) -/
  tenant : Nat := 0
  /-- KEY (R598 16) -/
  key : Nat := 0
  /-- payload (R598 16) -/
  words : List Word := []
  /-- slot command it completes (R359 10) -/
  slot : Option Nat := none
  /-- head at which it is written (R599 16) -/
  pos : Nat := 0
  /-- SEQ (R599 16) -/
  seq : BitVec 32 := 0
  /-- core tick at which it began (R599 16) -/
  begun : Nat := 0
  deriving DecidableEq, Repr, Inhabited

/-- The Sinter store's working state (chapter 16). -/
structure Sn where
  /-- the scan has run (R600 16) -/
  scanned : Bool := false
  /-- head (R600 16) -/
  head : Nat := 0
  /-- next SEQ (R600 16) -/
  nextSeq : BitVec 32 := 0
  /-- transaction in progress (R601 16) -/
  running : Option SnTxn := none
  /-- device transactions waiting (R601 16) -/
  device : List SnTxn := []
  /-- queued host entries in submission order (R601 16) -/
  order : List Nat := []
  /-- COMPACTING (R605 16) -/
  compacting : Bool := false
  /-- submitter of queue entries 1 to 4 (R604 R620 16) -/
  owner : Vector Nat 5 := Vector.replicate 5 0
  /-- the SCAN record waits for READY (R600 16) -/
  scanDue : Bool := false
  /-- live records the scan found (PAYLOAD of SCAN) (R600 16) -/
  scanLive : Nat := 0
  /-- words corrected by the scan (R600 16) -/
  corrected : Nat := 0
  /-- WEAR (R605 16) -/
  wear : Bool := false
  deriving DecidableEq, Repr, Inhabited

/-- An event granted lately: its source, its reference and the core tick of the grant (spec/03_units_events.md R102). -/
structure Granted where
  src : Src
  ref : Nat
  tick : Nat
  deriving DecidableEq, Repr, Inhabited

/-- The machine. -/
structure State where
  /-- the commands waiting, first in, first out -/
  pending : List Instr
  /-- core ticks since reset (spec/02_host_access.md R42) -/
  tick : Nat
  /-- free values drawn so far: the model's own counter (notes/assumptions/2.md) -/
  free : Nat
  /-- window-table words that have changed, by 4,096 times the table's ID plus the entry (spec/02_host_access.md R56) -/
  cells : List (Nat × Cell)
  /-- the Sinter array: the words that are not unwritten, by word address (spec/16_power_start_sinter.md R597) -/
  nv : List (Nat × Word)
  /-- host port 0 (spec/02_host_access.md R38) -/
  port0 : Port
  /-- host port 1 (spec/02_host_access.md R38) -/
  port1 : Port
  /-- Tuichex frame state of port 1 (spec/02_host_access.md R46) -/
  tux : Tuichex
  /-- registers with one value per tenant (spec/02_host_access.md R38) -/
  tsel : Vector TenantSel 64
  /-- tenant event views (spec/03_units_events.md R92) -/
  views : Vector View 64
  /-- events raised and not granted, by source code less 1 (spec/03_units_events.md R89) -/
  src : Vector EvSrc 15
  /-- the events granted in the last 48 core ticks, newest first (spec/03_units_events.md R102) -/
  granted : List Granted
  /-- unit state mirrors, by unit code less 1 (spec/03_units_events.md R85) -/
  units : Vector Mirror 13
  /-- start-up, watchdog and pins -/
  dev : Dev
  /-- Geyser -/
  gy : Gy
  /-- line signal and access -/
  ln : Ln
  /-- learning -/
  ll : Ll
  /-- Caldera -/
  cj : Cj
  /-- Obsidian -/
  ob : Ob
  /-- RNG -/
  rng : Rng
  /-- master serial port -/
  ms : Ms
  /-- radio coordinator -/
  rc : Rc
  /-- optical port 1 -/
  op1 : Op
  /-- optical port 2 -/
  op2 : Op
  /-- sensor front end -/
  sf : Sf
  /-- current loop -/
  lp : Lp
  /-- power governor and Ember -/
  pw : Pw
  /-- Sinter store -/
  sn : Sn
  deriving DecidableEq, Repr, Inhabited

/-- The machine at the release of power-on reset: every register at the value its field map gives (an unlisted cell
reads its reset word), nothing in progress, no command waiting (notes/assumptions/3.md, 4.md and 6.md). -/
def State.reset : State where
  pending := []
  tick := 0
  free := 0
  cells := []
  nv := []
  port0 := {}
  port1 := {}
  tux := {}
  tsel := Vector.replicate 64 {}
  views := vset (Vector.replicate 64 {}) 0 { en := 0x1C }
  src := Vector.replicate 15 {}
  granted := []
  units := vset (vset (vset (Vector.replicate 13 {}) 0 { sub := 3 }) 3 { sub := 1 }) 8 { sub := 2 }
  dev := {}
  gy := {}
  ln := {}
  ll := {}
  cj := {}
  ob := {}
  rng := {}
  ms := {}
  rc := {}
  op1 := {}
  op2 := {}
  sf := {}
  lp := {}
  pw := {}
  sn := {}

end Sys2Proof.Machine
end

