-- ==== Sys2Proof/Machine/FieldMap.lean ====
section
/-! DEFINITION. The field maps of the window tables, written from each chapter's tables of record: where each field
stands, whether a commit reaches it, and its reset value. -/

namespace Sys2Proof.Machine

open Sys2Proof

/-- A field of a window table: the table, its lowest bit and width, whether a commit writes it (access code WC), and its
reset value (spec/00_scope.md R15). -/
structure Fld where
  tab : Nat
  lo : Nat
  w : Nat
  wc : Bool
  rst : Nat

/-- Table identifiers (spec/18_register_index.md R652). -/
def T_DEVINFO : Nat := 0x00
def T_TENANTS : Nat := 0x01
def T_CLAIMS : Nat := 0x02
def T_EVLOG : Nat := 0x03
def T_EVSUB : Nat := 0x04
def T_PW_GOV : Nat := 0x05
def T_PW_EMBER : Nat := 0x06
def T_PW_SINTER : Nat := 0x07
def T_GY_CFG : Nat := 0x08
def T_GY_REFS : Nat := 0x09
def T_ASCHED : Nat := 0x0A
def T_GY_CMP : Nat := 0x0B
def T_LS_CFG : Nat := 0x10
def T_TONESETS : Nat := 0x11
def T_LS_MAPS : Nat := 0x12
def T_LS_RXSTAT : Nat := 0x13
def T_LA_CFG : Nat := 0x14
def T_LA_NBR : Nat := 0x15
def T_LA_TENANT : Nat := 0x16
def T_LA_TXQ : Nat := 0x17
def T_LA_STAGE : Nat := 0x18
def T_LA_RX : Nat := 0x19
def T_LA_STAT : Nat := 0x1A
def T_LA_DORM : Nat := 0x1B
def T_LL_CFG : Nat := 0x1C
def T_LL_NOISE : Nat := 0x1D
def T_LL_SLOT : Nat := 0x1E
def T_LL_MAPS : Nat := 0x1F
def T_CJ_CFG : Nat := 0x20
def T_CJ_Q : Nat := 0x21
def T_CJ_QSTAT : Nat := 0x22
def T_CJ_TENANT : Nat := 0x23
def T_CJ_PAGE : Nat := 0x24
def T_CJ_MEM : Nat := 0x25
def T_CJ_KERN : Nat := 0x26
def T_CJ_STAT : Nat := 0x27
def T_OB_CFG : Nat := 0x28
def T_OB_SLOT : Nat := 0x29
def T_OB_KEYIN : Nat := 0x2A
def T_OB_Q : Nat := 0x2B
def T_OB_DATA : Nat := 0x2C
def T_OB_TENANT : Nat := 0x2D
def T_RNG_CFG : Nat := 0x2E
def T_RC_CFG : Nat := 0x30
def T_RC_SCRIPT : Nat := 0x31
def T_RC_HOP : Nat := 0x32
def T_RC_BAND : Nat := 0x33
def T_RC_TAG : Nat := 0x34
def T_RC_TXQ : Nat := 0x35
def T_RC_FRAME : Nat := 0x36
def T_RC_TENANT : Nat := 0x37
def T_OP_CFG : Nat := 0x38
def T_OP_LASER : Nat := 0x39
def T_OP_STAT : Nat := 0x3A
def T_OP_CELL : Nat := 0x3B
def T_SF_CFG : Nat := 0x3C
def T_SF_RES : Nat := 0x3D
def T_LP : Nat := 0x3E
def T_MS : Nat := 0x3F

/-- The number of entries of a table, 0 for an ID that names none (spec/18_register_index.md R652). -/
def tableSize : Nat → Nat
  | 0x00 => 1
  | 0x01 => 64
  | 0x02 => 64
  | 0x03 => 4096
  | 0x04 => 65
  | 0x05 => 2
  | 0x06 => 6
  | 0x07 => 70
  | 0x08 => 1
  | 0x09 => 6
  | 0x0A => 64
  | 0x0B => 16
  | 0x10 => 1
  | 0x11 => 16
  | 0x12 => 4
  | 0x13 => 3
  | 0x14 => 1
  | 0x15 => 32
  | 0x16 => 64
  | 0x17 => 17
  | 0x18 => 8
  | 0x19 => 18
  | 0x1A => 1
  | 0x1B => 1
  | 0x1C => 2
  | 0x1D => 3072
  | 0x1E => 144
  | 0x1F => 165
  | 0x20 => 1
  | 0x21 => 9
  | 0x22 => 9
  | 0x23 => 64
  | 0x24 => 40
  | 0x25 => 4096
  | 0x26 => 5
  | 0x27 => 1
  | 0x28 => 1
  | 0x29 => 272
  | 0x2A => 3
  | 0x2B => 17
  | 0x2C => 120
  | 0x2D => 64
  | 0x2E => 1
  | 0x30 => 2
  | 0x31 => 64
  | 0x32 => 64
  | 0x33 => 4
  | 0x34 => 256
  | 0x35 => 9
  | 0x36 => 26
  | 0x37 => 64
  | 0x38 => 2
  | 0x39 => 4
  | 0x3A => 4
  | 0x3B => 64
  | 0x3C => 40
  | 0x3D => 14
  | 0x3E => 4
  | 0x3F => 49
  | _ => 0

/-- View classes of window tables (spec/02_host_access.md R66, Table HA-6). -/
inductive ViewClass where
  | o | s | p | f
  deriving DecidableEq, Repr

/-- The view class of a table (spec/18_register_index.md R652). -/
def tableClass : Nat → ViewClass
  | 0x06 | 0x27 | 0x2A | 0x31 | 0x3F => .o
  | 0x03 => .p
  | 0x00 | 0x05 | 0x08 | 0x09 | 0x10 | 0x11 | 0x12 | 0x13 | 0x14 | 0x15 | 0x1A | 0x1B | 0x1C | 0x1D | 0x1E | 0x1F | 0x20 | 0x26 | 0x28 | 0x2E | 0x30 | 0x32 | 0x33 | 0x38 | 0x39 | 0x3A | 0x3E => .s
  | _ => .f

/-! DEVINFO, entries where True (R80). -/
def F.DEVINFO_UID : Fld := ⟨0x00, 0, 64, false, 0⟩
def F.DEVINFO_DEVID : Fld := ⟨0x00, 64, 16, false, 0x6408⟩
def F.DEVINFO_STEP : Fld := ⟨0x00, 80, 16, false, 0xA1⟩

/-! TENANTS, entries where True (R81). -/
def F.TENANTS_ENABLE : Fld := ⟨0x01, 0, 1, true, 0⟩
def F.TENANTS_BIND_P0 : Fld := ⟨0x01, 1, 1, false, 0⟩
def F.TENANTS_BIND_P1 : Fld := ⟨0x01, 2, 1, false, 0⟩
def F.TENANTS_GEN : Fld := ⟨0x01, 8, 8, false, 0⟩
def F.TENANTS_LABEL : Fld := ⟨0x01, 32, 64, true, 0⟩

/-! CLAIMS, entries where True (R110). -/
def F.CLAIMS_HELD : Fld := ⟨0x02, 0, 1, false, 0⟩
def F.CLAIMS_HOLDER : Fld := ⟨0x02, 8, 8, false, 0⟩
def F.CLAIMS_TENANT : Fld := ⟨0x02, 16, 6, false, 0⟩
def F.CLAIMS_FUNC : Fld := ⟨0x02, 24, 8, false, 0⟩

/-! EVSUB, entries where e < 64 (R112). -/
def F.EVSUB_SUB : Fld := ⟨0x04, 1, 15, true, 0⟩
def F.EVSUB_ALLOW : Fld := ⟨0x04, 17, 15, true, 0⟩
def F.EVSUB_SEV_MIN : Fld := ⟨0x04, 32, 2, true, 0⟩
def F.EVSUB_PEND : Fld := ⟨0x04, 40, 5, false, 0⟩
def F.EVSUB_COUNT : Fld := ⟨0x04, 48, 7, false, 0⟩
def F.EVSUB_LOST : Fld := ⟨0x04, 64, 16, false, 0⟩
def F.EVSUB_NEXT_SEQ : Fld := ⟨0x04, 80, 16, false, 0⟩

/-! EVSUB, entries where e = 64 (R112). -/
def F.EVSUB64_REQ_P0 : Fld := ⟨0x04, 0, 64, false, 0⟩
def F.EVSUB64_REQ_P1 : Fld := ⟨0x04, 64, 64, false, 0⟩

/-! PW_GOV, entries where e = 0 (R618). -/
def F.PW_GOV_F_AMBER : Fld := ⟨0x05, 0, 12, true, 0x708⟩
def F.PW_GOV_F_RED : Fld := ⟨0x05, 12, 12, true, 0x5DC⟩
def F.PW_GOV_F_HYST : Fld := ⟨0x05, 24, 8, true, 0x64⟩
def F.PW_GOV_H_BLACK : Fld := ⟨0x05, 32, 12, true, 0x4B0⟩
def F.PW_GOV_H_OK : Fld := ⟨0x05, 44, 12, true, 0x640⟩
def F.PW_GOV_AMBER_MS : Fld := ⟨0x05, 56, 8, true, 0x14⟩
def F.PW_GOV_RISE_MS : Fld := ⟨0x05, 64, 16, true, 0x1388⟩
def F.PW_GOV_T_CAP : Fld := ⟨0x05, 80, 8, true, 0x5F⟩
def F.PW_GOV_T_HOT : Fld := ⟨0x05, 88, 8, true, 0x76⟩
def F.PW_GOV_PFAIL_EN : Fld := ⟨0x05, 96, 1, true, 1⟩
def F.PW_GOV_FEED_EN : Fld := ⟨0x05, 97, 1, true, 1⟩
def F.PW_GOV_HOLD_EN : Fld := ⟨0x05, 98, 1, true, 1⟩

/-! PW_GOV, entries where e = 1 (R618). -/
def F.PW_GOV_FEED_MV : Fld := ⟨0x05, 0, 12, false, 0⟩
def F.PW_GOV_HOLD_MV : Fld := ⟨0x05, 16, 12, false, 0⟩
def F.PW_GOV_TDIE : Fld := ⟨0x05, 32, 16, false, 0⟩
def F.PW_GOV_FALLS : Fld := ⟨0x05, 64, 16, false, 0⟩
def F.PW_GOV_FEED_MIN : Fld := ⟨0x05, 80, 12, false, 0xFFF⟩

/-! PW_EMBER, entries where e = 0 (R619). -/
def F.PW_EMBER_SECONDS : Fld := ⟨0x06, 0, 32, true, 0⟩
def F.PW_EMBER_FRAC : Fld := ⟨0x06, 32, 15, false, 0⟩
def F.PW_EMBER_ALARM : Fld := ⟨0x06, 64, 32, true, 0⟩
def F.PW_EMBER_ALARM_EN : Fld := ⟨0x06, 96, 1, true, 0⟩
def F.PW_EMBER_WAKE_N_EN : Fld := ⟨0x06, 97, 1, true, 1⟩
def F.PW_EMBER_DOOR_EN : Fld := ⟨0x06, 98, 1, true, 0⟩
def F.PW_EMBER_DOOR_POL : Fld := ⟨0x06, 99, 1, true, 0⟩
def F.PW_EMBER_PWREN_USED : Fld := ⟨0x06, 100, 1, true, 0⟩
def F.PW_EMBER_BLACK_HOLD_S : Fld := ⟨0x06, 104, 8, true, 5⟩

/-! PW_EMBER, entries where e = 1 (R619). -/
def F.PW_EMBER_PUC : Fld := ⟨0x06, 0, 32, false, 0⟩
def F.PW_EMBER_LAST_LEVEL : Fld := ⟨0x06, 32, 2, false, 0⟩
def F.PW_EMBER_EMB_VALID : Fld := ⟨0x06, 34, 1, false, 0⟩
def F.PW_EMBER_X32_FAIL : Fld := ⟨0x06, 35, 1, false, 0⟩
def F.PW_EMBER_LAST_RESET : Fld := ⟨0x06, 36, 3, false, 0⟩
def F.PW_EMBER_WAKE_CAUSE : Fld := ⟨0x06, 40, 3, false, 0⟩
def F.PW_EMBER_DOOR : Fld := ⟨0x06, 43, 1, false, 0⟩

/-! PW_EMBER, entries where 2 ≤ e (R619). -/
def F.PW_EMBER_HOST0_HOST3 : Fld := ⟨0x06, 0, 128, true, 0⟩

/-! PW_SINTER, entries where 1 ≤ e ∧ e ≤ 5 (R620). -/
def F.PW_SINTER_OP : Fld := ⟨0x07, 0, 2, true, 0⟩
def F.PW_SINTER_TYPE : Fld := ⟨0x07, 2, 2, true, 0⟩
def F.PW_SINTER_AHEAD : Fld := ⟨0x07, 4, 4, false, 0⟩
def F.PW_SINTER_RLEN : Fld := ⟨0x07, 8, 8, false, 0⟩
def F.PW_SINTER_KEY : Fld := ⟨0x07, 16, 18, true, 0⟩
def F.PW_SINTER_LEN : Fld := ⟨0x07, 34, 7, true, 0⟩
def F.PW_SINTER_ADDR : Fld := ⟨0x07, 42, 12, true, 0⟩
def F.PW_SINTER_TAG : Fld := ⟨0x07, 56, 24, true, 0⟩
def F.PW_SINTER_OUTCOME : Fld := ⟨0x07, 80, 8, false, 0⟩
def F.PW_SINTER_STATE : Fld := ⟨0x07, 88, 3, false, 0⟩
def F.PW_SINTER_CMD : Fld := ⟨0x07, 91, 2, true, 0⟩
def F.PW_SINTER_QIDX : Fld := ⟨0x07, 93, 3, false, 0⟩
def F.PW_SINTER_SEQ : Fld := ⟨0x07, 96, 32, false, 0⟩

/-! PW_SINTER, entries where e = 0 (R620). -/
def F.SN_STAT_FREE : Fld := ⟨0x07, 0, 16, false, 0⟩
def F.SN_STAT_LIVE_WORDS : Fld := ⟨0x07, 16, 16, false, 0⟩
def F.SN_STAT_LIVE_RECS : Fld := ⟨0x07, 32, 16, false, 0⟩
def F.SN_STAT_NEXT_SEQ : Fld := ⟨0x07, 48, 32, false, 0⟩
def F.SN_STAT_LAPS : Fld := ⟨0x07, 80, 32, false, 0⟩
def F.SN_STAT_IGNORED : Fld := ⟨0x07, 112, 8, false, 0⟩
def F.SN_STAT_IMG_REFUSED : Fld := ⟨0x07, 120, 4, false, 0⟩

/-! PW_SINTER, entries where 6 ≤ e (R620). -/
def F.SN_QUOTA_QUOTA : Fld := ⟨0x07, 0, 16, true, 0⟩
def F.SN_QUOTA_USED : Fld := ⟨0x07, 16, 16, false, 0⟩

/-! GY_CFG, entries where True (R153). -/
def F.GY_CFG_NOMINAL : Fld := ⟨0x08, 0, 1, true, 0⟩
def F.GY_CFG_OWN_IN : Fld := ⟨0x08, 1, 2, true, 1⟩
def F.GY_CFG_REALIGN_EN : Fld := ⟨0x08, 3, 1, true, 1⟩
def F.GY_CFG_OPT1_USE : Fld := ⟨0x08, 4, 1, true, 0⟩
def F.GY_CFG_OPT2_USE : Fld := ⟨0x08, 5, 1, true, 0⟩
def F.GY_CFG_NET_USE : Fld := ⟨0x08, 6, 1, true, 1⟩
def F.GY_CFG_OFS_MODE : Fld := ⟨0x08, 7, 1, true, 0⟩
def F.GY_CFG_SLEW_PPM : Fld := ⟨0x08, 16, 10, true, 0x3E8⟩
def F.GY_CFG_HOLD_MAX : Fld := ⟨0x08, 32, 16, true, 0x3A98⟩
def F.GY_CFG_ACQ_MAX : Fld := ⟨0x08, 48, 16, true, 0xFA⟩
def F.GY_CFG_LOCK_WIN : Fld := ⟨0x08, 64, 8, true, 0x40⟩
def F.GY_CFG_TAU : Fld := ⟨0x08, 72, 8, true, 0x10⟩
def F.GY_CFG_UNLOCK_WIN : Fld := ⟨0x08, 80, 12, true, 0x200⟩
def F.GY_CFG_REALIGN_THR : Fld := ⟨0x08, 96, 12, true, 0x800⟩
def F.GY_CFG_GRID_OFFSET : Fld := ⟨0x08, 112, 11, true, 0⟩

/-! GY_REFS, entries where True (R154). -/
def F.GY_REFS_EDGE : Fld := ⟨0x09, 0, 1, true, 0⟩
def F.GY_REFS_DEB : Fld := ⟨0x09, 8, 8, true, 0⟩
def F.GY_REFS_OFFSET : Fld := ⟨0x09, 16, 16, true, 0⟩
def F.GY_REFS_QSTATE : Fld := ⟨0x09, 32, 2, false, 0⟩
def F.GY_REFS_OFS_VALID : Fld := ⟨0x09, 34, 1, false, 0⟩
def F.GY_REFS_GOOD : Fld := ⟨0x09, 40, 8, false, 0⟩
def F.GY_REFS_BAD : Fld := ⟨0x09, 48, 2, false, 0⟩
def F.GY_REFS_PHASE_ID : Fld := ⟨0x09, 50, 2, false, 0⟩
def F.GY_REFS_SPUR : Fld := ⟨0x09, 52, 12, false, 0⟩
def F.GY_REFS_FREQ : Fld := ⟨0x09, 64, 16, false, 0⟩
def F.GY_REFS_LAST_ERR : Fld := ⟨0x09, 80, 16, false, 0⟩
def F.GY_REFS_LAST_CYCLE : Fld := ⟨0x09, 96, 32, false, 0⟩

/-! ASCHED, entries where True (R155). -/
def F.ASCHED_VALID : Fld := ⟨0x0A, 0, 1, true, 0⟩
def F.ASCHED_OWNER : Fld := ⟨0x0A, 8, 8, false, 0⟩
def F.ASCHED_KIND : Fld := ⟨0x0A, 16, 4, false, 0⟩
def F.ASCHED_KERN : Fld := ⟨0x0A, 20, 4, false, 0⟩
def F.ASCHED_START : Fld := ⟨0x0A, 32, 16, true, 0⟩
def F.ASCHED_LEN : Fld := ⟨0x0A, 48, 16, true, 0⟩
def F.ASCHED_PERIOD : Fld := ⟨0x0A, 64, 2, true, 0⟩
def F.ASCHED_K : Fld := ⟨0x0A, 72, 5, true, 0⟩
def F.ASCHED_PHASE : Fld := ⟨0x0A, 80, 32, true, 0⟩

/-! GY_CMP, entries where True (R156). -/
def F.GY_CMP_MODE : Fld := ⟨0x0B, 0, 2, true, 0⟩
def F.GY_CMP_PIN : Fld := ⟨0x0B, 2, 1, true, 0⟩
def F.GY_CMP_EVT : Fld := ⟨0x0B, 3, 1, true, 0⟩
def F.GY_CMP_PW : Fld := ⟨0x0B, 8, 8, true, 0⟩
def F.GY_CMP_ANGLE : Fld := ⟨0x0B, 16, 16, true, 0⟩
def F.GY_CMP_CYCLE : Fld := ⟨0x0B, 32, 32, true, 0⟩
def F.GY_CMP_FIRED : Fld := ⟨0x0B, 64, 1, false, 0⟩
def F.GY_CMP_STEPPED : Fld := ⟨0x0B, 65, 1, false, 0⟩
def F.GY_CMP_COUNT : Fld := ⟨0x0B, 80, 16, false, 0⟩

/-! LS_CFG, entries where True (R190). -/
def F.LS_CFG_PROFILE : Fld := ⟨0x10, 0, 2, true, 1⟩
def F.LS_CFG_TXMODE : Fld := ⟨0x10, 2, 2, true, 1⟩
def F.LS_CFG_TXPHASE : Fld := ⟨0x10, 4, 2, true, 1⟩
def F.LS_CFG_LEVEL : Fld := ⟨0x10, 8, 5, true, 6⟩
def F.LS_CFG_DITHER : Fld := ⟨0x10, 16, 9, true, 0⟩
def F.LS_CFG_DITHER_AUTO : Fld := ⟨0x10, 25, 1, true, 1⟩
def F.LS_CFG_PH_EN : Fld := ⟨0x10, 32, 3, true, 7⟩
def F.LS_CFG_AGC_EN : Fld := ⟨0x10, 35, 1, true, 1⟩
def F.LS_CFG_GAIN1 : Fld := ⟨0x10, 36, 3, true, 0⟩
def F.LS_CFG_GAIN2 : Fld := ⟨0x10, 40, 3, true, 0⟩
def F.LS_CFG_GAIN3 : Fld := ⟨0x10, 44, 3, true, 0⟩
def F.LS_CFG_CHK_ERR : Fld := ⟨0x10, 64, 8, false, 0⟩
def F.LS_CFG_COMMON_PEND : Fld := ⟨0x10, 72, 1, false, 0⟩
def F.LS_CFG_OWN_PEND : Fld := ⟨0x10, 73, 1, false, 0⟩

/-! TONESETS, entries where True (R191). -/
def F.TONESETS_POS0 : Fld := ⟨0x11, 0, 8, true, 0⟩
def F.TONESETS_POS1 : Fld := ⟨0x11, 8, 8, true, 0⟩
def F.TONESETS_POS2 : Fld := ⟨0x11, 16, 8, true, 0⟩
def F.TONESETS_POS3 : Fld := ⟨0x11, 24, 8, true, 0⟩
def F.TONESETS_POS4 : Fld := ⟨0x11, 32, 8, true, 0⟩
def F.TONESETS_POS5 : Fld := ⟨0x11, 40, 8, true, 0⟩
def F.TONESETS_POS6 : Fld := ⟨0x11, 48, 8, true, 0⟩
def F.TONESETS_POS7 : Fld := ⟨0x11, 56, 8, true, 0⟩
def F.TONESETS_POS8 : Fld := ⟨0x11, 64, 8, true, 0⟩
def F.TONESETS_POS9 : Fld := ⟨0x11, 72, 8, true, 0⟩
def F.TONESETS_POS10 : Fld := ⟨0x11, 80, 8, true, 0⟩
def F.TONESETS_POS11 : Fld := ⟨0x11, 88, 8, true, 0⟩
def F.TONESETS_POS12 : Fld := ⟨0x11, 96, 8, true, 0⟩
def F.TONESETS_POS13 : Fld := ⟨0x11, 104, 8, true, 0⟩
def F.TONESETS_POS14 : Fld := ⟨0x11, 112, 8, true, 0⟩
def F.TONESETS_POS15 : Fld := ⟨0x11, 120, 8, true, 0⟩

/-! LS_MAPS, entries where True (R192). -/
def F.LS_MAPS_WORD : Fld := ⟨0x12, 0, 128, true, 0⟩

/-! LS_RXSTAT, entries where True (R193). -/
def F.LS_RXSTAT_GAIN : Fld := ⟨0x13, 0, 3, false, 0⟩
def F.LS_RXSTAT_CLIPPING : Fld := ⟨0x13, 3, 1, false, 0⟩
def F.LS_RXSTAT_STEPS : Fld := ⟨0x13, 16, 16, false, 0⟩
def F.LS_RXSTAT_CLIPS : Fld := ⟨0x13, 32, 16, false, 0⟩
def F.LS_RXSTAT_REDUCED : Fld := ⟨0x13, 48, 16, false, 0⟩
def F.LS_RXSTAT_PEAK : Fld := ⟨0x13, 64, 14, false, 0⟩
def F.LS_RXSTAT_BLANKED : Fld := ⟨0x13, 80, 16, false, 0⟩
def F.LS_RXSTAT_LAST_CYCLE : Fld := ⟨0x13, 96, 32, false, 0⟩

/-! LA_CFG, entries where True (R238). -/
def F.LA_CFG_DOMAIN_ID : Fld := ⟨0x14, 0, 16, true, 0⟩
def F.LA_CFG_ADDR : Fld := ⟨0x14, 16, 8, true, 0⟩
def F.LA_CFG_ROLE : Fld := ⟨0x14, 24, 2, true, 0⟩
def F.LA_CFG_TIER : Fld := ⟨0x14, 26, 2, true, 1⟩
def F.LA_CFG_DOM_TIERS : Fld := ⟨0x14, 28, 2, true, 0⟩
def F.LA_CFG_ACC_TONE0 : Fld := ⟨0x14, 32, 8, true, 0⟩
def F.LA_CFG_ACC_TONE1 : Fld := ⟨0x14, 40, 8, true, 0⟩
def F.LA_CFG_ACC_TONE2 : Fld := ⟨0x14, 48, 8, true, 0⟩
def F.LA_CFG_ACC_TONE3 : Fld := ⟨0x14, 56, 8, true, 0⟩
def F.LA_CFG_WAKE_IDX : Fld := ⟨0x14, 64, 8, true, 0⟩
def F.LA_CFG_RETRY_MAX : Fld := ⟨0x14, 72, 4, true, 4⟩
def F.LA_CFG_GRANT_LEAD : Fld := ⟨0x14, 76, 4, true, 3⟩
def F.LA_CFG_ACC_THR : Fld := ⟨0x14, 80, 8, true, 0xC⟩
def F.LA_CFG_ALARM_CREDIT : Fld := ⟨0x14, 88, 8, true, 0x3C⟩
def F.LA_CFG_WATCH_PH : Fld := ⟨0x14, 96, 2, true, 1⟩

/-! LA_NBR, entries where True (R239). -/
def F.LA_NBR_ADDR : Fld := ⟨0x15, 0, 8, true, 0⟩
def F.LA_NBR_PHASE : Fld := ⟨0x15, 8, 2, true, 0⟩
def F.LA_NBR_PIN : Fld := ⟨0x15, 10, 1, true, 0⟩
def F.LA_NBR_LQ : Fld := ⟨0x15, 16, 8, false, 0⟩
def F.LA_NBR_MAPVER : Fld := ⟨0x15, 24, 8, false, 0⟩
def F.LA_NBR_RX_FC : Fld := ⟨0x15, 32, 32, false, 0⟩
def F.LA_NBR_LAST_CYCLE : Fld := ⟨0x15, 64, 32, false, 0⟩
def F.LA_NBR_LAST_SEQ : Fld := ⟨0x15, 96, 4, false, 0⟩
def F.LA_NBR_SEQ_VALID : Fld := ⟨0x15, 100, 1, false, 0⟩

/-! LA_TENANT, entries where True (R240). -/
def F.LA_TENANT_WEIGHT : Fld := ⟨0x16, 0, 8, true, 1⟩
def F.LA_TENANT_QLIM : Fld := ⟨0x16, 8, 4, true, 4⟩
def F.LA_TENANT_LKEY : Fld := ⟨0x16, 12, 2, true, 0⟩
def F.LA_TENANT_BKT_MAX : Fld := ⟨0x16, 16, 16, true, 0⟩
def F.LA_TENANT_REFILL : Fld := ⟨0x16, 32, 16, true, 0⟩
def F.LA_TENANT_LEVEL : Fld := ⟨0x16, 48, 16, false, 0⟩
def F.LA_TENANT_QUEUED : Fld := ⟨0x16, 64, 4, false, 0⟩

/-! LA_TXQ, entries where True (R241). -/
def F.LA_TXQ_DST : Fld := ⟨0x17, 0, 8, true, 0⟩
def F.LA_TXQ_CLASS : Fld := ⟨0x17, 8, 2, true, 0⟩
def F.LA_TXQ_TIERS : Fld := ⟨0x17, 10, 2, true, 0⟩
def F.LA_TXQ_MAPSEL : Fld := ⟨0x17, 12, 1, true, 0⟩
def F.LA_TXQ_LEN : Fld := ⟨0x17, 13, 3, true, 0⟩
def F.LA_TXQ_ACKREQ : Fld := ⟨0x17, 16, 1, true, 0⟩
def F.LA_TXQ_SECURE : Fld := ⟨0x17, 17, 1, true, 0⟩
def F.LA_TXQ_TAG : Fld := ⟨0x17, 24, 24, true, 0⟩
def F.LA_TXQ_OUTCOME : Fld := ⟨0x17, 48, 8, false, 0⟩
def F.LA_TXQ_STATE : Fld := ⟨0x17, 56, 3, false, 0⟩
def F.LA_TXQ_CMD : Fld := ⟨0x17, 60, 1, true, 0⟩
def F.LA_TXQ_AHEAD : Fld := ⟨0x17, 64, 4, false, 0⟩
def F.LA_TXQ_ATTEMPTS : Fld := ⟨0x17, 68, 4, false, 0⟩
def F.LA_TXQ_SEQ : Fld := ⟨0x17, 72, 4, false, 0⟩
def F.LA_TXQ_QIDX : Fld := ⟨0x17, 76, 4, false, 0⟩
def F.LA_TXQ_H_CYCLE : Fld := ⟨0x17, 80, 32, false, 0⟩
def F.LA_TXQ_H_HALF : Fld := ⟨0x17, 112, 1, false, 0⟩
def F.LA_TXQ_WAIT : Fld := ⟨0x17, 113, 15, false, 0⟩

/-! LA_STAGE, entries where True (R242). -/
def F.LA_STAGE_WORD : Fld := ⟨0x18, 0, 128, true, 0⟩

/-! LA_RX, entries where e % 9 = 0 (R243). -/
def F.LA_RX_HEADER : Fld := ⟨0x19, 0, 48, false, 0⟩
def F.LA_RX_RELEASE : Fld := ⟨0x19, 48, 1, true, 0⟩
def F.LA_RX_CYCLE : Fld := ⟨0x19, 64, 32, false, 0⟩
def F.LA_RX_ANGLE : Fld := ⟨0x19, 96, 16, false, 0⟩
def F.LA_RX_COPY : Fld := ⟨0x19, 112, 4, false, 0⟩

/-! LA_RX, entries where e % 9 ≠ 0 (R243). -/
def F.LA_RX_WORD : Fld := ⟨0x19, 0, 128, false, 0⟩

/-! LA_STAT, entries where True (R244). -/
def F.LA_STAT_TEC : Fld := ⟨0x1A, 0, 9, false, 0⟩
def F.LA_STAT_REC : Fld := ⟨0x1A, 16, 8, false, 0⟩
def F.LA_STAT_CONF : Fld := ⟨0x1A, 24, 2, false, 0⟩
def F.LA_STAT_TX_FC : Fld := ⟨0x1A, 32, 32, false, 0⟩
def F.LA_STAT_HDR_BAD : Fld := ⟨0x1A, 64, 16, false, 0⟩
def F.LA_STAT_TAG_MISS : Fld := ⟨0x1A, 80, 16, false, 0⟩
def F.LA_STAT_UNACKED : Fld := ⟨0x1A, 96, 16, false, 0⟩
def F.LA_STAT_CREDIT_S : Fld := ⟨0x1A, 112, 16, false, 0⟩

/-! LA_DORM, entries where True (R245). -/
def F.LA_DORM_DSTATE : Fld := ⟨0x1B, 0, 2, false, 0⟩
def F.LA_DORM_COMMIT_HALF : Fld := ⟨0x1B, 2, 1, false, 0⟩
def F.LA_DORM_PROPOSER : Fld := ⟨0x1B, 8, 8, false, 0⟩
def F.LA_DORM_COMMIT_CYCLE : Fld := ⟨0x1B, 16, 32, false, 0⟩
def F.LA_DORM_WAKES : Fld := ⟨0x1B, 48, 16, false, 0⟩

/-! LL_CFG, entries where e = 0 (R270). -/
def F.LL_CFG_AUTO : Fld := ⟨0x1C, 0, 1, true, 1⟩
def F.LL_CFG_KEEP : Fld := ⟨0x1C, 1, 1, true, 0⟩
def F.LL_CFG_SIG_MODE : Fld := ⟨0x1C, 2, 1, true, 0⟩
def F.LL_CFG_ALPHA_SH : Fld := ⟨0x1C, 8, 4, true, 8⟩
def F.LL_CFG_CONF_MIN : Fld := ⟨0x1C, 16, 8, true, 0xC0⟩
def F.LL_CFG_PUB_GAP : Fld := ⟨0x1C, 24, 8, true, 4⟩
def F.LL_CFG_REPEAT : Fld := ⟨0x1C, 32, 8, true, 0x10⟩
def F.LL_CFG_MAP_TTL : Fld := ⟨0x1C, 40, 8, true, 0x40⟩
def F.LL_CFG_HYST : Fld := ⟨0x1C, 48, 4, true, 3⟩
def F.LL_CFG_IMP_DB : Fld := ⟨0x1C, 52, 4, true, 0xA⟩
def F.LL_CFG_IMP_LO : Fld := ⟨0x1C, 56, 8, true, 0xD⟩
def F.LL_CFG_IMP_HI : Fld := ⟨0x1C, 64, 8, true, 0x4D⟩
def F.LL_CFG_SIG_MARGIN : Fld := ⟨0x1C, 72, 6, true, 6⟩
def F.LL_CFG_SIG_FIX : Fld := ⟨0x1C, 80, 16, true, 0x3A83⟩
def F.LL_CFG_THR_R6 : Fld := ⟨0x1C, 96, 5, true, 3⟩
def F.LL_CFG_THR_R4 : Fld := ⟨0x1C, 101, 5, true, 6⟩
def F.LL_CFG_THR_F4 : Fld := ⟨0x1C, 106, 5, true, 0xB⟩
def F.LL_CFG_THR_F8 : Fld := ⟨0x1C, 111, 5, true, 0xE⟩
def F.LL_CFG_THR_F16 : Fld := ⟨0x1C, 116, 5, true, 0x12⟩
def F.LL_CFG_THR_T8 : Fld := ⟨0x1C, 121, 5, true, 0x18⟩
def F.LL_CFG_CLEAR : Fld := ⟨0x1C, 127, 1, true, 0⟩

/-! LL_CFG, entries where e = 1 (R270). -/
def F.LL_CFG1_FBLANK : Fld := ⟨0x1C, 0, 32, true, 0⟩
def F.LL_CFG1_N_FLOOR : Fld := ⟨0x1C, 32, 16, true, 0x322C⟩
def F.LL_CFG1_SIG1 : Fld := ⟨0x1C, 64, 16, false, 0⟩
def F.LL_CFG1_SIG2 : Fld := ⟨0x1C, 80, 16, false, 0⟩
def F.LL_CFG1_SIG3 : Fld := ⟨0x1C, 96, 16, false, 0⟩

/-! LL_NOISE, entries where True (R271). -/
def F.LL_NOISE_MEAN0 : Fld := ⟨0x1D, 0, 16, false, 0⟩
def F.LL_NOISE_MEAN1 : Fld := ⟨0x1D, 16, 16, false, 0⟩
def F.LL_NOISE_MEAN2 : Fld := ⟨0x1D, 32, 16, false, 0⟩
def F.LL_NOISE_MEAN3 : Fld := ⟨0x1D, 48, 16, false, 0⟩
def F.LL_NOISE_MEAN4 : Fld := ⟨0x1D, 64, 16, false, 0⟩
def F.LL_NOISE_MEAN5 : Fld := ⟨0x1D, 80, 16, false, 0⟩
def F.LL_NOISE_MEAN6 : Fld := ⟨0x1D, 96, 16, false, 0⟩
def F.LL_NOISE_MEAN7 : Fld := ⟨0x1D, 112, 16, false, 0⟩

/-! LL_SLOT, entries where e < 96 (R272). -/
def F.LL_SLOT_IMP : Fld := ⟨0x1E, 0, 16, false, 0⟩
def F.LL_SLOT_QCNT : Fld := ⟨0x1E, 16, 16, false, 0⟩
def F.LL_SLOT_RCNT : Fld := ⟨0x1E, 32, 16, false, 0⟩
def F.LL_SLOT_EST : Fld := ⟨0x1E, 48, 1, false, 0⟩
def F.LL_SLOT_WAKEN : Fld := ⟨0x1E, 64, 16, false, 0⟩
def F.LL_SLOT_LAST_CYCLE : Fld := ⟨0x1E, 80, 32, false, 0⟩

/-! LL_SLOT, entries where 96 ≤ e (R272). -/
def F.LL_ACC_ACC0 : Fld := ⟨0x1E, 0, 16, false, 0⟩
def F.LL_ACC_ACC1 : Fld := ⟨0x1E, 16, 16, false, 0⟩
def F.LL_ACC_ACC2 : Fld := ⟨0x1E, 32, 16, false, 0⟩
def F.LL_ACC_ACC3 : Fld := ⟨0x1E, 48, 16, false, 0⟩
def F.LL_ACC_WAKE : Fld := ⟨0x1E, 64, 16, false, 0⟩
def F.LL_ACC_QCNT : Fld := ⟨0x1E, 80, 16, false, 0⟩

/-! LL_MAPS, entries where e = 2 (R273). -/
def F.LL_MAPS_PVER : Fld := ⟨0x1F, 0, 8, false, 0⟩
def F.LL_MAPS_CONF : Fld := ⟨0x1F, 8, 8, false, 0⟩
def F.LL_MAPS_MAPVER : Fld := ⟨0x1F, 16, 8, false, 0⟩
def F.LL_MAPS_LSTATE : Fld := ⟨0x1F, 24, 2, false, 0⟩
def F.LL_MAPS_PUB_PEND : Fld := ⟨0x1F, 26, 1, false, 0⟩
def F.LL_MAPS_APPROVE : Fld := ⟨0x1F, 27, 1, true, 0⟩
def F.LL_MAPS_APPROVE_VER : Fld := ⟨0x1F, 32, 8, true, 0⟩
def F.LL_MAPS_OBS : Fld := ⟨0x1F, 48, 32, false, 0⟩
def F.LL_MAPS_ACT_CYCLE : Fld := ⟨0x1F, 80, 32, false, 0⟩
def F.LL_MAPS_SKIP : Fld := ⟨0x1F, 112, 16, false, 0⟩

/-! LL_MAPS, entries where 5 ≤ e ∧ (e - 5) % 5 = 0 (R273). -/
def F.LL_NBR_ADDR : Fld := ⟨0x1F, 0, 8, false, 0⟩
def F.LL_NBR_MAPVER : Fld := ⟨0x1F, 8, 8, false, 0⟩
def F.LL_NBR_NSTATE : Fld := ⟨0x1F, 16, 2, false, 0⟩
def F.LL_NBR_COMMON : Fld := ⟨0x1F, 18, 1, false, 0⟩
def F.LL_NBR_PENDING : Fld := ⟨0x1F, 19, 1, false, 0⟩
def F.LL_NBR_ACT_CYCLE : Fld := ⟨0x1F, 32, 32, false, 0⟩
def F.LL_NBR_AGE : Fld := ⟨0x1F, 64, 8, false, 0⟩
def F.LL_NBR_SETS_CRC : Fld := ⟨0x1F, 80, 16, false, 0⟩

/-! LL_MAPS, entries where (e ≤ 1 ∨ e = 3 ∨ e = 4) ∨ (5 ≤ e ∧ (e - 5) % 5 ≠ 0) (R273). -/
def F.LL_MAPS_WORD : Fld := ⟨0x1F, 0, 128, false, 0⟩

/-! CJ_CFG, entries where True (R343). -/
def F.CJ_CFG_QUANTUM : Fld := ⟨0x20, 0, 8, true, 4⟩
def F.CJ_CFG_SCRUB : Fld := ⟨0x20, 8, 1, true, 1⟩
def F.CJ_CFG_SUB : Fld := ⟨0x20, 16, 3, false, 0⟩
def F.CJ_CFG_ECC_CORR : Fld := ⟨0x20, 32, 32, false, 0⟩
def F.CJ_CFG_ECC_UNCORR : Fld := ⟨0x20, 64, 16, false, 0⟩

/-! CJ_Q, entries where True (R311). -/
def F.CJ_Q_OP : Fld := ⟨0x21, 0, 4, true, 0⟩
def F.CJ_Q_SUB : Fld := ⟨0x21, 4, 4, true, 0⟩
def F.CJ_Q_FMT_A : Fld := ⟨0x21, 8, 8, true, 0⟩
def F.CJ_Q_FMT_B : Fld := ⟨0x21, 16, 8, true, 0⟩
def F.CJ_Q_FMT_Y : Fld := ⟨0x21, 24, 8, true, 0⟩
def F.CJ_Q_RND : Fld := ⟨0x21, 32, 8, true, 0⟩
def F.CJ_Q_ADDR_A : Fld := ⟨0x21, 40, 12, true, 0⟩
def F.CJ_Q_ADDR_B : Fld := ⟨0x21, 52, 12, true, 0⟩
def F.CJ_Q_ADDR_Y : Fld := ⟨0x21, 64, 12, true, 0⟩
def F.CJ_Q_ADDR_P : Fld := ⟨0x21, 76, 12, true, 0⟩
def F.CJ_Q_TAG : Fld := ⟨0x21, 88, 24, true, 0⟩
def F.CJ_Q_COUNT : Fld := ⟨0x21, 112, 12, true, 0⟩
def F.CJ_Q_BOUND : Fld := ⟨0x21, 124, 1, true, 0⟩
def F.CJ_Q_RSV : Fld := ⟨0x21, 125, 3, true, 0⟩

/-! CJ_QSTAT, entries where True (R345). -/
def F.CJ_QSTAT_STATE : Fld := ⟨0x22, 0, 3, false, 0⟩
def F.CJ_QSTAT_OUTCOME : Fld := ⟨0x22, 8, 8, false, 0⟩
def F.CJ_QSTAT_FLAGS : Fld := ⟨0x22, 16, 8, false, 0⟩
def F.CJ_QSTAT_AHEAD : Fld := ⟨0x22, 24, 4, false, 0⟩
def F.CJ_QSTAT_CMD : Fld := ⟨0x22, 28, 2, true, 0⟩
def F.CJ_QSTAT_CYCLES : Fld := ⟨0x22, 32, 32, false, 0⟩
def F.CJ_QSTAT_TAG : Fld := ⟨0x22, 64, 24, false, 0⟩
def F.CJ_QSTAT_QIDX : Fld := ⟨0x22, 96, 4, false, 0⟩

/-! CJ_TENANT, entries where True (R346). -/
def F.CJ_TENANT_WEIGHT : Fld := ⟨0x23, 0, 8, true, 1⟩
def F.CJ_TENANT_QLIM : Fld := ⟨0x23, 8, 4, true, 2⟩
def F.CJ_TENANT_HC_BUDGET : Fld := ⟨0x23, 16, 16, true, 0⟩
def F.CJ_TENANT_PAGES : Fld := ⟨0x23, 32, 6, false, 0⟩
def F.CJ_TENANT_USED : Fld := ⟨0x23, 64, 32, false, 0⟩

/-! CJ_PAGE, entries where True (R347). -/
def F.CJ_PAGE_TENANT : Fld := ⟨0x24, 0, 6, true, 0⟩
def F.CJ_PAGE_ASSIGNED : Fld := ⟨0x24, 6, 1, true, 0⟩

/-! CJ_MEM, entries where True (R348). -/
def F.CJ_MEM_WORD : Fld := ⟨0x25, 0, 128, true, 0⟩

/-! CJ_KERN, entries where True (R349). -/
def F.CJ_KERN_INVOC : Fld := ⟨0x26, 0, 32, false, 0⟩
def F.CJ_KERN_LAST : Fld := ⟨0x26, 32, 32, false, 0⟩
def F.CJ_KERN_MAX : Fld := ⟨0x26, 64, 32, false, 0⟩
def F.CJ_KERN_SHED : Fld := ⟨0x26, 96, 16, false, 0⟩
def F.CJ_KERN_LATE : Fld := ⟨0x26, 112, 16, false, 0⟩

/-! CJ_STAT, entries where True (R350). -/
def F.CJ_STAT_HOST_CYC : Fld := ⟨0x27, 0, 32, false, 0⟩
def F.CJ_STAT_KERN_CYC : Fld := ⟨0x27, 32, 32, false, 0⟩
def F.CJ_STAT_PREEMPTS : Fld := ⟨0x27, 64, 32, false, 0⟩
def F.CJ_STAT_HELD_HC : Fld := ⟨0x27, 96, 16, false, 0⟩

/-! OB_CFG, entries where True (R394). -/
def F.OB_CFG_DUMMY_MAX : Fld := ⟨0x28, 0, 3, true, 3⟩
def F.OB_CFG_SHUFFLE : Fld := ⟨0x28, 3, 1, true, 1⟩
def F.OB_CFG_DUP : Fld := ⟨0x28, 4, 1, true, 1⟩
def F.OB_CFG_INV : Fld := ⟨0x28, 5, 1, true, 0⟩
def F.OB_CFG_PROV_OPEN : Fld := ⟨0x28, 8, 1, false, 1⟩
def F.OB_CFG_T_REF : Fld := ⟨0x28, 16, 16, false, 0x380⟩
def F.OB_CFG_FAULTS : Fld := ⟨0x28, 32, 32, false, 0⟩

/-! OB_SLOT, entries where True (R395). -/
def F.OB_SLOT_PRESENT : Fld := ⟨0x29, 0, 1, false, 0⟩
def F.OB_SLOT_KLEN : Fld := ⟨0x29, 1, 2, false, 0⟩
def F.OB_SLOT_PERSIST : Fld := ⟨0x29, 3, 1, false, 0⟩
def F.OB_SLOT_USAGE : Fld := ⟨0x29, 4, 8, true, 0⟩
def F.OB_SLOT_CMD : Fld := ⟨0x29, 12, 3, true, 0⟩
def F.OB_SLOT_PERS_REQ : Fld := ⟨0x29, 15, 1, true, 0⟩
def F.OB_SLOT_NEWLEN : Fld := ⟨0x29, 16, 2, true, 0⟩
def F.OB_SLOT_KEK : Fld := ⟨0x29, 18, 9, true, 0⟩
def F.OB_SLOT_OUTCOME : Fld := ⟨0x29, 32, 8, false, 0⟩
def F.OB_SLOT_PENDING : Fld := ⟨0x29, 40, 1, false, 0⟩
def F.OB_SLOT_KGEN : Fld := ⟨0x29, 48, 8, false, 0⟩

/-! OB_KEYIN, entries where True (R396). -/
def F.OB_KEYIN_WORD : Fld := ⟨0x2A, 0, 128, true, 0⟩

/-! OB_Q, entries where True (R397). -/
def F.OB_Q_MODE : Fld := ⟨0x2B, 0, 4, true, 0⟩
def F.OB_Q_DIR : Fld := ⟨0x2B, 4, 1, true, 0⟩
def F.OB_Q_SLOT : Fld := ⟨0x2B, 8, 9, true, 0⟩
def F.OB_Q_LEN : Fld := ⟨0x2B, 24, 7, true, 0⟩
def F.OB_Q_ALEN : Fld := ⟨0x2B, 32, 5, true, 0⟩
def F.OB_Q_MCODE : Fld := ⟨0x2B, 37, 3, true, 0⟩
def F.OB_Q_TAG : Fld := ⟨0x2B, 40, 24, true, 0⟩
def F.OB_Q_CMD : Fld := ⟨0x2B, 64, 2, true, 0⟩
def F.OB_Q_OUTCOME : Fld := ⟨0x2B, 72, 8, false, 0⟩
def F.OB_Q_STATE : Fld := ⟨0x2B, 80, 3, false, 0⟩
def F.OB_Q_AHEAD : Fld := ⟨0x2B, 88, 4, false, 0⟩
def F.OB_Q_QIDX : Fld := ⟨0x2B, 92, 4, false, 0⟩
def F.OB_Q_TICKS : Fld := ⟨0x2B, 96, 32, false, 0⟩

/-! OB_DATA, entries where True (R398). -/
def F.OB_DATA_WORD : Fld := ⟨0x2C, 0, 128, true, 0⟩

/-! OB_TENANT, entries where True (R399). -/
def F.OB_TENANT_QLIM : Fld := ⟨0x2D, 0, 4, true, 2⟩
def F.OB_TENANT_HELD : Fld := ⟨0x2D, 4, 4, false, 0⟩
def F.OB_TENANT_JOBS : Fld := ⟨0x2D, 32, 32, false, 0⟩

/-! RNG_CFG, entries where True (R400). -/
def F.RNG_CFG_RCT_C : Fld := ⟨0x2E, 0, 8, true, 0x29⟩
def F.RNG_CFG_APT_C : Fld := ⟨0x2E, 16, 10, true, 0x24D⟩
def F.RNG_CFG_LINE_MIX : Fld := ⟨0x2E, 32, 1, true, 1⟩
def F.RNG_CFG_REQS : Fld := ⟨0x2E, 64, 32, false, 0⟩
def F.RNG_CFG_RESEEDS : Fld := ⟨0x2E, 96, 32, false, 0⟩

/-! RC_CFG, entries where e = 0 (R471). -/
def F.RC_CFG_NET_ID : Fld := ⟨0x30, 0, 16, true, 0⟩
def F.RC_CFG_SEL : Fld := ⟨0x30, 16, 3, true, 0⟩
def F.RC_CFG_PROF : Fld := ⟨0x30, 20, 2, true, 0⟩
def F.RC_CFG_SLOT_EXP : Fld := ⟨0x30, 24, 5, true, 0x10⟩
def F.RC_CFG_BCN_EXP : Fld := ⟨0x30, 32, 4, true, 8⟩
def F.RC_CFG_IRQ_POL : Fld := ⟨0x30, 36, 1, true, 0⟩
def F.RC_CFG_SFD_EDGE : Fld := ⟨0x30, 37, 1, true, 0⟩
def F.RC_CFG_FOLLOW_LINE : Fld := ⟨0x30, 38, 1, true, 1⟩
def F.RC_CFG_ACK_DLY : Fld := ⟨0x30, 40, 8, true, 0xA⟩
def F.RC_CFG_TX_LEAD : Fld := ⟨0x30, 48, 8, true, 5⟩
def F.RC_CFG_OVH_BYTES : Fld := ⟨0x30, 56, 8, true, 0xC⟩
def F.RC_CFG_BIT_NS : Fld := ⟨0x30, 64, 16, true, 0x4E20⟩
def F.RC_CFG_RST_US : Fld := ⟨0x30, 80, 16, true, 0x3E8⟩
def F.RC_CFG_HOP_SEED : Fld := ⟨0x30, 96, 32, true, 0⟩

/-! RC_CFG, entries where e = 1 (R471). -/
def F.RC_CFG_SCR0 : Fld := ⟨0x30, 0, 8, true, 0⟩
def F.RC_CFG_SCR1 : Fld := ⟨0x30, 8, 8, true, 0⟩
def F.RC_CFG_SCR2 : Fld := ⟨0x30, 16, 8, true, 0⟩
def F.RC_CFG_SCR3 : Fld := ⟨0x30, 24, 8, true, 0⟩
def F.RC_CFG_SCR4 : Fld := ⟨0x30, 32, 8, true, 0⟩
def F.RC_CFG_SCR5 : Fld := ⟨0x30, 40, 8, true, 0⟩
def F.RC_CFG_SCR6 : Fld := ⟨0x30, 48, 8, true, 0⟩
def F.RC_CFG_SCR7 : Fld := ⟨0x30, 56, 8, true, 0⟩
def F.RC_CFG_WUC_MS : Fld := ⟨0x30, 64, 8, true, 5⟩
def F.RC_CFG_FILTERED : Fld := ⟨0x30, 80, 16, false, 0⟩
def F.RC_CFG_DUPS : Fld := ⟨0x30, 96, 16, false, 0⟩
def F.RC_CFG_SKIPS : Fld := ⟨0x30, 112, 16, false, 0⟩

/-! RC_SCRIPT, entries where True (R472). -/
def F.RC_SCRIPT_STEP0 : Fld := ⟨0x31, 0, 32, true, 0⟩
def F.RC_SCRIPT_STEP1 : Fld := ⟨0x31, 32, 32, true, 0⟩
def F.RC_SCRIPT_STEP2 : Fld := ⟨0x31, 64, 32, true, 0⟩
def F.RC_SCRIPT_STEP3 : Fld := ⟨0x31, 96, 32, true, 0⟩

/-! RC_HOP, entries where True (R473). -/
def F.RC_HOP_CH : Fld := ⟨0x32, 0, 16, true, 0⟩
def F.RC_HOP_BAND : Fld := ⟨0x32, 16, 2, true, 0⟩
def F.RC_HOP_EN : Fld := ⟨0x32, 18, 1, true, 0⟩
def F.RC_HOP_USED : Fld := ⟨0x32, 32, 32, false, 0⟩
def F.RC_HOP_TOTAL : Fld := ⟨0x32, 64, 32, false, 0⟩

/-! RC_BAND, entries where True (R474). -/
def F.RC_BAND_DUTY_MS : Fld := ⟨0x33, 0, 32, true, 0x8CA0⟩
def F.RC_BAND_DUTY_WIN_S : Fld := ⟨0x33, 32, 16, true, 0xE10⟩
def F.RC_BAND_DWELL_MS : Fld := ⟨0x33, 48, 16, true, 0x190⟩
def F.RC_BAND_DWELL_WIN_S : Fld := ⟨0x33, 64, 16, true, 0x14⟩
def F.RC_BAND_RESERVE_PCT : Fld := ⟨0x33, 80, 8, true, 0x19⟩
def F.RC_BAND_USED : Fld := ⟨0x33, 96, 32, false, 0⟩

/-! RC_TAG, entries where e % 2 = 0 (R475). -/
def F.RC_TAG_EUI : Fld := ⟨0x34, 0, 64, true, 0⟩
def F.RC_TAG_TENANT : Fld := ⟨0x34, 64, 6, true, 0⟩
def F.RC_TAG_TKEY : Fld := ⟨0x34, 70, 2, true, 0⟩
def F.RC_TAG_STATE : Fld := ⟨0x34, 72, 2, false, 0⟩
def F.RC_TAG_PENDING : Fld := ⟨0x34, 74, 1, true, 0⟩
def F.RC_TAG_CMD : Fld := ⟨0x34, 75, 2, true, 0⟩
def F.RC_TAG_WAKE_CODE : Fld := ⟨0x34, 80, 16, false, 0⟩
def F.RC_TAG_WU_ENT : Fld := ⟨0x34, 96, 6, true, 0⟩

/-! RC_TAG, entries where e % 2 = 1 (R475). -/
def F.RC_TAG_RX_FC : Fld := ⟨0x34, 0, 32, false, 0⟩
def F.RC_TAG_TX_FC : Fld := ⟨0x34, 32, 32, false, 0⟩
def F.RC_TAG_LISTEN_MS : Fld := ⟨0x34, 64, 8, true, 0x14⟩
def F.RC_TAG_LAST_SEQ : Fld := ⟨0x34, 72, 8, false, 0⟩
def F.RC_TAG_SEQ_VALID : Fld := ⟨0x34, 80, 1, false, 0⟩
def F.RC_TAG_TX_SEQ : Fld := ⟨0x34, 88, 8, false, 0⟩
def F.RC_TAG_LAST_CYCLE : Fld := ⟨0x34, 96, 32, false, 0⟩

/-! RC_TXQ, entries where True (R476). -/
def F.RC_TXQ_DST : Fld := ⟨0x35, 0, 8, true, 0⟩
def F.RC_TXQ_BYTES : Fld := ⟨0x35, 8, 8, true, 0⟩
def F.RC_TXQ_ACKREQ : Fld := ⟨0x35, 16, 1, true, 0⟩
def F.RC_TXQ_SEC : Fld := ⟨0x35, 17, 1, true, 0⟩
def F.RC_TXQ_WAKE : Fld := ⟨0x35, 18, 1, true, 0⟩
def F.RC_TXQ_TAG : Fld := ⟨0x35, 24, 24, true, 0⟩
def F.RC_TXQ_OUTCOME : Fld := ⟨0x35, 48, 8, false, 0⟩
def F.RC_TXQ_STATE : Fld := ⟨0x35, 56, 3, false, 0⟩
def F.RC_TXQ_CMD : Fld := ⟨0x35, 60, 2, true, 0⟩
def F.RC_TXQ_AHEAD : Fld := ⟨0x35, 64, 4, false, 0⟩
def F.RC_TXQ_ATTEMPTS : Fld := ⟨0x35, 68, 4, false, 0⟩
def F.RC_TXQ_QIDX : Fld := ⟨0x35, 72, 4, false, 0⟩
def F.RC_TXQ_WAIT : Fld := ⟨0x35, 80, 16, false, 0⟩

/-! RC_FRAME, entries where e < 8 (R477). -/
def F.RC_FRAME_WORD : Fld := ⟨0x36, 0, 128, true, 0⟩

/-! RC_FRAME, entries where 8 ≤ e ∧ (e - 8) % 9 = 0 (R477). -/
def F.RC_RX_SRC : Fld := ⟨0x36, 0, 8, false, 0⟩
def F.RC_RX_SEQ : Fld := ⟨0x36, 8, 8, false, 0⟩
def F.RC_RX_BYTES : Fld := ⟨0x36, 16, 8, false, 0⟩
def F.RC_RX_FTYPE : Fld := ⟨0x36, 24, 3, false, 0⟩
def F.RC_RX_SEC : Fld := ⟨0x36, 27, 1, false, 0⟩
def F.RC_RX_RELEASE : Fld := ⟨0x36, 28, 1, true, 0⟩
def F.RC_RX_SFD_TICK : Fld := ⟨0x36, 32, 32, false, 0⟩
def F.RC_RX_CYCLE : Fld := ⟨0x36, 64, 32, false, 0⟩
def F.RC_RX_ANGLE : Fld := ⟨0x36, 96, 16, false, 0⟩
def F.RC_RX_CH : Fld := ⟨0x36, 112, 16, false, 0⟩

/-! RC_FRAME, entries where 8 ≤ e ∧ (e - 8) % 9 ≠ 0 (R477). -/
def F.RC_RX_WORD : Fld := ⟨0x36, 0, 128, false, 0⟩

/-! RC_TENANT, entries where True (R478). -/
def F.RC_TENANT_SHARE : Fld := ⟨0x37, 0, 8, true, 0⟩
def F.RC_TENANT_WEIGHT : Fld := ⟨0x37, 8, 8, true, 1⟩
def F.RC_TENANT_QLIM : Fld := ⟨0x37, 16, 4, true, 2⟩
def F.RC_TENANT_USED0 : Fld := ⟨0x37, 32, 16, false, 0⟩
def F.RC_TENANT_USED1 : Fld := ⟨0x37, 48, 16, false, 0⟩
def F.RC_TENANT_USED2 : Fld := ⟨0x37, 64, 16, false, 0⟩
def F.RC_TENANT_USED3 : Fld := ⟨0x37, 80, 16, false, 0⟩

/-! OP_CFG, entries where True (R514). -/
def F.OP_CFG_ALS_EN : Fld := ⟨0x38, 0, 1, true, 1⟩
def F.OP_CFG_AUTH : Fld := ⟨0x38, 1, 1, true, 1⟩
def F.OP_CFG_TIME_TX : Fld := ⟨0x38, 2, 1, true, 0⟩
def F.OP_CFG_CAL_EN : Fld := ⟨0x38, 3, 1, true, 1⟩
def F.OP_CFG_KEY : Fld := ⟨0x38, 8, 9, true, 0⟩
def F.OP_CFG_LOS_TH : Fld := ⟨0x38, 24, 8, true, 5⟩
def F.OP_CFG_LOS_MS : Fld := ⟨0x38, 32, 12, true, 0xFA⟩
def F.OP_CFG_PULSE_MS : Fld := ⟨0x38, 48, 16, true, 0x7D0⟩
def F.OP_CFG_PERIOD_S : Fld := ⟨0x38, 64, 9, true, 0x64⟩
def F.OP_CFG_TEST_S : Fld := ⟨0x38, 73, 7, true, 0x5A⟩
def F.OP_CFG_FAIL_US : Fld := ⟨0x38, 80, 8, true, 0x14⟩
def F.OP_CFG_PINT : Fld := ⟨0x38, 88, 4, true, 4⟩
def F.OP_CFG_CAL_K : Fld := ⟨0x38, 92, 5, true, 0x11⟩
def F.OP_CFG_TX_QLIM : Fld := ⟨0x38, 97, 3, true, 2⟩
def F.OP_CFG_RX_TLIM : Fld := ⟨0x38, 100, 3, true, 4⟩
def F.OP_CFG_TIME_EXP : Fld := ⟨0x38, 104, 4, true, 3⟩

/-! OP_LASER, entries where True (R515). -/
def F.OP_LASER_BIAS_MAX : Fld := ⟨0x39, 0, 12, true, 0x9C4⟩
def F.OP_LASER_BIAS_EOL : Fld := ⟨0x39, 12, 12, true, 0x8CA⟩
def F.OP_LASER_MOD : Fld := ⟨0x39, 24, 12, true, 0x3E8⟩
def F.OP_LASER_MPD_SET : Fld := ⟨0x39, 36, 16, true, 0x7D0⟩
def F.OP_LASER_MPD_MIN : Fld := ⟨0x39, 52, 16, true, 0x3E8⟩
def F.OP_LASER_FAILED : Fld := ⟨0x39, 68, 1, false, 0⟩
def F.OP_LASER_FCAUSE : Fld := ⟨0x39, 69, 2, false, 0⟩
def F.OP_LASER_BIAS : Fld := ⟨0x39, 72, 12, false, 0⟩
def F.OP_LASER_ITH : Fld := ⟨0x39, 84, 12, false, 0⟩
def F.OP_LASER_SLOPE : Fld := ⟨0x39, 96, 16, false, 0⟩
def F.OP_LASER_CALS : Fld := ⟨0x39, 112, 16, false, 0⟩

/-! OP_STAT, entries where e % 2 = 0 (R516). -/
def F.OP_STAT_SUB : Fld := ⟨0x3A, 0, 7, false, 0⟩
def F.OP_STAT_RLOS_RX : Fld := ⟨0x3A, 7, 1, false, 0⟩
def F.OP_STAT_PILOT_SIGN : Fld := ⟨0x3A, 8, 2, false, 0⟩
def F.OP_STAT_PILOT_STALE : Fld := ⟨0x3A, 10, 1, false, 0⟩
def F.OP_STAT_GRP_HIST : Fld := ⟨0x3A, 16, 16, false, 0⟩
def F.OP_STAT_LAST_GSEQ : Fld := ⟨0x3A, 32, 8, false, 0⟩
def F.OP_STAT_PWR_AVG : Fld := ⟨0x3A, 40, 24, false, 0⟩
def F.OP_STAT_PWR_PILOT : Fld := ⟨0x3A, 64, 24, false, 0⟩
def F.OP_STAT_CYCLE : Fld := ⟨0x3A, 96, 32, false, 0⟩

/-! OP_STAT, entries where e % 2 = 1 (R516). -/
def F.OP_CNT_CRC_BAD : Fld := ⟨0x3A, 0, 16, false, 0⟩
def F.OP_CNT_DROP : Fld := ⟨0x3A, 16, 16, false, 0⟩
def F.OP_CNT_HOP_DROP : Fld := ⟨0x3A, 32, 16, false, 0⟩
def F.OP_CNT_GRP_FAIL : Fld := ⟨0x3A, 48, 16, false, 0⟩
def F.OP_CNT_GRP_OK : Fld := ⟨0x3A, 64, 16, false, 0⟩
def F.OP_CNT_SYNC_LOSS : Fld := ⟨0x3A, 80, 16, false, 0⟩
def F.OP_CNT_TAKEOVERS : Fld := ⟨0x3A, 96, 16, false, 0⟩
def F.OP_CNT_TYPE_BAD : Fld := ⟨0x3A, 112, 16, false, 0⟩

/-! OP_CELL, entries where e % 32 ≤ 16 ∧ e % 2 = 0 (R517). -/
def F.OP_CELL_TYPE : Fld := ⟨0x3B, 0, 3, true, 0⟩
def F.OP_CELL_HOP : Fld := ⟨0x3B, 3, 3, true, 0⟩
def F.OP_CELL_TENANT : Fld := ⟨0x3B, 6, 6, false, 0⟩
def F.OP_CELL_SEQ : Fld := ⟨0x3B, 12, 8, false, 0⟩
def F.OP_CELL_FLAGS : Fld := ⟨0x3B, 20, 4, false, 0⟩
def F.OP_CELL_OUTCOME : Fld := ⟨0x3B, 24, 8, false, 0⟩
def F.OP_CELL_STATE : Fld := ⟨0x3B, 32, 3, false, 0⟩
def F.OP_CELL_CMD : Fld := ⟨0x3B, 35, 2, true, 0⟩
def F.OP_CELL_RELEASE : Fld := ⟨0x3B, 37, 1, true, 0⟩
def F.OP_CELL_QIDX : Fld := ⟨0x3B, 38, 4, false, 0⟩
def F.OP_CELL_CYCLE : Fld := ⟨0x3B, 64, 32, false, 0⟩
def F.OP_CELL_ANGLE : Fld := ⟨0x3B, 96, 16, false, 0⟩

/-! OP_CELL, entries where e % 32 < 8 ∧ e % 2 = 1 (R517). -/
def F.OP_CELL_PAYLOAD : Fld := ⟨0x3B, 0, 128, true, 0⟩

/-! OP_CELL, entries where 8 ≤ e % 32 ∧ e % 32 < 16 ∧ e % 2 = 1 (R517). -/
def F.OP_CELLRX_PAYLOAD : Fld := ⟨0x3B, 0, 128, false, 0⟩

/-! SF_CFG, entries where e = 0 (R549). -/
def F.SF_CFG_IMP_EN : Fld := ⟨0x3C, 0, 1, true, 1⟩
def F.SF_CFG_IMP_PERIOD : Fld := ⟨0x3C, 8, 8, true, 0xA⟩
def F.SF_CFG_EXC_RETRY_S : Fld := ⟨0x3C, 16, 8, true, 0x3C⟩
def F.SF_CFG_LR_PERIOD : Fld := ⟨0x3C, 24, 8, true, 0x40⟩
def F.SF_CFG_R_MIN : Fld := ⟨0x3C, 32, 16, true, 0x64⟩
def F.SF_CFG_R_MAX : Fld := ⟨0x3C, 48, 16, true, 0x1388⟩
def F.SF_CFG_IMB_TH : Fld := ⟨0x3C, 64, 16, true, 0x14⟩
def F.SF_CFG_LEAK_TH : Fld := ⟨0x3C, 80, 16, true, 0x28F⟩

/-! SF_CFG, entries where e = 1 (R549). -/
def F.SF_CFG_SRC_EN : Fld := ⟨0x3C, 0, 5, true, 1⟩

/-! SF_CFG, entries where 2 ≤ e ∧ e ≤ 5 (R549). -/
def F.SF_CH_EXC : Fld := ⟨0x3C, 0, 2, true, 0⟩
def F.SF_CH_EN : Fld := ⟨0x3C, 2, 1, true, 0⟩
def F.SF_CH_GAIN : Fld := ⟨0x3C, 3, 3, true, 0⟩
def F.SF_CH_FILTER : Fld := ⟨0x3C, 6, 1, true, 0⟩
def F.SF_CH_NEXP : Fld := ⟨0x3C, 7, 2, true, 2⟩
def F.SF_CH_INSEL : Fld := ⟨0x3C, 9, 2, true, 0⟩
def F.SF_CH_TSRC : Fld := ⟨0x3C, 11, 3, true, 0⟩
def F.SF_CH_DS : Fld := ⟨0x3C, 16, 3, true, 1⟩
def F.SF_CH_DT : Fld := ⟨0x3C, 20, 2, true, 0⟩
def F.SF_CH_TENANT : Fld := ⟨0x3C, 24, 6, true, 0⟩
def F.SF_CH_IEXC : Fld := ⟨0x3C, 32, 16, false, 0⟩
def F.SF_CH_TRIPPED : Fld := ⟨0x3C, 48, 1, false, 0⟩
def F.SF_CH_TRIPS : Fld := ⟨0x3C, 64, 16, false, 0⟩
def F.SF_CH_OVERS : Fld := ⟨0x3C, 80, 16, false, 0⟩

/-! SF_CFG, entries where 6 ≤ e ∧ e ≤ 9 (R549). -/
def F.SF_CTL_EVT_DIV : Fld := ⟨0x3C, 0, 8, true, 0⟩
def F.SF_CTL_LOAD : Fld := ⟨0x3C, 8, 1, true, 0⟩
def F.SF_CTL_CGEN : Fld := ⟨0x3C, 16, 8, false, 0⟩
def F.SF_CTL_LOAD_PEND : Fld := ⟨0x3C, 24, 1, false, 0⟩

/-! SF_CFG, entries where 16 ≤ e (R549). -/
def F.SF_COEF_C0 : Fld := ⟨0x3C, 0, 32, true, 0⟩
def F.SF_COEF_C1 : Fld := ⟨0x3C, 32, 32, true, 0⟩
def F.SF_COEF_C2 : Fld := ⟨0x3C, 64, 32, true, 0⟩
def F.SF_COEF_C3 : Fld := ⟨0x3C, 96, 32, true, 0⟩

/-! SF_RES, entries where e ≤ 8 (R550). -/
def F.SF_RES_RAW : Fld := ⟨0x3D, 0, 24, false, 0⟩
def F.SF_RES_REASON : Fld := ⟨0x3D, 24, 4, false, 0⟩
def F.SF_RES_VALID : Fld := ⟨0x3D, 28, 1, false, 0⟩
def F.SF_RES_TIME_UNLOCKED : Fld := ⟨0x3D, 29, 1, false, 0⟩
def F.SF_RES_TSTALE : Fld := ⟨0x3D, 30, 1, false, 0⟩
def F.SF_RES_VALUE : Fld := ⟨0x3D, 32, 32, false, 0⟩
def F.SF_RES_SEQ : Fld := ⟨0x3D, 64, 16, false, 0⟩
def F.SF_RES_CYCLE : Fld := ⟨0x3D, 80, 32, false, 0⟩
def F.SF_RES_ANGLE : Fld := ⟨0x3D, 112, 16, false, 0⟩

/-! SF_RES, entries where 9 ≤ e ∧ e ≤ 12 (R550). -/
def F.SF_IMP_RESULT : Fld := ⟨0x3D, 0, 3, false, 0⟩
def F.SF_IMP_FAULTS : Fld := ⟨0x3D, 4, 4, false, 0⟩
def F.SF_IMP_RB : Fld := ⟨0x3D, 16, 16, false, 0⟩
def F.SF_IMP_RLP : Fld := ⟨0x3D, 32, 16, false, 0⟩
def F.SF_IMP_RLN : Fld := ⟨0x3D, 48, 16, false, 0⟩
def F.SF_IMP_LEAK : Fld := ⟨0x3D, 64, 16, false, 0⟩
def F.SF_IMP_CYCLE : Fld := ⟨0x3D, 80, 32, false, 0⟩
def F.SF_IMP_CHECKS : Fld := ⟨0x3D, 112, 16, false, 0⟩

/-! SF_RES, entries where e = 13 (R550). -/
def F.SF_ST_CHECKING : Fld := ⟨0x3D, 0, 1, false, 0⟩
def F.SF_ST_CHK_CH : Fld := ⟨0x3D, 1, 2, false, 0⟩
def F.SF_ST_LOW_RATE : Fld := ⟨0x3D, 3, 1, false, 0⟩
def F.SF_ST_ITOTAL : Fld := ⟨0x3D, 16, 16, false, 0⟩
def F.SF_ST_LATE_BATCHES : Fld := ⟨0x3D, 32, 16, false, 0⟩
def F.SF_ST_BATCH : Fld := ⟨0x3D, 48, 16, false, 0⟩

/-! LP, entries where e = 0 (R572). -/
def F.LP_CTL_MODE : Fld := ⟨0x3E, 0, 2, true, 2⟩
def F.LP_CTL_FAIL_SEL : Fld := ⟨0x3E, 2, 1, true, 0⟩
def F.LP_CTL_HR_POL : Fld := ⟨0x3E, 3, 1, true, 0⟩
def F.LP_CTL_HOSTFAIL_EN : Fld := ⟨0x3E, 4, 1, true, 1⟩
def F.LP_CTL_SRC : Fld := ⟨0x3E, 8, 4, true, 0⟩
def F.LP_CTL_CODE_SEL : Fld := ⟨0x3E, 16, 3, true, 0⟩
def F.LP_CTL_SLEW : Fld := ⟨0x3E, 32, 16, true, 0xAAB⟩
def F.LP_CTL_FAIL_LO : Fld := ⟨0x3E, 48, 16, true, 0x2666⟩
def F.LP_CTL_FAIL_HI : Fld := ⟨0x3E, 64, 16, true, 0xE000⟩
def F.LP_CTL_HOLD_MS : Fld := ⟨0x3E, 80, 16, true, 0x3E8⟩
def F.LP_CTL_HR_TH : Fld := ⟨0x3E, 96, 8, true, 0x28⟩
def F.LP_CTL_HR_HYST : Fld := ⟨0x3E, 104, 8, true, 0xA⟩
def F.LP_CTL_HR_MS : Fld := ⟨0x3E, 112, 8, true, 0x14⟩
def F.LP_CTL_REC_MS : Fld := ⟨0x3E, 120, 8, true, 0x64⟩

/-! LP, entries where e = 1 (R572). -/
def F.LP_SCALE_V_LO : Fld := ⟨0x3E, 0, 32, true, 0⟩
def F.LP_SCALE_V_HI : Fld := ⟨0x3E, 32, 32, true, 0x3F800000⟩
def F.LP_SCALE_VS_SCALE : Fld := ⟨0x3E, 64, 16, true, 0xA00⟩
def F.LP_SCALE_RSENSE : Fld := ⟨0x3E, 80, 16, true, 0x1388⟩
def F.LP_SCALE_R_LOOP : Fld := ⟨0x3E, 96, 16, true, 0x3E8⟩

/-! LP, entries where e = 3 (R572). -/
def F.LP_STAT_OUTPUT : Fld := ⟨0x3E, 0, 16, false, 0⟩
def F.LP_STAT_TARGET : Fld := ⟨0x3E, 16, 16, false, 0⟩
def F.LP_STAT_I_MEAS : Fld := ⟨0x3E, 32, 16, false, 0⟩
def F.LP_STAT_V_H : Fld := ⟨0x3E, 48, 16, false, 0⟩
def F.LP_STAT_R_EST : Fld := ⟨0x3E, 64, 16, false, 0⟩
def F.LP_STAT_SUB : Fld := ⟨0x3E, 80, 5, false, 0⟩
def F.LP_STAT_LIMITED_N : Fld := ⟨0x3E, 96, 16, false, 0⟩

/-! LP, entries where e = 2 (R572). -/
def F.LP_LVL_LVL0 : Fld := ⟨0x3E, 0, 16, true, 0x2AAB⟩
def F.LP_LVL_LVL1 : Fld := ⟨0x3E, 16, 16, true, 0x2AAB⟩
def F.LP_LVL_LVL2 : Fld := ⟨0x3E, 32, 16, true, 0x2AAB⟩
def F.LP_LVL_LVL3 : Fld := ⟨0x3E, 48, 16, true, 0x2AAB⟩
def F.LP_LVL_LVL4 : Fld := ⟨0x3E, 64, 16, true, 0x2AAB⟩
def F.LP_LVL_LVL5 : Fld := ⟨0x3E, 80, 16, true, 0x2AAB⟩
def F.LP_LVL_LVL6 : Fld := ⟨0x3E, 96, 16, true, 0x2AAB⟩
def F.LP_LVL_LVL7 : Fld := ⟨0x3E, 112, 16, true, 0x2AAB⟩

/-! MS, entries where e = 0 (R431). -/
def F.MS_CFG_MODE : Fld := ⟨0x3F, 0, 1, true, 0⟩
def F.MS_CFG_RADIO_CODE : Fld := ⟨0x3F, 1, 3, true, 0⟩
def F.MS_CFG_RADIO_CODE_EN : Fld := ⟨0x3F, 4, 1, true, 0⟩
def F.MS_CFG_ENTRIES : Fld := ⟨0x3F, 32, 32, false, 0⟩
def F.MS_CFG_TIMEOUTS : Fld := ⟨0x3F, 64, 16, false, 0⟩
def F.MS_CFG_STRETCH_MAX : Fld := ⟨0x3F, 80, 16, false, 0⟩

/-! MS, entries where 1 ≤ e ∧ e ≤ 4 (R431). -/
def F.MS_PROF_DIV : Fld := ⟨0x3F, 0, 7, true, 7⟩
def F.MS_PROF_CPOL : Fld := ⟨0x3F, 8, 1, true, 0⟩
def F.MS_PROF_CPHA : Fld := ⟨0x3F, 9, 1, true, 0⟩
def F.MS_PROF_LSB_FIRST : Fld := ⟨0x3F, 10, 1, true, 0⟩
def F.MS_PROF_RDY_EN : Fld := ⟨0x3F, 11, 1, true, 0⟩
def F.MS_PROF_FILL : Fld := ⟨0x3F, 12, 1, true, 0⟩
def F.MS_PROF_SDLY : Fld := ⟨0x3F, 13, 3, true, 0⟩
def F.MS_PROF_LEAD : Fld := ⟨0x3F, 16, 4, true, 2⟩
def F.MS_PROF_LAG : Fld := ⟨0x3F, 20, 4, true, 2⟩
def F.MS_PROF_GAP : Fld := ⟨0x3F, 24, 8, true, 4⟩
def F.MS_PROF_RDY_TO : Fld := ⟨0x3F, 32, 16, true, 0x64⟩

/-! MS, entries where 8 ≤ e ∧ e ≤ 24 (R431). -/
def F.MS_E_TXD : Fld := ⟨0x3F, 0, 32, true, 0⟩
def F.MS_E_RXD : Fld := ⟨0x3F, 32, 32, false, 0⟩
def F.MS_E_WLEN : Fld := ⟨0x3F, 64, 6, true, 0⟩
def F.MS_E_LONG : Fld := ⟨0x3F, 70, 1, true, 0⟩
def F.MS_E_LEN : Fld := ⟨0x3F, 71, 12, true, 0⟩
def F.MS_E_PROF : Fld := ⟨0x3F, 83, 2, true, 0⟩
def F.MS_E_SEL : Fld := ⟨0x3F, 85, 3, true, 0⟩
def F.MS_E_CONT : Fld := ⟨0x3F, 88, 1, true, 0⟩
def F.MS_E_TAG : Fld := ⟨0x3F, 90, 24, true, 0⟩
def F.MS_E_CMD : Fld := ⟨0x3F, 114, 2, true, 0⟩
def F.MS_E_STATE : Fld := ⟨0x3F, 116, 3, false, 0⟩
def F.MS_E_OUTCOME : Fld := ⟨0x3F, 120, 8, false, 0⟩

/-! MS, entries where 32 ≤ e ∧ e ≤ 48 (R431). -/
def F.MS_S_BITS : Fld := ⟨0x3F, 0, 12, false, 0⟩
def F.MS_S_HOLDER : Fld := ⟨0x3F, 16, 8, false, 0⟩
def F.MS_S_AHEAD : Fld := ⟨0x3F, 24, 4, false, 0⟩
def F.MS_S_QIDX : Fld := ⟨0x3F, 28, 4, false, 0⟩
def F.MS_S_STRETCH : Fld := ⟨0x3F, 32, 32, false, 0⟩
def F.MS_S_CYCLE : Fld := ⟨0x3F, 64, 32, false, 0⟩
def F.MS_S_ANGLE : Fld := ⟨0x3F, 96, 16, false, 0⟩

/-- The fields of an entry of a table. -/
def fieldsOf (t e : Nat) : List Fld :=
  match t with
  | 0x00 =>
    [{ F.DEVINFO_UID with rst := Config.uid.toNat }, F.DEVINFO_DEVID, F.DEVINFO_STEP]
  | 0x01 =>
    [{ F.TENANTS_ENABLE with rst := if e = 0 then 1 else 0 },
     { F.TENANTS_BIND_P0 with rst := if e = 0 then 1 else 0 }, F.TENANTS_BIND_P1, F.TENANTS_GEN, F.TENANTS_LABEL]
  | 0x02 =>
    [F.CLAIMS_HELD, F.CLAIMS_HOLDER, F.CLAIMS_TENANT, F.CLAIMS_FUNC]
  | 0x04 =>
    if e < 64 then
      [{ F.EVSUB_SUB with rst := if e = 0 then 0x7FFF else 0 },
       { F.EVSUB_ALLOW with rst := if e = 0 then 0x7FFF else 0 }, F.EVSUB_SEV_MIN, F.EVSUB_PEND, F.EVSUB_COUNT,
       F.EVSUB_LOST, F.EVSUB_NEXT_SEQ]
    else if e = 64 then
      [F.EVSUB64_REQ_P0, F.EVSUB64_REQ_P1]
    else []
  | 0x05 =>
    if e = 0 then
      [F.PW_GOV_F_AMBER, F.PW_GOV_F_RED, F.PW_GOV_F_HYST, F.PW_GOV_H_BLACK, F.PW_GOV_H_OK, F.PW_GOV_AMBER_MS,
       F.PW_GOV_RISE_MS, F.PW_GOV_T_CAP, F.PW_GOV_T_HOT, F.PW_GOV_PFAIL_EN, F.PW_GOV_FEED_EN, F.PW_GOV_HOLD_EN]
    else if e = 1 then
      [F.PW_GOV_FEED_MV, F.PW_GOV_HOLD_MV, F.PW_GOV_TDIE, F.PW_GOV_FALLS, F.PW_GOV_FEED_MIN]
    else []
  | 0x06 =>
    if e = 0 then
      [F.PW_EMBER_SECONDS, F.PW_EMBER_FRAC, F.PW_EMBER_ALARM, F.PW_EMBER_ALARM_EN, F.PW_EMBER_WAKE_N_EN,
       F.PW_EMBER_DOOR_EN, F.PW_EMBER_DOOR_POL, F.PW_EMBER_PWREN_USED, F.PW_EMBER_BLACK_HOLD_S]
    else if e = 1 then
      [F.PW_EMBER_PUC, F.PW_EMBER_LAST_LEVEL, F.PW_EMBER_EMB_VALID, F.PW_EMBER_X32_FAIL, F.PW_EMBER_LAST_RESET,
       F.PW_EMBER_WAKE_CAUSE, F.PW_EMBER_DOOR]
    else if 2 ≤ e then
      [F.PW_EMBER_HOST0_HOST3]
    else []
  | 0x07 =>
    if 1 ≤ e ∧ e ≤ 5 then
      [{ F.PW_SINTER_OP with wc := decide (e = 5) }, { F.PW_SINTER_TYPE with wc := decide (e = 5) },
       F.PW_SINTER_AHEAD, F.PW_SINTER_RLEN, { F.PW_SINTER_KEY with wc := decide (e = 5) },
       { F.PW_SINTER_LEN with wc := decide (e = 5) }, { F.PW_SINTER_ADDR with wc := decide (e = 5) },
       { F.PW_SINTER_TAG with wc := decide (e = 5) }, F.PW_SINTER_OUTCOME, F.PW_SINTER_STATE,
       { F.PW_SINTER_CMD with wc := decide (1 ≤ e ∧ e ≤ 5) }, F.PW_SINTER_QIDX, F.PW_SINTER_SEQ]
    else if e = 0 then
      [F.SN_STAT_FREE, F.SN_STAT_LIVE_WORDS, F.SN_STAT_LIVE_RECS, F.SN_STAT_NEXT_SEQ, F.SN_STAT_LAPS,
       F.SN_STAT_IGNORED, F.SN_STAT_IMG_REFUSED]
    else if 6 ≤ e then
      [{ F.SN_QUOTA_QUOTA with rst := if e = 6 then 8192 else 0 }, F.SN_QUOTA_USED]
    else []
  | 0x08 =>
    [F.GY_CFG_NOMINAL, F.GY_CFG_OWN_IN, F.GY_CFG_REALIGN_EN, F.GY_CFG_OPT1_USE, F.GY_CFG_OPT2_USE, F.GY_CFG_NET_USE,
     F.GY_CFG_OFS_MODE, F.GY_CFG_SLEW_PPM, F.GY_CFG_HOLD_MAX, F.GY_CFG_ACQ_MAX, F.GY_CFG_LOCK_WIN, F.GY_CFG_TAU,
     F.GY_CFG_UNLOCK_WIN, F.GY_CFG_REALIGN_THR, F.GY_CFG_GRID_OFFSET]
  | 0x09 =>
    [{ F.GY_REFS_EDGE with wc := decide (e < 3) },
     { F.GY_REFS_DEB with wc := decide (e < 3), rst := if e < 3 then 20 else 0 },
     { F.GY_REFS_OFFSET with wc := decide (e ≠ 3) }, F.GY_REFS_QSTATE, F.GY_REFS_OFS_VALID, F.GY_REFS_GOOD,
     F.GY_REFS_BAD, F.GY_REFS_PHASE_ID, F.GY_REFS_SPUR, F.GY_REFS_FREQ, F.GY_REFS_LAST_ERR, F.GY_REFS_LAST_CYCLE]
  | 0x0A =>
    [{ F.ASCHED_VALID with wc := decide (56 ≤ e) }, F.ASCHED_OWNER, F.ASCHED_KIND, F.ASCHED_KERN,
     { F.ASCHED_START with wc := decide (56 ≤ e) }, { F.ASCHED_LEN with wc := decide (56 ≤ e) },
     { F.ASCHED_PERIOD with wc := decide (56 ≤ e) }, { F.ASCHED_K with wc := decide (56 ≤ e) },
     { F.ASCHED_PHASE with wc := decide (56 ≤ e) }]
  | 0x0B =>
    [F.GY_CMP_MODE, F.GY_CMP_PIN, F.GY_CMP_EVT, F.GY_CMP_PW, F.GY_CMP_ANGLE, F.GY_CMP_CYCLE, F.GY_CMP_FIRED,
     F.GY_CMP_STEPPED, F.GY_CMP_COUNT]
  | 0x10 =>
    [F.LS_CFG_PROFILE, F.LS_CFG_TXMODE, F.LS_CFG_TXPHASE, F.LS_CFG_LEVEL, F.LS_CFG_DITHER, F.LS_CFG_DITHER_AUTO,
     F.LS_CFG_PH_EN, F.LS_CFG_AGC_EN, F.LS_CFG_GAIN1, F.LS_CFG_GAIN2, F.LS_CFG_GAIN3, F.LS_CFG_CHK_ERR,
     F.LS_CFG_COMMON_PEND, F.LS_CFG_OWN_PEND]
  | 0x11 =>
    [F.TONESETS_POS0, F.TONESETS_POS1, F.TONESETS_POS2, F.TONESETS_POS3, F.TONESETS_POS4, F.TONESETS_POS5,
     F.TONESETS_POS6, F.TONESETS_POS7, F.TONESETS_POS8, F.TONESETS_POS9, F.TONESETS_POS10, F.TONESETS_POS11,
     F.TONESETS_POS12, F.TONESETS_POS13, F.TONESETS_POS14, F.TONESETS_POS15]
  | 0x12 =>
    [F.LS_MAPS_WORD]
  | 0x13 =>
    [F.LS_RXSTAT_GAIN, F.LS_RXSTAT_CLIPPING, F.LS_RXSTAT_STEPS, F.LS_RXSTAT_CLIPS, F.LS_RXSTAT_REDUCED,
     F.LS_RXSTAT_PEAK, F.LS_RXSTAT_BLANKED, F.LS_RXSTAT_LAST_CYCLE]
  | 0x14 =>
    [F.LA_CFG_DOMAIN_ID, F.LA_CFG_ADDR, F.LA_CFG_ROLE, F.LA_CFG_TIER, F.LA_CFG_DOM_TIERS, F.LA_CFG_ACC_TONE0,
     F.LA_CFG_ACC_TONE1, F.LA_CFG_ACC_TONE2, F.LA_CFG_ACC_TONE3, F.LA_CFG_WAKE_IDX, F.LA_CFG_RETRY_MAX,
     F.LA_CFG_GRANT_LEAD, F.LA_CFG_ACC_THR, F.LA_CFG_ALARM_CREDIT, F.LA_CFG_WATCH_PH]
  | 0x15 =>
    [F.LA_NBR_ADDR, F.LA_NBR_PHASE, F.LA_NBR_PIN, F.LA_NBR_LQ, F.LA_NBR_MAPVER, F.LA_NBR_RX_FC, F.LA_NBR_LAST_CYCLE,
     F.LA_NBR_LAST_SEQ, F.LA_NBR_SEQ_VALID]
  | 0x16 =>
    [F.LA_TENANT_WEIGHT, F.LA_TENANT_QLIM, F.LA_TENANT_LKEY, F.LA_TENANT_BKT_MAX, F.LA_TENANT_REFILL,
     F.LA_TENANT_LEVEL, F.LA_TENANT_QUEUED]
  | 0x17 =>
    [{ F.LA_TXQ_DST with wc := decide (e = 16) }, { F.LA_TXQ_CLASS with wc := decide (e = 16) },
     { F.LA_TXQ_TIERS with wc := decide (e = 16) }, { F.LA_TXQ_MAPSEL with wc := decide (e = 16) },
     { F.LA_TXQ_LEN with wc := decide (e = 16) }, { F.LA_TXQ_ACKREQ with wc := decide (e = 16) },
     { F.LA_TXQ_SECURE with wc := decide (e = 16) }, { F.LA_TXQ_TAG with wc := decide (e = 16) }, F.LA_TXQ_OUTCOME,
     F.LA_TXQ_STATE, F.LA_TXQ_CMD, F.LA_TXQ_AHEAD, F.LA_TXQ_ATTEMPTS, F.LA_TXQ_SEQ, F.LA_TXQ_QIDX, F.LA_TXQ_H_CYCLE,
     F.LA_TXQ_H_HALF, F.LA_TXQ_WAIT]
  | 0x18 =>
    [F.LA_STAGE_WORD]
  | 0x19 =>
    if e % 9 = 0 then
      [F.LA_RX_HEADER, F.LA_RX_RELEASE, F.LA_RX_CYCLE, F.LA_RX_ANGLE, F.LA_RX_COPY]
    else if e % 9 ≠ 0 then
      [F.LA_RX_WORD]
    else []
  | 0x1A =>
    [F.LA_STAT_TEC, F.LA_STAT_REC, F.LA_STAT_CONF, F.LA_STAT_TX_FC, F.LA_STAT_HDR_BAD, F.LA_STAT_TAG_MISS,
     F.LA_STAT_UNACKED, F.LA_STAT_CREDIT_S]
  | 0x1B =>
    [F.LA_DORM_DSTATE, F.LA_DORM_COMMIT_HALF, F.LA_DORM_PROPOSER, F.LA_DORM_COMMIT_CYCLE, F.LA_DORM_WAKES]
  | 0x1C =>
    if e = 0 then
      [F.LL_CFG_AUTO, F.LL_CFG_KEEP, F.LL_CFG_SIG_MODE, F.LL_CFG_ALPHA_SH, F.LL_CFG_CONF_MIN, F.LL_CFG_PUB_GAP,
       F.LL_CFG_REPEAT, F.LL_CFG_MAP_TTL, F.LL_CFG_HYST, F.LL_CFG_IMP_DB, F.LL_CFG_IMP_LO, F.LL_CFG_IMP_HI,
       F.LL_CFG_SIG_MARGIN, F.LL_CFG_SIG_FIX, F.LL_CFG_THR_R6, F.LL_CFG_THR_R4, F.LL_CFG_THR_F4, F.LL_CFG_THR_F8,
       F.LL_CFG_THR_F16, F.LL_CFG_THR_T8, F.LL_CFG_CLEAR]
    else if e = 1 then
      [F.LL_CFG1_FBLANK, F.LL_CFG1_N_FLOOR, F.LL_CFG1_SIG1, F.LL_CFG1_SIG2, F.LL_CFG1_SIG3]
    else []
  | 0x1D =>
    [F.LL_NOISE_MEAN0, F.LL_NOISE_MEAN1, F.LL_NOISE_MEAN2, F.LL_NOISE_MEAN3, F.LL_NOISE_MEAN4, F.LL_NOISE_MEAN5,
     F.LL_NOISE_MEAN6, F.LL_NOISE_MEAN7]
  | 0x1E =>
    if e < 96 then
      [F.LL_SLOT_IMP, F.LL_SLOT_QCNT, F.LL_SLOT_RCNT, F.LL_SLOT_EST, F.LL_SLOT_WAKEN, F.LL_SLOT_LAST_CYCLE]
    else if 96 ≤ e then
      [F.LL_ACC_ACC0, F.LL_ACC_ACC1, F.LL_ACC_ACC2, F.LL_ACC_ACC3, F.LL_ACC_WAKE, F.LL_ACC_QCNT]
    else []
  | 0x1F =>
    if e = 2 then
      [F.LL_MAPS_PVER, F.LL_MAPS_CONF, F.LL_MAPS_MAPVER, F.LL_MAPS_LSTATE, F.LL_MAPS_PUB_PEND, F.LL_MAPS_APPROVE,
       F.LL_MAPS_APPROVE_VER, F.LL_MAPS_OBS, F.LL_MAPS_ACT_CYCLE, F.LL_MAPS_SKIP]
    else if 5 ≤ e ∧ (e - 5) % 5 = 0 then
      [F.LL_NBR_ADDR, F.LL_NBR_MAPVER, F.LL_NBR_NSTATE, F.LL_NBR_COMMON, F.LL_NBR_PENDING, F.LL_NBR_ACT_CYCLE,
       F.LL_NBR_AGE, F.LL_NBR_SETS_CRC]
    else if (e ≤ 1 ∨ e = 3 ∨ e = 4) ∨ (5 ≤ e ∧ (e - 5) % 5 ≠ 0) then
      [F.LL_MAPS_WORD]
    else []
  | 0x20 =>
    [F.CJ_CFG_QUANTUM, F.CJ_CFG_SCRUB, F.CJ_CFG_SUB, F.CJ_CFG_ECC_CORR, F.CJ_CFG_ECC_UNCORR]
  | 0x21 =>
    [{ F.CJ_Q_OP with wc := decide (e = 8) }, { F.CJ_Q_SUB with wc := decide (e = 8) },
     { F.CJ_Q_FMT_A with wc := decide (e = 8) }, { F.CJ_Q_FMT_B with wc := decide (e = 8) },
     { F.CJ_Q_FMT_Y with wc := decide (e = 8) }, { F.CJ_Q_RND with wc := decide (e = 8) },
     { F.CJ_Q_ADDR_A with wc := decide (e = 8) }, { F.CJ_Q_ADDR_B with wc := decide (e = 8) },
     { F.CJ_Q_ADDR_Y with wc := decide (e = 8) }, { F.CJ_Q_ADDR_P with wc := decide (e = 8) },
     { F.CJ_Q_TAG with wc := decide (e = 8) }, { F.CJ_Q_COUNT with wc := decide (e = 8) },
     { F.CJ_Q_BOUND with wc := decide (e = 8) }, { F.CJ_Q_RSV with wc := decide (e = 8) }]
  | 0x22 =>
    [F.CJ_QSTAT_STATE, F.CJ_QSTAT_OUTCOME, F.CJ_QSTAT_FLAGS, F.CJ_QSTAT_AHEAD,
     { F.CJ_QSTAT_CMD with wc := decide (e < 8) }, F.CJ_QSTAT_CYCLES, F.CJ_QSTAT_TAG, F.CJ_QSTAT_QIDX]
  | 0x23 =>
    [F.CJ_TENANT_WEIGHT, F.CJ_TENANT_QLIM, F.CJ_TENANT_HC_BUDGET, F.CJ_TENANT_PAGES, F.CJ_TENANT_USED]
  | 0x24 =>
    [F.CJ_PAGE_TENANT, F.CJ_PAGE_ASSIGNED]
  | 0x25 =>
    [{ F.CJ_MEM_WORD with wc := decide (0x600 ≤ e) }]
  | 0x26 =>
    [F.CJ_KERN_INVOC, F.CJ_KERN_LAST, F.CJ_KERN_MAX, F.CJ_KERN_SHED, F.CJ_KERN_LATE]
  | 0x27 =>
    [F.CJ_STAT_HOST_CYC, F.CJ_STAT_KERN_CYC, F.CJ_STAT_PREEMPTS, F.CJ_STAT_HELD_HC]
  | 0x28 =>
    [F.OB_CFG_DUMMY_MAX, F.OB_CFG_SHUFFLE, F.OB_CFG_DUP, F.OB_CFG_INV, F.OB_CFG_PROV_OPEN, F.OB_CFG_T_REF,
     F.OB_CFG_FAULTS]
  | 0x29 =>
    [{ F.OB_SLOT_PRESENT with rst := if e = 256 then 1 else 0 },
     { F.OB_SLOT_KLEN with rst := if e = 256 then 2 else 0 }, F.OB_SLOT_PERSIST,
     { F.OB_SLOT_USAGE with wc := decide (e ≠ 256) }, { F.OB_SLOT_CMD with wc := decide (e ≠ 256) },
     { F.OB_SLOT_PERS_REQ with wc := decide (e ≠ 256) }, { F.OB_SLOT_NEWLEN with wc := decide (e ≠ 256) },
     { F.OB_SLOT_KEK with wc := decide (e ≠ 256) }, F.OB_SLOT_OUTCOME, F.OB_SLOT_PENDING, F.OB_SLOT_KGEN]
  | 0x2A =>
    [F.OB_KEYIN_WORD]
  | 0x2B =>
    [{ F.OB_Q_MODE with wc := decide (e = 16) }, { F.OB_Q_DIR with wc := decide (e = 16) },
     { F.OB_Q_SLOT with wc := decide (e = 16) }, { F.OB_Q_LEN with wc := decide (e = 16) },
     { F.OB_Q_ALEN with wc := decide (e = 16) }, { F.OB_Q_MCODE with wc := decide (e = 16) },
     { F.OB_Q_TAG with wc := decide (e = 16) }, { F.OB_Q_CMD with wc := decide (4 ≤ e) }, F.OB_Q_OUTCOME,
     F.OB_Q_STATE, F.OB_Q_AHEAD, F.OB_Q_QIDX, F.OB_Q_TICKS]
  | 0x2C =>
    [F.OB_DATA_WORD]
  | 0x2D =>
    [F.OB_TENANT_QLIM, F.OB_TENANT_HELD, F.OB_TENANT_JOBS]
  | 0x2E =>
    [F.RNG_CFG_RCT_C, F.RNG_CFG_APT_C, F.RNG_CFG_LINE_MIX, F.RNG_CFG_REQS, F.RNG_CFG_RESEEDS]
  | 0x30 =>
    if e = 0 then
      [F.RC_CFG_NET_ID, F.RC_CFG_SEL, F.RC_CFG_PROF, F.RC_CFG_SLOT_EXP, F.RC_CFG_BCN_EXP, F.RC_CFG_IRQ_POL,
       F.RC_CFG_SFD_EDGE, F.RC_CFG_FOLLOW_LINE, F.RC_CFG_ACK_DLY, F.RC_CFG_TX_LEAD, F.RC_CFG_OVH_BYTES,
       F.RC_CFG_BIT_NS, F.RC_CFG_RST_US, F.RC_CFG_HOP_SEED]
    else if e = 1 then
      [F.RC_CFG_SCR0, F.RC_CFG_SCR1, F.RC_CFG_SCR2, F.RC_CFG_SCR3, F.RC_CFG_SCR4, F.RC_CFG_SCR5, F.RC_CFG_SCR6,
       F.RC_CFG_SCR7, F.RC_CFG_WUC_MS, F.RC_CFG_FILTERED, F.RC_CFG_DUPS, F.RC_CFG_SKIPS]
    else []
  | 0x31 =>
    [F.RC_SCRIPT_STEP0, F.RC_SCRIPT_STEP1, F.RC_SCRIPT_STEP2, F.RC_SCRIPT_STEP3]
  | 0x32 =>
    [F.RC_HOP_CH, F.RC_HOP_BAND, F.RC_HOP_EN, F.RC_HOP_USED, F.RC_HOP_TOTAL]
  | 0x33 =>
    [F.RC_BAND_DUTY_MS, F.RC_BAND_DUTY_WIN_S, F.RC_BAND_DWELL_MS, F.RC_BAND_DWELL_WIN_S, F.RC_BAND_RESERVE_PCT,
     F.RC_BAND_USED]
  | 0x34 =>
    if e % 2 = 0 then
      [F.RC_TAG_EUI, F.RC_TAG_TENANT, F.RC_TAG_TKEY, F.RC_TAG_STATE, F.RC_TAG_PENDING, F.RC_TAG_CMD,
       F.RC_TAG_WAKE_CODE, F.RC_TAG_WU_ENT]
    else if e % 2 = 1 then
      [F.RC_TAG_RX_FC, F.RC_TAG_TX_FC, F.RC_TAG_LISTEN_MS, F.RC_TAG_LAST_SEQ, F.RC_TAG_SEQ_VALID, F.RC_TAG_TX_SEQ,
       F.RC_TAG_LAST_CYCLE]
    else []
  | 0x35 =>
    [{ F.RC_TXQ_DST with wc := decide (e = 8) }, { F.RC_TXQ_BYTES with wc := decide (e = 8) },
     { F.RC_TXQ_ACKREQ with wc := decide (e = 8) }, { F.RC_TXQ_SEC with wc := decide (e = 8) },
     { F.RC_TXQ_WAKE with wc := decide (e = 8) }, { F.RC_TXQ_TAG with wc := decide (e = 8) }, F.RC_TXQ_OUTCOME,
     F.RC_TXQ_STATE, F.RC_TXQ_CMD, F.RC_TXQ_AHEAD, F.RC_TXQ_ATTEMPTS, F.RC_TXQ_QIDX, F.RC_TXQ_WAIT]
  | 0x36 =>
    if e < 8 then
      [F.RC_FRAME_WORD]
    else if 8 ≤ e ∧ (e - 8) % 9 = 0 then
      [F.RC_RX_SRC, F.RC_RX_SEQ, F.RC_RX_BYTES, F.RC_RX_FTYPE, F.RC_RX_SEC, F.RC_RX_RELEASE, F.RC_RX_SFD_TICK,
       F.RC_RX_CYCLE, F.RC_RX_ANGLE, F.RC_RX_CH]
    else if 8 ≤ e ∧ (e - 8) % 9 ≠ 0 then
      [F.RC_RX_WORD]
    else []
  | 0x37 =>
    [F.RC_TENANT_SHARE, F.RC_TENANT_WEIGHT, F.RC_TENANT_QLIM, F.RC_TENANT_USED0, F.RC_TENANT_USED1,
     F.RC_TENANT_USED2, F.RC_TENANT_USED3]
  | 0x38 =>
    [F.OP_CFG_ALS_EN, F.OP_CFG_AUTH, F.OP_CFG_TIME_TX, F.OP_CFG_CAL_EN, F.OP_CFG_KEY, F.OP_CFG_LOS_TH,
     F.OP_CFG_LOS_MS, F.OP_CFG_PULSE_MS, F.OP_CFG_PERIOD_S, F.OP_CFG_TEST_S, F.OP_CFG_FAIL_US, F.OP_CFG_PINT,
     F.OP_CFG_CAL_K, F.OP_CFG_TX_QLIM, F.OP_CFG_RX_TLIM, F.OP_CFG_TIME_EXP]
  | 0x39 =>
    [F.OP_LASER_BIAS_MAX, F.OP_LASER_BIAS_EOL, F.OP_LASER_MOD, F.OP_LASER_MPD_SET, F.OP_LASER_MPD_MIN,
     F.OP_LASER_FAILED, F.OP_LASER_FCAUSE, F.OP_LASER_BIAS, F.OP_LASER_ITH, F.OP_LASER_SLOPE, F.OP_LASER_CALS]
  | 0x3A =>
    if e % 2 = 0 then
      [F.OP_STAT_SUB, F.OP_STAT_RLOS_RX, F.OP_STAT_PILOT_SIGN, F.OP_STAT_PILOT_STALE, F.OP_STAT_GRP_HIST,
       F.OP_STAT_LAST_GSEQ, F.OP_STAT_PWR_AVG, F.OP_STAT_PWR_PILOT, F.OP_STAT_CYCLE]
    else if e % 2 = 1 then
      [F.OP_CNT_CRC_BAD, F.OP_CNT_DROP, F.OP_CNT_HOP_DROP, F.OP_CNT_GRP_FAIL, F.OP_CNT_GRP_OK, F.OP_CNT_SYNC_LOSS,
       F.OP_CNT_TAKEOVERS, F.OP_CNT_TYPE_BAD]
    else []
  | 0x3B =>
    if e % 32 ≤ 16 ∧ e % 2 = 0 then
      [{ F.OP_CELL_TYPE with wc := decide (e % 32 = 16) }, { F.OP_CELL_HOP with wc := decide (e % 32 = 16) },
       F.OP_CELL_TENANT, F.OP_CELL_SEQ, F.OP_CELL_FLAGS, F.OP_CELL_OUTCOME, F.OP_CELL_STATE,
       { F.OP_CELL_CMD with wc := decide (e % 32 < 8 ∨ e % 32 = 16) },
       { F.OP_CELL_RELEASE with wc := decide (8 ≤ e % 32 ∧ e % 32 < 16) }, F.OP_CELL_QIDX, F.OP_CELL_CYCLE,
       F.OP_CELL_ANGLE]
    else if e % 32 < 8 ∧ e % 2 = 1 then
      [F.OP_CELL_PAYLOAD]
    else if 8 ≤ e % 32 ∧ e % 32 < 16 ∧ e % 2 = 1 then
      [F.OP_CELLRX_PAYLOAD]
    else []
  | 0x3C =>
    if e = 0 then
      [F.SF_CFG_IMP_EN, F.SF_CFG_IMP_PERIOD, F.SF_CFG_EXC_RETRY_S, F.SF_CFG_LR_PERIOD, F.SF_CFG_R_MIN,
       F.SF_CFG_R_MAX, F.SF_CFG_IMB_TH, F.SF_CFG_LEAK_TH]
    else if e = 1 then
      [F.SF_CFG_SRC_EN]
    else if 2 ≤ e ∧ e ≤ 5 then
      [F.SF_CH_EXC, F.SF_CH_EN, F.SF_CH_GAIN, F.SF_CH_FILTER, F.SF_CH_NEXP, F.SF_CH_INSEL, F.SF_CH_TSRC, F.SF_CH_DS,
       F.SF_CH_DT, F.SF_CH_TENANT, F.SF_CH_IEXC, F.SF_CH_TRIPPED, F.SF_CH_TRIPS, F.SF_CH_OVERS]
    else if 6 ≤ e ∧ e ≤ 9 then
      [F.SF_CTL_EVT_DIV, F.SF_CTL_LOAD, F.SF_CTL_CGEN, F.SF_CTL_LOAD_PEND]
    else if 16 ≤ e then
      [F.SF_COEF_C0, F.SF_COEF_C1, F.SF_COEF_C2, F.SF_COEF_C3]
    else []
  | 0x3D =>
    if e ≤ 8 then
      [F.SF_RES_RAW, F.SF_RES_REASON, F.SF_RES_VALID, F.SF_RES_TIME_UNLOCKED, F.SF_RES_TSTALE, F.SF_RES_VALUE,
       F.SF_RES_SEQ, F.SF_RES_CYCLE, F.SF_RES_ANGLE]
    else if 9 ≤ e ∧ e ≤ 12 then
      [F.SF_IMP_RESULT, F.SF_IMP_FAULTS, F.SF_IMP_RB, F.SF_IMP_RLP, F.SF_IMP_RLN, F.SF_IMP_LEAK, F.SF_IMP_CYCLE,
       F.SF_IMP_CHECKS]
    else if e = 13 then
      [F.SF_ST_CHECKING, F.SF_ST_CHK_CH, F.SF_ST_LOW_RATE, F.SF_ST_ITOTAL, F.SF_ST_LATE_BATCHES, F.SF_ST_BATCH]
    else []
  | 0x3E =>
    if e = 0 then
      [F.LP_CTL_MODE, F.LP_CTL_FAIL_SEL, F.LP_CTL_HR_POL, F.LP_CTL_HOSTFAIL_EN, F.LP_CTL_SRC, F.LP_CTL_CODE_SEL,
       F.LP_CTL_SLEW, F.LP_CTL_FAIL_LO, F.LP_CTL_FAIL_HI, F.LP_CTL_HOLD_MS, F.LP_CTL_HR_TH, F.LP_CTL_HR_HYST,
       F.LP_CTL_HR_MS, F.LP_CTL_REC_MS]
    else if e = 1 then
      [F.LP_SCALE_V_LO, F.LP_SCALE_V_HI, F.LP_SCALE_VS_SCALE, F.LP_SCALE_RSENSE, F.LP_SCALE_R_LOOP]
    else if e = 3 then
      [F.LP_STAT_OUTPUT, F.LP_STAT_TARGET, F.LP_STAT_I_MEAS, F.LP_STAT_V_H, F.LP_STAT_R_EST, F.LP_STAT_SUB,
       F.LP_STAT_LIMITED_N]
    else if e = 2 then
      [F.LP_LVL_LVL0, F.LP_LVL_LVL1, F.LP_LVL_LVL2, F.LP_LVL_LVL3, F.LP_LVL_LVL4, F.LP_LVL_LVL5, F.LP_LVL_LVL6,
       F.LP_LVL_LVL7]
    else []
  | 0x3F =>
    if e = 0 then
      [F.MS_CFG_MODE, F.MS_CFG_RADIO_CODE, F.MS_CFG_RADIO_CODE_EN, F.MS_CFG_ENTRIES, F.MS_CFG_TIMEOUTS,
       F.MS_CFG_STRETCH_MAX]
    else if 1 ≤ e ∧ e ≤ 4 then
      [F.MS_PROF_DIV, F.MS_PROF_CPOL, F.MS_PROF_CPHA, F.MS_PROF_LSB_FIRST, F.MS_PROF_RDY_EN, F.MS_PROF_FILL,
       F.MS_PROF_SDLY, F.MS_PROF_LEAD, F.MS_PROF_LAG, F.MS_PROF_GAP, F.MS_PROF_RDY_TO]
    else if 8 ≤ e ∧ e ≤ 24 then
      [{ F.MS_E_TXD with wc := decide (e = 24) }, F.MS_E_RXD, { F.MS_E_WLEN with wc := decide (e = 24) },
       { F.MS_E_LONG with wc := decide (e = 24) }, { F.MS_E_LEN with wc := decide (e = 24) },
       { F.MS_E_PROF with wc := decide (e = 24) }, { F.MS_E_SEL with wc := decide (e = 24) },
       { F.MS_E_CONT with wc := decide (e = 24) }, { F.MS_E_TAG with wc := decide (e = 24) },
       { F.MS_E_CMD with wc := decide (12 ≤ e ∧ e ≤ 24) }, F.MS_E_STATE, F.MS_E_OUTCOME]
    else if 32 ≤ e ∧ e ≤ 48 then
      [F.MS_S_BITS, F.MS_S_HOLDER, F.MS_S_AHEAD, F.MS_S_QIDX, F.MS_S_STRETCH, F.MS_S_CYCLE, F.MS_S_ANGLE]
    else []
  | _ => []

/-- The bits of a field. -/
def Fld.mask (f : Fld) : Word := BitVec.ofNat 128 ((2 ^ f.w - 1) <<< f.lo)

/-- A field of a word. -/
def Fld.of (f : Fld) (x : Word) : Nat := x.bits f.lo f.w

/-- A word with a field set; a value beyond the field's width is cut to it. -/
def Fld.into (f : Fld) (v : Nat) (x : Word) : Word :=
  (x &&& ~~~ f.mask) ||| BitVec.ofNat 128 ((v % 2 ^ f.w) <<< f.lo)

/-- The content of an entry at reset (spec/00_scope.md R15). -/
def resetWord (t e : Nat) : Word :=
  (fieldsOf t e).foldl (fun a f => a ||| BitVec.ofNat 128 (f.rst <<< f.lo)) 0

/-- The bits of an entry that a commit writes (spec/02_host_access.md R59). -/
def wcMask (t e : Nat) : Word :=
  (fieldsOf t e).foldl (fun a f => if f.wc then a ||| f.mask else a) 0

end Sys2Proof.Machine
end

