-- ==== Sys2Proof/Machine/CalderaOps.lean ====
section
/-! DEFINITION. What a Caldera job computes: its descriptor's legality, its spans, its cost and its result
(spec/09_caldera_jobs.md R311 to R318). The kernels K2 to K5 use the same operations. -/

namespace Sys2Proof.Machine.Cf

open Sys2Proof

/-- A job: the fields of its descriptor and its parameter word (spec/09_caldera_jobs.md R311, Tables CJ-1 and CJ-2). -/
structure Jd where
  op : Nat
  sub : Nat
  fa : Nat
  fb : Nat
  fy : Nat
  rnd : Nat
  aA : Nat
  aB : Nat
  aY : Nat
  aP : Nat
  count : Nat
  bound : Bool
  rsv : Nat
  p : Word

/-- The job a descriptor and a parameter word spell. -/
def Jd.mk' (w p : Word) : Jd where
  op := F.CJ_Q_OP.of w
  sub := F.CJ_Q_SUB.of w
  fa := F.CJ_Q_FMT_A.of w
  fb := F.CJ_Q_FMT_B.of w
  fy := F.CJ_Q_FMT_Y.of w
  rnd := F.CJ_Q_RND.of w
  aA := F.CJ_Q_ADDR_A.of w
  aB := F.CJ_Q_ADDR_B.of w
  aY := F.CJ_Q_ADDR_Y.of w
  aP := F.CJ_Q_ADDR_P.of w
  count := F.CJ_Q_COUNT.of w
  bound := F.CJ_Q_BOUND.of w == 1
  rsv := F.CJ_Q_RSV.of w
  p := p

/-- SEED of the parameter word. -/
def Jd.seed (j : Jd) : Nat := j.p.bits 0 32
/-- INIT of the parameter word. -/
def Jd.init (j : Jd) : Nat := j.p.bits 32 32
/-- ROWS of MATVEC. -/
def Jd.rows (j : Jd) : Nat := if j.op = 2 then j.p.bits 64 12 else 1
/-- NB of HIST. -/
def Jd.nb (j : Jd) : Nat := j.p.bits 96 8 + 1
/-- P of GOERTZEL and LOCKIN. -/
def Jd.per (j : Jd) : Nat := j.p.bits 64 16
/-- NT of GOERTZEL. -/
def Jd.nt (j : Jd) : Nat := j.p.bits 80 16
/-- A conversion to tephra under a given exponent. -/
def Jd.given (j : Jd) : Option Nat := if j.op = 4 ∧ bitOf (j.p.bits 64 1) 0 then some (j.p.bits 72 8) else none

/-- The operation has an operand B (spec/09_caldera_jobs.md R314, Table CJ-3). -/
def Jd.hasB (j : Jd) : Bool :=
  match j.op with
  | 1 => true | 2 => true | 3 => j.sub != 5 | 7 => true | 8 => true | 9 => true | 10 => true | _ => false

/-- The highest SUB of an operation. -/
def subMax : Nat → Nat
  | 3 => 5 | 5 => 3 | _ => 0

/-- The bits of OPF that an operation names (spec/09_caldera_jobs.md R314, Table CJ-3). -/
def opfMask : Nat → Nat
  | 2 => 0xFFF
  | 4 => 0xFF01
  | 6 => 0xFFFFFFFFFF
  | 7 => 0x1F
  | 8 => 0xFFFFFFFF
  | 9 => 0xFFFFFFFFFFFFFFFF
  | 10 => 0x37
  | _ => 0

/-- The result format an operation on the family of A allows (spec/08_caldera_formats.md R276). -/
def Jd.resultFits (j : Jd) : Bool :=
  if isFloat (fmtOf j.fa) then isFloat (fmtOf j.fy) else fmtOf j.fy == 7 || fmtOf j.fy == 0

/-- The formats and fields that Table CJ-3 asks of each operation (spec/09_caldera_jobs.md R311 to R318;
notes/assumptions/13.md). -/
def Jd.opLegal (j : Jd) : Bool :=
  let fa := fmtOf j.fa
  let fb := fmtOf j.fb
  let tab := isFloat fa && isFloat fb && j.fy == 0 && j.per % 4 == 0 && decide (4 ≤ j.per ∧ j.per ≤ 1024)
  match j.op with
  | 1 => isFloat fa == isFloat fb && j.resultFits
  | 2 => isFloat fa == isFloat fb && j.resultFits && j.rows != 0
  | 3 => isFloat fa && (!j.hasB || isFloat fb) && isFloat (fmtOf j.fy)
  | 4 => true
  | 5 => j.resultFits
  | 6 => isFloat fa && fmtOf j.fy == 7
  | 7 => isFloat fa && isFloat fb && j.fy == j.fa
  | 8 => tab
  | 9 => tab
  | 10 => j.fa == 0 && j.fb == 0 && j.fy == 0 && decide (j.p.bits 64 3 ≤ 5)
  | _ => false

/-- Elements of the result. -/
def Jd.outCount (j : Jd) : Nat :=
  match j.op with
  | 1 => 1 | 2 => j.rows | 5 => 1 | 6 => j.nb | 8 => j.nt | 9 => 2 | _ => j.count

/-- Words that `n` elements of a format span, in rows each starting on a word boundary (spec/09_caldera_jobs.md R312). -/
def elemWords (b rows n : Nat) : Nat := rows * ceilDiv n (fmtElems (fmtOf b))

/-- Blocks of a row (spec/08_caldera_formats.md R281). -/
def rowBlocks (b n : Nat) : Nat := ceilDiv n (blockOf b)

/-- Words of an operand with its scale sequence (spec/09_caldera_jobs.md R312). -/
def spanWords (b rows n : Nat) : Nat :=
  elemWords b rows n + (if isTephra (fmtOf b) then ceilDiv (rows * rowBlocks b n) 16 else 0)

/-- The spans of a job: A, B, parameters, result, as first word and length (spec/09_caldera_jobs.md R312). -/
def Jd.spanA (j : Jd) : Nat × Nat := (j.aA, spanWords j.fa j.rows j.count)
def Jd.spanB (j : Jd) : Nat × Nat :=
  (j.aB, if j.hasB then spanWords j.fb 1 (if j.op = 8 ∨ j.op = 9 then j.per else j.count) else 0)
def Jd.spanP (j : Jd) : Nat × Nat :=
  (j.aP, 1 + (if j.op = 8 then ceilDiv j.nt 8 else if j.op = 10 then 6 else 0))
def Jd.spanY (j : Jd) : Nat × Nat := (j.aY, spanWords j.fy 1 j.outCount)

/-- Every span of a job. -/
def Jd.spans (j : Jd) : List (Nat × Nat) := [j.spanA, j.spanB, j.spanP, j.spanY]

/-- A span lies in the host region (spec/09_caldera_jobs.md R313). -/
def spanHost (x : Nat × Nat) : Bool := x.2 == 0 || decide (0x600 ≤ x.1 ∧ x.1 + x.2 ≤ 0x1000)

/-- Two spans share a word. -/
def spanMeets (x y : Nat × Nat) : Bool :=
  x.2 != 0 && y.2 != 0 && decide (x.1 < y.1 + y.2 ∧ y.1 < x.1 + x.2)

/-- The result may stand where A stands (spec/09_caldera_jobs.md R313). -/
def Jd.inPlace (j : Jd) : Bool :=
  j.spanY == j.spanA && j.fy == j.fa && (j.op == 3 || j.op == 4 || j.op == 7)

/-- A job that a submission does not refuse with PARAM (spec/09_caldera_jobs.md R311 to R318). -/
def Jd.legal (j : Jd) : Bool :=
  decide (1 ≤ j.op ∧ j.op ≤ 10) && decide (j.sub ≤ subMax j.op) && rndLegal j.rnd
  && fmtLegal j.fa && fmtOf j.fa != 7
  && (if j.hasB then fmtLegal j.fb && fmtOf j.fb != 7 else j.fb == 0)
  && fmtLegal j.fy && fmtOf j.fy != 5 && fmtOf j.fy != 6
  && j.count != 0 && (j.bound || j.rsv == 0)
  && j.p.bits 64 64 &&& ((2 ^ 64 - 1) - opfMask j.op) == 0
  && j.opLegal
  && j.spans.all spanHost
  && (!spanMeets j.spanY j.spanA || j.inPlace) && !spanMeets j.spanY j.spanB

/-! Cost. -/

/-- A multiplication of the job has an FP32 multiplicand (spec/09_caldera_jobs.md R314). -/
def Jd.fp32Mul (j : Jd) : Bool :=
  let a := fmtOf j.fa == 0
  let b := fmtOf j.fb == 0
  match j.op with
  | 1 => a || b | 2 => a || b
  | 3 => j.sub == 5 || (j.sub == 2 && (a || b))
  | 5 => decide (j.sub ≤ 1) && a
  | _ => false

/-- G of the cost column (spec/09_caldera_jobs.md R314). -/
def Jd.g (j : Jd) : Nat :=
  let ab := if j.hasB then min (fmtElems (fmtOf j.fa)) (fmtElems (fmtOf j.fb)) else fmtElems (fmtOf j.fa)
  if j.op = 3 ∨ j.op = 4 ∨ j.op = 7 then min ab (fmtElems (fmtOf j.fy)) else ab

/-- A number of groups times c, rounded up (spec/09_caldera_jobs.md R314). -/
def Jd.timesC (j : Jd) (n : Nat) : Nat :=
  if j.fp32Mul then (if split2Of j.rnd then ceilDiv (3 * n) 2 else 3 * n) else n

/-- Blocks that an AUTO conversion fixes. -/
def Jd.autoBlocks (j : Jd) : Nat :=
  if isTephra (fmtOf j.fy) ∧ j.given.isNone then rowBlocks j.fy j.outCount else 0

/-- The run time of a job in CALD cycles (spec/09_caldera_jobs.md R314, Table CJ-3). -/
def Jd.cost (j : Jd) : Nat :=
  let n := ceilDiv j.count j.g
  (match j.op with
    | 2 => 47 + j.timesC (j.rows * n)
    | 4 => 47 + n
    | 6 => 47 + j.count + ceilDiv j.nb 4
    | 7 => 47 + ceilDiv j.count 4
    | 8 => 47 + j.nt * (2 * n + 4)
    | 9 => 47 + 2 * n + 4
    | 10 => 47 + 176 * j.count
    | _ => 47 + j.timesC n) + j.autoBlocks

/-! Operands. -/

/-- An element's code (spec/08_caldera_formats.md R274). -/
def codeAt (mem : Nat → Word) (f a i : Nat) : Nat :=
  (mem (a + i / fmtElems f)).bits (fmtWidth f * (i % fmtElems f)) (fmtWidth f)

/-- The scale byte of a block (spec/08_caldera_formats.md R281). -/
def scaleAt (mem : Nat → Word) (a k : Nat) : Nat := (mem (a + k / 16)).bits (8 * (k % 16)) 8

/-- Element `i` of a row of an operand. -/
def opnd (mem : Nat → Word) (ftz : Bool) (b a rows n r i : Nat) : M Fv :=
  elemIn b ftz (codeAt mem (fmtOf b) (a + r * elemWords b 1 n) i)
    (if isTephra (fmtOf b) then scaleAt mem (a + elemWords b rows n) (r * rowBlocks b n + i / blockOf b) else 0)

/-- An element of an integer operand. -/
def opndI (mem : Nat → Word) (b a n r i : Nat) : Int := intOf b (codeAt mem (fmtOf b) (a + r * elemWords b 1 n) i)

/-- An FP32 number given as its code. -/
def fpIn (ftz : Bool) (c : Nat) : M Fv := flushIn fp32 ftz (fp32.decode c)

/-- A two's complement INT32 code. -/
def int32Of (c : Nat) : Int := intOf 7 c

/-! Operations. -/

/-- A list of computed values, in order. -/
def collect (f : Nat → M El) : Nat → Nat → M (List El)
  | _, 0 => pure []
  | i, n + 1 => do
    let x ← f i
    let r ← collect f (i + 1) n
    pure (x :: r)

/-- DOT and MATVEC (spec/09_caldera_jobs.md R314). -/
def Jd.dot (j : Jd) (mem : Nat → Word) (r : Nat) : M El := do
  let ftz := ftzOf j.rnd
  if isFloat (fmtOf j.fa) then
    let init ← fpIn ftz j.init
    let v ← sumF ftz (fun n => do
      prod j.rnd (fmtOf j.fa) (fmtOf j.fb) (← opnd mem ftz j.fa j.aA j.rows j.count r n)
        (← opnd mem ftz j.fb j.aB 1 j.count 0 n)) j.count j.g init
    pure (v, false)
  else
    let v ← sumI (fun n => opndI mem j.fa j.aA j.count r n * opndI mem j.fb j.aB j.count 0 n) j.count j.g (int32Of j.init)
    pure (ofInt v 0, false)

/-- ELEM (spec/09_caldera_jobs.md R314, spec/08_caldera_formats.md R287). -/
def Jd.elem (j : Jd) (mem : Nat → Word) (n : Nat) : M El := do
  let ftz := ftzOf j.rnd
  let a ← opnd mem ftz j.fa j.aA 1 j.count 0 n
  let b ← if j.sub = 5 then fpIn ftz j.init else opnd mem ftz j.fb j.aB 1 j.count 0 n
  let v ← match j.sub with
    | 0 => add32 ftz a b
    | 1 => sub32 ftz a b
    | 3 => rne32 ftz (maxX a b)
    | 4 => rne32 ftz (minX a b)
    | 5 => prod j.rnd (fmtOf j.fa) 0 a b
    | _ => prod j.rnd (fmtOf j.fa) (fmtOf j.fb) a b
  pure (v, false)

/-- Max or min in element order, from INIT (spec/09_caldera_jobs.md R314). -/
def foldMax (f : Nat → M Fv) (pick : Fv → Fv → Fv) (ftz : Bool) : Nat → Nat → Fv → M Fv
  | _, 0, a => pure a
  | i, n + 1, a => do
    let x ← f i
    let a ← rne32 ftz (pick a x)
    foldMax f pick ftz (i + 1) n a

/-- REDUCE (spec/09_caldera_jobs.md R314). -/
def Jd.reduce (j : Jd) (mem : Nat → Word) : M El := do
  let ftz := ftzOf j.rnd
  let fa := fmtOf j.fa
  if isFloat fa then
    let init ← fpIn ftz j.init
    let a := fun n => opnd mem ftz j.fa j.aA 1 j.count 0 n
    let v ← match j.sub with
      | 0 => sumF ftz (fun n => do prod j.rnd fa fa (← a n) .one) j.count j.g init
      | 1 => sumF ftz (fun n => do let x ← a n; prod j.rnd fa fa x x) j.count j.g init
      | 2 => foldMax a maxX ftz 0 j.count init
      | _ => foldMax a minX ftz 0 j.count init
    pure (v, false)
  else
    let a := fun n => opndI mem j.fa j.aA j.count 0 n
    let i := int32Of j.init
    let v ← match j.sub with
      | 0 => sumI a j.count j.g i
      | 1 => sumI (fun n => a n * a n) j.count j.g i
      | 2 => pure ((List.range j.count).foldl (fun m n => max m (a n)) i)
      | _ => pure ((List.range j.count).foldl (fun m n => min m (a n)) i)
    pure (ofInt v 0, false)

/-- The bin of an element, none for a NaN (spec/09_caldera_jobs.md R315). -/
def Jd.bin (j : Jd) (mem : Nat → Word) (n : Nat) : M (Option Nat) := do
  let ftz := ftzOf j.rnd
  let a ← opnd mem ftz j.fa j.aA 1 j.count 0 n
  if a = .nan then do
    flag INVALID
    pure none
  else
    let d ← sub32 ftz a (← fpIn ftz j.init)
    let v ← mul32 ftz d (← fpIn ftz (j.p.bits 64 32))
    pure (some (match v with
      | .nan => Config.nanBin j.aY % j.nb
      | .inf neg => if neg then 0 else j.nb - 1
      | .fin neg m e => if neg then 0 else if gtExp m e j.nb 0 then j.nb - 1 else min (cut m e 0).1 (j.nb - 1)))

/-- HIST: the bins after the elements from `n` on (spec/09_caldera_jobs.md R315). -/
def Jd.hist (j : Jd) (mem : Nat → Word) : Nat → Nat → List Int → M (List Int)
  | _, 0, bins => pure bins
  | n, k + 1, bins => do
    match ← j.bin mem n with
    | none => j.hist mem (n + 1) k bins
    | some i => do
      let x ← clamp32 (bins.getD i 0 + 1)
      j.hist mem (n + 1) k (bins.set i x)

/-- One EWMA update: the mean `a`, the sample `b` (spec/09_caldera_jobs.md R316). -/
def ewma (ftz : Bool) (ash : Nat) (empty : Bool) (a b : Fv) : M El := do
  if empty ∧ a = .zero then pure (b, true)
  else
    let d ← sub32 ftz b a
    let d ← rne32 ftz (match d with | .fin s m e => .fin s m (e - ash) | v => v)
    let s ← add32 ftz a d
    pure (s, false)

/-- I or Q of a correlation: `ix` gives the table index of sample n (spec/09_caldera_jobs.md R317). -/
def Jd.corr (j : Jd) (mem : Nat → Word) (ix : Nat → Nat) : M Fv :=
  let ftz := ftzOf j.rnd
  sumF ftz (fun n => do
    prod j.rnd (fmtOf j.fa) (fmtOf j.fb) (← opnd mem ftz j.fa j.aA 1 j.count 0 n)
      (← opnd mem ftz j.fb j.aB 1 j.per 0 (ix n))) j.count j.g .zero

/-- GOERTZEL: E of tone number `t` of the list (spec/09_caldera_jobs.md R317). -/
def Jd.goertzel (j : Jd) (mem : Nat → Word) (t : Nat) : M El := do
  let ftz := ftzOf j.rnd
  let k := (mem (j.aP + 1 + t / 8)).bits (16 * (t % 8)) 16
  let i ← j.corr mem (fun n => k * n % j.per)
  let q ← j.corr mem (fun n => (k * n % j.per + 3 * j.per / 4) % j.per)
  let e ← add32 ftz (← mul32 ftz i i) (← mul32 ftz q q)
  pure (e, false)

/-- The table index of a LOCKIN sample (spec/09_caldera_jobs.md R317). -/
def lockIx (per phase0 step n : Nat) : Nat := (phase0 * 2 ^ 16 + n * step) % 2 ^ 32 / 2 ^ 16 % per

/-- LOCKIN: I, then Q (spec/09_caldera_jobs.md R317). -/
def Jd.lockin (j : Jd) (mem : Nat → Word) (c : Nat) : M El := do
  let ix := lockIx j.per (j.p.bits 80 16) (j.p.bits 96 32)
  let v ← j.corr mem (if c = 0 then ix else fun n => (ix n + 3 * j.per / 4) % j.per)
  pure (v, false)

/-- Powers 0 to `n` of `x` by lane terms (spec/09_caldera_jobs.md R318). -/
def powers (split2 ftz : Bool) (x : Fv) : Nat → M (List Fv)
  | 0 => pure [.one]
  | 1 => pure [.one, x]
  | n + 2 => do
    let l ← powers split2 ftz x (n + 1)
    let y ← lane split2 ftz (l.getD (n + 1) .zero) x
    pure (l ++ [y])

/-- The polynomial of POLY2D at one point (spec/09_caldera_jobs.md R318). -/
def poly2d (split2 ftz : Bool) (ds dt : Nat) (c : Nat → Nat → M Fv) (init u t : Fv) : M Fv := do
  let pu ← powers split2 ftz u ds
  let pt ← powers split2 ftz t dt
  let term := fun k => do
    let i := k / (dt + 1)
    let jj := k % (dt + 1)
    let m ← if jj = 0 then pure (pu.getD i .zero) else if i = 0 then pure (pt.getD jj .zero)
      else lane split2 ftz (pu.getD i .zero) (pt.getD jj .zero)
    lane split2 ftz (← c i jj) m
  sumF ftz term ((ds + 1) * (dt + 1)) 4 init

/-- POLY2D of one element (spec/09_caldera_jobs.md R318). -/
def Jd.poly (j : Jd) (mem : Nat → Word) (n : Nat) : M El := do
  let ftz := ftzOf j.rnd
  let u ← opnd mem ftz j.fa j.aA 1 j.count 0 n
  let t ← opnd mem ftz j.fb j.aB 1 j.count 0 n
  let v ← poly2d (split2Of j.rnd) ftz (j.p.bits 64 3) (j.p.bits 68 2)
    (fun i k => fpIn ftz (codeAt mem 0 (j.aP + 1) (4 * i + k))) (← fpIn ftz j.init) u t
  pure (v, false)

/-- The result elements of a job whose result is not HIST's (spec/09_caldera_jobs.md R314). -/
def Jd.elements (j : Jd) (mem : Nat → Word) : M (List El) :=
  let ftz := ftzOf j.rnd
  match j.op with
  | 1 => collect (j.dot mem) 0 1
  | 2 => collect (j.dot mem) 0 j.rows
  | 3 => collect (j.elem mem) 0 j.count
  | 4 => collect (fun n => do pure (← opnd mem ftz j.fa j.aA 1 j.count 0 n, false)) 0 j.count
  | 5 => collect (fun _ => j.reduce mem) 0 1
  | 7 => collect (fun n => do
      ewma ftz (j.p.bits 64 4) (j.p.bits 68 1 == 1) (← opnd mem ftz j.fa j.aA 1 j.count 0 n)
        (← opnd mem ftz j.fb j.aB 1 j.count 0 n)) 0 j.count
  | 8 => collect (j.goertzel mem) 0 j.nt
  | 9 => collect (j.lockin mem) 0 2
  | _ => collect (j.poly mem) 0 j.count

/-- The words a job writes: HIST leaves the positions past its bins; a scalar fills them with 0; a vector leaves them
open (spec/09_caldera_jobs.md R314, R315; notes/assumptions/14.md). -/
def Jd.writes (j : Jd) (mem : Nat → Word) : M (List (Nat × Word)) := do
  if j.op = 6 then
    let bins := (List.range j.nb).map (fun i => int32Of (codeAt mem 7 j.aY i))
    let bins ← j.hist mem 0 j.count bins
    pure (packCodes 32 (fun k => codeAt mem 7 (k / 128) (k % 128)) j.aY
      (bins.map (fun x => (x % (2 ^ 32 : Int)).toNat)))
  else
    let l ← j.elements mem
    let r ← results j.fy j.rnd j.aY j.given l
    let pad := if j.op = 1 ∨ j.op = 5 then fun _ => 0 else Config.padElem
    pure (packCodes (fmtWidth (fmtOf j.fy)) pad j.aY r.1
      ++ packCodes 8 Config.padElem (j.aY + elemWords j.fy 1 j.outCount) r.2)

/-- A job's flags and the words it writes, from memory as it stands (spec/08_caldera_formats.md R292, R295). -/
def Jd.run (j : Jd) (mem : Nat → Word) : Nat × List (Nat × Word) :=
  let r := j.writes mem (Cx.start j.seed)
  (r.2.flags, r.1)

end Sys2Proof.Machine.Cf
end

