-- ==== Sys2Proof/Machine/Codes.lean ====
section
/-! DEFINITION. Check codes and small generators used by several chapters: CRC-16, CRC-32, CRC-8. -/

namespace Sys2Proof.Machine

open Sys2Proof

/-- One bit into a CRC register of `n` bits, most significant bit first, with polynomial `poly`. -/
def crcStep (n poly r : Nat) (b : Bool) : Nat :=
  let top := r.testBit (n - 1) != b
  let r := (r * 2) % 2 ^ n
  if top then r ^^^ poly else r

/-- CRC-16, polynomial 0x1021, initial value 0xFFFF, no reflection and no final XOR, over bits in order
(spec/02_host_access.md R47, spec/06_line_access.md R196). -/
def crc16 (bits : List Bool) : Nat := bits.foldl (crcStep 16 0x1021) 0xFFFF

/-- CRC-16 over halfwords, most significant bit first (spec/02_host_access.md R47). -/
def crc16Halves (l : List Half) : Half := BitVec.ofNat 16 (crc16 (l.flatMap (fun h => bitsBE h.toNat 16)))

/-- The CRC-32 of IEEE 802.3 over bytes: reflected, initial value and final XOR of all ones
(spec/16_power_start_sinter.md R598). -/
def crc32 (bytes : List Byte) : Nat :=
  let step (r : Nat) (b : Bool) : Nat :=
    let low := (r % 2 == 1) != b
    let r := r / 2
    if low then r ^^^ 0xEDB88320 else r
  (bytes.flatMap (fun b => bitsLE b.toNat 8)).foldl step 0xFFFFFFFF ^^^ 0xFFFFFFFF

/-- The bytes of words taken from byte 15 down to byte 0 (spec/16_power_start_sinter.md R598). -/
def bytesDown (l : List Word) : List Byte := l.flatMap (fun w => w.bytes.reverse)

/-- `a` is later than `b` among 32-bit numbers that wrap (spec/00_scope.md R9, as R599 compares SEQ). -/
def later32 (a b : Nat) : Bool :=
  let d := (a + 2 ^ 32 - b % 2 ^ 32) % 2 ^ 32
  decide (0 < d ∧ d < 2 ^ 31)

end Sys2Proof.Machine
end

