-- ==== Sys2Proof/Machine/Ops.lean ====
section
/-! DEFINITION. The named operations every command is built from: window-table words, time, free values, events, unit
mirrors and claims. -/

namespace Sys2Proof.Machine

open Sys2Proof

/-! Sparse stores in canonical form: keys strictly rising. -/

/-- The value stored under a key. -/
def Sparse.get {α : Type} : List (Nat × α) → Nat → Option α
  | [], _ => none
  | (k, v) :: t, a => if k = a then some v else if a < k then none else Sparse.get t a

/-- A store with a value put under a key. -/
def Sparse.put {α : Type} : List (Nat × α) → Nat → α → List (Nat × α)
  | [], a, x => [(a, x)]
  | (k, v) :: t, a, x =>
    if a < k then (a, x) :: (k, v) :: t else if a = k then (a, x) :: t else (k, v) :: Sparse.put t a x

/-- A store without a key. -/
def Sparse.del {α : Type} : List (Nat × α) → Nat → List (Nat × α)
  | [], _ => []
  | (k, v) :: t, a => if k = a then t else if a < k then (k, v) :: t else (k, v) :: Sparse.del t a

/-- Every key of the store is above `lo`, and the keys rise strictly. -/
def Sparse.above {α : Type} : Option Nat → List (Nat × α) → Bool
  | _, [] => true
  | none, (k, _) :: t => Sparse.above (some k) t
  | some lo, (k, _) :: t => decide (lo < k) && Sparse.above (some k) t

/-- The keys of the store rise strictly. -/
def Sparse.rising {α : Type} (l : List (Nat × α)) : Bool := Sparse.above none l

/-- The canonical form of the window-table store: keys strictly rising, and no entry equal to what an unlisted key reads
as, which has change count 0. -/
def cellsWf (l : List (Nat × Cell)) : Bool := Sparse.rising l && l.all (fun p => p.2.ver != 0)

/-! Window-table words. -/

/-- The key of an entry of a table. -/
def cellKey (t e : Nat) : Nat := 4096 * t + e % 4096

/-- A window-table word with its change count; an unlisted one stands at its reset word (spec/00_scope.md R15). -/
def State.cell (s : State) (t e : Nat) : Cell :=
  (Sparse.get s.cells (cellKey t e)).getD { word := resetWord t e, ver := 0 }

/-- The content of an entry. -/
def State.rd (s : State) (t e : Nat) : Word := (s.cell t e).word

/-- The state with an entry's content changed; its change count goes up only when the content changes
(spec/02_host_access.md R58). -/
def State.wr (s : State) (t e : Nat) (w : Word) : State :=
  let c := s.cell t e
  if c.word = w then s else { s with cells := Sparse.put s.cells (cellKey t e) { word := w, ver := c.ver + 1 } }

/-- A field of an entry. -/
def State.g (s : State) (f : Fld) (e : Nat) : Nat := f.of (s.rd f.tab e)

/-- A one-bit field of an entry. -/
def State.b (s : State) (f : Fld) (e : Nat) : Bool := s.g f e != 0

/-- The state with a field of an entry set. -/
def State.p (s : State) (f : Fld) (e v : Nat) : State := s.wr f.tab e (f.into v (s.rd f.tab e))

/-- The state with several fields of one entry set. -/
def State.ps (s : State) (t e : Nat) (l : List (Fld × Nat)) : State :=
  s.wr t e (l.foldl (fun w x => x.1.into x.2 w) (s.rd t e))

/-- Every word of a table becomes 0. -/
def State.zeroTable (s : State) (t : Nat) : State :=
  { s with cells := s.cells.map (fun p =>
      if p.1 / 4096 = t ∧ p.2.word ≠ 0 then (p.1, { word := 0, ver := p.2.ver + 1 }) else p) }

/-- A counter field stepped up, stopping at its largest value. -/
def State.bumpSat (s : State) (f : Fld) (e : Nat) : State :=
  s.p f e (capAt (2 ^ f.w - 1) (s.g f e + 1))

/-- A counter field stepped up modulo its width. -/
def State.bump (s : State) (f : Fld) (e : Nat) : State := s.p f e (s.g f e + 1)

/-- What a commit of `w` to an entry leaves there: RW and WC fields from `w`, the others as they are
(spec/02_host_access.md R59). -/
def State.merged (s : State) (t e : Nat) (w : Word) : Word :=
  (s.rd t e &&& ~~~ wcMask t e) ||| (w &&& wcMask t e)

/-! Free values. -/

/-- A free value and the state after drawing it (notes/assumptions/2.md). -/
def State.draw (s : State) : Nat × State := (Config.freeValue s.free, { s with free := s.free + 1 })

/-! Refusals. -/

/-- The place of an outcome in the order of refusals (spec/00_scope.md R659). -/
def Oc.rank : Oc → Nat
  | .notAvailable => 0 | .param => 1 | .stateMismatch => 2 | .notReady => 3 | .fault => 4 | .power => 5 | .muted => 6
  | .resourceHeld => 7 | .busy => 8 | .tooLate => 9 | .queueFull => 10 | .budget => 11
  | .ok | .deferred | .aborted | .underrun | .badFrame => 12

/-- The outcome of several causes of refusal: the one that stands first in the order, OK when none holds
(spec/00_scope.md R659). -/
def judge (l : List (Bool × Oc)) : Oc :=
  l.foldl (fun a c => if c.1 && (decide (a = .ok) || decide (c.2.rank < a.rank)) then c.2 else a) .ok

/-- An outcome that accepts (spec/02_host_access.md R78, ACC_STAT.REFUSED). -/
def Oc.accepts (o : Oc) : Bool := decide (o = .ok ∨ o = .deferred)

/-! Time. -/

/-- Core ticks of one millisecond: the core clock is 196.608 MHz (spec/16_power_start_sinter.md R577). -/
def msTicks : Nat := 196608

/-- Core ticks of one second. -/
def secTicks : Nat := 196608000

/-- `n` core ticks pass: Geyser's angle counter advances by RATE at each (spec/04_geyser_time_base.md R116). -/
def State.advance (n : Nat) (s : State) : State :=
  { s with tick := s.tick + n,
           gy := { s.gy with stamp := s.gy.stamp + BitVec.ofNat 80 (n * s.gy.rate.toNat) } }

/-- Time passes up to a core tick; nothing passes when it has come already (notes/assumptions/1.md). -/
def State.advanceTo (t : Nat) (s : State) : State := s.advance (t - s.tick)

/-- CYCLE and ANGLE as one 48-bit number (spec/00_scope.md R9). -/
def State.stamp48 (s : State) : Nat := s.gy.stamp.toNat / 2 ^ 32

/-- CYCLE of the stamp (spec/00_scope.md R9). -/
def State.cycle (s : State) : Nat := s.gy.stamp.toNat / 2 ^ 48

/-- ANGLE of the stamp (spec/00_scope.md R9). -/
def State.angle (s : State) : Nat := s.gy.stamp.toNat / 2 ^ 32 % 2 ^ 16

/-- Stamp `a` is later than stamp `b`, modulo 2^32 cycles (spec/00_scope.md R9). -/
def stampLater (a b : Nat) : Bool :=
  let d := (a / 65536 + 2 ^ 32 - b / 65536 % 2 ^ 32) % 2 ^ 32
  if d = 0 then decide (b % 65536 < a % 65536) else decide (d < 2 ^ 31)

/-- Time passes until the stamp has covered at least `n` more units of its fraction (1 a.u. is 2^32 of them). -/
def State.advanceFrac (n : Nat) (s : State) : State :=
  if s.gy.rate = 0 then s else s.advance (ceilDiv n s.gy.rate.toNat)

/-- Units of fraction from the stamp to the next stamp whose distance from `o` is a multiple of `m` (both in a.u.);
a whole `m` when it stands on one exactly. -/
def State.fracTo (s : State) (o m : Nat) : Nat :=
  let x := (s.gy.stamp.toNat + 2 ^ 80 - (o % 2 ^ 48) * 2 ^ 32) % (m * 2 ^ 32)
  m * 2 ^ 32 - x

/-- The stamp reached, within the last core tick, a stamp whose distance from `o` is a multiple of `m` (both in a.u.). -/
def State.onMark (s : State) (o m : Nat) : Bool :=
  decide ((s.gy.stamp.toNat + 2 ^ 80 - (o % 2 ^ 48) * 2 ^ 32) % (m * 2 ^ 32) < max 1 s.gy.rate.toNat)

/-- Time passes until the stamp reaches such a mark; none passes in the core tick in which it reaches one
(notes/assumptions/1.md). -/
def State.toMark (s : State) (o m : Nat) : State := if s.onMark o m then s else s.advanceFrac (s.fracTo o m)

/-- Time passes until a grid half-cycle boundary (spec/00_scope.md R10). -/
def State.toHalf (s : State) : State := s.toMark s.gy.grid 32768

/-- Time passes until a cycle boundary (spec/00_scope.md R9). -/
def State.toCycle (s : State) : State := s.toMark 0 65536

/-- The number of the grid half-cycle in force, counted on the grid that GRID_OFFSET rotates (spec/00_scope.md R10). -/
def State.hcIndex (s : State) : Nat :=
  (s.stamp48 + 2 ^ 48 - s.gy.grid) % 2 ^ 48 / 32768

/-- A field of GY_CFG in force (spec/04_geyser_time_base.md R151). -/
def State.gyc (s : State) (f : Fld) : Nat := f.of (s.gy.cfgOld.getD (s.rd 0x08 0))

/-- A field of LA_CFG in force (spec/06_line_access.md R213). -/
def State.lac (s : State) (f : Fld) : Nat := f.of (s.ln.cfgOld.getD (s.rd 0x14 0))

/-- Round a quotient to the nearest number; which way a tie goes the spec leaves open (notes/assumptions/9.md). -/
def roundQ (a : Int) (b : Nat) : Int :=
  let q := a / (b : Int)
  let r := 2 * (a - q * b)
  if r < b then q else if r = b then (if Config.tieUp a then q + 1 else q) else q + 1

/-- A number as a signed value of `n` bits. -/
def signedN (n x : Nat) : Int := if x % 2 ^ n < 2 ^ (n - 1) then ((x % 2 ^ n : Nat) : Int) else ((x % 2 ^ n : Nat) : Int) - 2 ^ n

/-- An integer as an unsigned number of `n` bits. -/
def unsignedN (n : Nat) (x : Int) : Nat := (x % (2 ^ n : Int)).toNat

/-! Ports, tenants, units. -/

/-- The TAP holds the pins: EXTEST, CLAMP or HIGHZ is in force, and the core runs on detached from them
(spec/17_pins_electrical.md R641, R642, Table PE-15). -/
def State.pinsDetached (s : State) : Bool := [0, 4, 5].contains s.dev.tapIr

/-- The state of a port. -/
def State.port (s : State) : PortId → Port
  | .p0 => s.port0
  | .p1 => s.port1

/-- The state with a port changed. -/
def State.modPort (s : State) (p : PortId) (f : Port → Port) : State :=
  match p with
  | .p0 => { s with port0 := f s.port0 }
  | .p1 => { s with port1 := f s.port1 }

/-- The tenant for which an access on a port acts (spec/02_host_access.md R63). -/
def State.acting (s : State) (p : PortId) : Nat := (s.port p).ctx

/-- A tenant the owner has enabled (spec/02_host_access.md R81). -/
def State.enabled (s : State) (t : Nat) : Bool := decide (t < 64) && s.b F.TENANTS_ENABLE t

/-- A unit's mirror (spec/03_units_events.md R85). -/
def State.mirror (s : State) (u : Src) : Mirror := vget s.units u.idx

/-- A unit's state (spec/03_units_events.md R82). -/
def State.st (s : State) (u : Src) : UState := (s.mirror u).st

/-- The unit is in service. -/
def State.isOn (s : State) (u : Src) : Bool := decide (s.st u = .on)

/-- The unit's substate (spec/03_units_events.md R85). -/
def State.sub (s : State) (u : Src) : Nat := (s.mirror u).sub

/-- Per-unit updates of the structures beside the cells. -/
def State.modDev (s : State) (f : Dev → Dev) : State := { s with dev := f s.dev }
def State.modGy (s : State) (f : Gy → Gy) : State := { s with gy := f s.gy }
def State.modLn (s : State) (f : Ln → Ln) : State := { s with ln := f s.ln }
def State.modLl (s : State) (f : Ll → Ll) : State := { s with ll := f s.ll }
def State.modCj (s : State) (f : Cj → Cj) : State := { s with cj := f s.cj }
def State.modOb (s : State) (f : Ob → Ob) : State := { s with ob := f s.ob }
def State.modRng (s : State) (f : Rng → Rng) : State := { s with rng := f s.rng }
def State.modMs (s : State) (f : Ms → Ms) : State := { s with ms := f s.ms }
def State.modRc (s : State) (f : Rc → Rc) : State := { s with rc := f s.rc }
def State.modSf (s : State) (f : Sf → Sf) : State := { s with sf := f s.sf }
def State.modLp (s : State) (f : Lp → Lp) : State := { s with lp := f s.lp }
def State.modPw (s : State) (f : Pw → Pw) : State := { s with pw := f s.pw }
def State.modSn (s : State) (f : Sn → Sn) : State := { s with sn := f s.sn }

/-! Events. -/

/-- A source raises an event; it is presented at once when the source has none before it (spec/03_units_events.md R89). -/
def State.raise (s : State) (u : Src) (e : Ev) : State :=
  let x := vget s.src u.idx
  let x' : EvSrc := if x.q.isEmpty then { q := [e], since := s.tick } else { x with q := x.q ++ [e] }
  { s with src := vset s.src u.idx x' }

/-- A common record (spec/03_units_events.md R91). -/
def State.raiseCommon (s : State) (u : Src) (sev code arg : Nat) : State :=
  s.raise u { common := true, tenant := 0, sev := sev, code := code, arg := arg % 2 ^ 32, ref := 0 }

/-- A tenant record (spec/03_units_events.md R91). -/
def State.raiseTenant (s : State) (u : Src) (t sev code arg : Nat) : State :=
  s.raise u { common := false, tenant := t, sev := sev, code := code, arg := arg % 2 ^ 32, ref := 0 }

/-- DONE of a request: severity 0 for OK and 2 otherwise, the tag and the outcome in ARG (spec/03_units_events.md R90). -/
def State.raiseDone (s : State) (u : Src) (t tag : Nat) (o : Oc) (ref : Nat) : State :=
  s.raise u { common := false, tenant := t, sev := if o = .ok then 0 else 2, code := 0x02,
              arg := (tag % 2 ^ 24) * 256 + o.code, ref := ref }

/-- DEADLINE of a request (spec/03_units_events.md R90). -/
def State.raiseDeadline (s : State) (u : Src) (t tag : Nat) (o : Oc) : State :=
  s.raiseTenant u t 2 0x03 ((tag % 2 ^ 24) * 256 + o.code)

/-- A completion of entry `ref - 1` waits in a source and has not been granted (spec/03_units_events.md R102). -/
def State.doneWaits (s : State) (u : Src) (ref : Nat) : Bool :=
  (vget s.src u.idx).q.any (fun e => e.ref == ref)

/-- A completion is withdrawn before its grant (spec/03_units_events.md R102). -/
def State.withdraw (s : State) (u : Src) (ref : Nat) : State :=
  let x := vget s.src u.idx
  let q := x.q.filter (fun e => e.ref != ref)
  let since := if (x.q.head?.map (fun e => e.ref)) = some ref then s.tick else x.since
  { s with src := vset s.src u.idx { q := q, since := since } }

/-- What an abort meets at an entry whose operation has ended (spec/03_units_events.md R102). -/
inductive AbortCase where
  /-- the completion has not been granted: it is withdrawn -/
  | withdrawn
  /-- the completion was granted while the abort was on the bus: TOO_LATE -/
  | tooLate
  /-- no pending operation: NOT_AVAILABLE -/
  | gone
  deriving DecidableEq, Repr

/-- How an abort that reaches an ended operation is decided (spec/03_units_events.md R102; notes/assumptions/7.md). -/
def State.abortCase (s : State) (u : Src) (ref : Nat) : AbortCase :=
  if s.doneWaits u ref then .withdrawn
  else if s.granted.any (fun g => g.src == u && g.ref == ref && decide (s.tick ≤ g.tick + 49)) then .tooLate
  else .gone

/-- A list with its last element that meets `p` replaced. -/
def replaceLast {α : Type} (p : α → Bool) (x : α) : List α → List α
  | [] => []
  | e :: t => if p e && !t.any p then x :: t else e :: replaceLast p x t

/-- A STATE event of a generation (spec/03_units_events.md R90, Table UE-5). -/
def Ev.isState (e : Ev) (gen : Nat) : Bool := e.common && e.code == 0x01 && e.arg / 2 ^ 24 == gen

/-- The STATE event of a mirror (spec/03_units_events.md R90, Table UE-5). -/
def stateEv (k : Mirror) (was : UState) : Ev :=
  { common := true, sev := if k.st = UState.fault then 3 else 1, code := 0x01,
    arg := k.gen.toNat * 2 ^ 24 + k.st.code * 2 ^ 16 + was.code * 256 + k.cause }

/-- What one change to a unit's mirror leaves: when a visible field differs, GEN goes up by one and a STATE event is
raised; all changes of one core tick are one change, with one GEN and one event (spec/03_units_events.md R85). -/
def State.changeMirror (s : State) (u : Src) (f : Mirror → Mirror) : State :=
  let m := s.mirror u
  let n := f m
  if n.st = m.st ∧ n.rearm = m.rearm ∧ n.forced = m.forced ∧ n.govHeld = m.govHeld ∧ n.sub = m.sub ∧ n.cause = m.cause
  then { s with units := vset s.units u.idx n }
  else
    let q := (vget s.src u.idx).q
    let g := m.gen.toNat
    let again := decide (m.chgAt = some s.tick) && q.any (fun e => e.isState g)
    let was := if again then m.was else m.st
    let k : Mirror := { n with gen := if again then m.gen else m.gen + 1, chg := m.chg + 1, chgAt := some s.tick, was := was }
    let s := { s with units := vset s.units u.idx k }
    if again then
      { s with src := vmod s.src u.idx (fun (x : EvSrc) => { x with q := replaceLast (fun e => e.isState g) (stateEv k was) x.q }) }
    else s.raise u (stateEv k was)

/-- A change of SUB alone. -/
def State.setSub (s : State) (u : Src) (v : Nat) : State := s.changeMirror u (fun m => { m with sub := v % 256 })

/-! Claims. -/

/-- The resources that exist (spec/03_units_events.md R99, Table UE-6). -/
def claimExists (r : Nat) : Bool :=
  decide (r ≤ 0x0B ∨ (0x10 ≤ r ∧ r ≤ 0x20) ∨ (0x28 ≤ r ∧ r ≤ 0x2F))

/-- A resource is claimed. -/
def State.claimed (s : State) (r : Nat) : Bool := s.b F.CLAIMS_HELD r

/-- A unit holds a resource. -/
def State.unitHolds (s : State) (u : Src) (r : Nat) : Bool :=
  s.claimed r && s.g F.CLAIMS_HOLDER r == u.code

/-- A host tenant holds a resource. -/
def State.tenantHolds (s : State) (t r : Nat) : Bool :=
  s.claimed r && s.g F.CLAIMS_HOLDER r == 0x0E && s.g F.CLAIMS_TENANT r == t

/-- A resource becomes free (spec/03_units_events.md R99, R110): a comparator's MODE clears (spec/04_geyser_time_base.md
R141) and its pulse ends, and a Caldera reservation's VALID clears (R137). -/
def State.freeClaim (s : State) (r : Nat) : State :=
  let s := s.wr 0x02 r 0
  if 0x10 ≤ r ∧ r ≤ 0x1F then
    (s.p F.GY_CMP_MODE (r - 0x10) 0).modGy (fun g => { g with pulse := vset g.pulse (r - 0x10) none })
  else if 0x28 ≤ r ∧ r ≤ 0x2F then s.p F.ASCHED_VALID (56 + (r - 0x28)) 0
  else s

/-- A unit takes a free resource (spec/03_units_events.md R99). -/
def State.unitClaim (s : State) (u : Src) (r : Nat) : State :=
  s.ps 0x02 r [(F.CLAIMS_HELD, 1), (F.CLAIMS_HOLDER, u.code), (F.CLAIMS_TENANT, 0), (F.CLAIMS_FUNC, 0)]

/-- A unit that reaches OFF or FAULT releases every claim it holds (spec/03_units_events.md R84). -/
def State.releaseUnitClaims (s : State) (u : Src) : State :=
  (List.range 64).foldl (fun s r => if s.unitHolds u r then s.freeClaim r else s) s

/-! Caldera's local memory. -/

/-- A word of local memory is written; a write mends an uncorrectable word (spec/09_caldera_jobs.md R308, R333). -/
def State.cjPut (s : State) (a : Nat) (w : Word) : State :=
  (s.modCj (fun x => { x with bad := x.bad.filter (· != a) })).wr 0x25 a w

/-- A word of a span is known to be uncorrectable (spec/09_caldera_jobs.md R333). -/
def State.cjBadIn (s : State) (a n : Nat) : Bool := s.cj.bad.any (fun b => decide (a ≤ b ∧ b < a + n))

/-- An uncorrectable word of a span is detected: counted and raised (spec/09_caldera_jobs.md R333, R342). -/
def State.cjDetect (s : State) (a n : Nat) : State :=
  match s.cj.bad.find? (fun b => decide (a ≤ b ∧ b < a + n)) with
  | none => s
  | some w => (s.bump F.CJ_CFG_ECC_UNCORR 0).raiseCommon .cald 2 0x13 (2 ^ 16 + w)

/-- ASCHED entries are written or removed by the device (spec/04_geyser_time_base.md R137). -/
def State.ascDrop (s : State) (l : List Nat) : State := l.foldl (fun s e => s.wr 0x0A e 0) s

/-- The device reserves a window: owner, kind, kernel, start, length, period, K and PHASE (spec/04_geyser_time_base.md
R137, R138, R155). -/
def State.ascPut (s : State) (e owner kind kern start len per k phase : Nat) : State :=
  s.ps 0x0A e [(F.ASCHED_VALID, 1), (F.ASCHED_OWNER, owner), (F.ASCHED_KIND, kind), (F.ASCHED_KERN, kern),
    (F.ASCHED_START, start), (F.ASCHED_LEN, len), (F.ASCHED_PERIOD, per), (F.ASCHED_K, k), (F.ASCHED_PHASE, phase)]

/-! The unit state machine (spec/03_units_events.md R82 to R88). Each takes what the unit's chapter makes of its queued
requests as an argument. -/

/-- STARTING goes to ON (spec/03_units_events.md R84). -/
def State.goOn (s : State) (u : Src) (sub : Nat) : State :=
  s.changeMirror u (fun m => { m with st := .on, cause := Oc.ok.code, sub := sub })

/-- A unit enters STOPPING: the pending substate is dropped, FORCED clears, and every queued request ends ABORTED
(spec/03_units_events.md R84, R88). -/
def State.goStopping (s : State) (u : Src) (cause : Oc) (held : Bool) (endAll : Oc → State → State) : State :=
  endAll .aborted
    (s.changeMirror u (fun m =>
      { m with st := .stopping, forced := false, pend := none, cause := cause.code, govHeld := m.govHeld || held }))

/-- A unit enters FAULT: REARM and FORCED clear, every queued request ends FAULT, every claim is released
(spec/03_units_events.md R84). -/
def State.goFault (s : State) (u : Src) (sub : Nat) (endAll : Oc → State → State) : State :=
  (endAll .fault
    (s.changeMirror u (fun m =>
      { m with st := .fault, rearm := false, forced := false, pend := none, cause := Oc.fault.code, sub := sub,
               held := 0 }))).releaseUnitClaims u

end Sys2Proof.Machine
end

