-- ==== Sys2Proof/Machine/Sinter.lean ====
section
/-! DEFINITION. The Sinter store: words, records, the five-step transaction, the scan, acceptance, host transactions,
counters and compaction (spec/16_power_start_sinter.md R597 to R606, R616, R620). -/

namespace Sys2Proof.Machine

open Sys2Proof

/-- Words of the array. -/
def nvSize : Nat := 16384

/-- A word of the array; none when it is unwritten (spec/16_power_start_sinter.md R597). -/
def nvGet (nv : List (Nat × Word)) (p : Nat) : Option Word := Sparse.get nv (p % nvSize)

/-- A complete word write (spec/16_power_start_sinter.md R597). -/
def nvPut (nv : List (Nat × Word)) (p : Nat) (w : Word) : List (Nat × Word) := Sparse.put nv (p % nvSize) w

/-- A word write begun and not completed: the word reads as unwritten (spec/16_power_start_sinter.md R597, R611). -/
def nvCut (nv : List (Nat × Word)) (p : Nat) : List (Nat × Word) := Sparse.del nv (p % nvSize)

/-- A record found in the log (spec/16_power_start_sinter.md R598). -/
structure SnRec where
  pos : Nat
  rtype : Nat
  tenant : Nat
  tomb : Bool
  len : Nat
  key : Nat
  seq : Nat
  committed : Bool
  deriving DecidableEq, Repr, Inhabited

/-- A record header (spec/16_power_start_sinter.md R598, Table PW-7). -/
def snHeader (rtype tenant : Nat) (tomb : Bool) (n key seq : Nat) : Word :=
  let x := 0x5A * 2 ^ 120 + rtype * 2 ^ 116 + tenant * 2 ^ 110 + b2n tomb * 2 ^ 109 + n * 2 ^ 102
    + (key % 2 ^ 32) * 2 ^ 64 + (seq % 2 ^ 32) * 2 ^ 32
  BitVec.ofNat 128 (x + crc16 (bitsBE (x / 2 ^ 16) 112))

/-- A commit word (spec/16_power_start_sinter.md R598, Table PW-7). -/
def snCommit (seq state : Nat) (covered : List Word) : Word :=
  BitVec.ofNat 128 ((seq % 2 ^ 32) * 2 ^ 96 + state * 2 ^ 88 + crc32 (bytesDown covered))

/-- The payload words of a record at `p`; none when one of them is unwritten. -/
def snPayload (nv : List (Nat × Word)) (p n : Nat) : Option (List Word) :=
  (List.range n).mapM (fun i => nvGet nv (p + 1 + i))

/-- The record whose header is the word `h` at `p`, when that is a valid header (spec/16_power_start_sinter.md R600). -/
def snParse (nv : List (Nat × Word)) (p : Nat) (h : Word) : Option SnRec :=
  let rtype := h.bits 116 4
  let len := h.bits 102 7
  let seq := h.bits 32 32
  if h.bits 120 8 = 0x5A ∧ 1 ≤ rtype ∧ rtype ≤ 7 ∧ len ≤ 64 ∧ h.bits 0 16 = crc16 (bitsBE (h.toNat / 2 ^ 16) 112) then
    let done : Bool :=
      match nvGet nv (p + len + 1), snPayload nv p len with
      | some c, some pl =>
        c.bits 96 32 == seq && c.bits 88 8 == 0xC3 && c.bits 0 32 == crc32 (bytesDown (h :: pl))
      | _, _ => false
    some { pos := p, rtype := rtype, tenant := h.bits 110 6, tomb := h.bits 109 1 == 1, len := len, key := h.bits 64 32,
           seq := seq, committed := done }
  else none

/-- Every valid header of the log (spec/16_power_start_sinter.md R600). -/
def snRecs (nv : List (Nat × Word)) : List SnRec := nv.filterMap (fun x => snParse nv x.1 x.2)

/-- Two records have one identity (spec/16_power_start_sinter.md R599). -/
def SnRec.same (a b : SnRec) : Bool := a.rtype == b.rtype && a.tenant == b.tenant && a.key == b.key

/-- The committed record of highest SEQ of an identity (spec/16_power_start_sinter.md R600). -/
def snNewest (l : List SnRec) (rtype tenant key : Nat) : Option SnRec :=
  l.foldl (fun a r =>
    if r.committed && r.rtype == rtype && r.tenant == tenant && r.key == key then
      match a with
      | none => some r
      | some x => if later32 r.seq x.seq then some r else a
    else a) none

/-- The live records (spec/16_power_start_sinter.md R600); of LASTGASP records, the four most recent (R603). -/
def snLive (l : List SnRec) : List SnRec :=
  l.filter (fun r =>
    r.committed && !r.tomb && decide (snNewest l r.rtype r.tenant r.key = some r) &&
      (r.rtype != 7 ||
        decide ((l.filter (fun x => x.rtype == 7 && x.committed && !x.tomb && later32 x.seq r.seq)).length < 4)))

/-- The live record of an identity. -/
def State.snFind (s : State) (rtype tenant key : Nat) : Option SnRec :=
  (snLive (snRecs s.nv)).find? (fun r => r.rtype == rtype && r.tenant == tenant && r.key == key)

/-- The `i`-th newest LASTGASP record (spec/16_power_start_sinter.md R604). -/
def State.snGasp (s : State) (i : Nat) : Option SnRec :=
  let l := (snLive (snRecs s.nv)).filter (fun r => r.rtype == 7)
  l.find? (fun r => (l.filter (fun x => later32 x.seq r.seq)).length == i)

/-- Words between a head and the first live record that follows it around the log (spec/16_power_start_sinter.md R600,
R605): the free words; all of them when nothing is live. -/
def snFree (live : List SnRec) (head : Nat) : Nat :=
  live.foldl (fun a r => min a ((r.pos + nvSize - head % nvSize) % nvSize)) nvSize

/-- Free words of the store (spec/16_power_start_sinter.md R605). -/
def State.snFreeWords (s : State) : Nat := snFree (snLive (snRecs s.nv)) s.sn.head

/-- A tenant's use: LEN + 2 words for each of its live HOST records (spec/16_power_start_sinter.md R605). -/
def snUse (live : List SnRec) (t : Nat) : Nat :=
  live.foldl (fun a r => if r.rtype == 1 && r.tenant == t then a + r.len + 2 else a) 0

/-- The store accepts transactions: SINTER is ON and the level is GREEN or AMBER (spec/16_power_start_sinter.md R601). -/
def State.snAccepts (s : State) : Bool := s.isOn .sinter && decide (s.pw.level ≤ 1)

/-- SUB of SINTER: ACCEPT, COMPACTING, WEAR (spec/16_power_start_sinter.md R606). -/
def State.snSub (s : State) : State :=
  if s.isOn .sinter then
    s.setSub .sinter (b2n s.snAccepts + 2 * b2n s.sn.compacting + 4 * b2n s.sn.wear)
  else s

/-- The store's counts as PW_SINTER shows them (spec/16_power_start_sinter.md R620). -/
def State.snRefresh (s : State) : State :=
  let live := snLive (snRecs s.nv)
  let s := s.ps 0x07 0 [(F.SN_STAT_FREE, snFree live s.sn.head), (F.SN_STAT_LIVE_RECS, live.length),
    (F.SN_STAT_LIVE_WORDS, live.foldl (fun a r => a + r.len + 2) 0), (F.SN_STAT_NEXT_SEQ, s.sn.nextSeq.toNat)]
  (List.range 64).foldl (fun s t => s.p F.SN_QUOTA_USED (6 + t) (snUse live t)) s

/-- The scan: head, next SEQ and counts from the whole log; the SCAN record waits for READY
(spec/16_power_start_sinter.md R600). CORRECTED is the number of words whose check corrected a bit; `first` is the next
SEQ of a store without a record (notes/assumptions/41.md). -/
def State.snScan (s : State) (corrected first : Nat) : State :=
  let l := snRecs s.nv
  let top := l.foldl (fun a r =>
    match a with
    | none => some r
    | some x => if later32 r.seq x.seq then some r else a) (none : Option SnRec)
  let ign := (l.filter (fun r => !r.committed)).length
  let s := s.modSn (fun x => { x with
    scanned := true, scanDue := true, scanLive := (snLive l).length, corrected := capAt 255 corrected,
    head := (top.map (fun r => (r.pos + r.len + 2) % nvSize)).getD 0,
    nextSeq := BitVec.ofNat 32 ((top.map (fun r => r.seq + 1)).getD first) })
  (s.p F.SN_STAT_IGNORED 0 (capAt 255 ign)).snRefresh

/-- The SCAN record, raised at READY (spec/16_power_start_sinter.md R600, R616). -/
def State.snScanEvent (s : State) : State :=
  if s.sn.scanDue then
    (s.modSn (fun x => { x with scanDue := false })).raiseCommon .sinter 1 0x10
      (s.sn.corrected * 2 ^ 24 + s.g F.SN_STAT_IGNORED 0 * 2 ^ 16 + s.sn.scanLive)
  else s

/-! The transaction. -/

/-- The record of its identity that a transaction supersedes (spec/16_power_start_sinter.md R599). -/
def SnTxn.old (x : SnTxn) (nv : List (Nat × Word)) : Option SnRec :=
  if x.rtype = 7 ∧ x.kind ≠ 4 then none else snNewest (snRecs nv) x.rtype x.tenant x.key

/-- The word writes of a transaction, in step order (spec/16_power_start_sinter.md R599, Table PW-9): payload, header,
commit, and the old record's commit. -/
def SnTxn.writes (x : SnTxn) (nv : List (Nat × Word)) : List (Nat × Word) :=
  let n := x.words.length
  let h := snHeader x.rtype x.tenant (decide (x.kind = 3)) n x.key x.seq.toNat
  let old :=
    match x.old nv with
    | none => []
    | some r =>
      match nvGet nv (r.pos + r.len + 1) with
      | none => []
      | some c => [(r.pos + r.len + 1, (c &&& ~~~ BitVec.ofNat 128 (0xFF * 2 ^ 88)) ||| BitVec.ofNat 128 (0x3C * 2 ^ 88))]
  ((List.range n).map (fun i => (x.pos + 1 + i, x.words.getD i 0)))
    ++ [(x.pos, h), (x.pos + n + 1, snCommit x.seq.toNat 0xC3 (h :: x.words))] ++ old

/-- Word writes a transaction has completed by a core tick: one in 12 µs (spec/16_power_start_sinter.md R597). -/
def SnTxn.doneBy (x : SnTxn) (tick : Nat) : Nat := (tick - x.begun) * 1000 / 2359296

/-- Core ticks that `k` word writes take, rounded up. -/
def snTicks (k : Nat) : Nat := ceilDiv (k * 2359296) 1000

/-- A transaction has begun step 3, its point of no return (spec/16_power_start_sinter.md R599). -/
def SnTxn.committing (x : SnTxn) (tick : Nat) : Bool :=
  decide (x.kind ≠ 2 ∧ x.words.length + 1 ≤ x.doneBy tick)

/-- The array after the first `k` word writes of a list. -/
def nvWrites (nv : List (Nat × Word)) (l : List (Nat × Word)) : List (Nat × Word) :=
  l.foldl (fun a x => nvPut a x.1 x.2) nv

/-- What a collapse leaves of a transaction in progress: the words completed stand, the word being written reads as
unwritten (spec/16_power_start_sinter.md R597, R611, Table PW-9). -/
def State.snCollapse (s : State) : State :=
  match s.sn.running with
  | none => s
  | some x =>
    if x.kind = 2 then s.modSn (fun y => { y with running := none })
    else
      let l := x.writes s.nv
      let k := x.doneBy s.tick
      let nv := nvWrites s.nv (l.take k)
      let nv := match l[k]? with | none => nv | some w => nvCut nv w.1
      { s with nv := nv, sn := { s.sn with running := none } }

/-- The word in progress is completed and the transaction stops there: an abort before step 3, or BLACK
(spec/16_power_start_sinter.md R601, R604). -/
def State.snStopWord (s : State) (x : SnTxn) : State :=
  if x.kind = 2 then s.modSn (fun y => { y with running := none })
  else
    { s with nv := nvWrites s.nv ((x.writes s.nv).take (x.doneBy s.tick + 1)), sn := { s.sn with running := none } }

/-- The head moves on; a pass over the end of the array is a lap, and WEAR is raised when the count of laps reaches
900,000 (spec/16_power_start_sinter.md R599, R605). -/
def State.snAdvanceHead (s : State) (n : Nat) : State :=
  let h := s.sn.head + n
  let s := s.modSn (fun x => { x with head := h % nvSize })
  if h < nvSize then s
  else
    let laps := s.g F.SN_STAT_LAPS 0 + 1
    let s := s.p F.SN_STAT_LAPS 0 laps
    if laps = 900000 then (s.modSn (fun x => { x with wear := true })).raiseCommon .sinter 2 0x13 laps else s

/-- A count of free words has fallen below 1,024. -/
def spaceFell (before after : Nat) : Bool := Nat.ble 1024 before && Nat.blt after 1024

/-- All the steps of a transaction that writes (spec/16_power_start_sinter.md R599). SPACE is raised when the free words
fall below 1,024 (notes/assumptions/8.md). -/
def State.snApply (s : State) (x : SnTxn) : State :=
  let before := s.snFreeWords
  let s := { s with nv := nvWrites s.nv (x.writes s.nv) }
  let s := (s.snAdvanceHead (x.words.length + 2)).snRefresh
  let after := s.snFreeWords
  if spaceFell before after then s.raiseCommon .sinter 2 0x12 after else s

/-- A device transaction joins those waiting (spec/16_power_start_sinter.md R601). -/
def State.snDevice (s : State) (kind rtype key : Nat) (words : List Word) (slot : Option Nat) : State :=
  s.modSn (fun x => { x with device := x.device ++
    [{ kind := kind, rtype := rtype, key := key, words := words, slot := slot }] })

/-- The committed high-water mark a COUNTER record holds, 0 without one (spec/16_power_start_sinter.md R598, R602). -/
def State.snMark (s : State) (key : Nat) : Nat :=
  match s.snFind 5 0 key with
  | none => 0
  | some r => ((nvGet s.nv (r.pos + 1)).getD 0).bits 0 32

/-- The line FC's or a tag's mark in force: the last one committed (spec/16_power_start_sinter.md R602). -/
def State.fcMark (s : State) (key : Nat) : Nat :=
  if key = 0 then s.ln.fcMark else ((s.rc.fcMarks.find? (fun x => x.1 == key)).map (·.2)).getD 0

/-- A committed mark takes force. -/
def State.setFcMark (s : State) (key v : Nat) : State :=
  if key = 0 then s.modLn (fun x => { x with fcMark := v })
  else s.modRc (fun x => { x with fcMarks := (key, v) :: x.fcMarks.filter (fun y => y.1 != key) })

/-- A raise of a mark by 65,536 is queued, unless one for this counter waits or runs already
(spec/16_power_start_sinter.md R602). -/
def State.snRaiseMark (s : State) (key : Nat) : State :=
  let same := fun (x : SnTxn) => x.rtype == 5 && x.key == key
  if s.sn.device.any same || s.sn.running.any same then s
  else s.snDevice 1 5 key [BitVec.ofNat 128 ((s.fcMark key + 65536) % 2 ^ 32)] none

/-! Host transactions. -/

/-- Number of word writes of a running transaction, by which it is due (spec/16_power_start_sinter.md R599). -/
def State.snDue (s : State) (x : SnTxn) : Nat :=
  if x.kind = 2 then s.tick else x.begun + snTicks (x.writes s.nv).length

/-- RTYPE of a TYPE field (spec/16_power_start_sinter.md R598, R620). -/
def snRtype : Nat → Nat
  | 0 => 1 | 1 => 2 | 2 => 3 | _ => 7

/-- The tables an IMAGE record may target, with an entry bound (spec/16_power_start_sinter.md R583). -/
def imageAllows (t e : Nat) : Bool :=
  if t = 0x12 then decide (e ≤ 1)
  else if t = 0x3F then decide (e ≤ 4)
  else [0x01, 0x04, 0x05, 0x08, 0x09, 0x10, 0x11, 0x14, 0x15, 0x16, 0x1C, 0x20, 0x23, 0x24, 0x28, 0x2D, 0x2E,
        0x30, 0x31, 0x32, 0x33, 0x34, 0x37, 0x38, 0x39, 0x3C, 0x3E].contains t

/-- A page of Caldera memory is assigned to a tenant (spec/09_caldera_jobs.md R308). -/
def State.pageOf (s : State) (t a : Nat) : Bool :=
  decide (0x600 ≤ a ∧ a ≤ 0xFFF) &&
    s.b F.CJ_PAGE_ASSIGNED ((a - 0x600) / 64) && s.g F.CJ_PAGE_TENANT ((a - 0x600) / 64) == t

/-- A span of Caldera memory lies in a tenant's pages (spec/09_caldera_jobs.md R308). -/
def State.spanOk (s : State) (t a n : Nat) : Bool := (List.range n).all (fun i => s.pageOf t (a + i))

/-- The live record a host transaction names (spec/16_power_start_sinter.md R604). -/
def State.snTarget (s : State) (op rtype t key : Nat) : Option SnRec :=
  if rtype = 7 ∧ op = 2 then s.snGasp key else s.snFind rtype (if rtype = 1 then t else 0) key

/-- Queue entries 1 to 4 with no transaction. -/
def State.snFreeEntry (s : State) : Option Nat := [1, 2, 3, 4].find? (fun e => s.g F.PW_SINTER_STATE e == 0)

/-- Outcome of a submission (spec/16_power_start_sinter.md R604, Table PW-10). -/
def State.snJudge (s : State) (t : Nat) (w : Word) : Oc :=
  let op := F.PW_SINTER_OP.of w
  let ty := F.PW_SINTER_TYPE.of w
  let rt := snRtype ty
  let key := F.PW_SINTER_KEY.of w
  let len := F.PW_SINTER_LEN.of w
  let n := if op = 1 then len else 0
  let old := ((s.snFind 1 t key).map (fun r => r.len + 2)).getD 0
  let live := snLive (snRecs s.nv)
  judge [
    (op == 0, .param), (F.PW_SINTER_CMD.of w != 0, .param),
    (op == 1 && (len == 0 || decide (64 < len)), .param), (decide (64 < len), .param),
    (ty == 0 && decide (0xFFFF < key), .param),
    (ty == 2 && (key != 0 || len != 2), .param),
    (ty == 1 && !imageAllows (key / 4096) (key % 4096), .param),
    (ty == 3 && op != 2, .param), (ty == 3 && decide (3 < key), .param),
    (op != 1 && (s.snTarget op rt t key).isNone, .notAvailable),
    (op != 3 && !s.spanOk t (F.PW_SINTER_ADDR.of w) len, .notAvailable),
    (ty != 0 && t != 0, .notAvailable),
    (!s.isOn .sinter, .notReady), (decide (2 ≤ s.pw.level), .power),
    (s.snFreeEntry.isNone, .queueFull),
    (op == 1 && ty == 0 && decide (s.g F.SN_QUOTA_QUOTA (6 + t) < snUse live t - old + n + 2), .queueFull),
    (op != 2 && decide (snFree live s.sn.head < n + 2 + 128), .queueFull)]

/-- The transaction a queue entry asks for (spec/16_power_start_sinter.md R604). -/
def State.snOfEntry (s : State) (e : Nat) : SnTxn :=
  let t := vget s.sn.owner e
  let rt := snRtype (s.g F.PW_SINTER_TYPE e)
  let a := s.g F.PW_SINTER_ADDR e
  { who := e, kind := s.g F.PW_SINTER_OP e, rtype := rt, tenant := if rt = 1 then t else 0, key := s.g F.PW_SINTER_KEY e,
    words := if s.g F.PW_SINTER_OP e = 1 then (List.range (s.g F.PW_SINTER_LEN e)).map (fun i => s.rd 0x25 (a + i)) else [] }

/-- A host transaction reaches an end; a disabled tenant's entry is freed (spec/16_power_start_sinter.md R604,
spec/01_cabinet_system.md R37). -/
def State.snEnd (s : State) (e : Nat) (o : Oc) (ref : Nat) : State :=
  let t := vget s.sn.owner e
  let s := (s.ps 0x07 e [(F.PW_SINTER_STATE, 3), (F.PW_SINTER_OUTCOME, o.code)]).raiseDone .sinter t
    (s.g F.PW_SINTER_TAG e) o ref
  if s.enabled t then s else s.wr 0x07 e 0

/-- A transaction begins: it takes the head and the next SEQ, and a host entry shows RUNNING
(spec/16_power_start_sinter.md R599, R601). A READ writes nothing and takes no SEQ. -/
def State.snBegin (s : State) (x : SnTxn) : State :=
  let x := { x with pos := s.sn.head, seq := s.sn.nextSeq, begun := s.tick }
  let s := s.modSn (fun y => { y with running := some x, nextSeq := if x.kind = 2 then y.nextSeq else y.nextSeq + 1 })
  if x.who = 0 then s else s.p F.PW_SINTER_STATE x.who 2

/-- The next transaction begins when the store accepts: device transactions first, then host transactions in submission
order (spec/16_power_start_sinter.md R601). A WRITE that meets an uncorrectable source word ends FAULT
(spec/09_caldera_jobs.md R333). -/
def State.snStart (s : State) : State :=
  if s.snAccepts && s.sn.running.isNone then
    match s.sn.device with
    | x :: rest => (s.modSn (fun y => { y with device := rest })).snBegin x
    | [] =>
      match s.sn.order with
      | e :: rest =>
        let s := s.modSn (fun y => { y with order := rest })
        if s.g F.PW_SINTER_OP e = 1 ∧ s.cjBadIn (s.g F.PW_SINTER_ADDR e) (s.g F.PW_SINTER_LEN e) then
          (s.cjDetect (s.g F.PW_SINTER_ADDR e) (s.g F.PW_SINTER_LEN e)).snEnd e .fault e
        else s.snBegin (s.snOfEntry e)
      | [] => s
  else s

/-- A tenant's transactions that have not ended. -/
def State.snAhead (s : State) (t : Nat) : Nat :=
  ([1, 2, 3, 4].filter (fun e =>
    vget s.sn.owner e == t && (s.g F.PW_SINTER_STATE e == 1 || s.g F.PW_SINTER_STATE e == 2))).length

/-- A commit to the submission entry (spec/16_power_start_sinter.md R604). What the submitter reads back in entry 5 is
kept under entry 0x800 + t. -/
def State.snSubmit (s : State) (t : Nat) (w : Word) : Oc × State :=
  let o := s.snJudge t w
  match s.snFreeEntry with
  | none => (if o = .ok then .queueFull else o, s)
  | some e =>
    if o = .ok then
      let idle := s.sn.running.isNone && s.sn.device.isEmpty && s.sn.order.isEmpty
      let o : Oc := if idle then .ok else .deferred
      let ahead := s.snAhead t
      let w := [(F.PW_SINTER_AHEAD, ahead), (F.PW_SINTER_OUTCOME, o.code), (F.PW_SINTER_RLEN, 0), (F.PW_SINTER_SEQ, 0),
        (F.PW_SINTER_CMD, 0), (F.PW_SINTER_STATE, 1), (F.PW_SINTER_QIDX, 0)].foldl (fun w x => x.1.into x.2 w) w
      let s := s.wr 0x07 e w
      let s := s.wr 0x07 (0x800 + t) (F.PW_SINTER_QIDX.into e (F.PW_SINTER_STATE.into 0 w))
      let s := s.modSn (fun x => { x with owner := vset x.owner e t, order := x.order ++ [e] })
      (o, if idle then s.snStart else s)
    else (o, s)

/-- Every queued host transaction ends (spec/03_units_events.md R84, spec/16_power_start_sinter.md R606). -/
def State.snEndQueued (o : Oc) (s : State) : State :=
  s.sn.order.foldl (fun s e => s.snEnd e o 0) (s.modSn (fun x => { x with order := [] }))

/-- A CMD commit to a queue entry: 1 abort, 2 release (spec/16_power_start_sinter.md R604, spec/03_units_events.md
R102). -/
def State.snCmd (s : State) (t e cmd : Nat) : Oc × State :=
  let st := s.g F.PW_SINTER_STATE e
  if cmd = 0 then (.ok, s)
  else if st ≠ 0 ∧ vget s.sn.owner e ≠ t then (.notAvailable, s)
  else if cmd = 3 then (.param, s)
  else if cmd = 2 then
    if st = 3 then (.ok, s.wr 0x07 e 0) else (.stateMismatch, s)
  else if st = 0 then (.notAvailable, s)
  else if st = 1 then
    (.ok, (s.modSn (fun x => { x with order := x.order.filter (· != e) })).snEnd e .aborted 0)
  else if st = 2 then
    match s.sn.running with
    | some x => if x.committing s.tick then (.tooLate, s) else (.ok, (s.snStopWord x).snEnd e .aborted 0)
    | none => (.notAvailable, s)
  else
    match s.abortCase .sinter e with
    | .withdrawn =>
      if s.g F.PW_SINTER_OP e = 2 then (.ok, (s.withdraw .sinter e).snEnd e .aborted 0) else (.tooLate, s)
    | .tooLate => (.tooLate, s)
    | .gone => (.notAvailable, s)

/-- A commit to PW_SINTER (spec/16_power_start_sinter.md R604, R620). -/
def State.snCommitEntry (s : State) (t e : Nat) (w : Word) : Oc × State :=
  if e = 5 then s.snSubmit t w
  else if 1 ≤ e ∧ e ≤ 4 then s.snCmd t e (F.PW_SINTER_CMD.of w)
  else if 6 ≤ e ∧ t ≠ 0 then (.notAvailable, s)
  else (.ok, s.wr 0x07 e (s.merged 0x07 e w))

/-- What completing a device transaction does beside the array: a slot command's store part is done, a mark takes
force (spec/10_obsidian_cipher.md R359, spec/16_power_start_sinter.md R602). -/
def State.snDeviceDone (s : State) (x : SnTxn) : State :=
  let s := match x.slot with
    | none => s
    | some k => s.modOb (fun o => { o with cmds := o.cmds.map (fun c => if c.slot = k then { c with store := false } else c) })
  if x.rtype = 5 ∧ x.kind = 1 then s.setFcMark x.key ((x.words.getD 0 0).bits 0 32) else s

/-- The running transaction completes (spec/16_power_start_sinter.md R599, R604). -/
def State.snFinish (s : State) (x : SnTxn) : State :=
  let s := s.modSn (fun y => { y with running := none })
  if x.kind = 2 then
    match s.snTarget 2 x.rtype (vget s.sn.owner x.who) x.key with
    | none => s.snEnd x.who .notAvailable x.who
    | some r =>
      let n := min r.len (s.g F.PW_SINTER_LEN x.who)
      let a := s.g F.PW_SINTER_ADDR x.who
      let s := (List.range n).foldl (fun s i => s.cjPut (a + i) ((nvGet s.nv (r.pos + 1 + i)).getD 0)) s
      (s.ps 0x07 x.who [(F.PW_SINTER_RLEN, r.len), (F.PW_SINTER_SEQ, r.seq)]).snEnd x.who .ok x.who
  else
    let s := s.snApply x
    if x.who = 0 then s.snDeviceDone x
    else (s.p F.PW_SINTER_SEQ x.who x.seq.toNat).snEnd x.who .ok x.who

/-- The live record the tail stands on (spec/16_power_start_sinter.md R600). -/
def State.snTail (s : State) : Option SnRec :=
  let live := snLive (snRecs s.nv)
  live.find? (fun r => (r.pos + nvSize - s.sn.head % nvSize) % nvSize == snFree live s.sn.head)

/-- One step of compaction: the live record at the tail is rewritten at the head as a device transaction, until 2,048
words are free or it has no room (spec/16_power_start_sinter.md R605, R606). -/
def State.snCompactStep (s : State) : State :=
  if !s.sn.compacting || s.sn.running.isSome || s.sn.device.any (fun x => x.kind == 4) then s
  else
    match s.snTail with
    | none => s.modSn (fun x => { x with compacting := false })
    | some r =>
      if 2048 ≤ s.snFreeWords ∨ s.snFreeWords < r.len + 2 then s.modSn (fun x => { x with compacting := false })
      else
        s.modSn (fun x => { x with device := x.device ++
          [{ kind := 4, rtype := r.rtype, tenant := r.tenant, key := r.key,
             words := (snPayload s.nv r.pos r.len).getD [] }] })

/-- The last-gasp payload (spec/16_power_start_sinter.md R603). -/
def State.gaspWord (s : State) : Word :=
  let t := s.g F.PW_GOV_TDIE 1
  let deg := (t + 65536 - (if 32768 ≤ t then 65536 else 0)) % 65536 / 16
  let deg := if 32768 ≤ t then (256 * 16 - (65536 - t) % 4096) / 16 % 256 else deg % 256
  BitVec.ofNat 128
    (s.g F.PW_EMBER_SECONDS 0 * 2 ^ 96 + s.stamp48 * 2 ^ 48 + s.pw.redCause % 256 * 2 ^ 40 + deg * 2 ^ 32
      + s.g F.PW_GOV_FEED_MV 1 % 4096 * 2 ^ 20 + s.g F.PW_GOV_HOLD_MV 1 % 4096 * 2 ^ 8
      + capAt 255 ((s.tick - s.pw.redAt) / (10 * msTicks)))

/-- The last gasp: at BLACK a transaction past step 3 writes step 4, any other stops after its word, and the LASTGASP
record is written whole (spec/16_power_start_sinter.md R601, R603). -/
def State.snLastGasp (s : State) : State :=
  let s := match s.sn.running with
    | none => s
    | some x => if decide (x.kind ≠ 2 ∧ x.words.length + 2 ≤ x.doneBy s.tick) then s.snFinish x else s.snStopWord x
  let x : SnTxn := { kind := 1, rtype := 7, key := s.g F.PW_EMBER_PUC 1, words := [s.gaspWord], pos := s.sn.head,
                     seq := s.sn.nextSeq }
  let s := s.modSn (fun y => { y with nextSeq := y.nextSeq + 1 })
  { s with nv := nvWrites s.nv (x.writes s.nv), sn := { s.sn with head := (s.sn.head + 3) % nvSize } }

/-! The commands. -/

/-- The unit command COMPACT (0x8) compacts until 2,048 words are free (spec/16_power_start_sinter.md R606). -/
def State.snUnitCmd (s : State) (cmd : Nat) : Oc × State :=
  if cmd ≠ 8 then (.param, s)
  else if s.isOn .sinter then (.ok, (s.modSn (fun x => { x with compacting := true })).snCompactStep.snSub)
  else (.stateMismatch, s)

/-- SINTER_TXN_START (spec/16_power_start_sinter.md R601). -/
def execSinterTxnStart (s : State) : Host.Outcome State Fault Refusal := .next s.snStart.snSub

/-- COUNTER_RAISE: a counter within 16,384 of its mark queues the raise of the mark (spec/16_power_start_sinter.md
R602); key 0 is the line FC, a the TX_FC of tag address a. -/
def execCounterRaise (key : Nat) (s : State) : Host.Outcome State Fault Refusal :=
  let v := if key = 0 then s.g F.LA_STAT_TX_FC 0 else s.g F.RC_TAG_TX_FC (2 * (key - 1) + 1)
  .next (if s.fcMark key ≤ v + 16384 then s.snRaiseMark key else s)

/-- COMPACTION: with fewer than 1,024 words free the device compacts, one record a step (spec/16_power_start_sinter.md
R605). -/
def execCompaction (s : State) : Host.Outcome State Fault Refusal :=
  if s.isOn .sinter then
    let s := if s.snFreeWords < 1024 then s.modSn (fun x => { x with compacting := true }) else s
    .next s.snCompactStep.snSub
  else .next s

end Sys2Proof.Machine
end

