-- ==== Sys2Proof/Machine/Caldera.lean ====
section
/-! DEFINITION. Caldera's host jobs and memory (spec/09_caldera_jobs.md). A job's output is written when it ends
(notes/assumptions/15.md); the kernels stand in Machine/Kernels.lean. -/

namespace Sys2Proof.Machine

open Sys2Proof

/-- A job's engine context. -/
def State.cjob (s : State) (q : Nat) : CjRun := vget s.cj.jobs q

/-- The state with a job's engine context changed. -/
def State.modCjob (s : State) (q : Nat) (f : CjRun → CjRun) : State :=
  s.modCj (fun x => { x with jobs := vmod x.jobs q f })

/-- The job of an entry. -/
def State.cjd (s : State) (q : Nat) : Cf.Jd := Cf.Jd.mk' (s.rd 0x21 q) (s.cjob q).p0

/-- CALD cycles in a core tick: 393.216 MHz, or 196.608 MHz under the thermal cap (spec/09_caldera_jobs.md R331). -/
def State.cjRate (s : State) : Nat := if s.sub .cald % 2 = 1 then 1 else 2

/-- KONLY (spec/09_caldera_jobs.md R329, R330). -/
def State.cjKonly (s : State) : Bool := s.sub .cald / 2 % 2 == 1

/-- HOST_OFF (spec/09_caldera_jobs.md R329, R330). -/
def State.cjHostOff (s : State) : Bool := s.sub .cald / 4 % 2 == 1

/-- Local memory as a job reads it. -/
def State.cjMem (s : State) (a : Nat) : Word := s.rd 0x25 (a % 4096)

/-- Every word of local memory becomes 0 (spec/09_caldera_jobs.md R308, R332). -/
def State.cjZeroMem (s : State) : State := (s.modCj (fun x => { x with bad := [] })).zeroTable 0x25

/-- The 64 words of a page become 0 (spec/09_caldera_jobs.md R309). -/
def State.cjZeroPage (s : State) (p : Nat) : State :=
  (List.range 64).foldl (fun s i => s.cjPut (0x600 + 64 * p + i) 0) s

/-- The words of a job's result span become 0 (spec/09_caldera_jobs.md R324); words outside the submitter's pages are not
touched (notes/assumptions/16.md). -/
def State.cjZeroResult (s : State) (q : Nat) : State :=
  let y := (s.cjd q).spanY
  (List.range y.2).foldl (fun s i => if s.pageOf (s.cjob q).tenant (y.1 + i) then s.cjPut (y.1 + i) 0 else s) s

/-- A job ends: its outcome, and DONE unless it took the refusal path (spec/09_caldera_jobs.md R320, R324). -/
def State.cjEnd (s : State) (q : Nat) (o : Oc) (tell : Bool) : State :=
  let s := (s.modCj (fun x => { x with
    order := x.order.filter (· != q), running := if x.running = some q then none else x.running })).ps 0x22 q
      [(F.CJ_QSTAT_STATE, 4), (F.CJ_QSTAT_OUTCOME, o.code), (F.CJ_QSTAT_AHEAD, 0)]
  if tell then s.raiseDone .cald (s.cjob q).tenant (F.CJ_Q_TAG.of (s.rd 0x21 q)) o (q + 1) else s

/-- A job ends without its output (spec/09_caldera_jobs.md R324). -/
def State.cjStop (s : State) (q : Nat) (o : Oc) : State := (s.cjZeroResult q).cjEnd q o true

/-- An entry becomes free. -/
def State.cjFree (s : State) (q : Nat) : State :=
  ((s.wr 0x21 q 0).wr 0x22 q 0).modCjob q (fun _ => {})

/-- The clock change that waited for a pre-emption point takes effect, with CAP (spec/09_caldera_jobs.md R331, R342). -/
def State.cjClock (s : State) : State :=
  match s.cj.capNew with
  | none => s
  | some c =>
    let s := s.modCj (fun x => { x with capNew := none })
    if c = (s.sub .cald % 2 == 1) then s
    else (s.setSub .cald (s.sub .cald / 2 * 2 + b2n c)).raiseCommon .cald 1 0x12 (b2n c)

/-- The clock is to change, at once when no job runs (spec/09_caldera_jobs.md R331). -/
def State.cjCap (s : State) (c : Bool) : State :=
  let s := s.modCj (fun x => { x with capNew := some c })
  if s.cj.running.isNone then s.cjClock else s

/-- The cycles the running job has had since it last took the engine are charged to it and to its tenant
(spec/09_caldera_jobs.md R321, R322, R345, R350). -/
def State.cjCharge (s : State) : State :=
  match s.cj.running with
  | none => s
  | some q =>
    let x := s.cjob q
    let n := min ((s.tick - x.start) * s.cjRate) x.left
    let unbound := !(s.cjd q).bound && x.phase != 2
    let s := s.modCjob q (fun x => { x with left := x.left - n, start := s.tick })
    let s := s.modCj (fun y => { y with
      hostCyc := y.hostCyc + n, deficit := vmod y.deficit x.tenant (· - (n : Int)),
      hcUsed := if unbound then vmod y.hcUsed x.tenant (· + n) else y.hcUsed })
    s.p F.CJ_QSTAT_CYCLES q (s.g F.CJ_QSTAT_CYCLES q + n)

/-- The running job is held PREEMPTED with its context; a job to be aborted ends ABORTED there (spec/09_caldera_jobs.md
R323, R325, R350). -/
def State.cjHold (s : State) : State :=
  match s.cj.running with
  | none => s
  | some q =>
    let s := s.cjCharge
    if (s.cjob q).abort then (s.cjStop q .aborted).cjClock
    else
      ((s.modCj (fun x => { x with running := none })).p F.CJ_QSTAT_STATE q 3).cjClock.bump F.CJ_STAT_PREEMPTS 0

/-- A job's spans lie in its submitter's pages, and a BOUND job's reservation is its tenant's and valid
(spec/09_caldera_jobs.md R320). -/
def State.cjAllowed (s : State) (q : Nat) : Bool :=
  let j := s.cjd q
  let t := (s.cjob q).tenant
  j.spans.all (fun x => s.spanOk t x.1 x.2) && (!j.bound || (s.tenantHolds t (0x28 + j.rsv) && s.b F.ASCHED_VALID (56 + j.rsv)))

/-- A job that may run in its open reservation window (spec/09_caldera_jobs.md R321). -/
def State.cjBoundReady (s : State) (q : Nat) : Bool :=
  let j := s.cjd q
  j.bound && s.tenantHolds (s.cjob q).tenant (0x28 + j.rsv) && s.b F.ASCHED_VALID (56 + j.rsv) && bitOf s.cj.openMask j.rsv

/-- A job served as unbound: unbound itself, or BOUND without its reservation (spec/09_caldera_jobs.md R320, R321). -/
def State.cjUnbound (s : State) (q : Nat) : Bool :=
  let j := s.cjd q
  !j.bound || !(s.tenantHolds (s.cjob q).tenant (0x28 + j.rsv) && s.b F.ASCHED_VALID (56 + j.rsv))

/-- The cycles a round adds to a tenant's deficit (spec/09_caldera_jobs.md R321). -/
def State.cjQuantum (s : State) (t : Nat) : Nat := s.g F.CJ_TENANT_WEIGHT t * s.g F.CJ_CFG_QUANTUM 0 * 1024

/-- Rounds until a tenant's deficit is positive. -/
def State.cjRounds (s : State) (t : Nat) : Nat :=
  let d := vget s.cj.deficit t
  if 0 < d then 0 else ((-d) / (s.cjQuantum t : Int)).toNat + 1

/-- Places from the tenant served last, which itself comes last. -/
def State.cjTurn (s : State) (t : Nat) : Nat := (t + 127 - s.cj.rr) % 64

/-- The tenant that deficit round robin serves among those given, and the deficits after the rounds it took
(spec/09_caldera_jobs.md R321; notes/assumptions/17.md). -/
def State.cjRoundRobin (s : State) (ts : List Nat) : Option (Nat × State) :=
  let heavy := ts.filter (fun t => s.g F.CJ_TENANT_WEIGHT t != 0)
  if heavy.isEmpty then
    (ts.foldl (fun a t => match a with | none => some t | some b => if s.cjTurn t < s.cjTurn b then some t else a) none).map
      (fun t => (t, s))
  else if heavy.contains s.cj.rr ∧ s.cjRounds s.cj.rr = 0 then some (s.cj.rr, s)
  else
    let r := heavy.foldl (fun a t => min a (max 1 (s.cjRounds t))) (max 1 (s.cjRounds (heavy.headD 0)))
    match (heavy.filter (fun t => s.cjRounds t ≤ r)).foldl
        (fun a t => match a with | none => some t | some b => if s.cjTurn t < s.cjTurn b then some t else a) none with
    | none => none
    | some t =>
      let d := heavy.foldl (fun d u =>
        let k := if s.cjTurn u ≤ s.cjTurn t then r else r - 1
        vmod d u (fun (x : Int) => x + ((k * s.cjQuantum u : Nat) : Int))) s.cj.deficit
      some (t, s.modCj (fun x => { x with deficit := d }))

/-- The job the engine takes next, with the deficits after the choice (spec/09_caldera_jobs.md R321). -/
def State.cjPick (s : State) : Option (Nat × State) :=
  let ready := s.cj.order.filter (fun q => s.g F.CJ_QSTAT_STATE q != 2)
  let bound := (List.range 8).filterMap (fun r => ready.find? (fun q => s.cjBoundReady q && (s.cjd q).rsv == r))
  match bound with
  | q :: _ => some (q, s)
  | [] =>
    let free := ready.filter (fun q => s.cjUnbound q && !vget s.cj.capped (s.cjob q).tenant)
    match s.cjRoundRobin (free.map (fun q => (s.cjob q).tenant)).eraseDups with
    | none => none
    | some (t, s') => (free.find? (fun q => (s.cjob q).tenant == t)).map (fun q => (q, s'.modCj (fun x => { x with rr := t })))

/-- A job takes the engine; one first chosen is checked, and runs or takes the refusal path of 48 cycles
(spec/09_caldera_jobs.md R320). -/
def State.cjTake (s : State) (q : Nat) : State :=
  let s :=
    if (s.cjob q).phase = 0 then
      if s.cjAllowed q then s.modCjob q (fun x => { x with phase := 1, left := (s.cjd q).cost })
      else s.modCjob q (fun x => { x with phase := 2, left := 48 })
    else s
  ((s.modCjob q (fun x => { x with start := s.tick })).modCj (fun x => { x with running := some q })).ps 0x22 q
    [(F.CJ_QSTAT_STATE, 2), (F.CJ_QSTAT_AHEAD, 0)]

/-- The engine is free for host jobs (spec/09_caldera_jobs.md R321, R330). -/
def State.cjIdle (s : State) : Bool :=
  s.isOn .cald && !s.cjHostOff && s.cj.running.isNone && s.cj.kernels.isEmpty

/-- The idle engine takes the next host job (spec/09_caldera_jobs.md R320, R321). -/
def State.cjChoose (s : State) : State :=
  if s.cjIdle then
    match s.cjPick with
    | none => s
    | some (q, s) => s.cjTake q
  else s

/-- The cycles the running job may still run before its tenant's deficit or cap stops it (spec/09_caldera_jobs.md R321,
R322). -/
def State.cjAllow (s : State) (q : Nat) : Nat :=
  let x := s.cjob q
  let t := x.tenant
  if s.cjBoundReady q then x.left
  else
    let byDeficit := if s.g F.CJ_TENANT_WEIGHT t = 0 then x.left else (vget s.cj.deficit t).toNat
    let cap := s.g F.CJ_TENANT_HC_BUDGET t * 256
    let byCap := if cap = 0 ∨ x.phase = 2 then x.left else cap - vget s.cj.hcUsed t
    min x.left (min byDeficit byCap)

/-- The tick at which the running job has run `n` cycles more. -/
def State.cjTickOf (s : State) (q n : Nat) : Nat := (s.cjob q).start + ceilDiv n s.cjRate

/-- The running job ends now: its checks for uncorrectable words, its computation and its output
(spec/09_caldera_jobs.md R320, R324, R333). -/
def State.cjFinish (s : State) (q : Nat) : State :=
  let s := s.cjCharge
  let x := s.cjob q
  let j := s.cjd q
  let hit := j.spans.find? (fun y => s.cjBadIn y.1 y.2)
  let s :=
    if x.abort then s.cjStop q .aborted
    else if x.phase = 2 then s.cjEnd q .notAvailable false
    else
      match hit with
      | some y => (s.cjDetect y.1 y.2).cjStop q .fault
      | none =>
        let r := j.run s.cjMem
        ((r.2.foldl (fun s y => s.cjPut y.1 y.2) s).p F.CJ_QSTAT_FLAGS q r.1).cjEnd q .ok true
  s.cjClock

/-- The running job has had its whole time (spec/09_caldera_jobs.md R334). -/
def State.cjElapsed (s : State) (q : Nat) : Bool :=
  decide ((s.cjob q).left ≤ (s.tick - (s.cjob q).start) * s.cjRate)

/-- The engine is taken from the host by a kernel or a HOST_OFF: a completion of the same tick stands
(spec/09_caldera_jobs.md R328, R330, R334, R339). -/
def State.cjYield (s : State) : State :=
  match s.cj.running with
  | none => s
  | some q => if s.cjElapsed q then s.cjFinish q else s.cjHold

/-! Submission and commits. -/

/-- A free entry. -/
def State.cjFreeEntry (s : State) : Option Nat := (List.range 8).find? (fun q => s.g F.CJ_QSTAT_STATE q == 0)

/-- Entries a tenant holds, ended ones included (spec/09_caldera_jobs.md R319). -/
def State.cjCount (s : State) (t : Nat) : Nat :=
  ((List.range 8).filter (fun q => s.g F.CJ_QSTAT_STATE q != 0 && (s.cjob q).tenant == t)).length

/-- The parameter word a descriptor names. -/
def State.cjParam (s : State) (w : Word) : Word := s.cjMem (F.CJ_Q_ADDR_P.of w)

/-- Refusals of a submission (spec/09_caldera_jobs.md R319, Table CJ-4). -/
def State.cjJudge (s : State) (t : Nat) (w : Word) : Oc :=
  judge [
    (!(Cf.Jd.mk' w (s.cjParam w)).legal, .param),
    (!s.isOn .cald || (s.mirror .cald).held == 1, .notReady),
    (s.cjHostOff && (s.mirror .cald).held != 1, .power),
    (s.cjFreeEntry.isNone || decide (s.g F.CJ_TENANT_QLIM t ≤ s.cjCount t), .queueFull)]

/-- A submission (spec/09_caldera_jobs.md R319). What the submitter reads in CJ_QSTAT entry 8 is kept under entry
0x800 + t. -/
def State.cjSubmit (s : State) (t : Nat) (w : Word) : Oc × State :=
  let o := s.cjJudge t w
  let last (s : State) (o : Oc) (ahead q : Nat) : State :=
    s.ps 0x22 (0x800 + t) [(F.CJ_QSTAT_OUTCOME, o.code), (F.CJ_QSTAT_AHEAD, ahead), (F.CJ_QSTAT_QIDX, q),
      (F.CJ_QSTAT_TAG, F.CJ_Q_TAG.of w)]
  match s.cjFreeEntry with
  | none => let o := if o = .ok then .queueFull else o; (o, last s o 0 0)
  | some q =>
    if o = .ok then
      let ahead := (s.cj.order.filter (fun i => (s.cjob i).tenant == t)).length
      let s := (s.wr 0x21 q w).modCjob q (fun _ => { tenant := t, p0 := s.cjParam w })
      let s := (s.modCj (fun x => { x with order := x.order ++ [q] })).ps 0x22 q
        [(F.CJ_QSTAT_STATE, 1), (F.CJ_QSTAT_OUTCOME, 0), (F.CJ_QSTAT_FLAGS, 0), (F.CJ_QSTAT_AHEAD, ahead),
         (F.CJ_QSTAT_CYCLES, 0), (F.CJ_QSTAT_TAG, F.CJ_Q_TAG.of w)]
      let s := s.cjChoose
      let o := if s.cj.running = some q then Oc.ok else .deferred
      let s := s.p F.CJ_QSTAT_OUTCOME q o.code
      (o, last s o (if o = .ok then 0 else ahead) q)
    else (o, last s o 0 0)

/-- A commit to CJ_Q: entry 8 submits, the others hold descriptors that nobody writes (spec/09_caldera_jobs.md R344). -/
def State.cjCommitQ (s : State) (t e : Nat) (w : Word) : Oc × State := if e = 8 then s.cjSubmit t w else (.ok, s)

/-- A CMD commit to a job's entry: 1 abort, 2 release (spec/09_caldera_jobs.md R325, spec/03_units_events.md R102). -/
def State.cjCommitStat (s : State) (t q : Nat) (w : Word) : Oc × State :=
  let cmd := F.CJ_QSTAT_CMD.of w
  let st := s.g F.CJ_QSTAT_STATE q
  if cmd = 0 then (.ok, s)
  else if 8 ≤ q ∨ (st ≠ 0 ∧ (s.cjob q).tenant ≠ t) then (.notAvailable, s)
  else if cmd = 3 then (.param, s)
  else if cmd = 2 then (if st = 4 then (.ok, s.cjFree q) else (.stateMismatch, s))
  else if st = 0 then (.notAvailable, s)
  else if st = 1 ∨ st = 3 then (.ok, s.cjStop q .aborted)
  else if st = 2 then (.ok, s.modCjob q (fun x => { x with abort := true }))
  else
    match s.abortCase .cald (q + 1) with
    | .withdrawn => (.ok, (s.withdraw .cald (q + 1)).cjStop q .aborted)
    | .tooLate => (.tooLate, s)
    | .gone => (.notAvailable, s)

/-- A commit to CJ_CFG (spec/09_caldera_jobs.md R343). -/
def State.cjCommitCfg (s : State) (w : Word) : Oc × State :=
  if F.CJ_CFG_QUANTUM.of w = 0 then (.param, s) else (.ok, s.wr 0x20 0 (s.merged 0x20 0 w))

/-- A commit to CJ_TENANT (spec/09_caldera_jobs.md R346). -/
def State.cjCommitTenant (s : State) (t e : Nat) (w : Word) : Oc × State :=
  let q := F.CJ_TENANT_QLIM.of w
  if t ≠ 0 then (.notAvailable, s)
  else if q = 0 ∨ 8 < q then (.param, s)
  else (.ok, s.wr 0x23 e (s.merged 0x23 e w))

/-- A job names a word of a page. -/
def State.cjNames (s : State) (q p : Nat) : Bool :=
  (s.cjd q).spans.any (fun x => Cf.spanMeets x (0x600 + 64 * p, 64))

/-- A RUNNING or PREEMPTED job of a tenant names a page (spec/09_caldera_jobs.md R336, R337). -/
def State.cjNaming (s : State) (t p : Nat) : List Nat :=
  s.cj.order.filter (fun q =>
    (s.cjob q).tenant == t && (s.g F.CJ_QSTAT_STATE q == 2 || s.g F.CJ_QSTAT_STATE q == 3) && s.cjNames q p)

/-- A commit to CJ_MEM (spec/09_caldera_jobs.md R336, R348). -/
def State.cjCommitMem (s : State) (e : Nat) (w : Word) : Oc × State :=
  if e < 0x600 then (.ok, s)
  else
    let p := (e - 0x600) / 64
    if (s.cjNaming (s.g F.CJ_PAGE_TENANT p) p).isEmpty then (.ok, s.cjPut e w) else (.busy, s)

/-- The pages a tenant holds (spec/09_caldera_jobs.md R346). -/
def State.cjCountPages (s : State) (t : Nat) : State :=
  s.p F.CJ_TENANT_PAGES t
    ((List.range 40).filter (fun p => s.b F.CJ_PAGE_ASSIGNED p && s.g F.CJ_PAGE_TENANT p == t)).length

/-- A commit to CJ_PAGE (spec/09_caldera_jobs.md R309, R337, R347). -/
def State.cjCommitPage (s : State) (t p : Nat) (w : Word) : Oc × State :=
  if t ≠ 0 then (.notAvailable, s)
  else
    let new := s.merged 0x24 p w
    let was := s.g F.CJ_PAGE_TENANT p
    if new = s.rd 0x24 p then (.ok, s)
    else
      let s :=
        if s.b F.CJ_PAGE_ASSIGNED p then
          (s.cjNaming was p).foldl (fun s q => (if s.cj.running = some q then s.cjCharge else s).cjStop q .aborted) s
        else s
      let s := (s.wr 0x24 p new).cjZeroPage p
      (.ok, (s.cjCountPages was).cjCountPages (F.CJ_PAGE_TENANT.of new))

/-- A disabled tenant's jobs end and its entries are freed; its pages become 0 and stay its own (spec/09_caldera_jobs.md
R309, R340). -/
def State.cjDisable (s : State) (t : Nat) : State :=
  let s := (List.range 8).foldl (fun s q =>
    let st := s.g F.CJ_QSTAT_STATE q
    if st = 0 ∨ (s.cjob q).tenant ≠ t then s
    else if st = 4 then s.cjFree q
    else ((if s.cj.running = some q then s.cjCharge else s).cjStop q .aborted).cjFree q) s
  ((List.range 40).filter (fun p => s.b F.CJ_PAGE_ASSIGNED p && s.g F.CJ_PAGE_TENANT p == t)).foldl
    (fun s p => s.cjZeroPage p) s

/-! Unit. -/

/-- Every host job ends, and every kernel invocation (spec/09_caldera_jobs.md R332, R333). -/
def State.cjEndAll (o : Oc) (s : State) : State :=
  let s := s.cjCharge
  (s.cj.order.foldl (fun s q => s.cjStop q o) s).modCj (fun x => { x with kernels := [], running := none })

/-- HOST_OFF follows the forced substate and the governor; a change raises HOST_HELD and holds the running job
(spec/09_caldera_jobs.md R330, R339, R342). -/
def State.cjSetHostOff (s : State) (off : Bool) : State :=
  if off = s.cjHostOff then s
  else
    let s := (s.setSub .cald (s.sub .cald % 4 + 4 * b2n off)).raiseCommon .cald 1 0x14 (b2n off)
    if off then s.cjYield else s

/-- The forced substate takes effect (spec/09_caldera_jobs.md R332, R339); `gov` says that the governor sheds host jobs. -/
def State.cjForce (s : State) (arg : Nat) (gov : Bool) : State :=
  (s.changeMirror .cald (fun m => { m with forced := false, pend := none, held := arg })).cjSetHostOff (arg == 1 || gov)

/-- The governor sheds or restores host jobs (spec/09_caldera_jobs.md R330). -/
def State.cjShed (s : State) (gov : Bool) : State := s.cjSetHostOff (gov || (s.mirror .cald).held == 1)

/-- KONLY (spec/09_caldera_jobs.md R330). -/
def State.cjSetKonly (s : State) (k : Bool) : State :=
  s.setSub .cald (s.sub .cald / 4 * 4 + 2 * b2n k + s.sub .cald % 2)

/-- The start steps of CALD are done: memory is 0 (spec/09_caldera_jobs.md R332). -/
def State.cjStart (s : State) : State := s.cjZeroMem.goOn .cald (s.sub .cald)

/-- A grid half-cycle begins for Caldera's host jobs: the running job is charged up to it, USED and the counts of the
last half-cycle stand, caps are lifted (spec/09_caldera_jobs.md R322, R346, R350). -/
def State.cjHalf (s : State) : State :=
  let s := s.cjCharge
  let s := (List.range 64).foldl (fun s t => s.p F.CJ_TENANT_USED t (vget s.cj.hcUsed t)) s
  let s := s.ps 0x27 0 [(F.CJ_STAT_HOST_CYC, s.cj.hostCyc), (F.CJ_STAT_KERN_CYC, s.cj.kernCyc)]
  let s := if s.cjHostOff then s.bump F.CJ_STAT_HELD_HC 0 else s
  s.modCj (fun x => { x with
    hcUsed := Vector.replicate 64 0, capped := Vector.replicate 64 false, hostCyc := 0, kernCyc := 0 })

/-! The commands. -/

/-- CJ_JOB_CHOOSE (spec/09_caldera_jobs.md R320, R321). -/
def execCjJobChoose (s : State) : Host.Outcome State Fault Refusal := .next s.cjChoose

/-- CJ_JOB_DONE: the running job reaches its end, or an aborted one its pre-emption point; a job that its tenant's
deficit or cap stops first does not end here (spec/09_caldera_jobs.md R321, R322, R324, R325). -/
def execCjJobDone (s : State) : Host.Outcome State Fault Refusal :=
  match s.cj.running with
  | none => .next s
  | some q =>
    if (s.cjob q).abort then .next (s.cjFinish q)
    else if (s.cjob q).left ≤ s.cjAllow q then .next ((s.advanceTo (s.cjTickOf q (s.cjob q).left)).cjFinish q)
    else .next s

/-- CJ_PREEMPT: the running job is held where pre-emption is due: HOST_OFF, a kernel, its own reservation closed, a BOUND
job's reservation open, or its tenant's deficit spent (spec/09_caldera_jobs.md R321, R323, R328, R330). -/
def execCjPreempt (s : State) : Host.Outcome State Fault Refusal :=
  match s.cj.running with
  | none => .next s
  | some q =>
    let x := s.cjob q
    let boundWaits := s.cj.order.any (fun i => i != q && s.cjBoundReady i)
    let closed := (s.cjd q).bound && x.phase != 2 && !s.cjBoundReady q
    if s.cjHostOff || !s.cj.kernels.isEmpty || closed || x.abort || (!s.cjBoundReady q && boundWaits) then .next s.cjHold
    else if !s.cjBoundReady q && s.g F.CJ_TENANT_WEIGHT x.tenant != 0 && decide ((vget s.cj.deficit x.tenant).toNat < x.left) then
      .next (s.advanceTo (s.cjTickOf q (vget s.cj.deficit x.tenant).toNat)).cjHold
    else .next s

/-- CJ_BUDGET_CAP: the running job's tenant reaches its cap of unbound cycles in the half-cycle
(spec/09_caldera_jobs.md R322). -/
def execCjBudgetCap (s : State) : Host.Outcome State Fault Refusal :=
  match s.cj.running with
  | none => .next s
  | some q =>
    let t := (s.cjob q).tenant
    let cap := s.g F.CJ_TENANT_HC_BUDGET t * 256
    if cap = 0 ∨ s.cjBoundReady q ∨ (s.cjob q).phase = 2 then .next s
    else if cap - vget s.cj.hcUsed t ≤ (s.cjob q).left then
      let s := s.advanceTo (s.cjTickOf q (cap - vget s.cj.hcUsed t))
      .next (s.cjHold.modCj (fun x => { x with capped := vset x.capped t true }))
    else .next s

/-- HOST_RESERVATION_WINDOW: reservation `r` opens, or closes and holds its BOUND job (spec/09_caldera_jobs.md R321,
spec/04_geyser_time_base.md R138). -/
def execHostReservationWindow (r : Fin 8) (opens : Bool) (s : State) : Host.Outcome State Fault Refusal :=
  let e := 56 + r.val
  if !s.b F.ASCHED_VALID e then .next s
  else
    let per := s.g F.ASCHED_PERIOD e
    let m := if per = 0 then 32768 else if per = 1 then 65536 else 65536 * 2 ^ s.g F.ASCHED_K e
    let ph := if per = 2 then s.g F.ASCHED_PHASE e % 2 ^ s.g F.ASCHED_K e else 0
    let at_ := 65536 * ph + s.g F.ASCHED_START e + (if opens then 0 else s.g F.ASCHED_LEN e)
    let s := if bitOf s.cj.openMask r.val = opens then s else s.advanceFrac (s.fracTo at_ m)
    if opens then
      let s := s.modCj (fun x => { x with openMask := x.openMask ||| 2 ^ r.val })
      match s.cj.running with
      | some q => if !s.cjBoundReady q && s.cj.order.any (fun i => i != q && s.cjBoundReady i) then .next s.cjYield else .next s
      | none => .next s
    else
      let s := s.modCj (fun x => { x with openMask := x.openMask &&& (255 ^^^ 2 ^ r.val) })
      match s.cj.running with
      | some q => if (s.cjd q).bound && (s.cjob q).phase != 2 && (s.cjd q).rsv == r.val then .next s.cjYield else .next s
      | none => .next s

end Sys2Proof.Machine
end

