-- ==== Sys2Proof/Machine/Geyser.lean ====
section
/-! DEFINITION. Geyser, the mains-angle time base (spec/04_geyser_time_base.md). Phase errors are kept in units of the
stamp's fraction, 2^32 of them to an angle unit. -/

namespace Sys2Proof.Machine

open Sys2Proof

/-- Fraction units of an angle unit. -/
def fracAu : Int := 4294967296

/-- The nominal rate (spec/04_geyser_time_base.md R116). -/
def State.gyNominal (s : State) : BitVec 64 := if s.gyc F.GY_CFG_NOMINAL = 0 then 0x04444444 else 0x051EB852

/-- A line frame is in progress, for Geyser (spec/04_geyser_time_base.md R127). -/
def State.frameNow (s : State) : Bool := s.ln.frame.isSome

/-- This station is the MASTER (spec/01_cabinet_system.md R31). -/
def State.isMaster (s : State) : Bool := s.lac F.LA_CFG_ROLE == 1

/-- The held rate is valid: 64 cycles spent in LOCK since Geyser started (spec/04_geyser_time_base.md R129). -/
def State.gyHeldOk (s : State) : Bool := decide (64 ≤ s.gy.lockRates.length)

/-- The held rate: the mean RATE over the last 64 cycles in LOCK (spec/04_geyser_time_base.md R129). -/
def State.gyHeld (s : State) : BitVec 64 :=
  BitVec.ofNat 64 (roundQ (((s.gy.lockRates.map (·.toNat)).sum : Nat) : Int) 64).toNat

/-- A frequency lies within 45.0 to 66.0 Hz, from `num / den` core ticks a cycle (spec/04_geyser_time_base.md R114). -/
def periodInRange (num den : Nat) : Bool :=
  decide (45 * num ≤ 196608000 * den ∧ 196608000 * den ≤ 66 * num)

/-- The mean period of a reference in core ticks, as a fraction; (0, 0) when unknown (spec/04_geyser_time_base.md R117).
References 1 to 3 are ZC1 to ZC3, 4 NET, 5 and 6 OPT1 and OPT2 (R143). -/
def State.gyPeriod (s : State) (r : Nat) : Nat × Nat :=
  if r ≤ 3 then
    let z := vget s.gy.zc (r - 1)
    (z.periods.sum, z.periods.length)
  else if r = 4 then (s.gy.net.pNum, s.gy.net.pDen)
  else
    let x := vget s.gy.opt (r - 5)
    (x.pNum, x.pDen)

/-- An offset is valid (spec/04_geyser_time_base.md R123). -/
def State.gyOfsValid (s : State) (r : Nat) : Bool :=
  s.b F.GY_REFS_OFS_VALID (r - 1) || (s.isMaster && s.gyc F.GY_CFG_OWN_IN == r) || decide (5 ≤ r)

/-- A reference is qualified (spec/04_geyser_time_base.md R115). -/
def State.gyQual (s : State) (r : Nat) : Bool := s.g F.GY_REFS_QSTATE (r - 1) == 2

/-- A reference is qualified and usable (spec/04_geyser_time_base.md R122, Table GY-2). -/
def State.gyUsable (s : State) (r : Nat) : Bool :=
  s.gyQual r &&
    (if r ≤ 3 then s.gyOfsValid r
     else if r = 4 then !s.isMaster && s.gyc F.GY_CFG_NET_USE == 1
     else if r = 5 then s.gyc F.GY_CFG_OPT1_USE == 1 && s.isOn .opt1
     else s.gyc F.GY_CFG_OPT2_USE == 1 && s.isOn .opt2)

/-- The references in rank order (spec/04_geyser_time_base.md R122). -/
def State.gyOrder (s : State) : List Nat :=
  let own := s.gyc F.GY_CFG_OWN_IN
  own :: ([1, 2, 3].filter (· != own)) ++ [4, 5, 6]

/-- The highest-ranked reference that is qualified and usable (spec/04_geyser_time_base.md R122). -/
def State.gyBest (s : State) : Option Nat := s.gyOrder.find? s.gyUsable

/-- The place of a reference in rank order. -/
def State.gyRank (s : State) (r : Nat) : Nat := s.gyOrder.findIdx (· == r)

/-- The correction c as a fraction of the rate, over 10^6 * tau * 2^48, after the clamp; and whether the clamp limits it
(spec/04_geyser_time_base.md R117). -/
def gyCorr (e : Int) (tau slew : Nat) : Int × Bool :=
  let x := e * 1000000
  let lim : Int := (slew * tau * 2 ^ 48 : Nat)
  if x > lim then (lim, true) else if x < -lim then (-lim, true) else (x, false)

/-- RATE from a mean period `num / den` and a phase error (spec/04_geyser_time_base.md R117). -/
def gyRate (num den : Nat) (e : Int) (tau slew : Nat) : BitVec 64 :=
  let unit : Nat := 1000000 * tau * 2 ^ 48
  BitVec.ofNat 64 (roundQ ((2 ^ 48 * den : Nat) * ((unit : Int) + (gyCorr e tau slew).1)) (num * unit)).toNat

/-- GY_FREQ of a mean period (spec/04_geyser_time_base.md R119). -/
def gyFreqOf (num den : Nat) : Nat := (roundQ (256 * 196608000 * den : Nat) num).toNat

/-- GY_FREQ of a rate: f = 3,000 RATE (spec/04_geyser_time_base.md R116, R119). -/
def gyFreqOfRate (r : BitVec 64) : Nat := (roundQ (256 * 3000 * r.toNat : Nat) (2 ^ 32)).toNat

/-- NET_TIME changes and is announced (spec/04_geyser_time_base.md R126). -/
def State.gySetNetTime (s : State) (b : Bool) : State :=
  if s.gy.netTime = b then s
  else (s.modGy (fun g => { g with netTime := b })).raiseCommon .gy 1 0x18 (b2n b)

/-- On the MASTER, NET_TIME is 1 in LOCK and in HOLDOVER (spec/04_geyser_time_base.md R126). -/
def State.gyMasterTime (s : State) : State :=
  if s.isMaster then s.gySetNetTime (s.isOn .gy && (s.sub .gy == 1 || s.sub .gy == 2)) else s

/-- The lock state changes; rate and frequency follow (spec/04_geyser_time_base.md R128, R129). -/
def State.gySetSub (s : State) (v : Nat) : State :=
  let rate : BitVec 64 :=
    if v = 0 then (if s.gyHeldOk then s.gyHeld else s.gyNominal)
    else if v = 2 then s.gyHeld
    else if v = 3 then s.gyNominal
    else s.gy.rate
  let s := s.modGy (fun g => { g with
    rate := rate, since := 0, lockRun := 0, outRun := 0, clamped := false,
    freq := if v = 2 ∨ v = 3 then BitVec.ofNat 16 (gyFreqOfRate rate) else g.freq })
  (s.setSub .gy v).gyMasterTime

/-- The active reference changes, with REF_CHANGE or REF_RETARGET (spec/04_geyser_time_base.md R132, R133, R143). -/
def State.gySetRef (s : State) (r : Nat) : State :=
  let old := s.gy.ref
  if old = r then s
  else
    let target := decide (1 ≤ r ∧ r ≤ 6)
    let retarget := s.gy.switching && target && decide (1 ≤ old ∧ old ≤ 6) && decide (s.gyRank r < s.gyRank old)
    let s := s.modGy (fun g => { g with ref := r, switching := target, switchRun := 0, firstEv := target })
    s.raiseCommon .gy 1 (if retarget then 0x11 else 0x10) (r * 256 + old)

/-- The choice of reference after a change of what is qualified or usable, and the moves of Table GY-3 that follow from it
(spec/04_geyser_time_base.md R122, R128, R146). A forced substate ignores every reference (R130). -/
def State.gyChoose (s : State) : State :=
  if !s.isOn .gy || (s.mirror .gy).held != 0 then s
  else
    match s.gyBest with
    | some r =>
      let s := s.gySetRef r
      if s.sub .gy = 2 ∨ s.sub .gy = 3 then s.gySetSub 0 else s
    | none =>
      if s.sub .gy = 1 then
        if s.gyHeldOk then (s.gySetRef 7).gySetSub 2 else (s.gySetRef 0).gySetSub 3
      else if s.sub .gy = 0 ∧ s.gy.ref ≠ 0 then (s.gySetRef 0).modGy (fun g => { g with since := 0 })
      else s

/-- A good period of a reference (spec/04_geyser_time_base.md R115). -/
def State.gyGood (s : State) (r : Nat) : State :=
  let n := capAt 255 (s.g F.GY_REFS_GOOD (r - 1) + 1)
  let q := s.g F.GY_REFS_QSTATE (r - 1)
  let q' := if q = 2 ∨ 25 ≤ n then 2 else 1
  let s := s.ps 0x09 (r - 1) [(F.GY_REFS_GOOD, n), (F.GY_REFS_BAD, 0), (F.GY_REFS_QSTATE, q'),
    (F.GY_REFS_LAST_CYCLE, s.cycle)]
  if q' = 2 ∧ q ≠ 2 then s.raiseCommon .gy 0 0x12 r else s

/-- `n` bad or missed periods of a reference; the third in a row disqualifies it (spec/04_geyser_time_base.md R115). -/
def State.gyBad (s : State) (r n why : Nat) : State :=
  let k := capAt 3 (s.g F.GY_REFS_BAD (r - 1) + n)
  let q := s.g F.GY_REFS_QSTATE (r - 1)
  let s := s.ps 0x09 (r - 1) [(F.GY_REFS_GOOD, 0), (F.GY_REFS_BAD, k),
    (F.GY_REFS_QSTATE, if q = 2 ∧ k < 3 then 2 else 0)]
  if q = 2 ∧ 3 ≤ k then s.raiseCommon .gy 2 0x13 (why * 256 + r) else s

/-- A pending REALIGN is set or cancelled by the phase error of an event (spec/04_geyser_time_base.md R131). -/
def State.gyRealignJudge (s : State) (e : Int) : State :=
  let thr : Int := (s.gyc F.GY_CFG_REALIGN_THR : Int) * fracAu
  let win : Int := (s.gyc F.GY_CFG_LOCK_WIN : Int) * fracAu
  let a : Int := if e < 0 then -e else e
  if s.gy.realign then
    if a ≤ (if s.gy.realignCmd then win else thr) then
      s.modGy (fun g => { g with realign := false, realignCmd := false })
    else s
  else if s.gyc F.GY_CFG_REALIGN_EN = 1 ∧ a > thr then
    s.modGy (fun g => { g with realign := true, realignCmd := false })
  else s

/-- An event of the active reference: e, c and RATE are recomputed, the lock states and the switch move on
(spec/04_geyser_time_base.md R117, R128, R131, R132). -/
def State.gyEvent (s : State) (r : Nat) (e : Int) : State :=
  let pr := s.gyPeriod r
  let win : Int := (s.gyc F.GY_CFG_LOCK_WIN : Int) * fracAu
  let unl : Int := (s.gyc F.GY_CFG_UNLOCK_WIN : Int) * fracAu
  let a : Int := if e < 0 then -e else e
  let tau := s.gyc F.GY_CFG_TAU
  let slew := s.gyc F.GY_CFG_SLEW_PPM
  let g := s.gy
  let inWin := decide (a ≤ win)
  let lockRun := if inWin then capAt 16 (g.lockRun + 1) else 0
  let outRun := if a > unl then capAt 3 (g.outRun + 1) else 0
  let switchRun := if inWin then capAt 16 (g.switchRun + 1) else 0
  let s := s.modGy (fun g => { g with
    err := e, lockRun := lockRun, outRun := outRun, switchRun := switchRun, firstEv := false,
    switching := g.switching && decide (switchRun < 16), clamped := (gyCorr e tau slew).2,
    rate := if pr.1 = 0 ∨ tau = 0 then g.rate else gyRate pr.1 pr.2 e tau slew,
    freq := if pr.1 = 0 then g.freq else BitVec.ofNat 16 (gyFreqOf pr.1 pr.2) })
  let s := (s.gyRealignJudge e).p F.GY_REFS_LAST_ERR (r - 1) (unsignedN 16 (e / fracAu))
  if s.sub .gy = 0 ∧ lockRun = 16 then
    let rate := s.gy.rate
    ((s.gySetSub 1).modGy (fun g => { g with rate := rate }))
  else if s.sub .gy = 1 ∧ (outRun = 3 ∨ (g.switching ∧ g.firstEv ∧ a > unl)) then
    let rate := s.gy.rate
    ((s.gySetSub 0).modGy (fun g => { g with rate := rate }))
  else s

/-- The stamp, with its fraction, `ago` core ticks before now (spec/04_geyser_time_base.md R113). -/
def State.stampAgo (s : State) (ago : Nat) : BitVec 80 := s.gy.stamp - BitVec.ofNat 80 (ago * s.gy.rate.toNat)

/-- The signed phase error from a stamp to a target angle (both modulo a cycle), in fraction units
(spec/04_geyser_time_base.md R117). -/
def phaseErr (target : Nat) (stamp : BitVec 80) : Int :=
  signedN 48 (target % 65536 * 2 ^ 32 + 2 ^ 48 - stamp.toNat % 2 ^ 48)

/-- The latest measured period of a reference is judged against 45.0 to 66.0 Hz for FREQ_OOR
(spec/04_geyser_time_base.md R119). -/
def State.gyOor (s : State) (r num den : Nat) : State :=
  s.modGy (fun g => { g with
    oor := if periodInRange num den then g.oor &&& (127 ^^^ 2 ^ r) else g.oor ||| 2 ^ r })

/-- FREQ_OOR (spec/04_geyser_time_base.md R119). -/
def State.freqOor (s : State) : Bool := bitOf s.gy.oor s.gy.ref || bitOf s.gy.oor (s.gyc F.GY_CFG_OWN_IN)

/-- An accepted zero-cross edge whose first transition was `ago` core ticks before now (spec/04_geyser_time_base.md R113,
R114, R122). -/
def State.gyEdge (s : State) (r ago : Nat) : State :=
  let z := vget s.gy.zc (r - 1)
  let t := s.tick - ago
  let st := s.stampAgo ago
  let store (f : Zc → Zc) (s : State) : State :=
    s.modGy (fun g => { g with zc := vmod g.zc (r - 1) (fun z => f { z with last := some t, lastStamp := st.toNat }) })
  let phase (s : State) : State :=
    if s.isOn .gy && s.gy.ref == r then s.gyEvent r (phaseErr (s.g F.GY_REFS_OFFSET (r - 1)) st) else s
  match z.last with
  | none => store id s
  | some t0 =>
    let d := t - t0
    let sum := if s.gyQual r then z.periods.sum else z.prev
    let n := if s.gyQual r then z.periods.length else 1
    let near (k : Nat) : Bool := decide (20 * (max (n * d) (k * sum) - min (n * d) (k * sum)) ≤ sum)
    if sum = 0 ∨ near 1 then
      let s := (store (fun z => { z with prev := d }) s).gyOor r d 1
      if periodInRange d 1 then
        let s := s.modGy (fun g => { g with
          zc := vmod g.zc (r - 1) (fun z => { z with periods := (d :: z.periods).take 8 }) })
        let pr := s.gyPeriod r
        phase ((s.p F.GY_REFS_FREQ (r - 1) (gyFreqOf pr.1 pr.2)).gyGood r).gyChoose
      else (s.gyBad r 1 3).gyChoose
    else if near 2 then phase ((store id s).gyBad r 1 1).gyChoose
    else if near 3 then phase ((store id s).gyBad r 2 1).gyChoose
    else s.bump F.GY_REFS_SPUR (r - 1)

/-- No edge by 3.05 P: three periods count as missed and the next edge starts afresh (spec/04_geyser_time_base.md
R114). -/
def State.gyMissed (s : State) (r : Nat) : State :=
  let z := vget s.gy.zc (r - 1)
  let sum := if s.gyQual r then z.periods.sum else z.prev
  let n := if s.gyQual r then z.periods.length else 1
  match z.last with
  | none => s
  | some t0 =>
    if sum = 0 then s
    else
      let s := s.advanceTo (t0 + ceilDiv (305 * sum) (100 * n))
      ((s.modGy (fun g => { g with zc := vmod g.zc (r - 1) (fun z => { z with last := none }) })).gyBad r 3 1).gyChoose

/-- An event of a stamped reference: NET or an OPT port, with the domain stamp of the event and the core ticks since it
(spec/04_geyser_time_base.md R115, R117, R122). -/
def State.gyStamped (s : State) (r stamp ago : Nat) : State :=
  let x := if r = 4 then s.gy.net else vget s.gy.opt (r - 5)
  let t := s.tick - ago
  let here := s.stampAgo ago
  let put (y : NetRef) (s : State) : State :=
    s.modGy (fun g => if r = 4 then { g with net := y } else { g with opt := vset g.opt (r - 5) y })
  let next : NetRef := { x with last := some t, lastStamp := stamp }
  let phase (s : State) : State :=
    if s.isOn .gy && s.gy.ref == r then s.gyEvent r (phaseErr stamp here) else s
  match x.last with
  | none => phase (put next s)
  | some t0 =>
    let dt := t - t0
    let da := (stamp + 2 ^ 48 - x.lastStamp) % 2 ^ 48
    let mine := dt * s.gy.rate.toNat / 2 ^ 32
    if da ≠ 0 ∧ 20 * (max mine da - min mine da) ≤ da then
      let s := (put { next with pNum := dt * 65536, pDen := da } s).gyOor r (dt * 65536) da
      let s := s.p F.GY_REFS_FREQ (r - 1) (gyFreqOf (dt * 65536) da)
      phase (s.gyGood r).gyChoose
    else ((put next s).gyBad r 1 2).gyChoose

/-! Offsets and phase identities. -/

/-- The candidates of the phase identity (spec/04_geyser_time_base.md R125). -/
def phaseCandidates : List (Nat × Nat) := [(1, 0), (2, 21845), (3, 43691)]

/-- The distance of an angle from another, in magnitude. -/
def angleDist (a b : Nat) : Nat := (signedN 16 (a + 65536 - b % 65536)).natAbs

/-- The phase identity of an input is learned (spec/04_geyser_time_base.md R125). -/
def State.gyPhaseId (s : State) (i : Nat) : State :=
  let o := s.g F.GY_REFS_OFFSET i
  let best := phaseCandidates.foldl (fun a c => if angleDist o c.2 < angleDist o a.2 then c else a) (1, 0)
  let z := vget s.gy.zc i
  let put (f : Zc → Zc) (s : State) : State := s.modGy (fun g => { g with zc := vmod g.zc i f })
  if angleDist o best.2 ≤ 3641 then
    let run := if z.cand = best.1 then capAt 5 (z.run + 1) else 1
    let s := put (fun z => { z with cand := best.1, run := run, far := 0 }) s
    if run = 4 then
      (s.p F.GY_REFS_PHASE_ID i best.1).raiseCommon .gy 0 0x16 ((i + 1) * 2 ^ 24 + best.1 * 2 ^ 16 + o)
    else s
  else
    let far := capAt 5 (z.far + 1)
    let s := put (fun z => { z with cand := 0, run := 0, far := far }) s
    if far = 4 then (s.p F.GY_REFS_PHASE_ID i 0).raiseCommon .gy 2 0x17 ((i + 1) * 2 ^ 24 + o) else s

/-- The offset comparison of one input against domain time, `shift` being domain time less the local stamp
(spec/04_geyser_time_base.md R124). -/
def State.gyCompareOne (s : State) (shift : Int) (i : Nat) : State :=
  let z := vget s.gy.zc i
  match z.last with
  | none => s
  | some _ =>
    let m := unsignedN 16 (((z.lastStamp : Int) + shift) / fracAu)
    let o := s.g F.GY_REFS_OFFSET i
    let d := signedN 16 (m + 65536 - o)
    let s := s.p F.GY_REFS_LAST_ERR i (unsignedN 16 d)
    let put (f : Zc → Zc) (s : State) : State := s.modGy (fun g => { g with zc := vmod g.zc i f })
    if s.gyc F.GY_CFG_OFS_MODE = 1 then s.gyPhaseId i
    else if !s.gyOfsValid (i + 1) then
      (put (fun z => { z with skipped := 0 }) (s.ps 0x09 i [(F.GY_REFS_OFFSET, m), (F.GY_REFS_OFS_VALID, 1)])).gyPhaseId i
    else if d.natAbs ≤ 3641 then
      let o := unsignedN 16 ((o : Int) + roundQ d 8)
      (put (fun z => { z with skipped := 0 }) (s.ps 0x09 i [(F.GY_REFS_OFFSET, o), (F.GY_REFS_OFS_VALID, 1)])).gyPhaseId i
    else if z.skipped = 3 then
      put (fun z => { z with skipped := 0, cand := 0, run := 0, far := 0 }) (s.p F.GY_REFS_OFFSET i m)
    else put (fun z => { z with skipped := z.skipped + 1 }) s

/-- The comparisons of every input, once per beacon period (spec/04_geyser_time_base.md R124). -/
def State.gyCompare (s : State) (shift : Int) : State :=
  (((s.gyCompareOne shift 0).gyCompareOne shift 1).gyCompareOne shift 2).gyChoose

/-- A good BEACON from the domain's MASTER, in the copy of tier `t` received, its stamp point `ago` core ticks before now:
NET event, NET_TIME, CYCLE, offsets and GRID_OFFSET (spec/04_geyser_time_base.md R121 to R127, R150). -/
def State.gyBeacon (s : State) (master cyc ang grid t ago : Nat) : State :=
  if s.isMaster || (s.gy.master != 0 && s.gy.master != master) then s
  else
    let stamp := (cyc * 65536 + ang + 32768 * t) % 2 ^ 48
    let here := s.stampAgo ago
    let e := phaseErr stamp here
    let full := signedN 80 (stamp * 2 ^ 32 + 2 ^ 80 - here.toNat)
    let cycles := (full - e) / (2 ^ 48 : Int)
    let s := s.modGy (fun g => { g with
      master := master, beaconAt := some (BitVec.ofNat 32 s.cycle), beaconErr := e,
      cycleLoad := if cycles = 0 then none else some cycles,
      gridNew := if grid = g.grid then none else some grid,
      gridHeard := some s.cycle })
    let s := s.gySetNetTime (decide (e.natAbs ≤ 256 * 2 ^ 32))
    let s := if s.gy.netTime then s.gyCompare e else s
    s.gyStamped 4 stamp ago

/-- What Geyser does when the MASTER sends its BEACON: comparisons against its own angle, and the announcement of a new
GRID_OFFSET (spec/04_geyser_time_base.md R121, R124). -/
def State.gyBeaconSent (s : State) : State :=
  (s.modGy (fun g => { g with gridHeard := g.gridNew.map (fun _ => s.cycle) })).gyCompare 0

/-! Steps of the stamp, comparators. -/

/-- The half-cycle a comparator's firing at its target belongs to; targets of a step are counted by it
(spec/04_geyser_time_base.md R141). -/
def cmpSlot (mode ang stamp : Nat) : Nat :=
  if mode = 3 then (stamp + 2 ^ 48 - ang % 32768) % 2 ^ 48 / 32768 else (stamp + 2 ^ 48 - ang) % 2 ^ 48 / 65536

/-- Fraction units from now to a stamp; none when it is not ahead. -/
def State.fracUntil (s : State) (stamp : Nat) : Nat :=
  if stampLater (stamp % 2 ^ 48) s.stamp48 then ((stamp % 2 ^ 48) * 2 ^ 32 + 2 ^ 80 - s.gy.stamp.toNat) % 2 ^ 80 else 0

/-- A comparator fires (spec/04_geyser_time_base.md R139, R140, R141). -/
def State.cmpFire (s : State) (i : Nat) (stepped : Bool) : State :=
  let mode := s.g F.GY_CMP_MODE i
  let n := (s.g F.GY_CMP_COUNT i + 1) % 65536
  let slot := cmpSlot mode (s.g F.GY_CMP_ANGLE i) s.stamp48
  let s := s.ps 0x0B i [(F.GY_CMP_COUNT, n), (F.GY_CMP_STEPPED, b2n stepped),
    (F.GY_CMP_FIRED, if mode = 1 then 1 else s.g F.GY_CMP_FIRED i)]
  let s := s.modGy (fun g => { g with
    cmpDone := vset g.cmpDone i (slot + 1),
    pulse := if s.b F.GY_CMP_PIN i then vset g.pulse i (some (s.stamp48 + 16 * s.g F.GY_CMP_PW i)) else g.pulse })
  if s.b F.GY_CMP_EVT i && s.claimed (0x10 + i) && s.g F.CLAIMS_HOLDER (0x10 + i) == 0x0E then
    s.raiseTenant .gy (s.g F.CLAIMS_TENANT (0x10 + i)) 0 0x1A (n * 65536 + b2n stepped * 16 + i)
  else s

/-- The target stamp of a ONESHOT. -/
def State.cmpTarget (s : State) (i : Nat) : Nat := s.g F.GY_CMP_CYCLE i * 65536 + s.g F.GY_CMP_ANGLE i

/-- A comparator whose target a forward step of the stamp passes fires once, with STEPPED = 1
(spec/04_geyser_time_base.md R141). -/
def State.cmpStep (s : State) (old i : Nat) : State :=
  let mode := s.g F.GY_CMP_MODE i
  if mode = 0 then s
  else if mode = 1 then
    if s.b F.GY_CMP_FIRED i then s
    else if stampLater (s.cmpTarget i) old && !stampLater (s.cmpTarget i) s.stamp48 then s.cmpFire i true else s
  else
    let slot := cmpSlot mode (s.g F.GY_CMP_ANGLE i) s.stamp48
    if stampLater s.stamp48 old && slot != cmpSlot mode (s.g F.GY_CMP_ANGLE i) old && vget s.gy.cmpDone i != slot + 1
    then s.cmpFire i true else s

/-- The stamp is stepped to a new value (spec/04_geyser_time_base.md R131, R135, R141). -/
def State.gyStep (s : State) (new : BitVec 80) : State :=
  let old := s.stamp48
  let s := s.modGy (fun g => { g with stamp := new, steps := g.steps + 1, jumps := g.jumps + 1 })
  let s := (List.range 16).foldl (fun s i => s.cmpStep old i) s
  s.modGy (fun g => { g with hcDone := s.hcIndex, cycDone := BitVec.ofNat 32 s.cycle })

/-- What waits for a grid half-cycle boundary in Geyser: a GY_CFG commit, a forced substate and a REALIGN, each only
with no line frame in progress (spec/04_geyser_time_base.md R130, R131, R151). -/
def State.gyApplyCfg (s : State) : State :=
  match s.gy.cfgOld with
  | none => s
  | some old =>
    let now := s.rd 0x08 0
    let modeCh := F.GY_CFG_OFS_MODE.of old != F.GY_CFG_OFS_MODE.of now
    let was (r : Nat) : Bool := s.gyOfsValid r
    let before := [1, 2, 3].filter was
    let s := s.modGy (fun g => { g with cfgOld := none })
    let s := if modeCh then
        [0, 1, 2].foldl (fun s i => s.p F.GY_REFS_OFS_VALID i 0) s
      else s
    let lost := before.filter (fun r => !s.gyOfsValid r)
    let s := lost.foldl (fun s r =>
      let q := s.g F.GY_REFS_QSTATE (r - 1)
      let s := s.ps 0x09 (r - 1) [(F.GY_REFS_GOOD, 0), (F.GY_REFS_BAD, 0), (F.GY_REFS_QSTATE, 0)]
      if q = 2 then s.raiseCommon .gy 2 0x13 (4 * 256 + r) else s) s
    let s := if F.GY_CFG_NOMINAL.of old ≠ F.GY_CFG_NOMINAL.of now ∧ (!s.isOn .gy || s.sub .gy == 3) then
        s.modGy (fun g => { g with rate := s.gyNominal, freq := BitVec.ofNat 16 (gyFreqOfRate s.gyNominal) })
      else s
    s.gyChoose.gyMasterTime

/-- A pending REALIGN steps the stamp to the boundary plus the phase error (spec/04_geyser_time_base.md R131). -/
def State.gyDoRealign (s : State) : State :=
  if s.gy.realign && !s.frameNow then
    let e := s.gy.err
    let bound : Nat := (s.hcIndex * 32768 + s.gy.grid) % 2 ^ 48
    let new : BitVec 80 := BitVec.ofInt 80 (Int.ofNat bound * fracAu + e)
    let s := s.modGy (fun g => { g with realign := false, realignCmd := false })
    (s.gyStep new).raiseCommon .gy 2 0x14 (unsignedN 32 (e / fracAu))
  else s

/-- A forced substate of Geyser takes effect (spec/04_geyser_time_base.md R130, R147). -/
def State.gyForce (s : State) (arg : Nat) : State :=
  let s := s.changeMirror .gy (fun m => { m with forced := false, pend := none, held := arg })
  if arg = 2 then
    let rate := if s.gyHeldOk then s.gyHeld else
      (let pr := s.gyPeriod s.gy.ref
       if pr.1 = 0 then s.gy.rate else gyRate pr.1 pr.2 0 1 1)
    let s := (s.gySetRef 7).gySetSub 2
    s.modGy (fun g => { g with rate := rate, freq := BitVec.ofNat 16 (gyFreqOfRate rate) })
  else if arg = 3 then (s.gySetRef 0).gySetSub 3
  else (s.gySetSub 0).gyChoose

/-- Geyser's part of a grid half-cycle boundary (spec/04_geyser_time_base.md R130, R131, R147, R151). -/
def State.gyHalf (s : State) : State :=
  let s := if s.frameNow then s else s.gyApplyCfg
  let s := match (s.mirror .gy).pend with
    | some a => if s.frameNow then s else s.gyForce a
    | none => s
  s.gyDoRealign

/-- A waiting change of GRID_OFFSET takes force at a cycle boundary with CYCLE mod 256 = 0 at least 2 cycles after the
BEACON (spec/04_geyser_time_base.md R121). -/
def State.gyApplyGrid (s : State) : State :=
  match s.gy.gridNew, s.gy.gridHeard with
  | some v, some c =>
    if s.cycle % 256 = 0 ∧ 2 ≤ (s.cycle + 2 ^ 32 - c % 2 ^ 32) % 2 ^ 32 then
      let s := s.modGy (fun g => { g with grid := v, gridNew := none, gridHeard := none, steps := g.steps + 1 })
      let s := s.modGy (fun g => { g with hcDone := s.hcIndex })
      (s.p F.GY_CFG_GRID_OFFSET 0 v).raiseCommon .gy 1 0x19 v
    else s
  | _, _ => s

/-- A waiting CYCLE load takes effect at a cycle boundary with no line frame in progress (spec/04_geyser_time_base.md
R127). -/
def State.gyApplyLoad (s : State) : State :=
  match s.gy.cycleLoad with
  | some d =>
    if s.frameNow then s
    else
      let s := s.modGy (fun g => { g with cycleLoad := none })
      let s := s.gyStep (BitVec.ofInt 80 ((s.gy.stamp.toNat : Int) + d * 2 ^ 48))
      s.raiseCommon .gy 1 0x15 s.cycle
  | none => s

/-- Geyser's part of a cycle boundary: grid, CYCLE load, the cycles spent in the lock state, and one RATE more for the
held rate while in LOCK (spec/04_geyser_time_base.md R121, R127, R128, R129, R148). -/
def State.gyCycle (s : State) : State :=
  let s := s.gyApplyGrid.gyApplyLoad
  s.modGy (fun g => { g with
    since := g.since + 1,
    lockRates := if s.isOn .gy && s.sub .gy == 1 then (g.rate :: g.lockRates).take 64 else g.lockRates })

/-- Geyser comes into service: ACQUIRE, at the nominal rate, nothing held (spec/04_geyser_time_base.md R128, R129). -/
def State.gyStart (s : State) : State :=
  let s := s.modGy (fun g => { g with lockRates := [], since := 0, lockRun := 0, outRun := 0, ref := 0, switching := false })
  ((s.goOn .gy 0).modGy (fun g => { g with rate := s.gyNominal })).gyMasterTime.gyChoose

/-- Geyser goes out of service: the nominal rate, no reference (spec/04_geyser_time_base.md R118). -/
def State.gyOut (s : State) : State :=
  (s.modGy (fun g => { g with
    rate := s.gyNominal, ref := 0, switching := false, realign := false, realignCmd := false,
    freq := BitVec.ofNat 16 (gyFreqOfRate s.gyNominal) })).gyMasterTime

/-! Commits and unit commands. -/

/-- A commit to GY_CFG (spec/04_geyser_time_base.md R121, R151, R153). -/
def State.gyCommitCfg (s : State) (w : Word) : Oc × State :=
  let new := s.merged 0x08 0 w
  let old := s.rd 0x08 0
  let o := judge [
    (F.GY_CFG_OWN_IN.of new == 0, .param),
    (F.GY_CFG_SLEW_PPM.of new == 0 || decide (1000 < F.GY_CFG_SLEW_PPM.of new), .param),
    (F.GY_CFG_ACQ_MAX.of new == 0, .param), (F.GY_CFG_LOCK_WIN.of new == 0, .param),
    (F.GY_CFG_TAU.of new == 0, .param),
    (decide (F.GY_CFG_UNLOCK_WIN.of new ≤ F.GY_CFG_LOCK_WIN.of new), .param),
    (decide (F.GY_CFG_REALIGN_THR.of new < 64) || decide (4095 < F.GY_CFG_REALIGN_THR.of new), .param),
    (!s.isMaster && F.GY_CFG_GRID_OFFSET.of new != s.gy.grid, .param)]
  if o = .ok then
    let waits := F.GY_CFG_OWN_IN.of new != F.GY_CFG_OWN_IN.of old || F.GY_CFG_NOMINAL.of new != F.GY_CFG_NOMINAL.of old
      || F.GY_CFG_OFS_MODE.of new != F.GY_CFG_OFS_MODE.of old
    let s := (s.wr 0x08 0 new).modGy (fun g => { g with
      cfgOld := if g.cfgOld.isSome then g.cfgOld else if waits then some old else none,
      gridNew := if s.isMaster then
          (if F.GY_CFG_GRID_OFFSET.of new = g.grid then none else some (F.GY_CFG_GRID_OFFSET.of new))
        else g.gridNew,
      gridHeard := if s.isMaster then none else g.gridHeard })
    (.ok, s.gyChoose)
  else (o, s)

/-- A commit to GY_REFS (spec/04_geyser_time_base.md R123, R151, R154). -/
def State.gyCommitRef (s : State) (e : Nat) (w : Word) : Oc × State :=
  let new := s.merged 0x09 e w
  let moved := e ≤ 2 && F.GY_REFS_OFFSET.of new != s.g F.GY_REFS_OFFSET e
  if moved && s.gyc F.GY_CFG_OFS_MODE == 0 then (.param, s)
  else
    let new := if e ≤ 2 && s.gyc F.GY_CFG_OFS_MODE == 1 then F.GY_REFS_OFS_VALID.into 1 new else new
    (.ok, (s.wr 0x09 e new).gyChoose)

/-- Who may commit to an entry that a claim guards (spec/04_geyser_time_base.md R137, R139): the holder; the owner meets
RESOURCE_HELD where another holds it, and everyone NOT_AVAILABLE where nobody does. -/
def State.claimGuard (s : State) (t r : Nat) : Oc :=
  if !s.claimed r then .notAvailable
  else if s.tenantHolds t r then .ok
  else if t = 0 then .resourceHeld
  else .notAvailable

/-- A commit to ASCHED (spec/04_geyser_time_base.md R137, R138, R155). -/
def State.ascCommit (s : State) (t e : Nat) (w : Word) : Oc × State :=
  if e < 56 then (if t = 0 then (.ok, s) else (.notAvailable, s))
  else
    let new := s.merged 0x0A e w
    let per := F.ASCHED_PERIOD.of new
    let k := F.ASCHED_K.of new
    let bad := F.ASCHED_VALID.of new == 1 && (F.ASCHED_LEN.of new == 0 || (per == 0 && decide (32768 < F.ASCHED_LEN.of new))
      || per == 3 || (per == 2 && (k == 0 || decide (24 < k))))
    let g := s.claimGuard t (0x28 + (e - 56))
    let o := judge [(decide (g = .notAvailable), .notAvailable), (decide (g = .resourceHeld), .resourceHeld), (bad, .param)]
    if o = .ok then (.ok, s.wr 0x0A e (F.ASCHED_KIND.into 7 (F.ASCHED_OWNER.into 0x0E new))) else (o, s)

/-- A commit to GY_CMP: FIRED and COUNT clear, and a ONESHOT whose target has passed fires at once
(spec/04_geyser_time_base.md R139, R140, R149, R156). -/
def State.cmpCommit (s : State) (t i : Nat) (w : Word) : Oc × State :=
  let new := s.merged 0x0B i w
  let g := s.claimGuard t (0x10 + i)
  let o := judge [(decide (g = .notAvailable), .notAvailable), (decide (g = .resourceHeld), .resourceHeld),
    (F.GY_CMP_PIN.of new == 1 && F.GY_CMP_PW.of new == 0, .param)]
  if o = .ok then
    let s := s.wr 0x0B i (F.GY_CMP_COUNT.into 0 (F.GY_CMP_FIRED.into 0 new))
    let mode := F.GY_CMP_MODE.of new
    let s := s.modGy (fun g => { g with
      cmpDone := vset g.cmpDone i (cmpSlot mode (F.GY_CMP_ANGLE.of new) s.stamp48 + 1) })
    (.ok, if mode = 1 ∧ !stampLater (s.cmpTarget i) s.stamp48 then s.cmpFire i false else s)
  else (o, s)

/-- Geyser's unit commands (spec/04_geyser_time_base.md R142, Table GY-5a). -/
def State.gyUnitCmd (s : State) (cmd : Nat) : Oc × State :=
  if cmd = 8 then
    let o := judge [(s.gyc F.GY_CFG_REALIGN_EN == 0, .param), (!s.isOn .gy, .stateMismatch),
      (s.gy.ref == 0 || s.gy.ref == 7, .notReady)]
    if o = .ok then (.ok, s.modGy (fun g => { g with realign := true, realignCmd := true })) else (o, s)
  else if cmd = 9 then
    let o := judge [(s.gyc F.GY_CFG_OFS_MODE == 1, .param), (!s.isOn .gy, .stateMismatch)]
    if o = .ok then
      let s := [0, 1, 2].foldl (fun s i =>
        if s.isMaster && s.gyc F.GY_CFG_OWN_IN == i + 1 then s
        else
          (s.ps 0x09 i [(F.GY_REFS_OFS_VALID, 0), (F.GY_REFS_PHASE_ID, 0)]).modGy (fun g => { g with
            zc := vmod g.zc i (fun z => { z with skipped := 0, cand := 0, run := 0, far := 0 }) })) s
      (.ok, s.gyChoose)
    else (o, s)
  else (.param, s)

/-! Registers. -/

/-- GRID_HOLD (spec/05_line_signal.md R162): on a member, a switch in progress, or a BEACON error beyond 47 a.u. -/
def State.gridHold (s : State) : Bool :=
  !s.isMaster && (s.gy.switching || decide (47 * 2 ^ 32 < s.gy.beaconErr.natAbs))

/-- GY_STAT (spec/04_geyser_time_base.md R152). -/
def State.gyStat (s : State) : Half :=
  BitVec.ofNat 16 (
    (if s.isOn .gy then s.sub .gy else 3) + b2n s.gy.netTime * 4 + b2n (s.gy.switching || s.gy.clamped) * 8
    + b2n s.gy.realign * 16 + s.gy.ref * 32 + s.g F.GY_REFS_PHASE_ID (s.gyc F.GY_CFG_OWN_IN - 1) * 256
    + b2n (s.gyQual 1) * 1024 + b2n (s.gyQual 2) * 2048 + b2n (s.gyQual 3) * 4096 + b2n s.freqOor * 8192
    + b2n s.gridHold * 16384)

/-- The line unit may use the grid: LOCK or NET_TIME (spec/04_geyser_time_base.md R126). -/
def State.timeOk (s : State) : Bool := (s.isOn .gy && s.sub .gy == 1) || s.gy.netTime

/-- TIME_UNLOCKED: Geyser is not in LOCK (spec/03_units_events.md R90). -/
def State.timeUnlocked (s : State) : Bool := !(s.isOn .gy && s.sub .gy == 1)

/-! The commands. -/

/-- ZC_EDGE: an edge event of input ZC1 to ZC3 whose first transition was `ago` core ticks before now
(spec/04_geyser_time_base.md R113, R114). -/
def execZcEdge (inp : Fin 3) (ago : Nat) (s : State) : Host.Outcome State Fault Refusal :=
  .next (s.gyEdge (inp.val + 1) ago)

/-- ZC_MISSED_TIMEOUT (spec/04_geyser_time_base.md R114). -/
def execZcMissedTimeout (inp : Fin 3) (s : State) : Host.Outcome State Fault Refusal :=
  .next (s.gyMissed (inp.val + 1))

/-- ACQ_MAX_EXPIRE (spec/04_geyser_time_base.md R128). -/
def execAcqMaxExpire (s : State) : Host.Outcome State Fault Refusal :=
  if s.isOn .gy && s.sub .gy == 0 && s.gyBest.isNone && (s.mirror .gy).held == 0
      && decide (s.gyc F.GY_CFG_ACQ_MAX ≤ s.gy.since) then
    .next (if s.gyHeldOk then (s.gySetRef 7).gySetSub 2 else (s.gySetRef 0).gySetSub 3)
  else .next s

/-- HOLD_MAX_EXPIRE (spec/04_geyser_time_base.md R128). -/
def execHoldMaxExpire (s : State) : Host.Outcome State Fault Refusal :=
  if s.isOn .gy && s.sub .gy == 2 && (s.mirror .gy).held == 0 && s.gyc F.GY_CFG_HOLD_MAX != 0
      && decide (s.gyc F.GY_CFG_HOLD_MAX ≤ s.gy.since) then
    .next ((s.gySetRef 0).gySetSub 3)
  else .next s

/-- NET_TIME_TIMEOUT (spec/04_geyser_time_base.md R126, R150). -/
def execNetTimeTimeout (s : State) : Host.Outcome State Fault Refusal :=
  match s.gy.beaconAt with
  | none => .next s
  | some c =>
    if !s.isMaster && decide (512 ≤ (s.cycle + 2 ^ 32 - c.toNat) % 2 ^ 32) then .next (s.gySetNetTime false) else .next s

/-- CMP: the stamp reaches a comparator's target and it fires (spec/04_geyser_time_base.md R139 to R141). -/
def execCmp (i : Fin 16) (s : State) : Host.Outcome State Fault Refusal :=
  let mode := s.g F.GY_CMP_MODE i
  if mode = 0 then .next s
  else if mode = 1 then
    if s.b F.GY_CMP_FIRED i then .next s
    else .next ((s.advanceFrac (s.fracUntil (s.cmpTarget i))).cmpFire i false)
  else
    let s := s.advanceFrac (s.fracTo (s.g F.GY_CMP_ANGLE i) (if mode = 3 then 32768 else 65536))
    if vget s.gy.cmpDone i = cmpSlot mode (s.g F.GY_CMP_ANGLE i) s.stamp48 + 1 then .next s else .next (s.cmpFire i false)

/-- CMP_PULSE_END (spec/04_geyser_time_base.md R140). -/
def execCmpPulseEnd (i : Fin 16) (s : State) : Host.Outcome State Fault Refusal :=
  match vget s.gy.pulse i with
  | none => .next s
  | some e =>
    let s := s.advanceFrac (s.fracUntil e)
    .next (s.modGy (fun g => { g with pulse := vset g.pulse i none }))

end Sys2Proof.Machine
end

