-- ==== Sys2Proof/Machine/LineSignal.lean ====
section
/-! DEFINITION. Line signal: profiles, tone sets, cycle maps, coding, carriers, the receive gain and the tables of
spec/05_line_signal.md. -/

namespace Sys2Proof.Machine

open Sys2Proof

/-- A grid index lies inside a band profile (spec/05_line_signal.md R158, Table LS-1). -/
def inProfile (p k : Nat) : Bool :=
  if p = 0 then decide (14 ≤ k ∧ k ≤ 34)
  else if p = 1 then decide ((36 ≤ k ∧ k ≤ 46) ∨ (53 ≤ k ∧ k ≤ 55))
  else decide (57 ≤ k ∧ k ≤ 182)

/-- Byte `p` of a word as a number. -/
def wbyte (w : Word) (p : Nat) : Nat := w.bits (8 * p) 8

/-- The bytes of a word as numbers. -/
def wbytes (w : Word) : List Nat := (List.range 16).map (wbyte w)

/-- No two non-zero entries are equal. -/
def distinctNz : List Nat → Bool
  | [] => true
  | a :: t => (a == 0 || !t.contains a) && distinctNz t

/-- A tone set's own syntax (spec/05_line_signal.md R164, R184). -/
def toneSyntax (w : Word) : Bool := (wbytes w).all (fun b => decide (b < 192)) && distinctNz (wbytes w)

/-- A tone set legal in a profile (spec/05_line_signal.md R164). -/
def toneLegal (p : Nat) (w : Word) : Bool := toneSyntax w && (wbytes w).all (fun b => b == 0 || inProfile p b)

/-- The positions an order uses (spec/05_line_signal.md R165, Table LS-3). -/
def orderPositions : Nat → List Nat
  | 0 => [0, 4, 8, 12]
  | 1 => [0, 2, 4, 6, 8, 10, 12, 14]
  | _ => List.range 16

/-- A tone set serves an order (spec/05_line_signal.md R165). -/
def setServes (w : Word) (order : Nat) : Bool := (orderPositions order).all (fun p => wbyte w p != 0)

/-- The tone positions of a value under an order (spec/05_line_signal.md R165, Table LS-3). -/
def tonePositions (order v : Nat) : List Nat :=
  match order with
  | 0 => [4 * v]
  | 1 => [2 * v]
  | 2 => [v]
  | _ => [v / 8, 8 + v % 8]

/-- Bits of a symbol (spec/05_line_signal.md R165). -/
def orderBits : Nat → Nat
  | 0 => 2 | 1 => 3 | 2 => 4 | _ => 6

/-- CLASS of a map byte: 0 BLANK, 1 NORMAL, 2 ROBUST4, 3 ROBUST6 (spec/05_line_signal.md R166). -/
def mapClass (b : Nat) : Nat := b / 64 % 4

/-- Repetitions of a robust class. -/
def robustReps (c : Nat) : Nat := if c = 2 then 4 else 6

/-- A map byte follows Table LS-4 (spec/05_line_signal.md R166). -/
def mapByteSyntax (b : Nat) : Bool :=
  match mapClass b with
  | 0 => b == 0
  | 1 => true
  | _ => b / 16 % 4 == 0

/-- The tone sets a map byte names, and the order they must serve (spec/05_line_signal.md R167). -/
def mapByteSets (b : Nat) : List Nat × Nat :=
  match mapClass b with
  | 0 => ([], 0)
  | 1 => ([b % 16], b / 16 % 4)
  | c => ((List.range (robustReps c)).map (fun i => (b % 16 + i) % 16), 1)

/-- PROFILE (spec/05_line_signal.md R190). -/
def State.lsProfile (s : State) : Nat := s.g F.LS_CFG_PROFILE 0

/-- A map byte is legal against the tone sets and the profile (spec/05_line_signal.md R167). -/
def State.mapByteLegal (s : State) (b : Nat) : Bool :=
  let x := mapByteSets b
  mapByteSyntax b && x.1.all (fun k => setServes (s.rd 0x11 k) x.2 && toneLegal s.lsProfile (s.rd 0x11 k))

/-- A map word's own syntax: the access region is 0x00, and the common map is BLANK or ROBUST6 with at least one slot in
each half-cycle (spec/05_line_signal.md R167). -/
def mapWordSyntax (common : Bool) (w : Word) : Bool :=
  let l := wbytes w
  l.all mapByteSyntax && wbyte w 0 == 0 && wbyte w 1 == 0
    && (!common || (l.all (fun b => mapClass b == 0 || mapClass b == 3) && l.any (fun b => mapClass b != 0)))

/-- A map word is legal (spec/05_line_signal.md R167). -/
def State.mapWordLegal (s : State) (common : Bool) (w : Word) : Bool :=
  mapWordSyntax common w && (wbytes w).all s.mapByteLegal

/-- The byte of a cycle slot, 0 to 31 (spec/05_line_signal.md R166). -/
def mapAt (m0 m1 : Word) (slot : Nat) : Nat := if slot % 32 < 16 then wbyte m0 (slot % 32) else wbyte m1 (slot % 32 - 16)

/-! Coding. -/

/-- One step of the encoder: the last six inputs, newest first (spec/05_line_signal.md R170). -/
def convStep (h : List Bool) (u : Bool) : Bool × Bool :=
  let t (n : Nat) : Bool := h.getD (n - 1) false
  (xor (xor (xor (xor u (t 2)) (t 3)) (t 5)) (t 6), xor (xor (xor (xor u (t 1)) (t 2)) (t 3)) (t 6))

/-- The convolutional encoder from a history (spec/05_line_signal.md R170). -/
def convFrom : List Bool → List Bool → List Bool
  | _, [] => []
  | h, u :: t => let x := convStep h u; x.1 :: x.2 :: convFrom ((u :: h).take 6) t

/-- A section's coded bits, its six tail bits included (spec/05_line_signal.md R170). -/
def convEncode (bits : List Bool) : List Bool := convFrom [] (bits ++ List.replicate 6 false)

/-! Carriers. Positions count slots: 16 times the half-cycle index plus the slot. -/

/-- A carrier: class, bits, order, base set, and the positions it takes (spec/05_line_signal.md R171). -/
structure Carr where
  cls : Nat
  m : Nat
  order : Nat
  base : Nat
  slots : List Nat
  deriving DecidableEq, Repr, Inhabited

/-- Slots a carrier needs. -/
def Carr.need (c : Carr) : Nat := if c.cls = 1 then 1 else robustReps c.cls

/-- A carrier still takes slots. -/
def Carr.open (c : Carr) : Bool := decide (c.slots.length < c.need)

/-- Capacity of a list of carriers. -/
def carrCap (l : List Carr) : Nat := (l.map (·.m)).sum

/-- A slot of the section's sequence is taken: by the open carrier of its class, else by a new one while the section
needs capacity (spec/05_line_signal.md R171). -/
def carrStep (need : Nat) (l : List Carr) (pos b : Nat) : List Carr :=
  let c := mapClass b
  if c = 0 then l
  else if l.any (fun x => x.cls == c && x.open) then
    l.map (fun x => if x.cls = c ∧ x.open then { x with slots := x.slots ++ [pos] } else x)
  else if need ≤ carrCap l then l
  else if c = 1 then l ++ [{ cls := 1, m := orderBits (b / 16 % 4), order := b / 16 % 4, base := b % 16, slots := [pos] }]
  else l ++ [{ cls := c, m := 3, order := 1, base := b % 16, slots := [pos] }]

/-- A section's carriers are complete. -/
def carrDone (need : Nat) (l : List Carr) : Bool := decide (need ≤ carrCap l) && !l.any (·.open)

/-- The carriers of a section from a position on, and the position after its last slot; `fuel` bounds the slots walked
(spec/05_line_signal.md R171). -/
def carriers (byteOf : Nat → Nat) (need : Nat) : Nat → Nat → List Carr → List Carr × Nat
  | 0, pos, l => (l, pos)
  | fuel + 1, pos, l =>
    if carrDone need l then (l, pos)
    else carriers byteOf need fuel (pos + 1) (if pos % 16 < 2 then l else carrStep need l pos (byteOf pos))

/-- The byte that a header's slot takes: ROBUST4 on the common map's non-BLANK slots (spec/05_line_signal.md R168). -/
def headerByte (b : Nat) : Nat := if mapClass b = 0 then 0 else 0x80 + b % 16

/-- Bits dealt to the carriers of a group in turn; `fill` holds the bits each has (spec/05_line_signal.md R172). -/
def dealBits (ms : List Nat) : Nat → Nat → List (List Bool) → List Bool → List (List Bool)
  | 0, _, fill, _ => fill
  | _, _, fill, [] => fill
  | fuel + 1, j, fill, b :: t =>
    let n := ms.length
    if (fill.getD j []).length = ms.getD j 0 then dealBits ms fuel ((j + 1) % n) fill (b :: t)
    else dealBits ms fuel ((j + 1) % n) (fill.set j (fill.getD j [] ++ [b])) t

/-- The values of the carriers of a group (spec/05_line_signal.md R172). -/
def groupValues (l : List Carr) (coded : List Bool) : List Nat :=
  let ms := l.map (·.m)
  (dealBits ms (16 * (coded.length + 1) * (l.length + 1)) 0 (List.replicate l.length []) coded).map ofBitsBE

/-- Carriers grouped by the half-cycle of their opening slot, each group with its coded bits; the last group's bits are
filled up with zeros (spec/05_line_signal.md R172). -/
def dealGroups : Nat → List Carr → List Bool → List (Carr × Nat)
  | 0, _, _ => []
  | _, [], _ => []
  | fuel + 1, c :: t, coded =>
    let hc := c.slots.headD 0 / 16
    let grp := (c :: t).takeWhile (fun x => x.slots.headD 0 / 16 == hc)
    let cap := carrCap grp
    let own := coded.take cap ++ List.replicate (cap - coded.length) false
    (grp.zip (groupValues grp own)) ++ dealGroups fuel ((c :: t).drop grp.length) (coded.drop cap)

/-- The symbols of a section: position and grid indices sent there (spec/05_line_signal.md R165, R171, R172). -/
def State.sectionSymbols (s : State) (l : List Carr) (coded : List Bool) : List (Nat × List Nat) :=
  (dealGroups (l.length + 1) l coded).flatMap (fun x =>
    ((List.range x.1.slots.length).zip x.1.slots).map (fun y =>
      let set := s.rd 0x11 ((x.1.base + y.1) % 16)
      (y.2, (tonePositions x.1.order x.2).map (fun p => wbyte set p))))

/-! Repeater dither. -/

/-- The dither of a repeater in hertz (spec/05_line_signal.md R181). -/
def State.lsDither (s : State) : Int :=
  if s.b F.LS_CFG_DITHER_AUTO 0 then ((s.lac F.LA_CFG_ADDR * 73 % 401 : Nat) : Int) - 200
  else signedN 9 (s.g F.LS_CFG_DITHER 0)

/-! Maps in force. -/

/-- The byte of the common map in force. -/
def State.commonByte (s : State) (slot : Nat) : Nat := mapAt (s.rd 0x12 0) (s.rd 0x12 1) slot

/-- The common map in force changes; an own map that follows it changes with it (spec/05_line_signal.md R182,
spec/07_line_learning.md R253). -/
def State.lsSetCommon (s : State) (m0 m1 : Word) : State :=
  let s := (s.wr 0x12 0 m0).wr 0x12 1 m1
  let s := if s.ll.ownCommon then (s.wr 0x12 2 m0).wr 0x12 3 m1 else s
  s.raiseCommon .line 0 0x10 0

/-- A pending common map takes effect when no line frame is in progress (spec/05_line_signal.md R182). -/
def State.lsApplyCommon (s : State) : State :=
  match s.ln.cmapNew with
  | none => s
  | some m =>
    if s.frameNow then s
    else ((s.modLn (fun x => { x with cmapNew := none })).p F.LS_CFG_COMMON_PEND 0 0).lsSetCommon m.1 m.2

/-- The code of the start check: 1 a tone set outside the profile, 2 the common map illegal, 3 the own map illegal, 0
none. A tone set that no map uses is checked for the profile only (spec/05_line_signal.md R184, R190). -/
def State.lsCheck (s : State) : Nat :=
  if !(List.range 16).all (fun k => toneLegal s.lsProfile (s.rd 0x11 k)) then 1
  else if !(s.mapWordLegal true (s.rd 0x12 0) && s.mapWordLegal true (s.rd 0x12 1)) then 2
  else if !(s.mapWordLegal false (s.rd 0x12 2) && s.mapWordLegal false (s.rd 0x12 3)) then 3
  else 0

/-! Receive gain. -/

/-- The peak magnitude, in codes of the 14-bit converter, above which a slot clips: −3 dBFS (spec/05_line_signal.md R174,
R175). -/
def clipCode : Nat := 5799

/-- The peak magnitude below which a slot is quiet: −21 dBFS (spec/05_line_signal.md R175). -/
def quietCode : Nat := 730

/-- GAINn of LS_CFG (spec/05_line_signal.md R190). -/
def State.lsGain (s : State) (ch : Nat) : Nat :=
  if ch = 0 then s.g F.LS_CFG_GAIN1 0 else if ch = 1 then s.g F.LS_CFG_GAIN2 0 else s.g F.LS_CFG_GAIN3 0

/-- A channel's gain after a slot with a peak, the new run lengths, and whether AGC_LIMIT is due
(spec/05_line_signal.md R175). -/
def agcNext (gain peak : Nat) (a : Agc) (receiving : Bool) : Nat × Agc × Bool :=
  if clipCode < peak then
    if gain = 0 then
      let n := a.clips + 1
      (0, { quiet := 0, clips := n, limited := a.limited || decide (100 ≤ n) }, !a.limited && decide (100 ≤ n))
    else (gain - 1, { quiet := 0, clips := 0, limited := false }, false)
  else
    let q := if peak < quietCode then a.quiet + 1 else 0
    if 8 ≤ q ∧ !receiving ∧ gain < 7 then (gain + 1, {}, false) else (gain, { quiet := capAt 8 q }, false)

/-- A slot ends on a receive channel with a peak, and the gain for the next one is set (spec/05_line_signal.md R175 to
R177, R193). -/
def State.agcSlot (s : State) (ch peak : Nat) : State :=
  if s.ln.ltxen ≠ 0 then s.bump F.LS_RXSTAT_BLANKED ch
  else
    let gain := s.g F.LS_RXSTAT_GAIN ch
    let receiving := match s.ln.frame with | some f => !f.own | none => false
    let r := if s.b F.LS_CFG_AGC_EN 0 then agcNext gain peak (vget s.ln.agc ch) receiving else (s.lsGain ch, {}, false)
    let s := s.modLn (fun x => { x with agc := vset x.agc ch r.2.1 })
    let s := s.ps 0x13 ch [(F.LS_RXSTAT_GAIN, r.1), (F.LS_RXSTAT_CLIPPING, b2n (clipCode < peak)),
      (F.LS_RXSTAT_PEAK, peak), (F.LS_RXSTAT_LAST_CYCLE, s.cycle),
      (F.LS_RXSTAT_CLIPS, s.g F.LS_RXSTAT_CLIPS ch + b2n (clipCode < peak)),
      (F.LS_RXSTAT_STEPS, s.g F.LS_RXSTAT_STEPS ch + b2n (r.1 != gain)),
      (F.LS_RXSTAT_REDUCED, s.g F.LS_RXSTAT_REDUCED ch + b2n (r.1 != gain))]
    if r.2.2 then s.raiseCommon .line 2 0x11 (ch + 1) else s

/-! Commits. -/

/-- LINE is OFF or FAULT (spec/05_line_signal.md R184). -/
def State.lineIdle (s : State) : Bool := decide (s.st .line = .off ∨ s.st .line = .fault)

/-- A commit to LS_CFG (spec/05_line_signal.md R184, R190). -/
def State.lsCommitCfg (s : State) (w : Word) : Oc × State :=
  let new := s.merged 0x10 0 w
  let d := signedN 9 (F.LS_CFG_DITHER.of new)
  let prof := F.LS_CFG_PROFILE.of new != s.lsProfile
  let o := judge [
    (F.LS_CFG_PROFILE.of new == 3 || F.LS_CFG_TXMODE.of new == 3 || F.LS_CFG_TXPHASE.of new == 0
      || F.LS_CFG_PH_EN.of new == 0 || decide (d < -200 ∨ 200 < d), .param),
    ((prof || F.LS_CFG_PH_EN.of new != s.g F.LS_CFG_PH_EN 0) && !s.lineIdle, .stateMismatch)]
  if o = .ok then
    (.ok, (s.wr 0x10 0 new).modLl (fun x => { x with setsChanged := x.setsChanged || prof }))
  else (o, s)

/-- A commit to TONESETS (spec/05_line_signal.md R164, R184, R191). -/
def State.lsCommitTones (s : State) (e : Nat) (w : Word) : Oc × State :=
  let o := judge [(!toneSyntax w, .param), (!s.lineIdle, .stateMismatch)]
  if o = .ok then (.ok, (s.wr 0x11 e w).modLl (fun x => { x with setsChanged := true })) else (o, s)

/-- A map word meets what is asked of it now: its own syntax while LINE is OFF or FAULT, the tone sets too otherwise
(spec/05_line_signal.md R167, R184; notes/assumptions/18.md). -/
def State.mapWordOk (s : State) (common : Bool) (w : Word) : Bool :=
  if s.lineIdle then mapWordSyntax common w else s.mapWordLegal common w

/-- A commit to the common map: word 0 waits for word 1 (spec/05_line_signal.md R182, R192). -/
def State.lsCommitCommon (s : State) (e : Nat) (w : Word) : Oc × State :=
  if !s.mapWordOk true w then (.param, s)
  else if e = 0 then (.ok, s.modLn (fun x => { x with stage0 := some w }))
  else
    let m0 := match s.ln.stage0 with
      | some m => m
      | none => match s.ln.cmapNew with | some m => m.1 | none => s.rd 0x12 0
    (.ok, (s.modLn (fun x => { x with stage0 := none, cmapNew := some (m0, w) })).p F.LS_CFG_COMMON_PEND 0 1)

/-! The commands. -/

/-- AGC_STEP: a slot with peak magnitude `peak` ends on receive channel `ch` (spec/05_line_signal.md R175). -/
def execAgcStep (ch : Fin 3) (peak : Nat) (s : State) : Host.Outcome State Fault Refusal :=
  let s := s.toMark s.gy.grid 2048
  if s.isOn .line && bitOf (s.g F.LS_CFG_PH_EN 0) ch.val then .next (s.agcSlot ch.val (peak % 2 ^ 14)) else .next s

/-- COMMON_MAP_APPLY: the first half-cycle boundary with no frame in progress (spec/05_line_signal.md R182). -/
def execCommonMapApply (s : State) : Host.Outcome State Fault Refusal := .next s.toHalf.lsApplyCommon

end Sys2Proof.Machine
end

