-- ==== Sys2Proof/Machine/Learner.lean ====
section
/-! DEFINITION. Learning the cycle: statistics, proposals, publications and neighbours' maps
(spec/07_line_learning.md). Proposals are evaluated on exact numbers. -/

namespace Sys2Proof.Machine

open Sys2Proof

/-- Cycles of a beacon period. -/
def beaconCycles : Nat := 256

/-- Time passes until a cycle boundary with CYCLE mod 256 = 0 (spec/06_line_access.md R212). -/
def State.toBeacon (s : State) : State := s.toMark 0 (65536 * beaconCycles)

/-- SETS_CRC: over PROFILE and the tone sets (spec/07_line_learning.md R256). -/
def State.setsCrc (s : State) : Nat :=
  crc16 (bitsBE s.lsProfile 8 ++ (List.range 16).flatMap (fun k => (wbytes (s.rd 0x11 k)).flatMap (fun b => bitsBE b 8)))

/-- LSTATE: 0 LEARNING, 1 READY, 2 PAUSED (spec/07_line_learning.md R253). -/
def State.llState (s : State) : Nat := s.g F.LL_MAPS_LSTATE 2

/-- The own map in force. -/
def State.ownMap (s : State) : Word × Word := (s.rd 0x12 2, s.rd 0x12 3)

/-! Statistics. -/

/-- Entry and bit place of a noise mean: phase 0 to 2, slot, set, position (spec/07_line_learning.md R271). -/
def noiseAt (p slot set pos : Nat) : Nat × Nat := (1024 * p + 32 * slot + 2 * set + pos / 8, 16 * (pos % 8))

/-- A noise mean as its BF16 code. -/
def State.llMean (s : State) (p slot set pos : Nat) : Nat :=
  let x := noiseAt p slot set pos
  (s.rd 0x1D x.1).bits x.2 16

/-- A phase and slot pair is established (spec/07_line_learning.md R249). -/
def State.llEst (s : State) (p slot : Nat) : Bool :=
  decide (16 ≤ s.g F.LL_SLOT_QCNT (32 * p + slot) + s.g F.LL_SLOT_RCNT (32 * p + slot))

/-- SIG of a phase as its BF16 code. -/
def State.llSig (s : State) (p : Nat) : Nat :=
  if p = 0 then s.g F.LL_CFG1_SIG1 1 else if p = 1 then s.g F.LL_CFG1_SIG2 1 else s.g F.LL_CFG1_SIG3 1

/-- The rational number of a BF16 code; 0 for a negative number, an infinity or a NaN (notes/assumptions/19.md). -/
def bfRat (c : Nat) : Rat :=
  match Cf.bf16.decode c with
  | .fin false m e => if 0 ≤ e then (m : Rat) * 2 ^ e.toNat else (m : Rat) / 2 ^ (-e).toNat
  | _ => 0

/-- The least positive number of BF16, in place of a noise estimate of 0 (notes/assumptions/19.md). -/
def bfTiny : Rat := 1 / 2 ^ 133

/-- The noise estimate of a tone in a slot (spec/07_line_learning.md R249). -/
def State.llNoise (s : State) (p slot set pos : Nat) : Rat :=
  let n := max (bfRat (s.llMean p slot set pos)) (bfRat (s.g F.LL_CFG1_N_FLOOR 1))
  if n = 0 then bfTiny else n

/-- The statistics and OBS are cleared (spec/07_line_learning.md R254). -/
def State.llClearStats (s : State) : State :=
  let s := (s.zeroTable 0x1D).zeroTable 0x1E
  let s := s.ps 0x1C 1 [(F.LL_CFG1_SIG1, 0), (F.LL_CFG1_SIG2, 0), (F.LL_CFG1_SIG3, 0)]
  (s.ps 0x1F 2 [(F.LL_MAPS_OBS, 0), (F.LL_MAPS_LSTATE, 0), (F.LL_MAPS_CONF, 0)]).modLl (fun x => { x with
    setsChanged := false, broken := true })

/-! The proposal (spec/07_line_learning.md R250 to R252). -/

/-- Candidates in order of trial: class, order, threshold in dB (spec/07_line_learning.md R251, Table LL-2). -/
def State.llCands (s : State) : List (Nat × Nat × Nat) :=
  [(1, 3, s.g F.LL_CFG_THR_T8 0), (1, 2, s.g F.LL_CFG_THR_F16 0), (1, 1, s.g F.LL_CFG_THR_F8 0),
   (1, 0, s.g F.LL_CFG_THR_F4 0), (2, 0, s.g F.LL_CFG_THR_R4 0), (3, 0, s.g F.LL_CFG_THR_R6 0)]

/-- The map byte of a class, order and base set. -/
def mapByteOf (cls order set : Nat) : Nat := cls * 64 + order * 16 + set

/-- The phases that count for a slot (spec/07_line_learning.md R250). -/
def State.llPhases (s : State) (slot : Nat) : List Nat :=
  [0, 1, 2].filter (fun p => bitOf (s.g F.LS_CFG_PH_EN 0) p && s.llEst p slot && decide (0 < bfRat (s.llSig p)))

/-- The signal of a phase before SIG_MARGIN (spec/07_line_learning.md R250). -/
def State.llSignal (s : State) (p : Nat) : Rat :=
  if s.b F.LL_CFG_SIG_MODE 0 then bfRat (s.g F.LL_CFG_SIG_FIX 0) else bfRat (s.llSig p)

/-- The decibels to take off the signal (spec/07_line_learning.md R250). -/
def State.llMargin (s : State) : Nat := if s.b F.LL_CFG_SIG_MODE 0 then 0 else s.g F.LL_CFG_SIG_MARGIN 0

/-- The smallest of a list of numbers, 0 for none. -/
def minRat : List Rat → Rat
  | [] => 0
  | a :: t => t.foldl min a

/-- The power ratio of the worst tone of a map byte in a slot, before SIG_MARGIN (spec/07_line_learning.md R250). -/
def State.llRatio (s : State) (phases : List Nat) (slot b : Nat) : Rat :=
  let x := mapByteSets b
  minRat (x.1.flatMap (fun k => (orderPositions x.2).map (fun j =>
    (phases.map (fun p => s.llSignal p / s.llNoise p slot k j)).sum)))

/-- `10 log10 x` is at least `n / 2` dB. -/
def dbGe (x : Rat) (n : Int) : Bool := if 0 ≤ n then decide ((10 : Rat) ^ n.toNat ≤ x ^ 20) else decide (1 ≤ x ^ 20 * 10 ^ (-n).toNat)

/-- `10 log10 x` in units of 0.5 dB, to the nearest, within −128 to 127 after `off` is taken off
(spec/07_line_learning.md R273; notes/assumptions/19.md). -/
def dbHalf (x : Rat) (off : Int) : Int :=
  let ge (n : Int) : Bool :=
    let k := 2 * (n + off) - 1
    if 0 ≤ k then decide ((10 : Rat) ^ k.toNat ≤ x ^ 40) else decide (1 ≤ x ^ 40 * 10 ^ (-k).toNat)
  (((List.range 256).map (fun i => (127 : Int) - i)).find? ge).getD (-128)

/-- The base sets with which a class and order are legal. -/
def State.llBases (s : State) (cls order : Nat) : List Nat :=
  (List.range 16).filter (fun k => s.mapByteLegal (mapByteOf cls order k))

/-- The best base set of a class with its ratio, the lowest on a tie (spec/07_line_learning.md R250). -/
def State.llBest (s : State) (phases : List Nat) (slot cls order : Nat) : Option (Nat × Rat) :=
  (s.llBases cls order).foldl (fun a k =>
    let x := s.llRatio phases slot (mapByteOf cls order k)
    match a with
    | none => some (k, x)
    | some b => if b.2 < x then some (k, x) else a) none

/-- What a trial of a candidate gives: the byte, the margin in units of 0.5 dB, and whether the margin reaches HYST
(spec/07_line_learning.md R250). -/
def State.llTry (s : State) (phases : List Nat) (slot cur : Nat) (c : Nat × Nat × Nat) : Option (Nat × Int × Bool) :=
  let hyst := s.g F.LL_CFG_HYST 0
  let off : Nat := c.2.2 + s.llMargin
  match s.llBest phases slot c.1 c.2.1 with
  | none => none
  | some (k, x) =>
    let isCur := mapClass cur == c.1 && cur / 16 % 4 == c.2.1
    let y := if isCur then s.llRatio phases slot cur else 0
    let good := dbGe x (2 * (off + hyst) : Nat)
    if good || (isCur && dbGe y (2 * off : Nat)) then
      if isCur && decide (x ^ 10 ≤ y ^ 10 * 10 ^ hyst) then
        some (cur, dbHalf y (2 * off : Nat), dbGe y (2 * (off + hyst) : Nat))
      else some (mapByteOf c.1 c.2.1 k, dbHalf x (2 * off : Nat), good)
    else none

/-- The first candidate that qualifies. -/
def firstTry (f : Nat × Nat × Nat → Option (Nat × Int × Bool)) : List (Nat × Nat × Nat) → Option (Nat × Int × Bool)
  | [] => none
  | c :: t => match f c with | some r => some r | none => firstTry f t

/-- The proposal of a slot: byte, margin, and whether the margin reaches HYST (spec/07_line_learning.md R250). -/
def State.llSlot (s : State) (slot : Nat) : Nat × Int × Bool :=
  let own := s.ownMap
  let cur := mapAt own.1 own.2 slot
  let hyst := s.g F.LL_CFG_HYST 0
  if slot % 16 < 2 then (0, 0, false)
  else if bitOf (s.g F.LL_CFG1_FBLANK 1) slot then (0, 0, false)
  else
    let phases := s.llPhases slot
    let imp := phases.foldl (fun a p => max a (bfRat (s.g F.LL_SLOT_IMP (32 * p + slot)))) 0
    if phases.isEmpty then (cur, 0, hyst == 0)
    else if imp > (s.g F.LL_CFG_IMP_HI 0 : Rat) / 256 then (0, 127, true)
    else
      let cands := if imp > (s.g F.LL_CFG_IMP_LO 0 : Rat) / 256 then s.llCands.drop 4 else s.llCands
      match firstTry (s.llTry phases slot cur) cands with
      | some r => r
      | none =>
        match s.llBest phases slot 3 0 with
        | none => (0, 0, hyst == 0)
        | some (_, x) =>
          let off := s.g F.LL_CFG_THR_R6 0 + s.llMargin
          (0, -(dbHalf x (2 * off : Nat)), decide (x ^ 10 * 10 ^ hyst ≤ (10 : Rat) ^ off))

/-- A word from sixteen byte values. -/
def wordOf (l : List Nat) : Word := Word.ofBytes (l.map (BitVec.ofNat 8))

/-- The state with a publication started; one whose frame has begun goes first (spec/07_line_learning.md R255, R263). -/
def State.llPublish (s : State) (m0 m1 : Word) (common : Bool) : State :=
  let s := s.modLl (fun x => { x with pub := some (m0, m1, common), lastPub := some 0 })
  let s := if s.ln.queue.any (fun f => f.publish) then s
    else s.modLn (fun x => { x with queue := x.queue ++ [{ ftype := 2, cls := 2, publish := true }] })
  (s.p F.LL_MAPS_PUB_PEND 2 1).p F.LS_CFG_OWN_PEND 0 1

/-- Slots in which two maps differ. -/
def mapDiff (a b : Word × Word) : Nat :=
  ((List.range 32).filter (fun i => mapAt a.1 a.2 i != mapAt b.1 b.2 i)).length

/-- The evaluation at a beacon boundary (spec/07_line_learning.md R250 to R255). -/
def State.llEvaluate (s : State) : State :=
  let l := (List.range 32).map s.llSlot
  let w0 := wordOf ((l.take 16).map (·.1))
  let w1 := wordOf ((l.drop 16).map (·.1))
  let margins := l.map (fun x => unsignedN 8 x.2.1)
  let elig := (List.range 32).filter (fun i => decide (2 ≤ i % 16) && !bitOf (s.g F.LL_CFG1_FBLANK 1) i)
  let nc := (elig.filter (fun i => (l.getD i (0, 0, false)).2.2)).length
  let conf := if elig.isEmpty then 0 else (roundQ (255 * nc : Nat) elig.length).toNat
  let changed := w0 != s.rd 0x1F 0 || w1 != s.rd 0x1F 1
  let s := ((s.wr 0x1F 0 w0).wr 0x1F 1 w1).wr 0x1F 3 (wordOf (margins.take 16))
  let s := s.wr 0x1F 4 (wordOf (margins.drop 16))
  let s := s.p F.LL_MAPS_CONF 2 conf
  let s := if changed then s.bump F.LL_MAPS_PVER 2 else s
  let own := s.ownMap
  let s := if changed && (w0, w1) != own then
      s.raiseCommon .line 0 0x30 (s.g F.LL_MAPS_PVER 2 * 2 ^ 24 + conf * 2 ^ 16 + mapDiff (w0, w1) own % 32)
    else s
  let gap := match s.ll.lastPub with | none => true | some n => decide (s.g F.LL_CFG_PUB_GAP 0 ≤ n)
  if s.b F.LL_CFG_AUTO 0 && (w0, w1) != own && decide (s.g F.LL_CFG_CONF_MIN 0 ≤ conf) && gap && s.ll.own.isNone then
    s.llPublish w0 w1 false
  else s

/-! The own map. -/

/-- The own map becomes the common map at once (spec/07_line_learning.md R254). -/
def State.llOwnCommon (s : State) : State :=
  let s := (s.wr 0x12 2 (s.rd 0x12 0)).wr 0x12 3 (s.rd 0x12 1)
  s.modLl (fun x => { x with ownCommon := true, ownSince := BitVec.ofNat 32 s.cycle })

/-- PUB_PEND and OWN_PEND follow what is pending. -/
def State.llPendFlags (s : State) : State :=
  let v := b2n (s.ll.pub.isSome || s.ll.own.isSome)
  (s.p F.LL_MAPS_PUB_PEND 2 v).p F.LS_CFG_OWN_PEND 0 v

/-- The pending own map takes effect (spec/07_line_learning.md R257, spec/05_line_signal.md R183). -/
def State.llApplyOwn (s : State) : State :=
  match s.ll.own with
  | none => s
  | some (m0, m1, common) =>
    let s := ((s.wr 0x12 2 m0).wr 0x12 3 m1).modLl (fun x => { x with
      own := none, ownCommon := common, ownSince := x.actCycle })
    ((s.bump F.LL_MAPS_MAPVER 2).raiseCommon .line 0 0x10 1).llPendFlags

/-- ACT_CYCLE of a MAP frame that contends now (spec/07_line_learning.md R257). -/
def State.llAct (s : State) : Nat := ((s.cycle + 1 + beaconCycles - 1) / beaconCycles + 1) * beaconCycles % 2 ^ 32

/-- The payload words of a MAP frame: the publication, or the map pending or in force (spec/07_line_learning.md R256,
R258, Table LL-3). -/
def State.llMapWords (s : State) (publish : Bool) : List Word :=
  let own := s.ownMap
  let x : Word × Word × Bool × Nat × Nat :=
    match publish, s.ll.pub, s.ll.own with
    | true, some (a, b, c), _ => (a, b, c, s.llAct, s.g F.LL_MAPS_MAPVER 2 + 1)
    | _, _, some (a, b, c) => (a, b, c, s.ll.actCycle.toNat, s.g F.LL_MAPS_MAPVER 2 + 1)
    | _, _, none => (own.1, own.2, s.ll.ownCommon, s.ll.ownSince.toNat, s.g F.LL_MAPS_MAPVER 2)
  let conf := if x.2.2.1 then 0 else s.g F.LL_MAPS_CONF 2
  [BitVec.ofNat 128 (s.lac F.LA_CFG_DOMAIN_ID * 2 ^ 112 + s.setsCrc * 2 ^ 96 + x.2.2.2.1 * 2 ^ 64
      + (x.2.2.2.2 % 256) * 2 ^ 56 + conf * 2 ^ 48 + b2n x.2.2.1 * 2 ^ 41), x.1, x.2.1]

/-- The publication's frame begins its first data half-cycle: its map is the pending own map
(spec/07_line_learning.md R257). -/
def State.llBegun (s : State) : State :=
  match s.ll.pub with
  | none => s
  | some m =>
    (s.modLl (fun x => { x with pub := none, own := some m, actCycle := BitVec.ofNat 32 s.llAct })).p
      F.LL_MAPS_ACT_CYCLE 2 s.llAct

/-- K2 stops or runs for learning (spec/07_line_learning.md R253). -/
def State.llPause (s : State) (b : Bool) : State :=
  let s := s.modLl (fun x => { x with paused := b, broken := x.broken || b })
  if s.llState = 0 then s else s.p F.LL_MAPS_LSTATE 2 (if b then 2 else 1)

/-- OBS at the end of a cycle (spec/07_line_learning.md R253, R273). -/
def State.llCycle (s : State) : State :=
  let ok := s.isOn .line && !s.ll.broken && !s.ll.shed && !s.ll.paused && s.ll.k2Halves == 3 && s.timeOk
  let s :=
    if !s.isOn .line then s
    else if ok then s.bumpSat F.LL_MAPS_OBS 2
    else s.bump F.LL_MAPS_SKIP 2
  s.modLl (fun x => { x with broken := !(s.isOn .line && s.timeOk) || x.paused, shed := false, k2Halves := 0 })

/-- A half-cycle boundary: a condition of OBS that fails is noted (spec/07_line_learning.md R253). -/
def State.llHalf (s : State) : State :=
  if s.isOn .line && s.timeOk then s else s.modLl (fun x => { x with broken := true })

/-! Neighbours' maps. -/

/-- The LA_NBR entry of an address. -/
def State.nbrOf (s : State) (a : Nat) : Option Nat :=
  if a = 0 then none else (List.range 32).find? (fun n => s.g F.LA_NBR_ADDR n == a)

/-- The status entry of a neighbour's map. -/
def nbrEnt (n : Nat) : Nat := 5 + 5 * n

/-- A pending neighbour map whose cycle has come is in use (spec/07_line_learning.md R259). -/
def State.nbrPromote (s : State) (n : Nat) : State :=
  let e := nbrEnt n
  if s.b F.LL_NBR_PENDING e && !stampLater (s.g F.LL_NBR_ACT_CYCLE e * 65536) s.stamp48 then
    ((s.wr 0x1F (e + 1) (s.rd 0x1F (e + 3))).wr 0x1F (e + 2) (s.rd 0x1F (e + 4))).p F.LL_NBR_PENDING e 0
  else s

/-- The station holds the map of a neighbour (spec/07_line_learning.md R260). -/
def State.nbrHeld (s : State) (n : Nat) : Bool :=
  s.g F.LL_NBR_NSTATE (nbrEnt n) == 1 && !s.b F.LL_NBR_COMMON (nbrEnt n) && s.g F.LL_NBR_ADDR (nbrEnt n) == s.g F.LA_NBR_ADDR n

/-- A neighbour's entry is made anew (spec/06_line_access.md R236, spec/07_line_learning.md R268). -/
def State.nbrClear (s : State) (n : Nat) : State :=
  let s := [0, 1, 2, 3, 4].foldl (fun s i => s.wr 0x1F (nbrEnt n + i) 0) s
  s.ps 0x15 n [(F.LA_NBR_LQ, 0), (F.LA_NBR_MAPVER, 0), (F.LA_NBR_RX_FC, 0), (F.LA_NBR_LAST_CYCLE, 0),
    (F.LA_NBR_LAST_SEQ, 0), (F.LA_NBR_SEQ_VALID, 0)]

/-- A station heard takes an entry: its own, a free one, or the least recently heard that is not pinned
(spec/06_line_access.md R239). -/
def State.nbrTake (s : State) (a : Nat) : Option (Nat × State) :=
  match s.nbrOf a with
  | some n => some (n, s)
  | none =>
    if a = 0 ∨ 254 < a then none
    else
      let free := (List.range 32).find? (fun n => s.g F.LA_NBR_ADDR n == 0)
      let old := ((List.range 32).filter (fun n => !s.b F.LA_NBR_PIN n)).foldl (fun x n =>
        match x with
        | none => some n
        | some m =>
          if (s.cycle + 2 ^ 32 - s.g F.LA_NBR_LAST_CYCLE m) % 2 ^ 32 < (s.cycle + 2 ^ 32 - s.g F.LA_NBR_LAST_CYCLE n) % 2 ^ 32
          then some n else some m) none
      match (match free with | some n => some n | none => old) with
      | none => none
      | some n =>
        some (n, (((s.nbrClear n).ps 0x15 n [(F.LA_NBR_ADDR, a), (F.LA_NBR_PHASE, 0), (F.LA_NBR_PIN, 0)])).modLl
          (fun x => { x with newNbr := true }))

/-- A received MAP frame is stored against its sender (spec/07_line_learning.md R259). -/
def State.nbrStore (s : State) (src : Nat) (w : List Word) : State :=
  let w0 := w.getD 0 0
  if w0.bits 112 16 ≠ s.lac F.LA_CFG_DOMAIN_ID then s
  else
    match s.nbrTake src with
    | none => s
    | some (n, s) =>
      let e := nbrEnt n
      let crc := w0.bits 96 16
      let act := w0.bits 64 32
      let ver := w0.bits 56 8
      let bad := crc != s.setsCrc
      let now := !stampLater (act * 65536) s.stamp48
      let put (i : Nat) (s : State) : State := (s.wr 0x1F (e + i) (w.getD 1 0)).wr 0x1F (e + i + 1) (w.getD 2 0)
      let s := if now then put 1 s else put 3 s
      let nst := if bad then 3 else 1
      let s := s.ps 0x1F e [(F.LL_NBR_ADDR, src), (F.LL_NBR_MAPVER, ver), (F.LL_NBR_NSTATE, nst),
        (F.LL_NBR_COMMON, w0.bits 41 1), (F.LL_NBR_PENDING, b2n !now), (F.LL_NBR_ACT_CYCLE, act), (F.LL_NBR_AGE, 0),
        (F.LL_NBR_SETS_CRC, crc)]
      let s := (s.p F.LA_NBR_MAPVER n ver).raiseCommon .line 0 0x32 (src * 2 ^ 24 + ver * 2 ^ 16 + nst)
      if bad then s.raiseCommon .line 1 0x33 (src * 2 ^ 24 + 3) else s

/-- A neighbour's map becomes STALE (spec/07_line_learning.md R260). -/
def State.nbrStale (s : State) (n why : Nat) : State :=
  let e := nbrEnt n
  if s.g F.LL_NBR_NSTATE e = 1 then
    (s.p F.LL_NBR_NSTATE e 2).raiseCommon .line 1 0x33 (s.g F.LL_NBR_ADDR e * 2 ^ 24 + why)
  else s

/-- What a beacon boundary does for learning: ages, the count since the last publication, the repeats
(spec/07_line_learning.md R255, R258, R260). -/
def State.llBeacon (s : State) : State :=
  let s := (List.range 32).foldl (fun s n =>
    if s.g F.LL_NBR_NSTATE (nbrEnt n) = 0 then s else s.bumpSat F.LL_NBR_AGE (nbrEnt n)) s
  (s.modLl (fun x => { x with lastPub := x.lastPub.map (· + 1), repeatIn := x.repeatIn - 1 })).modLn
    (fun x => { x with missing := [] })

/-- A GRID_CHANGE: statistics cleared, the own map is the common map, every neighbour map STALE, a publication dropped
(spec/07_line_learning.md R254, R260, R265). -/
def State.llGrid (s : State) : State :=
  let had := s.ll.pub.isSome || s.ln.queue.any (fun f => f.ftype == 2)
  let s := s.llClearStats.llOwnCommon
  let s := s.modLl (fun x => { x with pub := none, own := none })
  let s := s.modLn (fun x => { x with queue := x.queue.filter (fun f => f.ftype != 2)
    ++ (if had then [{ ftype := 2, cls := 2 }] else []) })
  ((List.range 32).foldl (fun s n => s.nbrStale n 2) s).llPendFlags

/-- The learner at a LINE start (spec/07_line_learning.md R254, R258). -/
def State.llStart (s : State) : State :=
  let s := s.llOwnCommon
  let s := if s.b F.LL_CFG_KEEP 0 && !s.ll.setsChanged then s else s.llClearStats
  (s.modLl (fun x => { x with pub := none, own := none, firstMap := true, paused := false })).llPendFlags

/-- The learner when LINE stops: a pending own map is discarded (spec/07_line_learning.md R264). -/
def State.llStop (s : State) : State := (s.modLl (fun x => { x with pub := none, own := none, firstMap := false })).llPendFlags

/-! Commits. -/

/-- A commit to LL_CFG (spec/07_line_learning.md R264, R270). -/
def State.llCommitCfg (s : State) (e : Nat) (w : Word) : Oc × State :=
  let new := s.merged 0x1C e w
  if e ≠ 0 then (.ok, s.wr 0x1C e new)
  else
    let a := F.LL_CFG_ALPHA_SH.of new
    let i := F.LL_CFG_IMP_DB.of new
    let bad := decide (a < 2 ∨ 12 < a) || F.LL_CFG_PUB_GAP.of new == 0 || F.LL_CFG_REPEAT.of new == 0
      || decide (F.LL_CFG_MAP_TTL.of new ≤ F.LL_CFG_REPEAT.of new) || decide (i < 3)
      || decide (F.LL_CFG_IMP_HI.of new < F.LL_CFG_IMP_LO.of new)
      || decide (F.LL_CFG_THR_R4.of new < F.LL_CFG_THR_R6.of new ∨ F.LL_CFG_THR_F4.of new < F.LL_CFG_THR_R4.of new
          ∨ F.LL_CFG_THR_F8.of new < F.LL_CFG_THR_F4.of new ∨ F.LL_CFG_THR_F16.of new < F.LL_CFG_THR_F8.of new
          ∨ F.LL_CFG_THR_T8.of new < F.LL_CFG_THR_F16.of new)
    if bad then (.param, s)
    else
      let s := s.wr 0x1C 0 (F.LL_CFG_CLEAR.into 0 new)
      if F.LL_CFG_CLEAR.of w = 1 then (.ok, s.llClearStats.llPublish (s.rd 0x12 0) (s.rd 0x12 1) true) else (.ok, s)

/-- A commit to LL_MAPS: entry 2 approves (spec/07_line_learning.md R255, R262). -/
def State.llCommitMaps (s : State) (e : Nat) (w : Word) : Oc × State :=
  if e ≠ 2 then (.ok, s)
  else
    let approve := F.LL_MAPS_APPROVE.of w == 1
    let o := judge [
      (approve && (F.LL_MAPS_APPROVE_VER.of w != s.g F.LL_MAPS_PVER 2 || s.b F.LL_CFG_AUTO 0), .stateMismatch),
      (approve && s.llState == 0, .notReady)]
    if o = .ok then
      let s := s.p F.LL_MAPS_APPROVE_VER 2 (F.LL_MAPS_APPROVE_VER.of w)
      let prop := (s.rd 0x1F 0, s.rd 0x1F 1)
      (.ok, if approve && prop != s.ownMap then s.llPublish prop.1 prop.2 false else s)
    else (o, s)

/-- A commit to the own map, entries 2 and 3 of LS_MAPS (spec/07_line_learning.md R255). -/
def State.lsCommitOwn (s : State) (e : Nat) (w : Word) : Oc × State :=
  let o := judge [(!s.mapWordOk false w, .param), (s.b F.LL_CFG_AUTO 0, .stateMismatch), (s.llState == 0, .notReady)]
  if o = .ok then
    if e = 2 then (.ok, s.modLl (fun x => { x with stage0 := some w }))
    else (.ok, (s.modLl (fun x => { x with stage0 := none })).llPublish (s.ll.stage0.getD (s.rd 0x12 2)) w false)
  else (o, s)

/-- A commit to LS_MAPS (spec/05_line_signal.md R192). -/
def State.lsCommitMap (s : State) (e : Nat) (w : Word) : Oc × State :=
  if e < 2 then s.lsCommitCommon e w else s.lsCommitOwn e w

/-! The commands. -/

/-- LEARN_READY (spec/07_line_learning.md R253). -/
def execLearnReady (s : State) : Host.Outcome State Fault Refusal :=
  if s.llState = 0 ∧ 3000 ≤ s.g F.LL_MAPS_OBS 2 then
    .next ((s.p F.LL_MAPS_LSTATE 2 (if s.ll.paused then 2 else 1)).raiseCommon .line 0 0x35 (s.g F.LL_MAPS_OBS 2))
  else .next s

/-- PROPOSAL: the evaluation at a beacon boundary (spec/07_line_learning.md R250, R267). -/
def execProposal (s : State) : Host.Outcome State Fault Refusal :=
  let s := s.toBeacon
  if s.isOn .line && s.llState == 1 && !s.ll.shed then .next s.llEvaluate else .next s

/-- OWN_MAP_APPLY: at the first half-cycle boundary with no frame in progress at or after ACT_CYCLE
(spec/07_line_learning.md R257). -/
def execOwnMapApply (s : State) : Host.Outcome State Fault Refusal :=
  match s.ll.own with
  | none => .next s
  | some _ =>
    let s := (s.advanceFrac (s.fracUntil (s.ll.actCycle.toNat * 65536))).toHalf
    if s.frameNow then .next s else .next s.llApplyOwn

/-- MAP_REPEAT: a MAP frame is queued when one is due (spec/07_line_learning.md R258). -/
def execMapRepeat (s : State) : Host.Outcome State Fault Refusal :=
  let due := s.ll.repeatIn == 0 || s.ll.newNbr || (s.ll.firstMap && s.timeOk && s.lac F.LA_CFG_ADDR != 0)
  let s := if s.ll.firstMap then s else s.toBeacon
  if s.isOn .line && due && !s.ln.queue.any (fun f => f.ftype == 2) then
    .next ((s.modLn (fun x => { x with queue := x.queue ++ [{ ftype := 2, cls := 2 }] })).modLl (fun x => { x with
      repeatIn := s.g F.LL_CFG_REPEAT 0, newNbr := false, firstMap := false }))
  else .next s

/-- NBR_MAP_STALE: the map of entry `n` has aged (spec/07_line_learning.md R260). -/
def execNbrMapStale (n : Fin 32) (s : State) : Host.Outcome State Fault Refusal :=
  if s.g F.LL_CFG_MAP_TTL 0 < s.g F.LL_NBR_AGE (nbrEnt n.val) then .next (s.nbrStale n.val 1) else .next s

end Sys2Proof.Machine
end

