-- ==== Sys2Proof/Machine/Aes.lean ====
section
/-! DEFINITION. AES as FIPS 197 defines it and the modes Obsidian and the RNG use (spec/10_obsidian_cipher.md R351). The
cipher's tables and the modes are taken from the standards the spec names (notes/assumptions/10.md). Blocks, keys and
messages are lists of bytes, first byte first, each byte a number below 256. -/

namespace Sys2Proof.Machine.Aes

open Sys2Proof

/-- The S-box in rows of 32, entry 32k first in the low byte (FIPS 197). -/
def sboxRow (k : Nat) : Nat :=
  match k with
  | 0 => 0xC072A49CAFA2D4ADF04759FA7DC982CA76ABD7FE2B670130C56F6BF27B777C63
  | 1 => 0x75B227EBE28012079A059618C323C7041531D871F1E5A534CCF73F362693FDB7
  | 2 => 0xCF584C4A39BECB6A5BB1FC20ED00D153842FE329B3D63B52A05A6E1B1A2C8309
  | 3 => 0xD2F3FF1021DAB6BCF5389D928F40A351A89F3C507F02F94585334D43FBAAEFD0
  | 4 => 0xDB0B5EDE14B8EE4688902A22DC4F816073195D643D7EA7C41744975FEC130CCD
  | 5 => 0x08AE7A65EAF4566CA94ED58D6D37C8E779E4959162ACD3C25C2406490A3A32E0
  | 6 => 0x9E1DC186B95735610EF6034866B53E708A8BBD4B1F74DDE8C6B4A61C2E2578BA
  | _ => 0x16BB54B00F2D99416842E6BF0D89A18CDF2855CEE9871E9B948ED9691198F8E1

/-- The inverse S-box in rows of 32 (FIPS 197). -/
def invSboxRow (k : Nat) : Nat :=
  match k with
  | 0 => 0xCBE9DEC444438E3487FF2F9B8239E37CFBD7F3819EA340BF38A53630D56A0952
  | 1 => 0x25D18B6D49A25B76B224D92866A12E084EC3FA420B954CEE3D23C2A632947B54
  | 2 => 0x849D8DA75746155EDAB9EDFD5048706C92B6655DCC5CA4D41698688664F6F872
  | 3 => 0x6B8A130103BDAFC1020F3FCA8F1E2CD00645B3B80558E4F70AD3BC8C00ABD890
  | 4 => 0x6EDF751CE837F9E28535ADE72274AC9673E6B4F0CECFF297EADC674F4111913A
  | 5 => 0xF45ACD78FEC0DB9A2079D2C64B3E56FC1BBE18AA0E62B76F89C5291D711AF147
  | 6 => 0xEF9CC9939F7AE52D0D4AB519A97F51605FEC8027591012B131C7078833A8DD1F
  | _ => 0x7D0C2155631469E126D677BA7E042B17619953833CBBEBC8B0F52AAE4D3BE0A0

/-- SubBytes of one byte. -/
def sub (x : Nat) : Nat := sboxRow (x / 32) >>> (8 * (x % 32)) % 256

/-- InvSubBytes of one byte. -/
def invSub (x : Nat) : Nat := invSboxRow (x / 32) >>> (8 * (x % 32)) % 256

/-- Multiplication by x in GF(2^8). -/
def xtime (x : Nat) : Nat := if x < 128 then 2 * x else (2 * x) ^^^ 0x11B

/-- Multiplication by a small constant in GF(2^8). -/
def gmul (c x : Nat) : Nat :=
  let x2 := xtime x
  let x4 := xtime x2
  let x8 := xtime x4
  (if c.testBit 0 then x else 0) ^^^ (if c.testBit 1 then x2 else 0) ^^^ (if c.testBit 2 then x4 else 0)
    ^^^ (if c.testBit 3 then x8 else 0)

/-- Bytewise XOR of two lists, as long as the first. -/
def xorB : List Nat → List Nat → List Nat
  | [], _ => []
  | l, [] => l
  | a :: s, b :: t => (a ^^^ b) :: xorB s t

/-- Key expansion: from the words made so far, newest first, `fuel` more (FIPS 197, 5.2). -/
def expandGo (nk : Nat) : Nat → Nat → Nat → List (List Nat) → List (List Nat)
  | 0, _, _, acc => acc
  | fuel + 1, i, rcon, acc =>
    let t := acc.headD []
    let t' :=
      if i % nk = 0 then xorB ((t.drop 1 ++ t.take 1).map sub) [rcon, 0, 0, 0]
      else if 6 < nk ∧ i % nk = 4 then t.map sub
      else t
    expandGo nk fuel (i + 1) (if i % nk = 0 then xtime rcon else rcon) (xorB t' (acc.getD (nk - 1) []) :: acc)

/-- Rounds of a key of `n` bytes. -/
def rounds (n : Nat) : Nat := n / 4 + 6

/-- The round keys, first round first. -/
def roundKeys (key : List Nat) : List (List Nat) :=
  let nk := key.length / 4
  let ws := (expandGo nk (4 * (rounds key.length + 1) - nk) nk 1 (chunksOf 4 nk key).reverse).reverse
  (chunksOf 4 15 ws).map List.flatten

/-- ShiftRows on a block in column order. -/
def shiftRows (b : List Nat) : List Nat := (List.range 16).map (fun i => b.getD ((i + 4 * (i % 4)) % 16) 0)

/-- InvShiftRows. -/
def invShiftRows (b : List Nat) : List Nat := (List.range 16).map (fun i => b.getD ((i + 12 * (i % 4)) % 16) 0)

/-- One column times the circulant of four constants. -/
def mixCol (c0 c1 c2 c3 : Nat) (l : List Nat) : List Nat :=
  let a := l.getD 0 0
  let b := l.getD 1 0
  let c := l.getD 2 0
  let d := l.getD 3 0
  [gmul c0 a ^^^ gmul c1 b ^^^ gmul c2 c ^^^ gmul c3 d, gmul c3 a ^^^ gmul c0 b ^^^ gmul c1 c ^^^ gmul c2 d,
   gmul c2 a ^^^ gmul c3 b ^^^ gmul c0 c ^^^ gmul c1 d, gmul c1 a ^^^ gmul c2 b ^^^ gmul c3 c ^^^ gmul c0 d]

/-- MixColumns. -/
def mix (b : List Nat) : List Nat := (chunksOf 4 4 b).flatMap (mixCol 2 3 1 1)

/-- InvMixColumns. -/
def invMix (b : List Nat) : List Nat := (chunksOf 4 4 b).flatMap (mixCol 14 11 13 9)

/-- The rounds after the first key addition: the last key ends without MixColumns. -/
def encGo : List (List Nat) → List Nat → List Nat
  | [], b => b
  | [k], b => xorB (shiftRows (b.map sub)) k
  | k :: ks, b => encGo ks (xorB (mix (shiftRows (b.map sub))) k)

/-- The cipher on one block. -/
def enc (key blk : List Nat) : List Nat :=
  match roundKeys key with
  | [] => blk
  | k :: ks => encGo ks (xorB blk k)

/-- The inverse rounds over the round keys, last first. -/
def decGo : List (List Nat) → List Nat → List Nat
  | [], b => b
  | [k], b => xorB ((invShiftRows b).map invSub) k
  | k :: ks, b => decGo ks (invMix (xorB ((invShiftRows b).map invSub) k))

/-- The inverse cipher on one block. -/
def dec (key blk : List Nat) : List Nat :=
  match (roundKeys key).reverse with
  | [] => blk
  | k :: ks => decGo ks (xorB blk k)

/-! Bytes and numbers. -/

/-- A number as `n` bytes, most significant first. -/
def beBytes : Nat → Nat → List Nat
  | 0, _ => []
  | n + 1, x => x / 256 ^ n % 256 :: beBytes n x

/-- The number that bytes spell, most significant first. -/
def beNat (l : List Nat) : Nat := l.foldl (fun a b => 256 * a + b) 0

/-- A word as its block: message byte j is byte 15 - j of the word (spec/10_obsidian_cipher.md R352). -/
def ofWord (w : Word) : List Nat := beBytes 16 w.toNat

/-- The word of a block of up to 16 bytes; missing bytes are 0 (spec/10_obsidian_cipher.md R352). -/
def toWord (l : List Nat) : Word := BitVec.ofNat 128 (beNat (l ++ List.replicate (16 - l.length) 0))

/-- The bytes of words (spec/10_obsidian_cipher.md R352). -/
def ofWords (l : List Word) : List Nat := l.flatMap ofWord

/-- Words that hold bytes, the last one filled with 0. -/
def toWords (l : List Nat) : List Word := (chunksOf 16 l.length l).map toWord

/-- A block padded with zero bytes. -/
def pad16 (l : List Nat) : List Nat := l ++ List.replicate ((16 - l.length % 16) % 16) 0

/-! Modes. -/

/-- ECB with a block function (SP 800-38A). -/
def ecb (f : List Nat → List Nat) (m : List Nat) : List Nat := (chunksOf 16 m.length m).flatMap f

/-- The counter block after one step of the standard increment on its low 32 bits (SP 800-38A). -/
def ctrInc (c : List Nat) : List Nat := c.take 12 ++ beBytes 4 (beNat (c.drop 12) + 1)

/-- CTR over blocks (SP 800-38A). -/
def ctrGo (key : List Nat) : List (List Nat) → List Nat → List Nat
  | [], _ => []
  | b :: t, c => xorB b (enc key c) ++ ctrGo key t (ctrInc c)

/-- CTR of a message from a counter block. -/
def ctr (key c m : List Nat) : List Nat := ctrGo key (chunksOf 16 m.length m) c

/-- CBC from a chaining value, last block output only (SP 800-38A). -/
def cbcMac (key iv m : List Nat) : List Nat := (chunksOf 16 m.length m).foldl (fun c b => enc key (xorB c b)) iv

/-- Doubling in GF(2^128) (SP 800-38B). -/
def dbl (l : List Nat) : List Nat :=
  let x := beNat l
  beBytes 16 ((2 * x) % 2 ^ 128 ^^^ (if 2 ^ 127 ≤ x then 0x87 else 0))

/-- CMAC (SP 800-38B), the full 128 bits. -/
def cmac (key m : List Nat) : List Nat :=
  let k1 := dbl (enc key (List.replicate 16 0))
  let n := (m.length - 1) / 16
  let last := m.drop (16 * n)
  let last' := if last.length = 16 then xorB last k1 else xorB (pad16 (last ++ [0x80])) (dbl k1)
  enc key (xorB (cbcMac key (List.replicate 16 0) (m.take (16 * n))) last')

/-- The first counter blocks' common part of CCM with a 13-byte nonce (SP 800-38C, L = 2). -/
def ccmCtr (nonce : List Nat) (i : Nat) : List Nat := 1 :: nonce.take 13 ++ beBytes 2 i

/-- The CBC-MAC of CCM over nonce, associated data and payload, with a tag of `m` bytes (SP 800-38C, Appendix A). -/
def ccmMac (key nonce aad msg : List Nat) (m : Nat) : List Nat :=
  let flags := (if aad.isEmpty then 0 else 64) + 8 * ((m - 2) / 2) + 1
  let b0 := flags :: nonce.take 13 ++ beBytes 2 msg.length
  let a := if aad.isEmpty then [] else pad16 (beBytes 2 aad.length ++ aad)
  cbcMac key (List.replicate 16 0) (b0 ++ a ++ pad16 msg)

/-- CCM generation-encryption: the ciphertext and the tag of `m` bytes. -/
def ccmEnc (key nonce aad msg : List Nat) (m : Nat) : List Nat × List Nat :=
  (ctr key (ccmCtr nonce 1) msg, (xorB (ccmMac key nonce aad msg m) (enc key (ccmCtr nonce 0))).take m)

/-- CCM decryption-verification: the payload when the tag is right. -/
def ccmDec (key nonce aad ct tag : List Nat) (m : Nat) : Option (List Nat) :=
  let msg := ctr key (ccmCtr nonce 1) ct
  if (xorB (ccmMac key nonce aad msg m) (enc key (ccmCtr nonce 0))).take m = tag.take m then some msg else none

/-- The steps of KW-AE (SP 800-38F): `t` counts up. -/
def kwGo (key : List Nat) (n : Nat) : Nat → Nat → List Nat → List (List Nat) → List Nat × List (List Nat)
  | 0, _, a, r => (a, r)
  | fuel + 1, t, a, r =>
    let b := enc key (a ++ r.headD [])
    kwGo key n fuel (t + 1) (xorB (b.take 8) (beBytes 8 t)) (r.drop 1 ++ [b.drop 8])

/-- KW-AE with the default ICV (SP 800-38F). -/
def kwWrap (key p : List Nat) : List Nat :=
  let r := chunksOf 8 p.length p
  let x := kwGo key r.length (6 * r.length) 1 (List.replicate 8 0xA6) r
  x.1 ++ x.2.flatten

/-- The steps of KW-AD: `t` counts down. -/
def kwInvGo (key : List Nat) : Nat → List Nat → List (List Nat) → List Nat × List (List Nat)
  | 0, a, r => (a, r)
  | t + 1, a, r =>
    let b := dec key (xorB a (beBytes 8 (t + 1)) ++ r.getLastD [])
    kwInvGo key t (b.take 8) (b.drop 8 :: r.dropLast)

/-- KW-AD with the default ICV: the plaintext when the ICV is right (SP 800-38F). -/
def kwUnwrap (key c : List Nat) : Option (List Nat) :=
  let r := chunksOf 8 c.length (c.drop 8)
  let x := kwInvGo key (6 * r.length) (c.take 8) r
  if x.1 = List.replicate 8 0xA6 then some x.2.flatten else none

/-! CTR_DRBG with AES-256, no derivation function (SP 800-90A). -/

/-- V plus one. -/
def vInc (v : List Nat) : List Nat := beBytes 16 ((beNat v + 1) % 2 ^ 128)

/-- CTR_DRBG_Update. -/
def drbgUpdate (key v data : List Nat) : List Nat × List Nat :=
  let v1 := vInc v
  let v2 := vInc v1
  let v3 := vInc v2
  let t := xorB (enc key v1 ++ enc key v2 ++ enc key v3) data
  (t.take 32, t.drop 32)

/-- Instantiation from 48 bytes of entropy and a personalization string. -/
def drbgInit (entropy pers : List Nat) : List Nat × List Nat :=
  drbgUpdate (List.replicate 32 0) (List.replicate 16 0) (xorB entropy pers)

/-- One generate request of one block: the block, then key and V. -/
def drbgBlock (key v : List Nat) : List Nat × (List Nat × List Nat) :=
  let v1 := vInc v
  (enc key v1, drbgUpdate key v1 (List.replicate 48 0))

end Sys2Proof.Machine.Aes
end

