-- ==== Sys2Proof/Machine/Rng.lean ====
section
/-! DEFINITION. The RNG: samples and their health tests, conditioning, the DRBG, the pool and the carry-over stream
(spec/10_obsidian_cipher.md R375 to R382, R400, R401). -/

namespace Sys2Proof.Machine

open Sys2Proof

/-- Bytes as numbers. -/
def natBytes (l : List Byte) : List Nat := l.map (·.toNat)

/-- Numbers as bytes. -/
def ofNatBytes (l : List Nat) : List Byte := l.map (BitVec.ofNat 8)

/-- The RNG is READY (spec/10_obsidian_cipher.md R379). -/
def State.rngReady (s : State) : Bool := s.isOn .rng && s.sub .rng == 1

/-- The RNG has FAILED (spec/10_obsidian_cipher.md R376). -/
def State.rngFailed (s : State) : Bool := decide (s.st .rng = .fault)

/-- DS0 as bytes, most significant first (spec/10_obsidian_cipher.md R353). -/
def ds0 : List Nat := Aes.beBytes 32 Config.deviceSecret.toNat

/-- The key of the carry-over stream: CMAC under DS0 of seed, power-up counter and UID (spec/10_obsidian_cipher.md
R381). -/
def State.carryKeyOf (s : State) : List Nat :=
  Aes.cmac ds0 (Aes.ofWord s.pw.seed ++ Aes.beBytes 4 (s.g F.PW_EMBER_PUC 1) ++ Aes.beBytes 8 Config.uid.toNat)

/-- The next `n` bits, at most 128, of the carry-over stream (spec/10_obsidian_cipher.md R381). -/
def State.carryDraw (s : State) (n : Nat) : Nat × State :=
  let key := natBytes s.rng.carryKey
  let i := s.rng.carryPos / 128
  let b (i : Nat) : Nat := Aes.beNat (Aes.enc key (Aes.beBytes 16 i))
  let two := b i * 2 ^ 128 + b (i + 1)
  (two / 2 ^ (256 - s.rng.carryPos % 128 - n) % 2 ^ n, s.modRng (fun r => { r with carryPos := r.carryPos + n }))

/-- A draw of `n` bits, at most 128, by an internal consumer: the first bits of a pool block while READY, otherwise, and
when the pool is empty, the carry-over stream (spec/10_obsidian_cipher.md R382). -/
def State.rngDraw (s : State) (n : Nat) : Nat × State :=
  match s.rngReady, s.rng.pool with
  | true, b :: rest => (b.toNat / 2 ^ (128 - n), s.modRng (fun r => { r with pool := rest }))
  | _, _ => s.carryDraw n

/-- What Obsidian's countermeasures draw for a job: the spec does not say how much, so the amount is a free value
(spec/10_obsidian_cipher.md R367, R382). -/
def State.cmDraw (s : State) : State :=
  let d := s.draw
  let s := d.2
  if s.rngReady then s.modRng (fun r => { r with pool := r.pool.drop (d.1 % (r.pool.length + 1)) })
  else s.modRng (fun r => { r with carryPos := r.carryPos + d.1 })

/-- The RNG starts: nothing gathered, the carry-over stream is keyed (spec/10_obsidian_cipher.md R376, R379, R381). -/
def State.rngStarting (s : State) : State :=
  s.modRng (fun r => { r with
    samples := 0, bits := [], repRun := 0, aptPos := 0, aptCount := 0, blocks := [], key := [], v := 0, due := false,
    pool := [], carryKey := ofNatBytes s.carryKeyOf, carryPos := 0, saved := false, cause := 0 })

/-- The RNG fails: pool and partial seeds are discarded (spec/10_obsidian_cipher.md R376, R393). -/
def State.rngFail (s : State) (cause : Nat) : State :=
  let s := s.modRng (fun r => { r with pool := [], blocks := [], bits := [], key := [], cause := cause })
  (s.goFault .rng 0 (fun _ s => s)).raiseCommon .rng 3 0x11 cause

/-- A conditioning input of 512 samples and, where present, the secondary block, through AES-256 CBC-MAC under the fixed
key (spec/10_obsidian_cipher.md R377). -/
def conditioned (bits : List Bool) (line : Option Word) : Word :=
  let msg := ((chunksOf 128 4 bits).map (fun l => Aes.beBytes 16 (ofBitsBE l))).flatten
    ++ (match line with | none => [] | some w => Aes.ofWord w)
  Aes.toWord (Aes.cbcMac (Aes.beBytes 32 Config.rngKey.toNat) (List.replicate 16 0) msg)

/-- The personalization string (spec/10_obsidian_cipher.md R378). -/
def State.drbgPers (s : State) : List Nat :=
  Aes.beBytes 8 Config.uid.toNat ++ Aes.beBytes 4 (s.g F.PW_EMBER_PUC 1) ++ List.replicate 36 0

/-- The state of the DRBG. -/
def State.setDrbg (s : State) (k : List Nat × List Nat) : State :=
  s.modRng (fun r => { r with key := ofNatBytes k.1, v := Aes.toWord k.2 })

/-- One generate request (spec/10_obsidian_cipher.md R378): the block, the request counted, and a reseed made due after
2^16 requests. -/
def State.drbgGen (s : State) : Word × State :=
  let x := Aes.drbgBlock (natBytes s.rng.key) (Aes.ofWord s.rng.v)
  let n := s.g F.RNG_CFG_REQS 0 + 1
  let s := (s.setDrbg x.2).p F.RNG_CFG_REQS 0 n
  (Aes.toWord x.1, if 65536 ≤ n then s.modRng (fun r => { r with due := true }) else s)

/-- A fresh block goes to the Ember carry-over seed (spec/10_obsidian_cipher.md R382). -/
def State.rngSaveCarry (s : State) : State :=
  let x := s.drbgGen
  (x.2.modPw (fun p => { p with seed := x.1 })).modRng (fun r => { r with saved := true })

/-- The entropy input of three conditioned blocks (spec/10_obsidian_cipher.md R377). -/
def State.rngEntropy (s : State) : List Nat := Aes.ofWords (s.rng.blocks.take 3)

/-- The DRBG reseeds when a seed is ready (spec/10_obsidian_cipher.md R378, R382). -/
def State.drbgReseed (s : State) : State :=
  if s.rng.due && decide (3 ≤ s.rng.blocks.length) && s.rngReady then
    let k := Aes.drbgUpdate (natBytes s.rng.key) (Aes.ofWord s.rng.v) s.rngEntropy
    let s := (s.setDrbg k).modRng (fun r => { r with due := false, blocks := [] })
    ((s.p F.RNG_CFG_REQS 0 0).bump F.RNG_CFG_RESEEDS 0).rngSaveCarry
  else s

/-- RNG_STAT (spec/10_obsidian_cipher.md R401). -/
def State.rngStat (s : State) : Half :=
  let st := if s.rngFailed then 2 else if s.isOn .rng then (if s.sub .rng = 1 then 1 else 0) else if s.st .rng = .starting then 0 else 3
  BitVec.ofNat 16 (st + 4 * b2n s.rng.saved + 16 * capAt 7 s.rng.pool.length + 256 * s.rng.cause)

/-- A port takes a new block from the pool, which keeps its last 2 blocks for internal consumers
(spec/10_obsidian_cipher.md R380). -/
def State.rngFresh (s : State) (p : PortId) (t : Nat) : Oc × Half × State :=
  match s.rng.pool with
  | b :: rest =>
    if rest.length < 2 then (.busy, 0, s)
    else
      (.ok, b.half 7, (s.modRng (fun r => { r with pool := rest })).modPort p
        (fun q => { q with rngBlk := some { tenant := t, word := b, left := 7 } }))
  | [] => (.busy, 0, s)

/-- A read of RNG_DATA on a port for a tenant: outcome, halfword and state (spec/10_obsidian_cipher.md R380). -/
def State.rngRead (s : State) (p : PortId) (t : Nat) : Oc × Half × State :=
  if s.rngFailed then (.fault, 0, s)
  else if !s.rngReady then (.notReady, 0, s)
  else
    match (s.port p).rngBlk with
    | some b =>
      if b.tenant = t ∧ 0 < b.left then
        (.ok, b.word.half (b.left - 1), s.modPort p (fun q => { q with rngBlk := some { b with left := b.left - 1 } }))
      else s.rngFresh p t
    | none => s.rngFresh p t

/-- A commit to RNG_CFG (spec/10_obsidian_cipher.md R400). -/
def State.rngCommit (s : State) (w : Word) : Oc × State :=
  let new := s.merged 0x2E 0 w
  let rct := F.RNG_CFG_RCT_C.of new
  let apt := F.RNG_CFG_APT_C.of new
  let o := judge [(decide (rct < 21), .param), (decide (apt < 513) || decide (1024 < apt), .param),
    (decide (s.st .rng = .starting ∨ s.st .rng = .on ∨ s.st .rng = .stopping), .stateMismatch)]
  if o = .ok then (.ok, s.wr 0x2E 0 new) else (o, s)

/-- The RNG's unit commands (spec/10_obsidian_cipher.md R374, Table OB-7). -/
def State.rngUnitCmd (s : State) (cmd : Nat) : Oc × State :=
  if cmd ≠ 8 then (.param, s)
  else if s.st .rng = .starting ∨ (s.isOn .rng && s.sub .rng == 0) then (.notReady, s)
  else if s.isOn .rng then (.ok, (s.modRng (fun r => { r with due := true })).drbgReseed)
  else (.stateMismatch, s)

/-! The commands. -/

/-- RNG_SAMPLE: a raw sample and, for a conditioning input's secondary block, the least significant bits of 128 line
samples (spec/10_obsidian_cipher.md R375 to R377). -/
def execRngSample (bit : Bool) (line : Word) (s : State) : Host.Outcome State Fault Refusal :=
  if s.st .rng ≠ .starting ∧ s.st .rng ≠ .on then .next s
  else
    let r := s.rng
    let rep := if r.samples = 0 then 1 else if bit = r.lastBit then r.repRun + 1 else 1
    let aptStart := r.aptPos = 0
    let aptBit := if aptStart then bit else r.aptBit
    let aptCount := if aptStart then 1 else r.aptCount + b2n (bit == aptBit)
    let aptPos := (r.aptPos + 1) % 1024
    let n := r.samples + 1
    let s := s.modRng (fun r => { r with
      samples := n, lastBit := bit, repRun := rep, aptBit := aptBit, aptPos := aptPos, aptCount := aptCount })
    if s.g F.RNG_CFG_RCT_C 0 ≤ rep then .next (s.rngFail (if n ≤ 1024 then 3 else 1))
    else if s.g F.RNG_CFG_APT_C 0 ≤ aptCount then .next (s.rngFail (if n ≤ 1024 then 3 else 2))
    else if n ≤ 1024 then .next s
    else
      let bits := bit :: s.rng.bits
      if bits.length < 512 then .next (s.modRng (fun r => { r with bits := bits }))
      else
        let sec := if s.b F.RNG_CFG_LINE_MIX 0 && s.isOn .line then some line else none
        .next (s.modRng (fun r => { r with
          bits := [], blocks := if r.blocks.length < 3 then r.blocks ++ [conditioned bits.reverse sec] else r.blocks }))

/-- RNG_READY: the DRBG is instantiated after 2,560 samples; `kat` is whether its known-answer health test passes
(spec/10_obsidian_cipher.md R378, R379). -/
def execRngReady (kat : Bool) (s : State) : Host.Outcome State Fault Refusal :=
  if s.isOn .rng && s.sub .rng == 0 && decide (2560 ≤ s.rng.samples) && decide (3 ≤ s.rng.blocks.length) then
    if kat then
      let s := (s.setDrbg (Aes.drbgInit s.rngEntropy s.drbgPers)).modRng (fun r => { r with blocks := [], due := false })
      .next (((s.setSub .rng 1).p F.RNG_CFG_REQS 0 0).rngSaveCarry.raiseCommon .rng 0 0x10 0)
    else .next (s.rngFail 4)
  else .next s

/-- RNG_POOL_ADD (spec/10_obsidian_cipher.md R380). -/
def execRngPoolAdd (s : State) : Host.Outcome State Fault Refusal :=
  if s.rngReady && !s.rng.due && decide (s.rng.pool.length < 8) then
    let x := s.drbgGen
    .next (x.2.modRng (fun r => { r with pool := r.pool ++ [x.1] }))
  else .next s

/-- DRBG_RESEED (spec/10_obsidian_cipher.md R378). -/
def execDrbgReseed (s : State) : Host.Outcome State Fault Refusal := .next s.drbgReseed

end Sys2Proof.Machine
end

