-- ==== Sys2Proof/Machine/Obsidian.lean ====
section
/-! DEFINITION. Obsidian: key slots and slot commands, host jobs and in-line jobs, service order and timing, integrity
failures (spec/10_obsidian_cipher.md). -/

namespace Sys2Proof.Machine

open Sys2Proof

/-! Keys and usage. -/

/-- The tenant a slot belongs to (spec/10_obsidian_cipher.md R353). -/
def slotTenant (k : Nat) : Nat := if k < 256 then k / 4 else 0

/-- The key a slot holds in key RAM (spec/10_obsidian_cipher.md R353). -/
def State.slotKey (s : State) (k : Nat) : Option (List Nat) :=
  (s.ob.keys.find? (fun x => x.slot == k)).map (fun x => natBytes x.key)

/-- A slot a tenant may name in a host job (spec/10_obsidian_cipher.md R363). -/
def slotNamable (t k : Nat) : Bool := decide (k / 4 = t ∧ k < 256) || (t == 0 && decide (257 ≤ k ∧ k ≤ 271))

/-- Usage bits a job's operation needs (spec/10_obsidian_cipher.md R354, Table OB-2). -/
def opUsage (mode dir : Nat) : Nat :=
  if mode = 1 ∨ mode = 2 ∨ mode = 5 then (if dir = 0 then 0x10 else 0x20)
  else if mode = 3 ∨ mode = 4 then 0x40
  else if dir = 0 then 0x90 else 0xA0

/-- A slot holds a key of an enabled tenant with every bit of `need` (spec/10_obsidian_cipher.md R354). -/
def State.slotAllows (s : State) (k need : Nat) : Bool :=
  (s.slotKey k).isSome && s.enabled (slotTenant k) && (s.g F.OB_SLOT_USAGE k &&& need) == need

/-- The requester bit of an in-line port: LINE, RADIO, OPT1, OPT2 (spec/10_obsidian_cipher.md R354, R360). -/
def inlineBit (port : Nat) : Nat := if port = 0 then 1 else if port = 1 then 2 else 4

/-! The algorithms. -/

/-- A mode's result: the data and the tag it gives; none when a check of the mode fails (spec/10_obsidian_cipher.md
R351, R361). -/
def obAlg (mode dir : Nat) (key iv aad msg tag : List Nat) (m : Nat) : Option (List Nat × List Nat) :=
  if mode = 1 then some (Aes.ecb (if dir = 0 then Aes.enc key else Aes.dec key) msg, [])
  else if mode = 2 then some (Aes.ctr key iv msg, [])
  else if mode = 3 then some ([], Aes.cbcMac key iv msg)
  else if mode = 4 then some ([], Aes.cmac key msg)
  else if mode = 5 then
    if dir = 0 then some (Aes.ccmEnc key iv aad msg m) else (Aes.ccmDec key iv aad msg tag m).map (fun x => (x, []))
  else if dir = 0 then some (Aes.kwWrap key msg, [])
  else (Aes.kwUnwrap key msg).map (fun x => (x, []))

/-- Blocks of a job (spec/10_obsidian_cipher.md R361, Table OB-5). -/
def obBlocks (mode dir len alen : Nat) : Nat :=
  if mode = 1 ∨ mode = 3 then len / 16
  else if mode = 2 then ceilDiv len 16
  else if mode = 4 then 1 + max 1 (ceilDiv len 16)
  else if mode = 5 then 2 + 2 * ceilDiv len 16 + (if alen = 0 then 0 else ceilDiv (alen + 2) 16)
  else if dir = 0 then 6 * (len / 8) else 6 * (len / 8 - 1)

/-- f of R366. -/
def State.obF (s : State) : Nat := 1 + s.g F.OB_CFG_DUP 0 + s.g F.OB_CFG_INV 0

/-- Engine ticks of one padded block under a key of `n` bytes: b times f (spec/10_obsidian_cipher.md R366). -/
def State.obBlock (s : State) (n : Nat) : Nat :=
  ((Aes.rounds n + s.g F.OB_CFG_DUMMY_MAX 0) * 24 + 8) * s.obF

/-- T_REF (spec/10_obsidian_cipher.md R371). -/
def State.obTRef (s : State) : Nat := 64 + s.obBlock 32

/-! Integrity failures and the unit. -/

/-- Index of a job's context: entries 0 to 15, and one for the slot command that has the engine. -/
def jobIdx (j : Nat) : Nat := if j < 16 then j else 17

/-- The tenant of a host job; slot commands are jobs of the owner (spec/10_obsidian_cipher.md R364). -/
def State.jobTenant (s : State) (j : Nat) : Nat := if 4 ≤ j ∧ j < 16 then vget s.ob.owner j else 0

/-- A job's context. -/
def State.job (s : State) (j : Nat) : ObJob := vget s.ob.jobs (jobIdx j)

/-- The state with a job's context changed. -/
def State.modJob (s : State) (j : Nat) (f : ObJob → ObJob) : State :=
  s.modOb (fun o => { o with jobs := vmod o.jobs (jobIdx j) f })

/-- A word of a host job's data area: w0 to w9 of entry q (spec/10_obsidian_cipher.md R360, R361). -/
def obWord (q i : Nat) : Nat := 10 * (q - 4) + i

/-- Words w`a` to w9 of a data area are zeroed. -/
def State.obZero (s : State) (q a : Nat) : State :=
  (List.range 10).foldl (fun s i => if a ≤ i then s.wr 0x2C (obWord q i) 0 else s) s

/-- HELD of a tenant follows its entries (spec/10_obsidian_cipher.md R399). -/
def State.obHeld (s : State) (t : Nat) : State :=
  s.p F.OB_TENANT_HELD t
    ((List.range 12).filter (fun i => s.g F.OB_Q_STATE (i + 4) != 0 && vget s.ob.owner (i + 4) == t)).length

/-- An entry is freed and its data area zeroed (spec/10_obsidian_cipher.md R372). -/
def State.obFree (s : State) (q : Nat) : State :=
  ((s.wr 0x2B q 0).obZero q 0).obHeld (vget s.ob.owner q)

/-- A host job reaches an end: its outcome, its DONE record unless it took the refusal path; a disabled tenant's entry is
freed (spec/10_obsidian_cipher.md R371, R372, R389). -/
def State.obEnd (s : State) (q : Nat) (o : Oc) (record : Bool) : State :=
  let t := vget s.ob.owner q
  let tag := s.g F.OB_Q_TAG q
  let s := s.ps 0x2B q [(F.OB_Q_STATE, 5), (F.OB_Q_OUTCOME, o.code), (F.OB_Q_AHEAD, 0)]
  let s := s.bump F.OB_TENANT_JOBS t
  let s := if record then s.raiseDone .obs t tag o (q + 1) else s
  if s.enabled t then s else s.obFree q

/-- A host job ends ABORTED or FAULT: its output area is zeroed (spec/10_obsidian_cipher.md R369, R372). -/
def State.obStop (s : State) (q : Nat) (o : Oc) : State :=
  ((s.obZero q 1).modOb (fun x => { x with ready := x.ready.filter (· != q) })).obEnd q o true

/-- A slot command ends: its outcome and, unless it ended OK at its commit, its DONE record
(spec/10_obsidian_cipher.md R357). -/
def State.slotEnd (s : State) (c : SlotCmd) (o : Oc) : State :=
  let s := s.modOb (fun x => { x with
    cmds := x.cmds.filter (fun y => y.slot != c.slot), ready := x.ready.filter (· != 256 + c.slot) })
  let s := s.ps 0x29 c.slot [(F.OB_SLOT_PENDING, 0), (F.OB_SLOT_OUTCOME, o.code)]
  if c.quiet then s else s.raiseDone .obs 0 (0x800000 + c.slot) o 0

/-- A slot command's Sinter transaction has begun (spec/10_obsidian_cipher.md R373). -/
def State.slotBegun (s : State) (c : SlotCmd) : Bool :=
  (!c.engine && !c.store && c.persist) || s.sn.running.any (fun x => x.slot == some c.slot)

/-- Every job ends, and every slot command whose transaction has not begun ends ABORTED and starts none
(spec/10_obsidian_cipher.md R373, R386, spec/03_units_events.md R84). -/
def State.obEndAll (o : Oc) (s : State) : State :=
  let live := (List.range 12).map (· + 4)
  let s := live.foldl (fun s q =>
    let st := s.g F.OB_Q_STATE q
    if 1 ≤ st ∧ st ≤ 4 then s.obStop q o else s) s
  let inl := (List.range 4).filter (fun i => s.ob.ready.contains i || s.ob.running == some i)
  let s := inl.foldl (fun s i =>
    (s.modOb (fun x => { x with inlineRes := vset x.inlineRes i o.code, inlineOut := vset x.inlineOut i [] })).ps 0x2B i
      [(F.OB_Q_STATE, 5), (F.OB_Q_OUTCOME, o.code)]) s
  let s := s.modOb (fun x => { x with ready := [], running := none, held := none })
  let drop := s.ob.cmds.filter (fun c => !s.slotBegun c)
  drop.foldl (fun s c =>
    (s.modSn (fun x => { x with device := x.device.filter (fun y => y.slot != some c.slot) })).slotEnd c .aborted) s

/-- Key RAM is zeroed; DS0 never is (spec/10_obsidian_cipher.md R373). -/
def State.obZeroKeys (s : State) : State :=
  (s.ob.keys.foldl (fun s k =>
    s.ps 0x29 k.slot [(F.OB_SLOT_PRESENT, 0), (F.OB_SLOT_KLEN, 0), (F.OB_SLOT_USAGE, 0)]) s).modOb
      (fun x => { x with keys := [] })

/-- Every data area is zeroed (spec/10_obsidian_cipher.md R373). -/
def State.obZeroData (s : State) : State := (List.range 120).foldl (fun s i => s.wr 0x2C i 0) s

/-- OBS goes to FAULT: jobs end FAULT, key RAM is zeroed (spec/10_obsidian_cipher.md R370, R373). -/
def State.obFault (s : State) : State :=
  ((s.goFault .obs (s.sub .obs % 2) State.obEndAll).obZeroKeys)

/-- OBS comes to OFF at the end of its stop steps (spec/10_obsidian_cipher.md R373). -/
def State.obOut (s : State) : State := s.obZeroKeys.obZeroData

/-- PROV_OPEN in OB_CFG and in SUB (spec/10_obsidian_cipher.md R356, R393). -/
def State.setProv (s : State) (v : Bool) : State :=
  (s.p F.OB_CFG_PROV_OPEN 0 (b2n v)).setSub .obs (s.sub .obs / 2 * 2 + b2n v)

/-- HOST_HOLD is set (spec/10_obsidian_cipher.md R374). -/
def State.hostHold (s : State) : Bool := s.sub .obs / 2 % 2 == 1

/-- An integrity failure: counted, INTEGRITY, and the lock-out at the third within 1,000 ms
(spec/10_obsidian_cipher.md R369, R370, R393). -/
def State.obIntegrity (s : State) (kind : Nat) : State :=
  let fails := (s.ob.fails.filter (fun t => s.tick ≤ t + 1000 * msTicks)) ++ [s.tick]
  let s := (s.modOb (fun x => { x with fails := fails })).bump F.OB_CFG_FAULTS 0
  let s := s.raiseCommon .obs 2 0x10 (kind + 4 * capAt 3 fails.length)
  if 3 ≤ fails.length then (s.modOb (fun x => { x with fails := [] })).obFault.raiseCommon .obs 3 0x11 0 else s

/-! Slot commands. -/

/-- Bytes of a key length code. -/
def klenBytes (k : Nat) : Nat := 16 + 8 * k

/-- The plaintext of a key record: the key padded to 32 bytes, then 8 bytes of attributes. The order of the attributes
is the model's own (spec/10_obsidian_cipher.md R358; notes/assumptions/11.md). -/
def keyPlain (key : List Nat) (klen usage : Nat) : List Nat :=
  (key ++ List.replicate (32 - key.length) 0) ++ [klen, usage, 0, 0, 0, 0, 0, 0]

/-- The three payload words of a key record: KW-AE under DS0 (spec/10_obsidian_cipher.md R358). -/
def keyRecord (key : List Nat) (klen usage : Nat) : List Word := Aes.toWords (Aes.kwWrap ds0 (keyPlain key klen usage))

/-- A slot's content changes: KGEN advances and KEY_CHANGE is raised for its tenant (spec/10_obsidian_cipher.md R357,
R393). -/
def State.keyChange (s : State) (k cmd : Nat) : State :=
  let n := (s.g F.OB_SLOT_KGEN k + 1) % 256
  (s.p F.OB_SLOT_KGEN k n).raiseTenant .obs (slotTenant k) 1 0x12 (k + cmd * 4096 + n * 65536)

/-- A slot takes a key with its attributes. -/
def State.setKey (s : State) (k : Nat) (key : List Byte) (klen usage : Nat) (persist : Bool) : State :=
  (s.modOb (fun x => { x with keys := x.keys.filter (fun y => y.slot != k) ++ [{ slot := k, key := key }] })).ps 0x29 k
    [(F.OB_SLOT_PRESENT, 1), (F.OB_SLOT_KLEN, klen), (F.OB_SLOT_PERSIST, b2n persist), (F.OB_SLOT_USAGE, usage)]

/-- A slot is emptied. -/
def State.clearKey (s : State) (k : Nat) : State :=
  (s.modOb (fun x => { x with keys := x.keys.filter (fun y => y.slot != k) })).ps 0x29 k
    [(F.OB_SLOT_PRESENT, 0), (F.OB_SLOT_KLEN, 0), (F.OB_SLOT_PERSIST, 0), (F.OB_SLOT_USAGE, 0)]

/-- The change a completed slot command makes (spec/10_obsidian_cipher.md R357, Table OB-3). While OBS is not ON the
record stands and the key returns at its next start (R373). -/
def State.slotApply (s : State) (c : SlotCmd) : State :=
  let k := c.slot
  let s :=
    if c.cmd = 4 then s.clearKey k
    else if c.cmd = 5 then s.p F.OB_SLOT_USAGE k (s.g F.OB_SLOT_USAGE k &&& c.usage)
    else if s.isOn .obs then s.setKey k c.key c.klen c.usage c.persist
    else s.p F.OB_SLOT_PERSIST k (b2n c.persist)
  s.keyChange k c.cmd

/-- A job that names the slot is RUNNING or PREEMPTED (spec/10_obsidian_cipher.md R383). -/
def State.slotBusy (s : State) (k : Nat) : Bool :=
  (List.range 12).any (fun i =>
    (s.g F.OB_Q_STATE (i + 4) == 3 || s.g F.OB_Q_STATE (i + 4) == 4) && s.g F.OB_Q_SLOT (i + 4) == k)

/-- The store part of a slot command is queued as a device transaction (spec/10_obsidian_cipher.md R359). -/
def State.slotStore (s : State) (c : SlotCmd) : State :=
  if !c.store then s
  else if c.cmd = 4 ∨ (c.cmd ≠ 5 ∧ !c.persist) then s.snDevice 3 4 c.slot [] (some c.slot)
  else
    let usage := if c.cmd = 5 then s.g F.OB_SLOT_USAGE c.slot &&& c.usage else c.usage
    let key := if c.cmd = 5 then (s.slotKey c.slot).getD [] else natBytes c.key
    let klen := if c.cmd = 5 then s.g F.OB_SLOT_KLEN c.slot else c.klen
    s.snDevice 1 4 c.slot (keyRecord key klen usage) (some c.slot)

/-- Refusals of a slot command (spec/10_obsidian_cipher.md R357, R359). -/
def State.slotJudge (s : State) (t k : Nat) (w : Word) : Oc :=
  let cmd := F.OB_SLOT_CMD.of w
  let kek := F.OB_SLOT_KEK.of w
  let sets := decide (1 ≤ cmd ∧ cmd ≤ 3)
  let pers := F.OB_SLOT_PERS_REQ.of w == 1
  let had := s.b F.OB_SLOT_PERSIST k
  judge [
    (t != 0, .notAvailable), (k == 256, .param), (cmd == 0 || decide (6 ≤ cmd), .param),
    (F.OB_SLOT_NEWLEN.of w == 3, .param),
    (cmd == 2 && !((decide (kek ≤ 3) || decide (257 ≤ kek ∧ kek ≤ 271)) && s.slotAllows kek 0xA0), .notAvailable),
    (cmd == 5 && !s.b F.OB_SLOT_PRESENT k, .notAvailable),
    (cmd == 1 && !s.b F.OB_CFG_PROV_OPEN 0, .stateMismatch),
    (!s.isOn .obs, .notReady), (cmd == 3 && !s.rngReady && !s.rngFailed, .notReady), (cmd == 3 && s.rngFailed, .fault),
    (((sets && (pers || had)) || ((cmd == 4 || cmd == 5) && had)) && !s.snAccepts, .power),
    (s.b F.OB_SLOT_PENDING k, .busy)]

/-- OB_KEYIN is cleared (spec/10_obsidian_cipher.md R357). -/
def State.clearKeyin (s : State) : State := ((s.wr 0x2A 0 0).wr 0x2A 1 0).wr 0x2A 2 0

/-- A commit to OB_SLOT: a slot command (spec/10_obsidian_cipher.md R357 to R359, R383). -/
def State.slotCommit (s : State) (t k : Nat) (w : Word) : Oc × State :=
  let o := s.slotJudge t k w
  let cmd := F.OB_SLOT_CMD.of w
  let isCmd := t == 0 && decide (1 ≤ cmd ∧ cmd ≤ 5)
  if o ≠ .ok then (o, if isCmd then s.clearKeyin else s)
  else
    let sets := decide (1 ≤ cmd ∧ cmd ≤ 3)
    let pers := F.OB_SLOT_PERS_REQ.of w == 1
    let had := s.b F.OB_SLOT_PERSIST k
    let klen := F.OB_SLOT_NEWLEN.of w
    let kin := Aes.ofWords [s.rd 0x2A 0, s.rd 0x2A 1, s.rd 0x2A 2]
    let c : SlotCmd := {
      slot := k, cmd := cmd, usage := F.OB_SLOT_USAGE.of w, klen := klen, kek := F.OB_SLOT_KEK.of w,
      key := if cmd = 1 then ofNatBytes (kin.take (klenBytes klen)) else [],
      blob := if cmd = 2 then ofNatBytes (kin.take (klenBytes klen + 8)) else [],
      persist := (sets && pers) || (cmd == 5 && had),
      engine := cmd == 2 || cmd == 3 || (cmd == 1 && pers) || (cmd == 5 && had),
      store := (sets && (pers || had)) || ((cmd == 4 || cmd == 5) && had) }
    let s := s.clearKeyin
    if !c.engine && !c.store then
      if s.slotBusy k then
        (.ok, (s.p F.OB_SLOT_PENDING k 1).modOb (fun x => { x with cmds := x.cmds ++ [{ c with quiet := true }] }))
      else (.ok, (s.slotApply c).p F.OB_SLOT_OUTCOME k 0)
    else
      let s := (s.ps 0x29 k [(F.OB_SLOT_PENDING, 1), (F.OB_SLOT_OUTCOME, Oc.deferred.code)]).modOb
        (fun x => { x with cmds := x.cmds ++ [c], ready := if c.engine then x.ready ++ [256 + k] else x.ready })
      (.deferred, if c.engine then s else s.slotStore c)

/-- The engine part of a slot command: KW-AD of the blob, or a fresh key from the DRBG
(spec/10_obsidian_cipher.md R357, R358, R384). -/
def State.slotEngine (s : State) (c : SlotCmd) : State :=
  let put (c : SlotCmd) (s : State) : State :=
    s.modOb (fun x => { x with cmds := x.cmds.map (fun y => if y.slot = c.slot then c else y) })
  if c.cmd = 2 then
    match s.slotKey c.kek with
    | none => put { c with engine := false, store := false, result := Oc.notAvailable.code } s
    | some kek =>
      match Aes.kwUnwrap kek (natBytes c.blob) with
      | none => put { c with engine := false, store := false, result := Oc.badFrame.code } s
      | some key => let c := { c with engine := false, key := ofNatBytes key }; (put c s).slotStore c
  else if c.cmd = 3 then
    if s.rngReady then
      let a := s.drbgGen
      let b := a.2.drbgGen
      let c := { c with engine := false, key := ofNatBytes ((Aes.ofWords [a.1, b.1]).take (klenBytes c.klen)) }
      (put c b.2).slotStore c
    else put { c with engine := false, store := false, result := Oc.fault.code } s
  else let c := { c with engine := false }; (put c s).slotStore c

/-- Engine ticks of a slot command (spec/10_obsidian_cipher.md R358, R366). -/
def State.slotTicks (s : State) (c : SlotCmd) : Nat :=
  let own :=
    if c.cmd = 2 then 6 * (klenBytes c.klen / 8) * s.obBlock ((s.slotKey c.kek).getD []).length
    else if c.cmd = 3 then s.obBlock (klenBytes c.klen)
    else 0
  64 + own + (if c.store && c.persist then 30 * s.obBlock 32 else 0)

/-! Choosing, running, ending. -/

/-- The job the engine takes next (spec/10_obsidian_cipher.md R364, R374). -/
def State.obPick (s : State) : Option Nat :=
  match [0, 2, 3, 1].find? (fun i => s.ob.ready.contains i) with
  | some i => some i
  | none =>
    if s.hostHold then none
    else
      match s.ob.held with
      | some j => some j
      | none =>
        let host := s.ob.ready.filter (fun j => decide (4 ≤ j))
        let turn (j : Nat) : Nat := (s.jobTenant j + 127 - s.ob.rr) % 64
        host.foldl (fun a j =>
          match a with
          | none => some j
          | some b => if turn j < turn b then some j else a) none

/-- The in-line job's check and the result its port learns (spec/10_obsidian_cipher.md R660). -/
def State.obInline (s : State) (port : Nat) (x : Inline) : Oc × List Nat :=
  if !s.isOn .obs then (.notReady, [])
  else if !s.slotAllows x.slot (inlineBit port + opUsage x.mode x.dir) then (.notAvailable, [])
  else
    match obAlg x.mode x.dir ((s.slotKey x.slot).getD []) (natBytes x.nonce) (natBytes x.aad) (natBytes x.msg)
      (natBytes x.tag) x.m with
    | none => (.badFrame, [])
    | some r => (.ok, r.1 ++ r.2)

/-- The context of a job that runs: its key and its fixed time (spec/10_obsidian_cipher.md R366, R383). -/
def State.obRun (s : State) (key : List Nat) (l : Nat) : ObJob where
  phase := 1
  total := l
  left := l
  start := s.tick
  block := s.obBlock key.length
  keyLen := key.length
  key := ofNatBytes key

/-- The context of a job on the refusal path (spec/10_obsidian_cipher.md R371). -/
def State.obRefused (s : State) : ObJob where
  phase := 2
  total := s.obTRef
  left := s.obTRef
  start := s.tick
  block := s.obBlock 32

/-- A job first chosen: its check, its key and its fixed time (spec/10_obsidian_cipher.md R363, R366, R371, R388). -/
def State.obFirst (s : State) (j : Nat) : State :=
  let s := s.cmDraw
  let ok (key : List Nat) (l : Nat) (s : State) : State := s.modJob j (fun _ => s.obRun key l)
  let no (s : State) : State := s.modJob j (fun _ => s.obRefused)
  if 256 ≤ j then
    match s.ob.cmds.find? (fun c => c.slot + 256 == j) with
    | none => no s
    | some c => ok (if c.cmd = 2 then (s.slotKey c.kek).getD [] else List.replicate (klenBytes c.klen) 0) (s.slotTicks c) s
  else if j < 4 then
    let x := vget s.ob.inl j
    if s.slotAllows x.slot (inlineBit j + opUsage x.mode x.dir) then
      let key := (s.slotKey x.slot).getD []
      ok key (64 + obBlocks x.mode x.dir x.msg.length x.aad.length * s.obBlock key.length) s
    else no s
  else
    let mode := s.g F.OB_Q_MODE j
    let dir := s.g F.OB_Q_DIR j
    let slot := s.g F.OB_Q_SLOT j
    if slotNamable (s.jobTenant j) slot && s.slotAllows slot (8 + opUsage mode dir) then
      let key := (s.slotKey slot).getD []
      ok key (64 + obBlocks mode dir (s.g F.OB_Q_LEN j) (s.g F.OB_Q_ALEN j) * s.obBlock key.length) s
    else no s

/-- The idle engine takes the next job (spec/10_obsidian_cipher.md R364). -/
def State.obChoose (s : State) : State :=
  if s.isOn .obs && s.ob.running.isNone then
    match s.obPick with
    | none => s
    | some j =>
      let again := s.ob.held == some j
      let s := s.modOb (fun o => { o with
        ready := o.ready.filter (· != j), running := some j,
        held := if again then none else o.held, rr := if 4 ≤ j ∧ !again then s.jobTenant j else o.rr })
      let s := if again then s.modJob j (fun x => { x with start := s.tick }) else s.obFirst j
      if j < 16 then s.ps 0x2B j [(F.OB_Q_STATE, 3), (F.OB_Q_AHEAD, 0)] else s
  else s

/-- The engine tick at which a running job meets its next block boundary; none when it has none left
(spec/10_obsidian_cipher.md R366). -/
def State.obBoundary (s : State) (j : Nat) : Option Nat :=
  let x := s.job j
  let done := x.total - x.left + (s.tick - x.start)
  let k := if done < 64 + x.block then 1 else ceilDiv (done - 64) x.block
  if x.block = 0 ∨ x.total ≤ 64 + k * x.block then none
  else some (x.start + (64 + k * x.block - (x.total - x.left)))

/-- What a host job's result leaves in its data area (spec/10_obsidian_cipher.md R361). -/
def State.obWrite (s : State) (q mode dir : Nat) (out tag : List Nat) : State :=
  let s :=
    if mode = 3 ∨ mode = 4 then s
    else (List.range 7).foldl (fun s i => s.wr 0x2C (obWord q (i + 2)) (Aes.toWord ((out.drop (16 * i)).take 16))) s
  if mode = 3 ∨ mode = 4 ∨ (mode = 5 ∧ dir = 0) then s.wr 0x2C (obWord q 9) (Aes.toWord tag)
  else if mode = 5 then s
  else s.wr 0x2C (obWord q 9) 0

/-- A host job's computation from its data area (spec/10_obsidian_cipher.md R361). -/
def State.obCompute (s : State) (q : Nat) : Option (List Nat × List Nat) :=
  let len := s.g F.OB_Q_LEN q
  let data := (Aes.ofWords ((List.range 7).map (fun i => s.rd 0x2C (obWord q (i + 2))))).take len
  obAlg (s.g F.OB_Q_MODE q) (s.g F.OB_Q_DIR q) (natBytes (s.job q).key) (Aes.ofWord (s.rd 0x2C (obWord q 0)))
    ((Aes.ofWord (s.rd 0x2C (obWord q 1))).take (s.g F.OB_Q_ALEN q)) data (Aes.ofWord (s.rd 0x2C (obWord q 9)))
    (2 * (s.g F.OB_Q_MCODE q + 1))

/-- Slot commands that waited for a job to end take effect (spec/10_obsidian_cipher.md R383). -/
def State.obQuiet (s : State) : State :=
  (s.ob.cmds.filter (fun c => c.quiet && !s.slotBusy c.slot)).foldl (fun s c => (s.slotApply c).slotEnd c .ok) s

/-- The running job ends at its time; `fault` is the integrity check that failed, 0 for none
(spec/10_obsidian_cipher.md R361, R366, R369, R371, R372). -/
def State.obFinish (s : State) (fault : Nat) : State :=
  match s.ob.running with
  | none => s
  | some j =>
    let x := s.job j
    let cut := if x.abort then s.obBoundary j else none
    let s := s.advanceTo (cut.getD (x.start + x.left))
    let s := s.modOb (fun o => { o with running := none })
    let s := if j < 16 then s.p F.OB_Q_TICKS j (x.total - x.left + (s.tick - x.start)) else s
    let s :=
      if 256 ≤ j then
        match s.ob.cmds.find? (fun c => c.slot + 256 == j) with
        | none => s
        | some c => if fault = 0 then s.slotEngine c else s.slotEnd c .fault
      else if j < 4 then
        let r : Oc × List Nat :=
          if x.phase = 2 then (.notAvailable, []) else if fault ≠ 0 then (.fault, []) else s.obInline j (vget s.ob.inl j)
        (s.modOb (fun o => { o with
          inlineRes := vset o.inlineRes j r.1.code, inlineOut := vset o.inlineOut j (ofNatBytes r.2) })).ps 0x2B j
            [(F.OB_Q_STATE, 5), (F.OB_Q_OUTCOME, r.1.code)]
      else if x.abort then s.obStop j .aborted
      else if x.phase = 2 then (s.obZero j 0).obEnd j .notAvailable false
      else if fault ≠ 0 then s.obStop j .fault
      else
        match s.obCompute j with
        | none => (s.obZero j 1).obEnd j .badFrame true
        | some r => (s.obWrite j (s.g F.OB_Q_MODE j) (s.g F.OB_Q_DIR j) r.1 r.2).obEnd j .ok true
    let s := s.obQuiet
    if fault ≠ 0 ∧ x.phase ≠ 2 ∧ !x.abort then s.obIntegrity fault else s

/-! Host commits. -/

/-- The legal lengths of a mode (spec/10_obsidian_cipher.md R361, Table OB-5). -/
def obLenOk (mode dir len : Nat) : Bool :=
  if mode = 1 ∨ mode = 3 then decide (16 ≤ len ∧ len ≤ 112 ∧ len % 16 = 0)
  else if mode = 2 then decide (1 ≤ len ∧ len ≤ 112)
  else if mode = 4 ∨ mode = 5 then decide (len ≤ 112)
  else if dir = 0 then decide (16 ≤ len ∧ len ≤ 104 ∧ len % 8 = 0)
  else decide (24 ≤ len ∧ len ≤ 112 ∧ len % 8 = 0)

/-- Entries a tenant holds. -/
def State.obCount (s : State) (t : Nat) : Nat :=
  ((List.range 12).filter (fun i => s.g F.OB_Q_STATE (i + 4) != 0 && vget s.ob.owner (i + 4) == t)).length

/-- A free host entry. -/
def State.obFreeEntry (s : State) : Option Nat := ((List.range 12).map (· + 4)).find? (fun q => s.g F.OB_Q_STATE q == 0)

/-- Refusals of a placing commit (spec/10_obsidian_cipher.md R360, R362, R374). -/
def State.obPlaceJudge (s : State) (t : Nat) (w : Word) : Oc :=
  let mode := F.OB_Q_MODE.of w
  let dir := F.OB_Q_DIR.of w
  let alen := F.OB_Q_ALEN.of w
  let m := F.OB_Q_MCODE.of w
  judge [
    (mode == 0 || decide (7 ≤ mode), .param), (dir == 1 && (mode == 3 || mode == 4), .param),
    (!obLenOk mode dir (F.OB_Q_LEN.of w), .param),
    (decide (16 < alen) || (mode != 5 && alen != 0), .param), ((mode == 5) == (m == 0), .param),
    (decide (271 < F.OB_Q_SLOT.of w), .param), (mode == 1 && t != 0, .param), (F.OB_Q_CMD.of w != 0, .param),
    (!s.isOn .obs || s.hostHold, .notReady),
    (s.obFreeEntry.isNone || decide (s.g F.OB_TENANT_QLIM t ≤ s.obCount t), .queueFull)]

/-- A placing commit (spec/10_obsidian_cipher.md R360); what the submitter reads in entry 16 is kept under entry
0x800 + t. -/
def State.obPlace (s : State) (t : Nat) (w : Word) : Oc × State :=
  let o := s.obPlaceJudge t w
  match s.obFreeEntry with
  | none => (if o = .ok then .queueFull else o, s)
  | some q =>
    if o = .ok then
      let w := [(F.OB_Q_CMD, 0), (F.OB_Q_OUTCOME, 0), (F.OB_Q_STATE, 1), (F.OB_Q_AHEAD, 0), (F.OB_Q_QIDX, 0),
        (F.OB_Q_TICKS, 0)].foldl (fun w x => x.1.into x.2 w) (s.merged 0x2B 16 w)
      let s := (s.wr 0x2B q w).wr 0x2B (0x800 + t) (F.OB_Q_QIDX.into q (F.OB_Q_STATE.into 0 w))
      (.ok, (s.modOb (fun x => { x with owner := vset x.owner q t })).obHeld t)
    else (o, s)

/-- GO on a FILLING entry (spec/10_obsidian_cipher.md R360). -/
def State.obGo (s : State) (t q : Nat) : Oc × State :=
  let ahead := (s.ob.ready.filter (fun j => decide (4 ≤ j ∧ j < 16) && vget s.ob.owner j == t)).length
  let idle := s.ob.running.isNone && s.ob.held.isNone && s.ob.ready.isEmpty && !s.hostHold
  let s := (s.modOb (fun x => { x with ready := x.ready ++ [q] })).ps 0x2B q
    [(F.OB_Q_STATE, 2), (F.OB_Q_AHEAD, ahead), (F.OB_Q_OUTCOME, if idle then 0 else Oc.deferred.code)]
  if idle then (.ok, s.obChoose) else (.deferred, s)

/-- A CMD commit to a host entry: 1 abort, 2 release, 3 GO (spec/10_obsidian_cipher.md R360, R372, R385). -/
def State.obCmd (s : State) (t q cmd : Nat) : Oc × State :=
  let st := s.g F.OB_Q_STATE q
  if cmd = 0 then (.ok, s)
  else if q < 4 ∨ (st ≠ 0 ∧ vget s.ob.owner q ≠ t) then (.notAvailable, s)
  else if cmd = 2 then (if st = 5 then (.ok, s.obFree q) else (.stateMismatch, s))
  else if cmd = 3 then (if st = 1 then s.obGo t q else (.stateMismatch, s))
  else if st = 0 then (.notAvailable, s)
  else if st = 1 ∨ st = 2 then (.ok, s.obStop q .aborted)
  else if st = 4 then (.ok, (s.modOb (fun x => { x with held := none })).obStop q .aborted)
  else if st = 3 then (.ok, s.modJob q (fun x => { x with abort := true }))
  else
    match s.abortCase .obs (q + 1) with
    | .gone => (.notAvailable, s)
    | _ => (.tooLate, s)

/-- A commit to OB_Q (spec/10_obsidian_cipher.md R360, R372, R397). -/
def State.obCommitQ (s : State) (t e : Nat) (w : Word) : Oc × State :=
  if e = 16 then s.obPlace t w
  else if e < 4 then (if t = 0 then (.ok, s) else (.notAvailable, s))
  else s.obCmd t e (F.OB_Q_CMD.of w)

/-- A commit to a job's data area (spec/10_obsidian_cipher.md R361). -/
def State.obCommitData (s : State) (e : Nat) (w : Word) : Oc × State :=
  if s.g F.OB_Q_STATE (e / 10 + 4) = 1 then (.ok, s.wr 0x2C e w) else (.stateMismatch, s)

/-- A commit to OB_CFG; T_REF follows (spec/10_obsidian_cipher.md R388, R394). -/
def State.obCommitCfg (s : State) (w : Word) : Oc × State :=
  let s := s.wr 0x28 0 (s.merged 0x28 0 w)
  (.ok, s.p F.OB_CFG_T_REF 0 s.obTRef)

/-- A commit to OB_TENANT (spec/10_obsidian_cipher.md R399). -/
def State.obCommitTenant (s : State) (t e : Nat) (w : Word) : Oc × State :=
  let q := F.OB_TENANT_QLIM.of w
  if t ≠ 0 then (.notAvailable, s)
  else if q = 0 ∨ 12 < q then (.param, s)
  else (.ok, s.wr 0x2D e (s.merged 0x2D e w))

/-- A disabled tenant's jobs end and its entries are freed (spec/10_obsidian_cipher.md R389). -/
def State.obDisable (s : State) (t : Nat) : State :=
  ((List.range 12).map (· + 4)).foldl (fun s q =>
    let st := s.g F.OB_Q_STATE q
    if st = 0 ∨ vget s.ob.owner q ≠ t then s
    else if st = 3 then s.modJob q (fun x => { x with abort := true })
    else if st = 5 then s.obFree q
    else ((s.modOb (fun x => { x with held := if x.held = some q then none else x.held })).obStop q .aborted).obFree q) s

/-! Unit. -/

/-- A key record's slot is loaded at start, or KEY_LOST is raised (spec/10_obsidian_cipher.md R373). -/
def State.obReload (s : State) (r : SnRec) : State :=
  let blob := Aes.ofWords ((snPayload s.nv r.pos r.len).getD [])
  match Aes.kwUnwrap ds0 (blob.take 48) with
  | some p =>
    let klen := p.getD 32 0 % 4
    s.setKey r.key (ofNatBytes (p.take (klenBytes klen))) klen (p.getD 33 0) true
  | none => (s.clearKey r.key).raiseTenant .obs (slotTenant r.key) 2 0x13 r.key

/-- The start steps of OBS: the known-answer test `kat`, then the reload of every persisted slot
(spec/10_obsidian_cipher.md R373). -/
def State.obStart (s : State) (kat : Bool) : State :=
  if kat then
    let s := ((snLive (snRecs s.nv)).filter (fun r => r.rtype == 4)).foldl State.obReload s
    (s.goOn .obs (s.g F.OB_CFG_PROV_OPEN 0)).modOb (fun x => { x with fails := [] })
  else s.obFault

/-- HOST_HOLD is set or cleared by FORCE (spec/10_obsidian_cipher.md R374). -/
def State.obForce (s : State) (arg : Nat) : State :=
  s.changeMirror .obs (fun m => { m with forced := false, pend := none, held := arg, sub := m.sub % 2 + 2 * arg })

/-- ZEROIZE (spec/10_obsidian_cipher.md R374, R387). -/
def State.obZeroize (s : State) : State :=
  let s := s.obEndAll .aborted
  let live := (snLive (snRecs s.nv)).filter (fun r => r.rtype == 4)
  let slots := (List.range 272).filter (fun k =>
    k != 256 && (s.b F.OB_SLOT_PRESENT k || s.b F.OB_SLOT_PERSIST k || live.any (fun r => r.key == k)))
  let recs := (live.map (·.key)) ++ ((s.sn.running.toList.filter (fun x => x.slot.isSome)).map (·.key))
  let s := recs.foldl (fun s k => s.snDevice 3 4 k [] none) s
  let s := (s.snFind 6 0 0).elim s (fun _ => s.snDevice 3 6 0 [] none)
  let s := slots.foldl (fun s k => (s.clearKey k).keyChange k 4) s
  (s.obZeroKeys.setProv true).raiseCommon .obs 2 0x14 2

/-- Unit commands of OBS (spec/10_obsidian_cipher.md R374, Table OB-7). -/
def State.obUnitCmd (s : State) (cmd arg : Nat) : Oc × State :=
  if cmd = 8 then
    let o := judge [(!s.isOn .obs || !s.b F.OB_CFG_PROV_OPEN 0, .stateMismatch), (!s.snAccepts, .power)]
    if o = .ok then (.ok, ((s.setProv false).snDevice 1 6 0 [0] none).raiseCommon .obs 2 0x14 1) else (o, s)
  else if cmd = 9 then
    let o := judge [(arg != 0xA5, .param), (!s.snAccepts, .power)]
    if o = .ok then (.ok, s.obZeroize) else (o, s)
  else (.param, s)

/-! The commands. -/

/-- SLOT_CMD_DONE: a deferred slot command whose engine and store parts are done completes (spec/10_obsidian_cipher.md
R357, R373). -/
def execSlotCmdDone (slot : Nat) (s : State) : Host.Outcome State Fault Refusal :=
  match s.ob.cmds.find? (fun c => c.slot == slot) with
  | none => .next s
  | some c =>
    if c.engine || c.store || c.quiet then .next s
    else if c.result = 0 then .next ((s.slotApply c).slotEnd c .ok)
    else .next (s.slotEnd c (if c.result = Oc.badFrame.code then .badFrame else if c.result = Oc.fault.code then .fault else .notAvailable))

/-- OB_JOB_CHOOSE (spec/10_obsidian_cipher.md R363, R364). -/
def execObJobChoose (s : State) : Host.Outcome State Fault Refusal := .next s.obChoose

/-- OB_INLINE_JOB: a port presents an in-line job; port 0 is LINE, 1 RADIO, 2 OPT1, 3 OPT2 (spec/10_obsidian_cipher.md
R360, R365, R660). -/
def execObInlineJob (port : Fin 4) (x : Inline) (s : State) : Host.Outcome State Fault Refusal :=
  let s := s.modOb (fun o => { o with inl := vset o.inl port x })
  if s.isOn .obs then
    let s := s.ps 0x2B port [(F.OB_Q_MODE, x.mode), (F.OB_Q_DIR, x.dir), (F.OB_Q_SLOT, x.slot),
      (F.OB_Q_LEN, capAt 127 x.msg.length), (F.OB_Q_ALEN, capAt 31 x.aad.length), (F.OB_Q_STATE, 2), (F.OB_Q_OUTCOME, 0)]
    .next (s.modOb (fun o => { o with ready := o.ready.filter (· != port.val) ++ [port.val] })).obChoose
  else
    .next ((s.modOb (fun o => { o with
      inlineRes := vset o.inlineRes port Oc.notReady.code, inlineOut := vset o.inlineOut port [] })).ps 0x2B port
        [(F.OB_Q_STATE, 5), (F.OB_Q_OUTCOME, Oc.notReady.code)])

/-- OB_PREEMPT: a waiting in-line job, or HOST_HOLD, stops the running host job at its next block boundary
(spec/10_obsidian_cipher.md R364, R374). -/
def execObPreempt (s : State) : Host.Outcome State Fault Refusal :=
  match s.ob.running with
  | none => .next s
  | some j =>
    let waits := [0, 1, 2, 3].any (fun i => s.ob.ready.contains i) || s.hostHold
    match s.obBoundary j with
    | none => .next s
    | some t =>
      if 4 ≤ j ∧ waits then
        let s := s.advanceTo t
        let s := s.modJob j (fun x => { x with left := x.left - (s.tick - x.start) })
        let s := s.modOb (fun o => { o with running := none, held := some j })
        .next (if j < 16 then s.p F.OB_Q_STATE j 4 else s)
      else .next s

/-- OB_JOB_DONE: the running job ends; `fault` 1 DUP, 2 INV, 3 parity names an integrity check that failed
(spec/10_obsidian_cipher.md R366, R368, R369). -/
def execObJobDone (fault : Fin 4) (s : State) : Host.Outcome State Fault Refusal := .next (s.obFinish fault)

end Sys2Proof.Machine
end

