-- ==== Sys2Proof/Machine/LineFrames.lean ====
section
/-! DEFINITION. Line frames: headers, payload sections, the slots a frame takes, couplers, acknowledgement symbols
(spec/06_line_access.md R194 to R211). -/

namespace Sys2Proof.Machine

open Sys2Proof

/-! Headers. -/

/-- DOMTAG of a domain ID (spec/06_line_access.md R194). -/
def domTag (d : Nat) : Nat := (d / 4096 % 16) ^^^ (d / 256 % 16) ^^^ (d / 16 % 16) ^^^ (d % 16)

/-- CRC-8, polynomial 0x07, initial value 0x00 (spec/06_line_access.md R194). -/
def crc8 (bits : List Bool) : Nat := bits.foldl (crcStep 8 0x07) 0

/-- A field of a header. -/
def hdrBits (h : BitVec 48) (lo w : Nat) : Nat := (h.toNat >>> lo) % 2 ^ w

def hdrTag (h : BitVec 48) : Nat := hdrBits h 44 4
def hdrDst (h : BitVec 48) : Nat := hdrBits h 36 8
def hdrSrc (h : BitVec 48) : Nat := hdrBits h 28 8
def hdrTenant (h : BitVec 48) : Nat := hdrBits h 22 6
def hdrClass (h : BitVec 48) : Nat := hdrBits h 20 2
def hdrTiers (h : BitVec 48) : Nat := hdrBits h 18 2
def hdrMapsel (h : BitVec 48) : Bool := h.getLsbD 17
def hdrLen (h : BitVec 48) : Nat := hdrBits h 14 3
def hdrSeq (h : BitVec 48) : Nat := hdrBits h 10 4
def hdrAckreq (h : BitVec 48) : Bool := h.getLsbD 9
def hdrSecure (h : BitVec 48) : Bool := h.getLsbD 8

/-- HCRC verifies (spec/06_line_access.md R194). -/
def hdrCrcOk (h : BitVec 48) : Bool := crc8 (bitsBE (h.toNat / 256) 40) == h.toNat % 256

/-- A header is illegal (spec/06_line_access.md R195). -/
def hdrIllegal (h : BitVec 48) : Bool :=
  hdrDst h == 0 || hdrSrc h == 0 || hdrSrc h == 255 || (hdrDst h == 255 && hdrAckreq h)
    || (decide (0 < hdrTiers h) && hdrMapsel h)

/-- The header of a frame, HCRC included (spec/06_line_access.md R194). -/
def mkHeader (tag dst src tenant cls tiers : Nat) (mapsel : Bool) (len seq : Nat) (ackreq secure : Bool) : BitVec 48 :=
  let n := tag * 2 ^ 36 + dst * 2 ^ 28 + src * 2 ^ 20 + tenant * 2 ^ 14 + cls * 2 ^ 12 + tiers * 2 ^ 10
    + b2n mapsel * 2 ^ 9 + len * 2 ^ 6 + seq * 4 + b2n ackreq * 2 + b2n secure
  BitVec.ofNat 48 (n * 256 + crc8 (bitsBE n 40))

/-! Payload sections. -/

/-- B: the information bits of a payload section (spec/06_line_access.md R196). -/
def sectionBits (len : Nat) (secure : Bool) : Nat := 8 + 128 * (len + 1) + 16 + (if secure then 96 else 0)

/-- A section with its PCRC (spec/06_line_access.md R196). -/
def withCrc (bits : List Bool) : List Bool := bits ++ bitsBE (crc16 bits) 16

/-- The section of a frame sent in clear (spec/06_line_access.md R196). -/
def clearSection (ftype : Nat) (words : List Word) : List Bool :=
  withCrc (bitsBE ftype 8 ++ words.flatMap (fun w => bitsBE w.toNat 128))

/-- The nonce of a SECURE payload (spec/06_line_access.md R198). -/
def lineNonce (domain : Nat) (h : BitVec 48) (ftype fc : Nat) : List Byte :=
  [domain / 256, domain, hdrSrc h, hdrDst h, hdrClass h * 64 + hdrTenant h, ftype,
   fc / 2 ^ 24, fc / 2 ^ 16, fc / 256, fc, 0, 0, 0].map (BitVec.ofNat 8)

/-- The associated data of a SECURE payload: header bits [47:8] (spec/06_line_access.md R198). -/
def lineAad (h : BitVec 48) : List Byte := [5, 4, 3, 2, 1].map (fun i => h.extractLsb' (8 * i) 8)

/-- Bytes as bits, most significant bit first. -/
def bitsOfBytes (l : List Nat) : List Bool := l.flatMap (fun b => bitsBE b 8)

/-- Whole bytes of a list of bits, most significant bit first. -/
def bytesOfBits (l : List Bool) : List Nat := (chunksOf 8 l.length l).map ofBitsBE

/-- A word of 16 bytes, byte 15 first. -/
def wordDown (l : List Nat) : Word := Word.ofBytes ((l.map (BitVec.ofNat 8)).reverse)

/-- Words from bytes, each from byte 15 down to byte 0 (spec/06_line_access.md R196, R198). -/
def wordsDown (l : List Nat) : List Word := (chunksOf 16 l.length l).map wordDown

/-- The section of a SECURE frame, or the in-line job's outcome (spec/06_line_access.md R198,
spec/10_obsidian_cipher.md R660). -/
def State.secureSection (s : State) (h : BitVec 48) (fc : Nat) (words : List Word) : Oc × List Bool :=
  let slot := 4 * hdrTenant h + s.g F.LA_TENANT_LKEY (hdrTenant h)
  let r := s.obInline 0 { mode := 5, dir := 0, slot := slot, m := 8, nonce := lineNonce (s.lac F.LA_CFG_DOMAIN_ID) h 0 fc,
                          aad := lineAad h, msg := bytesDown words, tag := [] }
  (r.1, withCrc (bitsBE 0 8 ++ bitsBE fc 32 ++ bitsOfBytes r.2))

/-- A received SECURE section is opened (spec/06_line_access.md R198). -/
def State.openSection (s : State) (h : BitVec 48) (ftype fc : Nat) (cipher mic : List Nat) : Oc × List Word :=
  let slot := 4 * hdrTenant h + s.g F.LA_TENANT_LKEY (hdrTenant h)
  let r := s.obInline 0 { mode := 5, dir := 1, slot := slot, m := 8,
                          nonce := lineNonce (s.lac F.LA_CFG_DOMAIN_ID) h ftype fc,
                          aad := lineAad h, msg := ofNatBytes cipher, tag := ofNatBytes mic }
  (r.1, wordsDown r.2)

/-! Slots. -/

/-- Slots walked at most for one section. -/
def lineFuel : Nat := 262144

/-- The map byte at a position of a frame: origin half-cycle `pos / 16` lies `T + 1` half-cycles after the one before
(spec/06_line_access.md R205). -/
def frameByte (m0 m1 : Word) (h tiers pos : Nat) : Nat :=
  mapAt m0 m1 ((h + pos / 16 * (tiers + 1)) % 2 * 16 + pos % 16)

/-- The header's carriers and the position after its last slot (spec/05_line_signal.md R168, R171). -/
def headerCarriers (c0 c1 : Word) (h tiers : Nat) : List Carr × Nat :=
  carriers (fun p => headerByte (frameByte c0 c1 h tiers p)) 108 lineFuel 0 []

/-- The payload's carriers, after the header's (spec/05_line_signal.md R171). -/
def payloadCarriers (p0 p1 : Word) (h tiers start bits : Nat) : List Carr × Nat :=
  carriers (frameByte p0 p1 h tiers) (2 * (bits + 6)) lineFuel start []

/-- K: origin half-cycles of a frame (spec/06_line_access.md R205). -/
def frameK (c0 c1 p0 p1 : Word) (h tiers bits : Nat) : Nat :=
  ((payloadCarriers p0 p1 h tiers (headerCarriers c0 c1 h tiers).2 bits).2 - 1) / 16 + 1

/-- Half-cycles for which a frame of K origin half-cycles is in progress (spec/06_line_access.md R205). -/
def frameSpan (k tiers : Nat) : Nat := (k + 1) * (tiers + 1)

/-- A frame's span on the common map: the longer of the two, by the half of the cycle in which it begins
(spec/06_line_access.md R218, R219; notes/assumptions/20.md). -/
def State.commonSpan (s : State) (tiers len : Nat) (secure : Bool) : Nat :=
  let k (h : Nat) : Nat :=
    frameK (s.rd 0x12 0) (s.rd 0x12 1) (s.rd 0x12 0) (s.rd 0x12 1) h tiers (sectionBits len secure)
  frameSpan (max (k 0) (k 1)) tiers

/-- The half-cycle after a frame's last one (spec/06_line_access.md R205). -/
def LineFrame.over (f : LineFrame) : Nat := f.h + frameSpan f.k (hdrTiers f.header)

/-- A: the first acknowledgement half-cycle (spec/06_line_access.md R205). -/
def LineFrame.ackAt (f : LineFrame) : Nat := f.h + f.k * (hdrTiers f.header + 1)

/-- What a frame sends: position and grid indices, header and payload (spec/05_line_signal.md R165, R171, R172). -/
def State.frameSymbols (s : State) (f : LineFrame) : List (Nat × List Nat) :=
  let t := hdrTiers f.header
  let hd := headerCarriers f.cmap0 f.cmap1 f.h t
  let pl := payloadCarriers f.map0 f.map1 f.h t hd.2 (f.payload.length)
  s.sectionSymbols hd.1 (convEncode (bitsBE f.header.toNat 48)) ++ s.sectionSymbols pl.1 (convEncode f.payload)

/-- The tone set of a position of a frame sent on the common map (spec/06_line_access.md R209). -/
def setAt (f : LineFrame) (pos : Nat) : Option Nat :=
  let t := hdrTiers f.header
  let hd := headerCarriers f.cmap0 f.cmap1 f.h t
  let pl := payloadCarriers f.cmap0 f.cmap1 f.h t hd.2 (sectionBits (hdrLen f.header) (hdrSecure f.header))
  ((hd.1 ++ pl.1).find? (fun c => c.slots.contains pos)).map (fun c => (c.base + c.slots.idxOf pos) % 16)

/-! Couplers. -/

/-- The coupler selection toward an address, 255 for broadcasts (spec/05_line_signal.md R179). -/
def State.couplers (s : State) (dst : Nat) : Nat :=
  match s.g F.LS_CFG_TXMODE 0 with
  | 0 => 2 ^ (s.g F.LS_CFG_TXPHASE 0 - 1)
  | 1 => 7
  | _ =>
    match (if dst = 255 then none else s.nbrOf dst) with
    | none => 7
    | some n => if s.g F.LA_NBR_PHASE n = 0 then 7 else 2 ^ (s.g F.LA_NBR_PHASE n - 1)

/-! Acknowledgements. -/

/-- An acknowledgement's 9 bits (spec/06_line_access.md R207). -/
def ackBits (seq code : Nat) : Nat :=
  let x := seq % 16 * 32 + code % 8 * 4
  let b (i : Nat) : Bool := x.testBit i
  x + b2n (xor (xor (b 8) (b 6)) (xor (b 4) (b 2))) * 2 + b2n (xor (xor (b 7) (b 5)) (b 3))

/-- The code of a received acknowledgement, none on a check failure, another SEQ or CODE 5 to 7
(spec/06_line_access.md R207). -/
def ackCode (seq : Nat) (a : BitVec 9) : Option Nat :=
  let c := a.toNat / 4 % 8
  if a.toNat = ackBits seq c ∧ c ≤ 4 then some c else none

/-- The symbols of an acknowledgement in half-cycle `x` (spec/06_line_access.md R207). -/
def State.ackSymbols (s : State) (c0 c1 : Word) (x bits : Nat) : List TxSlot :=
  let slots := (List.range 16).filter (fun i => decide (2 ≤ i) && mapClass (mapAt c0 c1 (x % 2 * 16 + i)) != 0)
  let b := mapAt c0 c1 (x % 2 * 16 + slots.headD 0) % 16
  ((List.range slots.length).zip slots).map (fun y =>
    { slot := y.2, dither := 0,
      tones := [wbyte (s.rd 0x11 ((b + y.1 % 6) % 16)) (2 * (bits / 8 ^ (2 - y.1 % 3) % 8))] })

/-! Time of half-cycles. -/

/-- Time passes until half-cycle `x` begins; none when it has begun. -/
def State.toHalfIndex (s : State) (x : Nat) : State :=
  if x ≤ s.hcIndex then s else s.advanceFrac (s.fracUntil ((x * 32768 + s.gy.grid) % 2 ^ 48))

/-- The number of the first half-cycle that begins now or later. -/
def State.nextHalf (s : State) : Nat := if s.onMark s.gy.grid 32768 then s.hcIndex else s.hcIndex + 1

/-- The stamp of core sample 0 of the symbol in a slot of the half-cycle that begins now: the slot starts at the first
LINE sample at or after the tick in which its start angle is reached, and the core begins 65 samples later
(spec/05_line_signal.md R160; notes/assumptions/21.md). -/
def State.coreStamp (s : State) (slot : Nat) : Nat :=
  if s.gy.rate = 0 then s.stamp48
  else
    let d := slot * 2048 * 2 ^ 32 - (s.gy.stamp.toNat + 2 ^ 80 - s.gy.grid * 2 ^ 32) % (32768 * 2 ^ 32)
    let t := ceilDiv (s.tick + ceilDiv d s.gy.rate.toNat) 96 * 96 + 65 * 96
    (s.gy.stamp.toNat + (t - s.tick) * s.gy.rate.toNat) % 2 ^ 80 / 2 ^ 32

end Sys2Proof.Machine
end

