-- ==== Sys2Proof/Machine/LineAccess.lean ====
section
/-! DEFINITION. Line access: requests, contention, attempts, reception, relaying, the domain, confinement, dormancy
(spec/06_line_access.md). -/

namespace Sys2Proof.Machine

open Sys2Proof

/-! Substate, domain values. -/

/-- DSTATE: 0 AWAKE, 1 PENDING, 2 WATCH (spec/06_line_access.md R245). -/
def State.lnDorm (s : State) : Nat := s.g F.LA_DORM_DSTATE 0

/-- CONF: 0 ACTIVE, 1 WARY, 2 HUSHED, 3 MUTED (spec/06_line_access.md R215). -/
def State.lnConf (s : State) : Nat := s.g F.LA_STAT_CONF 0

/-- LINE's SUB (spec/06_line_access.md R237). -/
def State.lnSubOf (s : State) : Nat :=
  s.lnConf + 4 * s.lnDorm + 16 * (s.sub .line / 16 % 2) + 32 * b2n s.isMaster

/-- SUB follows what it shows. -/
def State.lnSetSub (s : State) : State := s.setSub .line s.lnSubOf

/-- HOSTLESS in SUB (spec/06_line_access.md R237). -/
def State.lnHostless (s : State) (b : Bool) : State := s.setSub .line (s.sub .line / 32 * 32 + 16 * b2n b + s.sub .line % 16)

/-- LINE answers NACK_HOSTLESS: from HOST_LOST until the half-cycle boundary after HOST_BACK (spec/02_host_access.md R69,
R70). -/
def State.lnHostGone (s : State) : Bool := s.sub .line / 16 % 2 == 1

/-- The default access tones and wake index of a profile (spec/06_line_access.md R201, Table LA-3). -/
def lnDefaults (profile : Nat) : List Nat :=
  if profile = 0 then [16, 22, 28, 34, 25] else if profile = 1 then [36, 41, 46, 53, 55] else [60, 70, 80, 90, 120]

/-- ACC_TONE 0 to 3 and WAKE_IDX of an LA_CFG word, defaults for zeros (spec/06_line_access.md R201). -/
def lnTones (profile : Nat) (w : Word) : List Nat :=
  ([F.LA_CFG_ACC_TONE0.of w, F.LA_CFG_ACC_TONE1.of w, F.LA_CFG_ACC_TONE2.of w, F.LA_CFG_ACC_TONE3.of w,
    F.LA_CFG_WAKE_IDX.of w].zip (lnDefaults profile)).map (fun x => if x.1 = 0 then x.2 else x.1)

/-- The access tone of a tier count in force (spec/06_line_access.md R200). -/
def State.accTone (s : State) (t : Nat) : Nat := (lnTones s.lsProfile (s.ln.cfgOld.getD (s.rd 0x14 0))).getD t 0

/-- WAKE_IDX in force (spec/06_line_access.md R201). -/
def State.wakeIdx (s : State) : Nat := s.accTone 4

/-- No two of the four access tones lie closer than 5 (spec/06_line_access.md R201). -/
def tonesApart : List Nat → Bool
  | [] => true
  | a :: t => t.all (fun b => decide (a + 5 ≤ b ∨ b + 5 ≤ a)) && tonesApart t

/-- RED's step limits the line to ALARM (spec/06_line_access.md R222, spec/16_power_start_sinter.md R593). -/
def State.lnAlarmOnly (s : State) : Bool := decide (5 ≤ s.pw.steps)

/-- A new frame may begin: LINE is ON and awake, the time is known, the grid holds, the station has an address
(spec/01_cabinet_system.md R31, spec/04_geyser_time_base.md R126, spec/05_line_signal.md R162,
spec/06_line_access.md R225). -/
def State.lnMaySend (s : State) : Bool :=
  s.isOn .line && s.lnDorm != 2 && s.timeOk && !s.gridHold && s.lac F.LA_CFG_ADDR != 0

/-! Kernel windows. -/

/-- The length of a window (spec/09_caldera_jobs.md R327). -/
def windowLen (cost : Nat) : Nat := ceilDiv ((cost + 192) * 66) 3000

/-- P: phases in PH_EN (spec/09_caldera_jobs.md R326). -/
def State.lnP (s : State) : Nat := ((List.range 3).filter (fun i => bitOf (s.g F.LS_CFG_PH_EN 0) i)).length

/-- T: distinct grid indices of the tone sets and WAKE_IDX (spec/09_caldera_jobs.md R326). -/
def State.lnT (s : State) : Nat :=
  (((List.range 16).flatMap (fun k => wbytes (s.rd 0x11 k)) ++ [s.wakeIdx]).filter (· != 0)).eraseDups.length

/-- L1 (spec/09_caldera_jobs.md R327). -/
def State.lnL1 (s : State) : Nat := windowLen (s.lnP * (196 * s.lnT + 47) + 1024)

/-- LINE's K1 slot and K2 slot windows (spec/09_caldera_jobs.md R327, Table CJ-6). -/
def State.lnSlotWindows (s : State) : State :=
  (List.range 14).foldl (fun s i =>
    let st := 2048 * (i + 2) + 1792 + s.gy.grid
    (s.ascPut (8 + i) 3 1 1 (st % 65536) s.lnL1 0 0 0).ascPut (22 + i) 3 1 2 ((st + s.lnL1) % 65536)
      (windowLen (96 * s.lnP + 48)) 0 0 0) s

/-- LINE registers its windows (spec/09_caldera_jobs.md R326, R327). -/
def State.lnWindows (s : State) : State :=
  let s := (List.range 8).foldl (fun s q =>
    s.ascPut q 3 1 1 ((512 * q + 480 + s.gy.grid) % 65536) (windowLen (s.lnP * 287)) 0 0 0) s
  s.lnSlotWindows.ascPut 36 3 1 2 (s.gy.grid % 65536) 32768 2 8 0

/-! Requests. -/

/-- Tenant of a request. -/
def State.lnOwner (s : State) (q : Nat) : Nat := vget s.ln.owner q

/-- A request still waits or runs. -/
def State.lnLive (s : State) (q : Nat) : Bool := s.g F.LA_TXQ_STATE q != 0 && s.g F.LA_TXQ_STATE q != 4

/-- The live requests of a tenant. -/
def State.lnHeldBy (s : State) (t : Nat) : List Nat := (List.range 16).filter (fun q => s.lnLive q && s.lnOwner q == t)

/-- QUEUED follows the entries held (spec/06_line_access.md R240). -/
def State.lnCount (s : State) (t : Nat) : State := s.p F.LA_TENANT_QUEUED t (s.lnHeldBy t).length

/-- A request's span on the common map. -/
def State.lnReqSpan (s : State) (q : Nat) : Nat :=
  s.commonSpan (s.g F.LA_TXQ_TIERS q) (s.g F.LA_TXQ_LEN q) (s.b F.LA_TXQ_SECURE q)

/-- A request of a class is charged to its tenant's bucket (spec/06_line_access.md R219). -/
def State.lnCharged (s : State) (t cls : Nat) : Bool := cls != 3 && s.g F.LA_TENANT_BKT_MAX t != 0

/-- A request is charged (spec/06_line_access.md R219). -/
def State.lnCharge (s : State) (q n : Nat) : State :=
  let t := s.lnOwner q
  if s.lnCharged t (s.g F.LA_TXQ_CLASS q) then
    (s.p F.LA_TENANT_LEVEL t (s.g F.LA_TENANT_LEVEL t - n)).modLn (fun x => { x with charged := vmod x.charged q (· + n) })
  else s

/-- A request gets back up to `n` half-cycles of what it was charged (spec/06_line_access.md R219 to R221). -/
def State.lnRefund (s : State) (q n : Nat) : State :=
  let t := s.lnOwner q
  let n := min n (vget s.ln.charged q)
  (s.p F.LA_TENANT_LEVEL t (capAt (s.g F.LA_TENANT_BKT_MAX t) (s.g F.LA_TENANT_LEVEL t + n))).modLn
    (fun x => { x with charged := vmod x.charged q (· - n) })

/-- The staging frame is free: its words are cleared (spec/06_line_access.md R220). -/
def State.lnFreeStage (s : State) : State :=
  s.modLn (fun x => { x with granted := none, locked := false, filled := 0, backoff := 0, onDest := false, lastCode := 7 })

/-- The frame in progress is this request's. -/
def State.lnFrameOf (s : State) (q : Nat) : Bool :=
  match s.ln.frame with | some f => f.own && !f.device && f.entry == q | none => false

/-- A request ends: DONE and TX_RESULT (spec/06_line_access.md R221, R237). -/
def State.lnEnd (s : State) (q : Nat) (o : Oc) : State :=
  let t := if bitOf s.ln.toOwner q then 0 else s.lnOwner q
  let tag := s.g F.LA_TXQ_TAG q
  let mine := s.ln.granted == some q
  let code := if mine then s.ln.lastCode else 7
  let s := s.modLn (fun x => { x with
    order := x.order.filter (· != q), toOwner := x.toOwner &&& (65535 ^^^ 2 ^ q),
    frame := if s.lnFrameOf q then none else x.frame })
  let s := if mine then s.lnFreeStage else s
  let s := s.ps 0x17 q [(F.LA_TXQ_STATE, 4), (F.LA_TXQ_OUTCOME, o.code), (F.LA_TXQ_AHEAD, 0)]
  let s := (s.raiseDone .line t tag o (q + 1)).raise .line
    { common := false, tenant := t, sev := 0, code := 0x22,
      arg := tag * 256 + code * 16 + s.g F.LA_TXQ_ATTEMPTS q, ref := 257 + q }
  s.lnCount (s.lnOwner q)

/-- A request that has sent nothing ends with its whole charge refunded (spec/06_line_access.md R221). -/
def State.lnDrop (s : State) (q : Nat) (o : Oc) : State := (s.lnRefund q (vget s.ln.charged q)).lnEnd q o

/-- Every request ends (spec/03_units_events.md R84). -/
def State.lnEndAll (o : Oc) (s : State) : State :=
  (List.range 16).foldl (fun s q => if s.lnLive q then s.lnDrop q o else s) s

/-! Service order. -/

/-- A queued request may be granted: its class is not held back and its bucket covers it (spec/06_line_access.md R219,
R222). -/
def State.lnGrantable (s : State) (q : Nat) : Bool :=
  let c := s.g F.LA_TXQ_CLASS q
  let t := s.lnOwner q
  (c == 3 || !s.lnAlarmOnly) && (!s.lnCharged t c || decide (s.lnReqSpan q ≤ s.g F.LA_TENANT_LEVEL t))

/-- Rounds of deficit round robin until a tenant's deficit covers a span (spec/06_line_access.md R219). -/
def State.lnRounds (s : State) (c t span : Nat) : Nat :=
  ceilDiv (span - vget s.ln.deficit (64 * c + t)) (s.g F.LA_TENANT_WEIGHT t)

/-- Places from the tenant served last in a class, which itself comes last. -/
def State.lnTurn (s : State) (c t : Nat) : Nat := (t + 127 - vget s.ln.rr c) % 64

/-- The request of a class served next, with the deficits after the rounds it took (spec/06_line_access.md R219;
notes/assumptions/17.md). `heads` holds each waiting tenant's first request. -/
def State.lnServe (s : State) (c : Nat) (heads : List Nat) : Option (Nat × State) :=
  let least (f : Nat → Nat) (l : List Nat) : Option Nat :=
    l.foldl (fun a q => match a with | none => some q | some b => if f q < f b then some q else a) none
  let turn (q : Nat) : Nat := s.lnTurn c (s.lnOwner q)
  let heavy := heads.filter (fun q => s.g F.LA_TENANT_WEIGHT (s.lnOwner q) != 0)
  let served (q : Nat) (s : State) : State := s.modLn (fun x => { x with rr := vset x.rr c (s.lnOwner q) })
  if heavy.isEmpty then (least turn heads).map (fun q => (q, served q s))
  else
    let rounds (q : Nat) : Nat := s.lnRounds c (s.lnOwner q) (s.lnReqSpan q)
    let key (q : Nat) : Nat := if rounds q = 0 ∧ s.lnOwner q = vget s.ln.rr c then 0 else 64 * max 1 (rounds q) + turn q
    (least key heavy).map (fun q =>
      let r := rounds q
      let d := if key q = 0 then s.ln.deficit else heavy.foldl (fun d p =>
        let k := if turn p ≤ turn q then max 1 r else max 1 r - 1
        vmod d (64 * c + s.lnOwner p) (fun (x : Nat) => x + k * s.g F.LA_TENANT_WEIGHT (s.lnOwner p))) s.ln.deficit
      (q, served q (s.modLn (fun x => { x with
        deficit := vmod d (64 * c + s.lnOwner q) (fun (y : Nat) => y - s.lnReqSpan q) }))))

/-- The first request in service order (spec/06_line_access.md R219). -/
def State.lnPick (s : State) : Option (Nat × State) :=
  let ok := s.ln.order.filter s.lnGrantable
  let inClass (c : Nat) : List Nat := ok.filter (fun q => s.g F.LA_TXQ_CLASS q == c)
  match [3, 2, 1, 0].find? (fun c => !(inClass c).isEmpty) with
  | none => none
  | some c =>
    let l := inClass c
    let heads := (l.map s.lnOwner).eraseDups.filterMap (fun t => l.find? (fun q => s.lnOwner q == t))
    s.lnServe c heads

/-- The staging frame is free and the line in service. -/
def State.lnStageFree (s : State) : Bool := s.isOn .line && s.lnDorm != 2 && s.ln.granted.isNone

/-- The grant (spec/06_line_access.md R220). -/
def State.lnGrant (s : State) : State :=
  if !s.lnStageFree then s
  else
    match s.lnPick with
    | none => s
    | some (q, s) =>
      let h0 := s.nextHalf + s.lac F.LA_CFG_GRANT_LEAD
      let s := s.lnCharge q (s.lnReqSpan q)
      let s := (List.range 8).foldl (fun s i => s.wr 0x18 i 0) s
      let s := s.modLn (fun x => { x with
        order := x.order.filter (· != q), granted := some q, filled := 0, locked := false, h0 := h0, backoff := 0,
        onDest := false, lastCode := 7 })
      let s := s.ps 0x17 q [(F.LA_TXQ_STATE, 2), (F.LA_TXQ_AHEAD, 0), (F.LA_TXQ_H_CYCLE, h0 / 2 % 2 ^ 32), (F.LA_TXQ_H_HALF, h0 % 2)]
      s.raiseTenant .line (s.lnOwner q) 0 0x20 (s.g F.LA_TXQ_TAG q * 256 + (h0 - s.hcIndex) % 256)

/-! Submission, abort, staging. -/

/-- The common map holds fewer than 3 non-BLANK eligible slots in a half-cycle (spec/06_line_access.md R208). -/
def State.lnFewSlots (s : State) : Bool :=
  [0, 1].any (fun e => decide (((wbytes (s.rd 0x12 e)).filter (fun b => mapClass b != 0)).length < 3))

/-- Half-cycles until refills cover a span, saturating (spec/06_line_access.md R218). -/
def State.lnWait (s : State) (t span : Nat) : Nat :=
  let level := s.g F.LA_TENANT_LEVEL t
  let re := s.g F.LA_TENANT_REFILL t
  if span ≤ level then 0
  else if re = 0 ∨ s.g F.LA_TENANT_BKT_MAX t < span then 32767
  else
    let n := ceilDiv (span - level) re
    capAt 32767 (512 * n - s.hcIndex % 512)

/-- The class of a new request is refused MUTED (spec/06_line_access.md R215, R216). -/
def State.lnMutedFor (s : State) (cls : Nat) : Bool :=
  (s.lnConf == 2 && decide (cls < 2)) || (s.lnConf == 3 && !(cls == 3 && s.ln.credit))

/-- A SECURE frame would need an FC at or above the mark (spec/16_power_start_sinter.md R602). -/
def State.lnFcOut (s : State) : Bool := decide (s.ln.fcMark ≤ s.g F.LA_STAT_TX_FC 0 + 1)

/-- Refusals of a submission (spec/06_line_access.md R218). -/
def State.lnJudge (s : State) (t : Nat) (w : Word) : Oc :=
  let cls := F.LA_TXQ_CLASS.of w
  let tiers := F.LA_TXQ_TIERS.of w
  let secure := F.LA_TXQ_SECURE.of w == 1
  let ack := F.LA_TXQ_ACKREQ.of w == 1
  let dst := F.LA_TXQ_DST.of w
  judge [
    (!s.enabled t, .notAvailable),
    (secure && (s.slotKey (4 * t + s.g F.LA_TENANT_LKEY t)).isNone, .notAvailable),
    (dst == 0 || (dst == 255 && ack) || (decide (0 < tiers) && F.LA_TXQ_MAPSEL.of w == 1), .param),
    (ack && s.lnFewSlots, .param), (F.LA_TXQ_CMD.of w == 1, .param),
    (!s.isOn .line || s.lac F.LA_CFG_ADDR == 0 || !s.timeOk, .notReady),
    (cls != 3 && s.lnAlarmOnly, .power),
    (secure && s.lnFcOut && !s.snAccepts, .power),
    (s.lnMutedFor cls, .muted),
    (((List.range 16).filter s.lnLive).length == 16 || decide (s.g F.LA_TENANT_QLIM t ≤ (s.lnHeldBy t).length), .queueFull),
    (s.lnCharged t cls && decide (s.g F.LA_TENANT_LEVEL t < s.commonSpan tiers (F.LA_TXQ_LEN.of w) secure), .budget)]

/-- SEQ of a new request to a destination (spec/06_line_access.md R208). -/
def State.lnNextSeq (s : State) (dst : Nat) : Nat × State :=
  let n := match s.ln.seqs.find? (fun x => x.1 == dst) with | some x => (x.2 + 1) % 16 | none => 0
  (n, s.modLn (fun x => { x with seqs := (dst, n) :: x.seqs.filter (fun y => y.1 != dst) }))

/-- The tenant's own requests ahead of one of class `c` (spec/06_line_access.md R218). -/
def State.lnAhead (s : State) (t c : Nat) : Nat :=
  (s.ln.order.filter (fun q => s.lnOwner q == t && decide (c ≤ s.g F.LA_TXQ_CLASS q))).length
    + (match s.ln.granted with | some q => b2n (s.lnOwner q == t) | none => 0)

/-- A wake request (spec/06_line_access.md R226): a CANCEL when there is time for it, the wake tone otherwise. -/
def State.lnWakeRequest (s : State) : State :=
  let x := s.nextHalf
  let tone (s : State) (from_ : Nat) : State := s.modLn (fun l => { l with wakeLeft := 6, wakeAt := from_ })
  match s.ln.commit with
  | some c =>
    if s.lnDorm = 1 ∧ s.hcIndex < c then
      let t := s.lac F.LA_CFG_DOM_TIERS
      if x + s.commonSpan t 0 false ≤ c - 1 then
        if s.ln.queue.any (fun f => f.ftype == 4) then s
        else
          let w : Word := BitVec.ofNat 128 (s.lac F.LA_CFG_DOMAIN_ID * 2 ^ 112 + c / 2 % 2 ^ 32 * 2 ^ 80 + c % 2 * 2 ^ 79
            + s.wakeIdx * 2 ^ 64)
          s.modLn (fun l => { l with queue := l.queue ++ [{ ftype := 4, cls := 3, tiers := t, words := [w] }] })
      else tone s c
    else tone s x
  | none => tone s x

/-- A submission in the name of tenant `t` (spec/06_line_access.md R218). What it reads in entry 16 is kept under entry
0x800 + t. -/
def State.lnSubmit (s : State) (t : Nat) (w : Word) : Oc × State :=
  let o := s.lnJudge t w
  let cls := F.LA_TXQ_CLASS.of w
  let span := s.commonSpan (F.LA_TXQ_TIERS.of w) (F.LA_TXQ_LEN.of w) (F.LA_TXQ_SECURE.of w == 1)
  let desc := F.LA_TXQ_CMD.into 0 w &&& wcMask 0x17 16
  let last (s : State) (o : Oc) (q ahead wait : Nat) : State :=
    let s := s.wr 0x17 (0x800 + t) desc
    s.ps 0x17 (0x800 + t) [(F.LA_TXQ_OUTCOME, o.code), (F.LA_TXQ_QIDX, q), (F.LA_TXQ_AHEAD, ahead), (F.LA_TXQ_WAIT, wait)]
  match (List.range 16).find? (fun q => !s.lnLive q) with
  | none => let o := if o = .ok then Oc.queueFull else o; (o, last s o 0 0 0)
  | some q =>
    if o = .ok then
      let wakes := decide (cls = 3) && s.lnDorm != 0
      let ahead := s.lnAhead t cls
      let x := s.lnNextSeq (F.LA_TXQ_DST.of w)
      let s := (x.2.wr 0x17 q desc).modLn (fun l => { l with
        owner := vset l.owner q t, charged := vset l.charged q 0, order := l.order ++ [q],
        toOwner := l.toOwner &&& (65535 ^^^ 2 ^ q), credit := l.credit && x.2.lnConf != 3 })
      let s := (s.ps 0x17 q [(F.LA_TXQ_STATE, 1), (F.LA_TXQ_SEQ, x.1), (F.LA_TXQ_AHEAD, ahead), (F.LA_TXQ_QIDX, 0)]).lnCount t
      let s := if wakes then s.lnWakeRequest else s
      let s := s.lnGrant
      let o := if s.ln.granted = some q then Oc.ok else .deferred
      let s := s.p F.LA_TXQ_OUTCOME q o.code
      (o, last s o q (if o = .ok then 0 else ahead) 0)
    else (o, last s o 0 0 (if o = .budget then s.lnWait t span else 0))

/-- An abort of a request by its submitter (spec/06_line_access.md R221, R228, spec/03_units_events.md R102). -/
def State.lnAbort (s : State) (t q : Nat) : Oc × State :=
  let st := s.g F.LA_TXQ_STATE q
  if st = 0 ∨ s.lnOwner q ≠ t then (.notAvailable, s)
  else if st = 1 ∨ st = 2 then (.ok, ((s.lnDrop q .aborted).wr 0x17 q 0).modLn (fun x => { x with owner := vset x.owner q 0 }))
  else if st = 3 then (.tooLate, s)
  else
    match s.abortCase .line (q + 1) with
    | .withdrawn =>
      if s.g F.LA_TXQ_ATTEMPTS q = 0 then (.ok, ((s.withdraw .line (q + 1)).withdraw .line (257 + q)).lnEnd q .aborted)
      else (.tooLate, s)
    | .tooLate => (.tooLate, s)
    | .gone => (.notAvailable, s)

/-- A commit to LA_TXQ (spec/06_line_access.md R218, R221, R241). -/
def State.lnCommitTxq (s : State) (t e : Nat) (w : Word) : Oc × State :=
  if e = 16 then s.lnSubmit t w
  else if F.LA_TXQ_CMD.of w = 1 then s.lnAbort t e
  else (.ok, s)

/-- The staging frame is open to its tenant's host (spec/01_cabinet_system.md R26, spec/06_line_access.md R220). -/
def State.lnStageOpen (s : State) : Bool := s.ln.granted.isSome && !s.ln.locked

/-- A commit to LA_STAGE (spec/06_line_access.md R220, R242). -/
def State.lnCommitStage (s : State) (e : Nat) (w : Word) : Oc × State :=
  if s.lnStageOpen then (.ok, (s.wr 0x18 e w).modLn (fun x => { x with filled := x.filled ||| 2 ^ e })) else (.stateMismatch, s)

/-- Every word of the granted request has been committed (spec/06_line_access.md R220). -/
def State.lnFilled (s : State) (q : Nat) : Bool :=
  (List.range (s.g F.LA_TXQ_LEN q + 1)).all (fun i => bitOf s.ln.filled i)

/-- Tenant `t` is disabled: its requests end, but one past the point of no return completes for the owner's view
(spec/01_cabinet_system.md R37). Its receive buffers are freed. -/
def State.lnFreeBuf (s : State) (b : Nat) : State :=
  let s := (List.range 9).foldl (fun s i => s.wr 0x19 (9 * b + i) 0) s
  s.modLn (fun x => { x with bufs := vset x.bufs b {} })

/-- The effect of disabling a tenant on LINE (spec/01_cabinet_system.md R37). -/
def State.lnDisable (s : State) (t : Nat) : State :=
  let s := (s.lnHeldBy t).foldl (fun s q =>
    if s.g F.LA_TXQ_STATE q = 3 then s.modLn (fun x => { x with toOwner := x.toOwner ||| 2 ^ q })
    else s.lnDrop q .aborted) s
  (List.range 2).foldl (fun s b => if (vget s.ln.bufs b).full && (vget s.ln.bufs b).tenant == t then s.lnFreeBuf b else s) s

/-! Confinement. -/

/-- The confinement state of error counts (spec/06_line_access.md R215, Table LA-6). -/
def confOf (tec rec : Nat) : Nat :=
  if tec = 256 then 3 else if 128 ≤ max tec rec then 2 else if 96 ≤ max tec rec then 1 else 0

/-- The confinement state follows the counters; a change raises CONFINE and ends what may not be sent
(spec/06_line_access.md R215, R216). -/
def State.lnConfine (s : State) : State :=
  let tec := s.g F.LA_STAT_TEC 0
  let rec_ := s.g F.LA_STAT_REC 0
  let c := confOf tec rec_
  let old := s.lnConf
  if c = old ∨ (old = 3 ∧ tec = 256) then s
  else
    let s := ((s.p F.LA_STAT_CONF 0 c).lnSetSub).raiseCommon .line 2 0x24 (tec * 65536 + rec_ * 256 + c)
    let s := if c = 3 then s.modLn (fun x => { x with mutedAt := s.tick, credit := true }) else s
    if c < 2 then s
    else
      (List.range 16).foldl (fun s q =>
        if s.lnLive q && !s.lnFrameOf q && (c == 3 || decide (s.g F.LA_TXQ_CLASS q < 2)) then s.lnDrop q .muted else s) s

/-- TEC changes (spec/06_line_access.md R215). -/
def State.lnTec (s : State) (up : Bool) : State :=
  let n := s.g F.LA_STAT_TEC 0
  (s.p F.LA_STAT_TEC 0 (if up then capAt 256 (n + 8) else n - 1)).lnConfine

/-- REC changes (spec/06_line_access.md R215). -/
def State.lnRec (s : State) (up : Bool) : State :=
  let n := s.g F.LA_STAT_REC 0
  (s.p F.LA_STAT_REC 0 (if up then capAt 255 (n + 1) else n - 1)).lnConfine

/-- CREDIT_S: seconds until the next ALARM credit, 0 outside MUTED (spec/06_line_access.md R216, R244). -/
def State.lnCreditS (s : State) : Nat :=
  let per := s.lac F.LA_CFG_ALARM_CREDIT * secTicks
  if s.lnConf ≠ 3 ∨ per = 0 then 0 else ceilDiv (per - (s.tick - s.ln.mutedAt) % per) secTicks

end Sys2Proof.Machine
end

