-- ==== Sys2Proof/Machine/LearnStats.lean ====
section
/-! DEFINITION. The learner's statistics as a K2 slot update changes them (spec/07_line_learning.md R246 to R249). -/

namespace Sys2Proof.Machine

open Sys2Proof

/-- A statistic that is 0 has had no sample: the first one is loaded, rounded to nearest even; a later one moves it by
the difference loud 2^ALPHA_SH, rounded stochastically with 8 bits of a lane (spec/07_line_learning.md R248). -/
def llUpdate (ash lane m x : Nat) : Cf.M Nat := do
  let e ← Cf.ewma false ash true (Cf.bf16.decode m) (Cf.fp32.decode x)
  Cf.convF Cf.bf16 3 lane 0 e

/-- The state and the generator of one K2 update, with the number of statistics it has updated. -/
structure LlRun where
  s : State
  cx : Cf.Cx
  n : Nat

/-- A statistic held in sixteen bits of an entry is updated. -/
def LlRun.stat (r : LlRun) (ash t e lo x : Nat) : LlRun :=
  let m := (r.s.rd t e).bits lo 16
  let y := (llUpdate ash (r.n % 8) m x) r.cx
  let w := (r.s.rd t e &&& ~~~ ((0xFFFF#128) <<< lo)) ||| (BitVec.ofNat 128 (y.1 % 65536) <<< lo)
  { s := r.s.wr t e w, cx := y.2, n := r.n + 1 }

/-- The energy measured at a grid index. -/
def sampleAt (x : Sample) (k : Nat) : Option Nat := (x.tones.find? (fun t => t.1 == k)).map (·.2)

/-- ALPHA_SH of a sample (spec/07_line_learning.md R247). -/
def State.llAsh (s : State) (x : Sample) : Nat := s.g F.LL_CFG_ALPHA_SH 0 + b2n x.reduced

/-- The non-zero positions of the tone sets that a sample feeds: set, position and energy (spec/07_line_learning.md
R246). -/
def State.llFed (s : State) (x : Sample) : List (Nat × Nat × Nat) :=
  (List.range 16).flatMap (fun k => (List.range 16).filterMap (fun p =>
    let g := wbyte (s.rd 0x11 k) p
    if g = 0 || x.decided.contains g then none else (sampleAt x g).map (fun v => (k, p, v))))

/-- An energy exceeds a mean by IMP_DB dB (spec/07_line_learning.md R248). -/
def State.llExceeds (s : State) (mean x : Nat) : Bool :=
  let m := bfRat mean
  decide (m ≠ 0) &&
    (match Cf.fp32.decode x with
     | .inf false => true
     | .fin false k e =>
       let v : Rat := if 0 ≤ e then (k : Rat) * 2 ^ e.toNat else (k : Rat) / 2 ^ (-e).toNat
       decide (m ^ 10 * 10 ^ s.g F.LL_CFG_IMP_DB 0 < v ^ 10)
     | _ => false)

/-- The mean energy of the decided tones as an FP32 code, each TWIN8 tone at four times its energy
(spec/07_line_learning.md R248). -/
def sampleSig (x : Sample) : Option Nat :=
  let l := x.decided.filterMap (sampleAt x)
  if l.isEmpty then none
  else
    let sum := l.foldl (fun (a : Cf.M Cf.Fv) v => do Cf.add32 false (← a) (Cf.fp32.decode v)) (pure Cf.Fv.zero)
    let y := (do
      let t ← sum
      let t ← Cf.mul32 false t (.fin false (if x.twin then 4 else 1) 0)
      Cf.rne32 false (match t with | .fin a m e => if l.length = 2 then .fin a m (e - 1) else .fin a m e | v => v)) (Cf.Cx.start 0)
    some (Cf.fp32.encode y.1)

/-- The statistics of a quiet access quarter (spec/07_line_learning.md R246, R272). -/
def LlRun.access (r : LlRun) (x : Sample) : LlRun :=
  let e := 96 + 16 * x.phase + x.slot % 16
  let ash := r.s.llAsh x
  let r := (List.range 4).foldl (fun (r : LlRun) i =>
    match sampleAt x (r.s.accTone i) with | some v => r.stat ash 0x1E e (16 * i) v | none => r) r
  let r := match sampleAt x r.s.wakeIdx with | some v => r.stat ash 0x1E e 64 v | none => r
  { r with s := r.s.bumpSat F.LL_ACC_QCNT e }

/-- The statistics of an eligible slot (spec/07_line_learning.md R246, R248, R249, R272). -/
def LlRun.slot (r : LlRun) (x : Sample) : LlRun :=
  let e := 32 * x.phase + x.slot
  let ash := r.s.llAsh x
  let fed := r.s.llFed x
  let loud := fed.filter (fun t => r.s.llExceeds (r.s.llMean x.phase x.slot t.1 t.2.1) t.2.2)
  let r := fed.foldl (fun (r : LlRun) t =>
    let a := noiseAt x.phase x.slot t.1 t.2.1
    r.stat ash 0x1D a.1 a.2 t.2.2) r
  let r := if fed.isEmpty then r
    else r.stat ash 0x1E e 0 (if fed.length < 4 * loud.length then 0x3F800000 else 0)
  let r := if x.kind = 1 then (match sampleAt x r.s.wakeIdx with | some v => r.stat ash 0x1E e 64 v | none => r) else r
  let r := match sampleSig x with | some v => r.stat ash 0x1C 1 (64 + 16 * x.phase) v | none => r
  let s := r.s.bumpSat (if x.kind = 1 then F.LL_SLOT_QCNT else F.LL_SLOT_RCNT) e
  { r with s := s.ps 0x1E e [(F.LL_SLOT_EST, b2n (s.llEst x.phase x.slot)), (F.LL_SLOT_LAST_CYCLE, s.cycle)] }

/-- A K2 slot update: the samples of the slot, unless the learner takes none (spec/07_line_learning.md R247, R248). -/
def State.llSamples (s : State) (l : List Sample) : State :=
  if l.isEmpty || !s.isOn .line || s.lnDorm == 2 || !s.timeOk then s
  else
    let d := s.rngDraw 32
    (l.foldl (fun (r : LlRun) x => if x.phase < 3 ∧ x.slot < 32 then (if x.kind = 0 then r.access x else r.slot x) else r)
      { s := d.2, cx := Cf.Cx.start d.1, n := 0 }).s

end Sys2Proof.Machine
end

