-- ==== Sys2Proof/Machine/LineAir.lean ====
section
/-! DEFINITION. What the line station sends and hears: contention, attempts, reception, relaying, BEACON, dormancy and
wake, and LINE's commits and unit commands (spec/06_line_access.md). -/

namespace Sys2Proof.Machine

open Sys2Proof

/-! Dormancy. -/

/-- The DORMANT event (spec/06_line_access.md R237). -/
def State.lnDormEvent (s : State) (why : Nat) : State :=
  s.raiseCommon .line 1 0x26 (s.g F.LA_DORM_COMMIT_CYCLE 0 % 2 ^ 24 * 256 + why)

/-- DSTATE changes. -/
def State.lnSetDorm (s : State) (d : Nat) : State := (s.p F.LA_DORM_DSTATE 0 d).lnSetSub

/-- A commit half-cycle becomes pending, unless a CANCEL for it is held; another one replaces a pending one
(spec/06_line_access.md R224, R234). -/
def State.lnPropose (s : State) (src c : Nat) : State :=
  if s.ln.cancelled = some c ∨ s.ln.commit = some c ∨ s.lnDorm = 2 then s
  else
    let s := (s.modLn (fun x => { x with commit := some c })).ps 0x1B 0
      [(F.LA_DORM_COMMIT_HALF, c % 2), (F.LA_DORM_COMMIT_CYCLE, c / 2 % 2 ^ 32), (F.LA_DORM_PROPOSER, src)]
    (s.lnSetDorm 1).lnDormEvent 0

/-- A pending commit is dropped (spec/06_line_access.md R226). -/
def State.lnDropCommit (s : State) : State :=
  if s.lnDorm = 1 then ((s.modLn (fun x => { x with commit := none })).lnSetDorm 0).lnDormEvent 2 else s

/-- The station enters WATCH: it transmits nothing (spec/06_line_access.md R225). -/
def State.lnWatch (s : State) : State :=
  if s.lnDorm = 2 then s
  else
    let s := s.modLn (fun x => { x with
      commit := none, txQuarters := [], txSlots := [], ltxen := 0, frame := none, unknown := false, idleSeen := false })
    (s.lnSetDorm 2).lnDormEvent 1

/-- A WATCH station wakes (spec/06_line_access.md R225). -/
def State.lnWoken (s : State) : State := if s.lnDorm = 2 then (s.lnSetDorm 0).lnDormEvent 3 else s

/-- The commit half-cycle of a proposal's or a CANCEL's word (spec/06_line_access.md R224). -/
def commitOf (w : Word) : Nat := w.bits 80 32 * 2 + w.bits 79 1

/-! Contention. -/

/-- A device frame may contend now: ALARM only at RED and while MUTED never (spec/06_line_access.md R215, R222). -/
def State.lnDevMay (s : State) (f : DevFrame) : Bool := (f.cls == 3 || !s.lnAlarmOnly) && s.lnConf != 3

/-- The device frame that would contend: of the highest class, the oldest. -/
def State.lnDevNext (s : State) : Option DevFrame :=
  match s.ln.queue.find? (fun f => s.lnDevMay f && f.cls == 3) with
  | some f => some f
  | none => s.ln.queue.find? s.lnDevMay

/-- The granted request may contend in half-cycle `x` (spec/06_line_access.md R215, R220, R222). -/
def State.lnReqMay (s : State) (x q : Nat) : Bool :=
  let c := s.g F.LA_TXQ_CLASS q
  decide (s.ln.h0 ≤ x) && s.lnFilled q && (c == 3 || !s.lnAlarmOnly || s.ln.locked)
    && (s.lnConf != 2 || decide (2 ≤ c)) && (s.lnConf != 3 || c == 3)

/-- A frame of this span would end before a pending commit (spec/06_line_access.md R224). -/
def State.lnEndsInTime (s : State) (x span : Nat) : Bool :=
  match s.ln.commit with | some c => decide (x + span ≤ c) | none => true

/-- What contends in half-cycle `x`: a device frame, or the granted request (spec/06_line_access.md R203, R219, R220;
notes/assumptions/22.md). -/
inductive Cont where
  | dev (f : DevFrame)
  | req (q : Nat)
  deriving DecidableEq, Repr

def State.lnContender (s : State) (x : Nat) : Option Cont :=
  let dev := (s.lnDevNext).filter (fun f => s.lnEndsInTime x (s.commonSpan f.tiers (f.words.length - 1) false))
  let req := s.ln.granted.filter (fun q => s.lnReqMay x q && s.lnEndsInTime x (s.lnReqSpan q))
  match dev, req with
  | some f, some q => if s.g F.LA_TXQ_CLASS q ≤ f.cls then some (.dev f) else some (.req q)
  | some f, none => some (.dev f)
  | none, some q => some (.req q)
  | none, none => none

/-- The first non-BLANK eligible slot of the common map in half-cycle `x`. -/
def State.lnFirstSlot (s : State) (x : Nat) : Nat :=
  ((List.range 16).find? (fun i => decide (2 ≤ i) && mapClass (s.commonByte (x % 2 * 16 + i)) != 0)).getD 2

/-- The BEACON's payload, written as its half-cycle begins (spec/06_line_access.md R212, Table LA-5). -/
def State.lnBeaconWord (s : State) : Word :=
  let st := s.coreStamp (s.lnFirstSlot s.hcIndex)
  let d := match s.ln.commit with | some c => 2 ^ 52 + c % 2 * 2 ^ 51 + c / 2 % 2 ^ 32 * 2 ^ 16 | none => 0
  BitVec.ofNat 128 (s.lac F.LA_CFG_DOMAIN_ID * 2 ^ 112 + st * 2 ^ 64 + s.gy.gridNew.getD s.gy.grid * 2 ^ 53 + d
    + s.wakeIdx * 256 + s.ln.bseq.toNat)

/-- A device frame's payload words as they go out (spec/06_line_access.md R212, spec/07_line_learning.md R257). -/
def State.lnDevWords (s : State) (f : DevFrame) : List Word :=
  if f.ftype = 1 then [s.lnBeaconWord] else if f.ftype = 2 then s.llMapWords f.publish else f.words

/-- Destination map bytes that cannot be sent become BLANK, each reported once a map version
(spec/05_line_signal.md R169). -/
def State.lnUsable (s : State) (w : Word) : Word :=
  Word.ofBytes ((wbytes w).map (fun b => if s.mapByteLegal b then BitVec.ofNat 8 b else 0))

/-- MAP_SLOT_DROPPED for what R169 makes BLANK. -/
def State.lnDropped (s : State) (dst ver : Nat) (m0 m1 : Word) : State :=
  ((List.range 32).filter (fun i => !s.mapByteLegal (mapAt m0 m1 i))).foldl (fun s i =>
    if s.ln.dropped.contains (dst, ver, i) then s
    else (s.modLn (fun x => { x with dropped := (dst, ver, i) :: x.dropped })).raiseCommon .line 1 0x12 (dst * 256 + i)) s

/-- The destination's map for a frame that asks for it, where R206 allows it (spec/06_line_access.md R206,
spec/05_line_signal.md R169, R188, spec/07_line_learning.md R260, R261). -/
def State.lnDestMap (s : State) (dst len : Nat) (secure retryLost : Bool) (x : Nat) : Option (Word × Word) × State :=
  match s.nbrOf dst with
  | none => (none, s)
  | some n =>
    let s := s.nbrPromote n
    if !s.nbrHeld n then
      if s.ln.missing.contains dst then (none, s)
      else (none, (s.modLn (fun l => { l with missing := dst :: l.missing })).raiseCommon .line 1 0x34 (dst * 2 ^ 24))
    else if retryLost then (none, s)
    else
      let m0 := s.rd 0x1F (nbrEnt n + 1)
      let m1 := s.rd 0x1F (nbrEnt n + 2)
      let s := s.lnDropped dst (s.g F.LL_NBR_MAPVER (nbrEnt n)) m0 m1
      let u0 := s.lnUsable m0
      let u1 := s.lnUsable m1
      let c0 := s.rd 0x12 0
      let c1 := s.rd 0x12 1
      let b := sectionBits len secure
      if u0 = 0 ∧ u1 = 0 then (none, s)
      else if frameK c0 c1 u0 u1 x 0 b ≤ frameK c0 c1 c0 c1 x 0 b then (some (u0, u1), s)
      else (none, s)

/-- A frame of this station from half-cycle `x` on. -/
def State.lnFrame (s : State) (hd : BitVec 48) (m : Word × Word) (payload : List Bool) (x : Nat) : LineFrame where
  own := true
  header := hd
  h := x
  k := frameK (s.rd 0x12 0) (s.rd 0x12 1) m.1 m.2 x (hdrTiers hd) payload.length
  map0 := m.1
  map1 := m.2
  cmap0 := s.rd 0x12 0
  cmap1 := s.rd 0x12 1
  payload := payload
  phases := s.couplers (hdrDst hd)
  started := true

/-- The common map as a pair. -/
def State.commonMap (s : State) : Word × Word := (s.rd 0x12 0, s.rd 0x12 1)

/-- The access bursts of this half-cycle: priority window, contention windows (spec/06_line_access.md R200, R204). -/
def State.lnBursts (s : State) (tiers phases : Nat) (q : List Nat) : State :=
  s.modLn (fun x => { x with txQuarters := q.map (fun i => (i, s.accTone tiers)), ltxen := x.ltxen ||| phases })

/-- A device frame wins the line (spec/06_line_access.md R204, R212). -/
def State.lnWinDev (s : State) (f : DevFrame) (x : Nat) : State :=
  let w := s.lnDevWords f
  let hd := mkHeader (domTag (s.lac F.LA_CFG_DOMAIN_ID)) 255 (s.lac F.LA_CFG_ADDR) 0 f.cls f.tiers false (w.length - 1)
    (s.lnNextSeq 255).1 false false
  let s := (s.lnNextSeq 255).2
  let fr := s.lnFrame hd s.commonMap (clearSection f.ftype w) x
  let s := s.modLn (fun l => { l with
    frame := some { fr with device := true, dev := some f, stamp := s.coreStamp (s.lnFirstSlot x) },
    queue := l.queue.erase f, bseq := if f.ftype = 1 then l.bseq + 1 else l.bseq })
  if f.ftype = 1 then s.gyBeaconSent else if f.publish then s.llBegun else s

/-- The granted request wins the line: its frame is built (spec/06_line_access.md R198, R199, R204, R206, R214, R216,
spec/10_obsidian_cipher.md R660). -/
def State.lnWinReq (s : State) (q : Nat) (m : Option (Word × Word)) (x : Nat) : State :=
  let t := s.lnOwner q
  let len := s.g F.LA_TXQ_LEN q
  let secure := s.b F.LA_TXQ_SECURE q
  let hd := mkHeader (domTag (s.lac F.LA_CFG_DOMAIN_ID)) (s.g F.LA_TXQ_DST q) (s.lac F.LA_CFG_ADDR) t (s.g F.LA_TXQ_CLASS q)
    (s.g F.LA_TXQ_TIERS q) m.isSome len (s.g F.LA_TXQ_SEQ q) (s.b F.LA_TXQ_ACKREQ q) secure
  let words := (List.range (len + 1)).map (fun i => s.rd 0x18 i)
  let fc := s.g F.LA_STAT_TX_FC 0 + 1
  let sec := if secure then s.secureSection hd fc words else (.ok, clearSection 0 words)
  let s := if secure then s.p F.LA_STAT_TX_FC 0 fc else s
  if sec.1 ≠ .ok then s.lnEnd q sec.1
  else
    let fr := s.lnFrame hd (m.getD s.commonMap) sec.2 x
    (s.modLn (fun l => { l with
      frame := some { fr with entry := q, muted := s.lnConf == 3, stamp := s.coreStamp (s.lnFirstSlot x) },
      onDest := m.isSome })).p F.LA_TXQ_ATTEMPTS q (s.g F.LA_TXQ_ATTEMPTS q + 1)

/-- The granted request sends its first PW burst: the staging frame locks (spec/06_line_access.md R220). -/
def State.lnLock (s : State) (q : Nat) : State :=
  (s.modLn (fun x => { x with locked := true })).p F.LA_TXQ_STATE q 3

/-- One contention of the station in half-cycle `x` (spec/06_line_access.md R204). `pw` and `cw` are the first quarters
in which another station's burst is heard. -/
def State.lnContend (s : State) (c : Cont) (x : Nat) (pw cw : Option (Fin 4)) : State :=
  let cls := match c with | .dev f => f.cls | .req q => s.g F.LA_TXQ_CLASS q
  let tiers := match c with | .dev f => f.tiers | .req q => s.g F.LA_TXQ_TIERS q
  let dst := match c with | .dev _ => 255 | .req q => s.g F.LA_TXQ_DST q
  let pq := 3 - cls
  let ph := s.couplers dst
  let before (h : Option (Fin 4)) (q : Nat) : Bool := match h with | some i => decide (i.val < q) | none => false
  if before pw pq then s.modLn (fun l => { l with unknown := true })
  else
    let m := match c with
      | .dev _ => (none, s)
      | .req q =>
        if s.b F.LA_TXQ_MAPSEL q && s.g F.LA_TXQ_TIERS q == 0 && s.lnConf != 3 then
          s.lnDestMap dst (s.g F.LA_TXQ_LEN q) (s.b F.LA_TXQ_SECURE q) (s.ln.onDest && s.g F.LA_TXQ_ATTEMPTS q != 0
            && (s.ln.lastCode == 7 || s.ln.lastCode == 2)) x
        else (none, s)
    let s := m.2
    let s := match c with | .dev _ => s | .req q => s.lnLock q
    let d := s.rngDraw 2
    let s := d.2
    let cq := d.1 % 4
    if before cw cq then (s.lnBursts tiers ph [pq]).modLn (fun l => { l with unknown := true })
    else
      let s := s.lnBursts tiers ph [pq, 4 + cq]
      match c with
      | .dev f => s.lnWinDev f x
      | .req q => s.lnWinReq q m.1 x

/-- The station knows of no frame in progress (spec/06_line_access.md R203). -/
def State.lnQuiet (s : State) : Bool := s.ln.frame.isNone && !s.ln.unknown

/-- A SECURE request that would need an FC at or above the mark waits for the raise, or ends POWER where the store
refuses (spec/16_power_start_sinter.md R602). -/
def State.lnFcWait (s : State) (q : Nat) : State :=
  let s := if s.snAccepts then s.snRaiseMark 0 else s
  if s.snAccepts then s else if s.ln.locked then s.lnEnd q .power else s.lnDrop q .power

/-- LINE_CONTEND: half-cycle `x` begins; `idle` says that the one before it was observed idle
(spec/06_line_access.md R203, R204, R206, R214). -/
def execLineContend (idle : Bool) (pw cw : Option (Fin 4)) (s : State) : Host.Outcome State Fault Refusal :=
  let s := s.toHalf
  let x := s.hcIndex
  let s := s.modLn (fun l => { l with idleSeen := idle, unknown := l.unknown && !idle })
  if s.lnMaySend && s.lnQuiet && idle then
    match s.lnContender x with
    | none => .next s
    | some c =>
      if s.ln.backoff ≠ 0 then .next (s.modLn (fun l => { l with backoff := l.backoff - 1 }))
      else
        match c with
        | .req q => if s.b F.LA_TXQ_SECURE q && s.lnFcOut then .next (s.lnFcWait q) else .next (s.lnContend c x pw cw)
        | .dev _ => .next (s.lnContend c x pw cw)
  else .next s

/-- LINE_GRANT (spec/06_line_access.md R219, R220). -/
def execLineGrant (s : State) : Host.Outcome State Fault Refusal := .next s.lnGrant

/-- No line frame of this station or another reaches past the next half-cycle. -/
def State.lnFreeNext (s : State) : Bool :=
  match s.ln.frame with
  | some f => Nat.ble f.over (s.hcIndex + 1)
  | none => true

/-- The check of the granted request's payload, at the present half-cycle (spec/06_line_access.md R220). -/
def State.lnStageLook (s : State) : State :=
  match s.ln.granted with
  | none => s
  | some q =>
    if s.lnMaySend && s.lnFreeNext && !s.ln.unknown && !s.ln.locked && !s.lnFilled q && Nat.ble s.ln.h0 (s.hcIndex + 1) then
      (s.lnDrop q .underrun).raiseDeadline .line (if bitOf s.ln.toOwner q then 0 else s.lnOwner q)
        (s.g F.LA_TXQ_TAG q) .underrun
    else s

/-- LINE_STAGE_CHECK: one half-cycle before a half-cycle in which the granted request would contend
(spec/06_line_access.md R220, spec/05_line_signal.md R162). -/
def execLineStageCheck (s : State) : Host.Outcome State Fault Refusal :=
  .next s.toHalf.lnStageLook

/-- LINE_ORIGIN_HALF_CYCLE: the next origin half-cycle of an own frame (spec/06_line_access.md R205). -/
def execLineOriginHalfCycle (s : State) : Host.Outcome State Fault Refusal :=
  match s.ln.frame with
  | none => .next s
  | some f =>
    if f.own && decide (f.done < f.k) then
      let x := f.h + f.done * (hdrTiers f.header + 1)
      let s := s.toHalfIndex x
      if s.hcIndex ≠ x then .next s
      else
        let here := (s.frameSymbols f).filter (fun y => y.1 / 16 == f.done)
        .next (s.modLn (fun l => { l with
          frame := some { f with done := f.done + 1 }, ltxen := l.ltxen ||| f.phases,
          txSlots := here.map (fun y => { slot := y.1 % 16, tones := y.2, dither := 0 }) }))
    else .next s

/-! The end of an attempt. -/

/-- Outcome of a request by its acknowledgement (spec/06_line_access.md R207, Table LA-4, R214). -/
def ackOutcome : Option Nat → Oc
  | some 0 => .ok
  | some 1 => .busy
  | some 3 => .badFrame
  | some 4 => .notAvailable
  | _ => .badFrame

/-- The window of a backoff draw as a power of two (spec/06_line_access.md R214). -/
def backoffBits (n : Nat) (hushed : Bool) : Nat := min (2 + (n - 1)) 6 + b2n hushed

/-- A frame of the device itself ends (spec/06_line_access.md R226, spec/07_line_learning.md R257). -/
def State.lnDevEnd (s : State) (d : DevFrame) : State :=
  let s := s.modLn (fun x => { x with frame := none })
  if d.ftype = 2 then
    if d.publish then
      s.raiseCommon .line 1 0x31 ((s.g F.LL_MAPS_MAPVER 2 + 1) % 256 * 2 ^ 24 + s.ll.actCycle.toNat % 2 ^ 24)
    else s
  else if d.ftype = 4 then
    let c := commitOf (d.words.headD 0)
    (s.modLn (fun x => { x with cancelled := some c, wakeLeft := 6, wakeAt := c })).lnDropCommit
  else s

/-- An attempt of a request ends (spec/06_line_access.md R214 to R216). -/
def State.lnAttempt (s : State) (f : LineFrame) (ack : Option (BitVec 9)) : State :=
  let q := f.entry
  let code := if hdrAckreq f.header then ack.bind (ackCode (hdrSeq f.header)) else none
  let lost := hdrAckreq f.header && (code == none || code == some 2)
  let s := s.modLn (fun x => { x with frame := none, lastCode := code.getD 7 })
  let s := if hdrAckreq f.header && code == none then s.bump F.LA_STAT_UNACKED 0 else s
  let s := if f.muted || !hdrAckreq f.header then s else s.lnTec lost
  if !s.lnLive q then s
  else
    let back := s.lnRefund q (s.lnReqSpan q - frameSpan f.k (hdrTiers f.header))
    if !hdrAckreq f.header then back.lnEnd q .ok
    else if !lost then back.lnEnd q (ackOutcome code)
    else if f.muted || decide (s.lac F.LA_CFG_RETRY_MAX ≤ s.g F.LA_TXQ_ATTEMPTS q) then back.lnEnd q .badFrame
    else
      let span := s.lnReqSpan q
      if s.lnCharged (s.lnOwner q) (s.g F.LA_TXQ_CLASS q) && decide (s.g F.LA_TENANT_LEVEL (s.lnOwner q) < span) then
        back.lnEnd q .budget
      else
        let d := s.rngDraw (backoffBits (s.g F.LA_TXQ_ATTEMPTS q) (s.lnConf == 2))
        (d.2.lnCharge q span).modLn (fun x => { x with backoff := d.1 })

/-- LINE_ATTEMPT_END: the last acknowledgement half-cycle of an own frame has ended (spec/06_line_access.md R205, R214). -/
def execLineAttemptEnd (ack : Option (BitVec 9)) (s : State) : Host.Outcome State Fault Refusal :=
  match s.ln.frame with
  | none => .next s
  | some f =>
    if f.own then
      let s := s.toHalfIndex f.over
      match f.dev with
      | some d => .next (s.lnDevEnd d)
      | none => .next (s.lnAttempt f ack)
    else .next s

/-! Reception. -/

/-- The station receives. -/
def State.lnHears (s : State) : Bool := s.isOn .line && s.lnDorm != 2

/-- LQ smoothed by 1/8 (spec/06_line_access.md R239; notes/assumptions/23.md). -/
def smoothLq (old new : Nat) : Nat := (unsignedN 8 (Int.ofNat old + (Int.ofNat (new % 256) - Int.ofNat old) / 8))

/-- A frame of another station from its header on: K is taken from the common map (spec/06_line_access.md R206). -/
def State.lnHeard (s : State) (hd : BitVec 48) (h stamp copy : Nat) : LineFrame where
  own := false
  header := hd
  h := h
  k := frameK (s.rd 0x12 0) (s.rd 0x12 1) (s.rd 0x12 0) (s.rd 0x12 1) h (hdrTiers hd) (sectionBits (hdrLen hd) (hdrSecure hd))
  map0 := s.rd 0x12 2
  map1 := s.rd 0x12 3
  cmap0 := s.rd 0x12 0
  cmap1 := s.rd 0x12 1
  phases := s.couplers (hdrSrc hd)
  stamp := stamp
  copies := copy
  started := true

/-- A good header is taken: REC falls, the sender is entered, the frame is in progress (spec/06_line_access.md R195, R206,
R215, R239). -/
def State.lnTakeHeader (s : State) (hd : BitVec 48) (h stamp copy lq : Nat) : State :=
  let s := s.lnRec false
  let s := match s.nbrTake (hdrSrc hd) with
    | none => s
    | some (n, s) => s.ps 0x15 n [(F.LA_NBR_LQ, smoothLq (s.g F.LA_NBR_LQ n) lq), (F.LA_NBR_LAST_CYCLE, s.cycle)]
  s.modLn (fun l => { l with frame := some (s.lnHeard hd h stamp copy), unknown := false })

/-- LINE_HEADER_RX: a header is decoded; its frame began `back` half-cycles ago, its first core sample was `ago` ticks
ago, it was heard in the copy of tier `copy`, with decoder margin `lq`; `burst` says that access bursts came before it
(spec/06_line_access.md R195, R206, R211, R215, R239). -/
def execLineHeaderRx (header : BitVec 48) (burst : Bool) (back ago : Nat) (copy : Fin 4) (lq : Byte) (s : State) :
    Host.Outcome State Fault Refusal :=
  if !s.lnHears then .next s
  else
    match s.ln.frame with
    | some f =>
      if !f.own && f.header == header then
        .next (s.modLn (fun l => { l with frame := some { f with copies := f.copies ||| 2 ^ copy.val } }))
      else .next s
    | none =>
      let lost (s : State) : State := s.modLn (fun l => { l with unknown := l.unknown || burst })
      if !hdrCrcOk header then
        let s := lost (s.bump F.LA_STAT_HDR_BAD 0)
        .next (if burst then s.lnRec true else s)
      else if hdrTag header != domTag (s.lac F.LA_CFG_DOMAIN_ID) then .next (lost (s.bump F.LA_STAT_TAG_MISS 0))
      else if hdrIllegal header then .next (lost s)
      else
        .next (s.lnTakeHeader header (s.hcIndex - back) ((s.stampAgo ago).toNat / 2 ^ 32) (2 ^ copy.val) lq.toNat)

/-- A header is addressed to this station (spec/06_line_access.md R195). -/
def State.lnAddressed (s : State) (hd : BitVec 48) : Bool :=
  hdrDst hd == 255 || (s.lac F.LA_CFG_ADDR != 0 && hdrDst hd == s.lac F.LA_CFG_ADDR)

/-- A frame from another station whose payload is due, addressed to this one. -/
def State.lnDue (s : State) : Option LineFrame :=
  s.ln.frame.filter (fun f => !f.own && s.lnHears && s.lnAddressed f.header && decide (f.done < f.k))

/-- PCRC of a section verifies, and the section has its length (spec/06_line_access.md R196). -/
def sectionOk (hd : BitVec 48) (bits : List Bool) : Bool :=
  bits.length == sectionBits (hdrLen hd) (hdrSecure hd) && crc16 (bits.take (bits.length - 16)) == ofBitsBE (bits.drop (bits.length - 16))

/-- TYPE of a section. -/
def sectionType (bits : List Bool) : Nat := ofBitsBE (bits.take 8)

/-- The words of a section in clear. -/
def sectionWords (bits : List Bool) : List Word :=
  wordsDown (bytesOfBits ((bits.drop 8).take (bits.length - 24)))

/-- The frame's payload has been taken. -/
def State.lnTaken (s : State) (f : LineFrame) (ack : Option Nat) : State :=
  s.modLn (fun l => { l with frame := some { f with
    done := f.k, acked := ack.isSome && hdrAckreq f.header && hdrDst f.header != 255, ackCode := ack.getD 0 } })

/-- A frame is a duplicate: its SEQ is the last one accepted from its sender within 256 cycles
(spec/06_line_access.md R208). -/
def State.lnDup (s : State) (n : Option Nat) (seq : Nat) : Bool :=
  match n with
  | none => false
  | some n => s.b F.LA_NBR_SEQ_VALID n && s.g F.LA_NBR_LAST_SEQ n == seq
      && decide ((s.cycle + 2 ^ 32 - vget s.ln.accAt n) % 2 ^ 32 < 256)

/-- The buffer a frame goes to: the next in turn, skipping one still held (spec/06_line_access.md R223). -/
def State.lnBuffer (s : State) : Option Nat :=
  [s.ln.nextBuf, 1 - s.ln.nextBuf].find? (fun b => !(vget s.ln.bufs b).full)

/-- A frame is stored and RX_FRAME raised (spec/06_line_access.md R223, R237, R243). -/
def State.lnStore (s : State) (f : LineFrame) (b : Nat) (words : List Word) : State :=
  let hd := f.header
  let t := hdrTenant hd
  let s := (List.range 8).foldl (fun s i => s.wr 0x19 (9 * b + 1 + i) (words.getD i 0)) s
  let s := s.ps 0x19 (9 * b) [(F.LA_RX_HEADER, hd.toNat), (F.LA_RX_RELEASE, 0), (F.LA_RX_CYCLE, f.stamp / 65536),
    (F.LA_RX_ANGLE, f.stamp % 65536), (F.LA_RX_COPY, f.copies)]
  let s := s.modLn (fun l => { l with bufs := vset l.bufs b { full := true, seen := false, tenant := t }, nextBuf := 1 - b })
  let arg := hdrSrc hd * 2 ^ 24 + hdrDst hd * 2 ^ 16 + hdrSeq hd * 2 ^ 12 + hdrLen hd * 256 + b * 16 + hdrClass hd * 4
    + b2n (hdrDst hd == 255) * 2 + b2n (hdrSecure hd)
  s.raise .line { common := false, tenant := t, sev := 0, code := 0x21, arg := arg, ref := 64 + b }

/-- A DATA frame that nothing refuses: a duplicate is acknowledged only, a frame without a free buffer raises RX_OVERRUN
(spec/06_line_access.md R207, R208, R223, R231). -/
def State.lnAccept (s : State) (f : LineFrame) (words : List Word) : State :=
  let hd := f.header
  let n := s.nbrOf (hdrSrc hd)
  let ack := if s.lnHostGone then 1 else 0
  if s.lnDup n (hdrSeq hd) then s.lnTaken f (some ack)
  else
    match s.lnBuffer with
    | none =>
      (s.lnTaken f (if s.lnHostGone then some 1 else none)).raiseTenant .line (hdrTenant hd) 2 0x23
        (hdrSrc hd * 2 ^ 24 + hdrSeq hd * 2 ^ 12)
    | some b =>
      let s := s.lnStore f b words
      let s := match n with
        | none => s
        | some n =>
          (s.ps 0x15 n [(F.LA_NBR_LAST_SEQ, hdrSeq hd), (F.LA_NBR_SEQ_VALID, 1)]).modLn
            (fun l => { l with accAt := vset l.accAt n (s.cycle % 2 ^ 32) })
      s.lnTaken f (some ack)

/-- A SECURE DATA frame: MIC and FC, then as any other (spec/06_line_access.md R198, R199, R207,
spec/10_obsidian_cipher.md R660). -/
def State.lnSecureRx (s : State) (f : LineFrame) (bits : List Bool) : State :=
  let body := bytesOfBits ((bits.drop 40).take (128 * (hdrLen f.header + 1)))
  let mic := bytesOfBits ((bits.drop (40 + 128 * (hdrLen f.header + 1))).take 64)
  let fc := ofBitsBE ((bits.drop 8).take 32)
  let r := s.openSection f.header (sectionType bits) fc body mic
  match s.nbrOf (hdrSrc f.header) with
  | none => s.lnTaken f (some 3)
  | some n =>
    if r.1 = .badFrame then s.lnTaken f (some 3)
    else if r.1 ≠ .ok then s.lnTaken f none
    else if s.g F.LA_NBR_RX_FC n < fc then (s.p F.LA_NBR_RX_FC n fc).lnAccept f r.2
    else s.lnTaken f (some 3)

/-- A received section, its acknowledgement chosen (spec/06_line_access.md R197, R207, R223). -/
def State.lnSection (s : State) (f : LineFrame) (bits : List Bool) : State :=
  let hd := f.header
  let good := sectionOk hd bits
  if !s.enabled (hdrTenant hd) || (good && decide (4 < sectionType bits)) then s.lnTaken f (some 4)
  else if !good then s.lnTaken f (some (if s.lnHostGone then 1 else 2))
  else if sectionType bits ≠ 0 then s.lnTaken f (some (if s.lnHostGone then 1 else 0))
  else if hdrSecure hd then s.lnSecureRx f bits
  else s.lnAccept f (sectionWords bits)

/-- LINE_FRAME_RX: the payload section of the frame in progress is decoded (spec/06_line_access.md R196, R207, R208,
R223). -/
def execLineFrameRx (bits : List Bool) (s : State) : Host.Outcome State Fault Refusal :=
  match s.lnDue with
  | none => .next s
  | some f => .next ((s.toHalfIndex f.ackAt).lnSection f bits)

/-- LINE_ACK_TX: the destination answers in half-cycle A (spec/06_line_access.md R207). -/
def execLineAckTx (s : State) : Host.Outcome State Fault Refusal :=
  match s.ln.frame with
  | none => .next s
  | some f =>
    if !f.own && f.acked then
      let s := s.toHalfIndex f.ackAt
      if s.hcIndex ≠ f.ackAt then .next s
      else
        .next (s.modLn (fun l => { l with
          frame := some { f with acked := false }, ltxen := l.ltxen ||| f.phases,
          txSlots := s.ackSymbols f.cmap0 f.cmap1 f.ackAt (ackBits (hdrSeq f.header) f.ackCode) }))
    else .next s

/-- LINE_RX_RELEASE's effect, and any commit to LA_RX (spec/06_line_access.md R223, R243, spec/01_cabinet_system.md R26). -/
def State.lnCommitRx (s : State) (e : Nat) (w : Word) : Oc × State :=
  let b := e / 9
  if (vget s.ln.bufs b).seen then
    if e % 9 = 0 ∧ F.LA_RX_RELEASE.of w = 1 then (.ok, s.lnFreeBuf b) else (.ok, s)
  else (.stateMismatch, s)

/-! Relaying. -/

/-- LINE_RELAY_COPY: a repeater re-sends what it decided in the half-cycle before: `slots` holds slot and 8-FSK value,
`pw` the priority window in which it heard the bursts of tone `tiers` (spec/06_line_access.md R209, R210). -/
def execLineRelayCopy (tiers : Fin 4) (pw : Option (Fin 4)) (slots : List (Fin 16 × Fin 8)) (s : State) :
    Host.Outcome State Fault Refusal :=
  let s := s.toHalf
  let tier := s.lac F.LA_CFG_TIER
  let x := s.hcIndex
  let f := s.ln.frame
  let t := match f with | some f => hdrTiers f.header | none => tiers.val
  let data := match f with
    | none => true
    | some f => !f.own && decide (f.h + tier ≤ x ∧ (x - f.h - tier) % (t + 1) = 0 ∧ (x - f.h - tier) / (t + 1) < f.k)
  let ack := match f with | none => false | some f => !f.own && decide (x + tier = f.ackAt + t + 1)
  if s.lnHears && s.lac F.LA_CFG_ROLE == 2 && decide (tier ≤ t) && (data || ack) && (!slots.isEmpty || pw.isSome) then
    let setOf (i : Nat) : Nat :=
      let own := s.commonByte ((x + 1) % 2 * 16 + i) % 16
      match f with
      | none => own
      | some f =>
        if data then (setAt f ((x - f.h - tier) / (t + 1) * 16 + i)).getD own
        else
          let l := (List.range 16).filter (fun j => decide (2 ≤ j) && mapClass (mapAt f.cmap0 f.cmap1 (f.ackAt % 2 * 16 + j)) != 0)
          (mapAt f.cmap0 f.cmap1 (f.ackAt % 2 * 16 + l.headD 0) % 16 + l.idxOf i % 6) % 16
    let sent := slots.map (fun y =>
      ({ slot := y.1.val, dither := s.lsDither, tones := [wbyte (s.rd 0x11 (setOf y.1.val)) (2 * y.2.val)] } : TxSlot))
    let ph := s.couplers 255
    let s := match pw with
      | none => s
      | some p => if data && !ack then s.lnBursts t ph (p.val :: (List.range (tier + 1)).map (4 + ·)) else s
    .next (s.modLn (fun l => { l with
      txSlots := sent, ltxen := l.ltxen ||| ph, unknown := l.unknown || f.isNone }))
  else .next s

/-! Domain and BEACON. -/

/-- BEACON_QUEUE (spec/06_line_access.md R212, R222). -/
def execBeaconQueue (s : State) : Host.Outcome State Fault Refusal :=
  let s := s.toBeacon
  let s := s.modLn (fun x => { x with queue := x.queue.filter (fun f => f.ftype != 1) })
  if s.lnHears && s.isMaster && !s.lnAlarmOnly then
    .next (s.modLn (fun x => { x with queue := x.queue ++ [{ ftype := 1, cls := 2, tiers := s.lac F.LA_CFG_DOM_TIERS }] }))
  else .next s

/-- The word of a due frame of this TYPE that the device consumes (spec/06_line_access.md R197). -/
def State.lnInternal (s : State) (ftype : Nat) (bits : List Bool) : Option (LineFrame × List Word) :=
  (s.lnDue.filter (fun f => sectionOk f.header bits && !hdrSecure f.header && sectionType bits == ftype)).map
    (fun f => (f, sectionWords bits))

/-- BEACON_RX: a BEACON is received in the copy of tier `t`, its stamp point `ago` ticks before now
(spec/06_line_access.md R212, spec/01_cabinet_system.md R33, spec/04_geyser_time_base.md R121 to R127). -/
def execBeaconRx (bits : List Bool) (t : Fin 4) (ago : Nat) (s : State) : Host.Outcome State Fault Refusal :=
  match s.lnInternal 1 bits with
  | none => .next s
  | some (f, ws) =>
    let w := ws.headD 0
    let src := hdrSrc f.header
    let s := s.lnTaken f none
    if w.bits 112 16 ≠ s.lac F.LA_CFG_DOMAIN_ID then .next s
    else
      let s := if s.isMaster && decide (src < s.lac F.LA_CFG_ADDR) then s.modLn (fun x => { x with demote := some src }) else s
      let s := s.gyBeacon src (w.bits 80 32) (w.bits 64 16) (w.bits 53 11) t.val ago
      .next (if w.bits 52 1 = 1 ∧ !s.isMaster then s.lnPropose src (w.bits 16 32 * 2 + w.bits 51 1) else s)

/-- NBR_MAP: a MAP frame is received (spec/07_line_learning.md R259). -/
def execNbrMap (bits : List Bool) (s : State) : Host.Outcome State Fault Refusal :=
  match s.lnInternal 2 bits with
  | none => .next s
  | some (f, ws) => .next ((s.lnTaken f none).nbrStore (hdrSrc f.header) ws)

/-- DORMANT_PROPOSE_RX (spec/06_line_access.md R224, R234). -/
def execDormantProposeRx (bits : List Bool) (s : State) : Host.Outcome State Fault Refusal :=
  match s.lnInternal 3 bits with
  | none => .next s
  | some (f, ws) =>
    let w := ws.headD 0
    let s := s.lnTaken f none
    .next (if w.bits 112 16 = s.lac F.LA_CFG_DOMAIN_ID then s.lnPropose (hdrSrc f.header) (commitOf w) else s)

/-- CANCEL_RX: a CANCEL received before C drops the pending commit; the station sends the wake tone at C
(spec/06_line_access.md R226). -/
def execCancelRx (bits : List Bool) (s : State) : Host.Outcome State Fault Refusal :=
  match s.lnInternal 4 bits with
  | none => .next s
  | some (f, ws) =>
    let w := ws.headD 0
    let s := s.lnTaken f none
    if w.bits 112 16 = s.lac F.LA_CFG_DOMAIN_ID ∧ s.hcIndex < commitOf w then
      let s := s.modLn (fun x => { x with cancelled := some (commitOf w), wakeLeft := 6, wakeAt := commitOf w })
      .next (if s.ln.commit = some (commitOf w) then s.lnDropCommit else s)
    else .next s

/-- DORMANT_COMMIT: the start of C (spec/06_line_access.md R225, R226). -/
def execDormantCommit (s : State) : Host.Outcome State Fault Refusal :=
  match s.ln.commit with
  | none => .next s
  | some c =>
    let s := s.toHalfIndex c
    if s.hcIndex < c ∨ s.lnDorm ≠ 1 then .next s
    else
      let late := s.ln.queue.any (fun f => f.ftype == 4)
      let s := s.modLn (fun x => { x with queue := x.queue.filter (fun f => f.ftype != 4) })
      if late || s.ln.wakeLeft != 0 then
        .next ((s.modLn (fun x => { x with wakeLeft := 6, wakeAt := c })).lnDropCommit)
      else .next s.lnWatch

/-- WAKE_DETECT: the wake tone is detected in `n` slots of the half-cycle that ends (spec/06_line_access.md R225, R226). -/
def execWakeDetect (n : Nat) (s : State) : Host.Outcome State Fault Refusal :=
  if n < 8 ∨ !s.isOn .line then .next s
  else
    let s := (s.toHalf).bump F.LA_DORM_WAKES 0
    if s.lnDorm = 2 then .next s.lnWoken else if s.lnDorm = 1 then .next s.lnDropCommit else .next s

/-! Timers. -/

/-- LA_CFG_APPLY: at a half-cycle boundary with no frame in progress (spec/06_line_access.md R213,
spec/09_caldera_jobs.md R327). -/
def State.lnApplyCfg (s : State) : State :=
  if s.ln.cfgOld.isNone || s.frameNow then s
  else
    let wake := s.wakeIdx
    let master := s.isMaster
    let s := s.modLn (fun x => { x with cfgOld := none })
    let s := if master && !s.isMaster then s.modLn (fun x => { x with queue := x.queue.filter (fun f => f.ftype != 1) }) else s
    let s := if s.wakeIdx ≠ wake ∧ s.b F.ASCHED_VALID 8 then s.lnSlotWindows else s
    (if s.isOn .line then s.lnSetSub else s).gyMasterTime

/-- LA_CFG_APPLY (spec/06_line_access.md R213). -/
def execLaCfgApply (s : State) : Host.Outcome State Fault Refusal := .next s.toHalf.lnApplyCfg

/-- BUCKET_REFILL (spec/06_line_access.md R219). -/
def execBucketRefill (s : State) : Host.Outcome State Fault Refusal :=
  .next ((List.range 64).foldl (fun s t =>
    s.p F.LA_TENANT_LEVEL t (capAt (s.g F.LA_TENANT_BKT_MAX t) (s.g F.LA_TENANT_LEVEL t + s.g F.LA_TENANT_REFILL t))) s.toBeacon)

/-- ALARM_CREDIT: a period of ALARM_CREDIT seconds since entry to MUTED has passed (spec/06_line_access.md R216). -/
def execAlarmCredit (s : State) : Host.Outcome State Fault Refusal :=
  let per := s.lac F.LA_CFG_ALARM_CREDIT * secTicks
  if s.lnConf ≠ 3 ∨ per = 0 then .next s
  else
    let s := s.advance ((per - (s.tick - s.ln.mutedAt) % per) % per)
    .next (s.modLn (fun x => { x with credit := true }))

/-! The half-cycle boundary. -/

/-- Symbols of the wake tone in every slot (spec/06_line_access.md R226). -/
def State.lnWakeTone (s : State) : State :=
  if s.ln.wakeLeft = 0 ∨ s.hcIndex < s.ln.wakeAt ∨ !s.isOn .line then s
  else
    let s := s.lnWoken
    s.modLn (fun x => { x with
      wakeLeft := x.wakeLeft - 1, ltxen := s.couplers 255,
      txSlots := (List.range 16).map (fun i => { slot := i, tones := [s.wakeIdx], dither := s.lsDither }) })

/-- RESUME takes effect (spec/06_line_access.md R216, R232). -/
def State.lnResume (s : State) : State :=
  let busy := match s.ln.frame with | some f => f.own && f.muted | none => false
  if !s.ln.resume || busy then s
  else
    let s := s.modLn (fun x => { x with resume := false, credit := false })
    let s := s.ps 0x1A 0 [(F.LA_STAT_TEC, 0), (F.LA_STAT_REC, 0), (F.LA_STAT_CONF, 0)]
    s.lnSetSub.raiseCommon .line 2 0x24 0

/-- A demoted MASTER becomes MEMBER (spec/01_cabinet_system.md R33, spec/06_line_access.md R213). -/
def State.lnDemote (s : State) : State :=
  match s.ln.demote with
  | none => s
  | some a =>
    let s := (s.p F.LA_CFG_ROLE 0 0).modLn (fun x => { x with
      demote := none, queue := x.queue.filter (fun f => f.ftype != 1), cfgOld := x.cfgOld.map (F.LA_CFG_ROLE.into 0) })
    (s.lnSetSub.raiseCommon .line 2 0x25 a).gyMasterTime

/-- Every zero-cross input is without a qualified signal (spec/01_cabinet_system.md R34; notes/assumptions/24.md). -/
def State.mainsDead (s : State) : Bool := !s.gyQual 1 && !s.gyQual 2 && !s.gyQual 3

/-- LINE at a half-cycle boundary (spec/06_line_access.md R205, R216, R226, spec/01_cabinet_system.md R33, R34,
spec/02_host_access.md R70). -/
def State.lnHalf (s : State) : State :=
  let s := s.modLn (fun x => { x with txQuarters := [], txSlots := [], ltxen := 0 })
  let s := match s.ln.frame with
    | some f => if !f.own && decide (f.over ≤ s.hcIndex) then s.modLn (fun x => { x with frame := none }) else s
    | none => s
  if !s.isOn .line then s
  else
    let s := s.lnResume.lnDemote
    let s := if s.sub .line / 16 % 2 = 1 ∧ !s.dev.hostLost then s.lnHostless false
      else if s.sub .line / 16 % 2 = 0 ∧ s.dev.hostLost then s.lnHostless true else s
    let s := if s.mainsDead && !s.timeOk then
        (List.range 16).foldl (fun s q => if s.lnLive q && !s.lnFrameOf q then s.lnDrop q .notReady else s) s
      else s
    s.lnWakeTone

/-! Commits. -/

/-- A commit to LA_CFG (spec/06_line_access.md R201, R213, R238). -/
def State.lnCommitCfg (s : State) (w : Word) : Oc × State :=
  let new := s.merged 0x14 0 w
  let tones := lnTones s.lsProfile new
  let g (f : Fld) : Nat := f.of new
  let bad := g F.LA_CFG_ADDR == 255 || g F.LA_CFG_ROLE == 3 || (g F.LA_CFG_ROLE == 2 && g F.LA_CFG_TIER == 0)
    || (g F.LA_CFG_ROLE == 1 && g F.LA_CFG_ADDR == 0) || decide (g F.LA_CFG_RETRY_MAX = 0 ∨ 8 < g F.LA_CFG_RETRY_MAX)
    || decide (g F.LA_CFG_GRANT_LEAD < 2) || decide (g F.LA_CFG_ACC_THR < 3 ∨ 40 < g F.LA_CFG_ACC_THR)
    || g F.LA_CFG_ALARM_CREDIT == 0 || g F.LA_CFG_WATCH_PH == 0
    || !tones.all (inProfile s.lsProfile) || !tonesApart (tones.take 4)
  if bad then (.param, s)
  else
    let old := s.rd 0x14 0
    (.ok, (s.wr 0x14 0 new).modLn (fun x => { x with cfgOld := if x.cfgOld.isSome || old == new then x.cfgOld else some old }))

/-- A commit to LA_NBR: two entries for one address are refused, a new address makes a new entry
(spec/06_line_access.md R236, R239; notes/assumptions/25.md). -/
def State.lnCommitNbr (s : State) (e : Nat) (w : Word) : Oc × State :=
  let new := s.merged 0x15 e w
  let a := F.LA_NBR_ADDR.of new
  if a = 255 ∨ (a ≠ 0 ∧ (List.range 32).any (fun n => n != e && s.g F.LA_NBR_ADDR n == a)) then (.param, s)
  else
    let moved := a != s.g F.LA_NBR_ADDR e
    let s := s.wr 0x15 e new
    if moved then
      let s := s.nbrClear e
      (.ok, if a = 0 then s else s.modLl (fun x => { x with newNbr := true }))
    else (.ok, s)

/-- A commit to LA_TENANT (spec/06_line_access.md R240). -/
def State.lnCommitTenant (s : State) (t e : Nat) (w : Word) : Oc × State :=
  let new := s.merged 0x16 e w
  if t ≠ 0 then (.notAvailable, s)
  else if F.LA_TENANT_QLIM.of new = 0 then (.param, s)
  else
    let s := s.wr 0x16 e new
    (.ok, s.p F.LA_TENANT_LEVEL e (capAt (s.g F.LA_TENANT_BKT_MAX e) (s.g F.LA_TENANT_LEVEL e)))

/-! The unit. -/

/-- LINE's own unit commands (spec/06_line_access.md R217, Table LA-7). -/
def State.lnUnitCmd (s : State) (cmd arg : Nat) : Oc × State :=
  if cmd = 8 then
    let o := judge [(!s.isOn .line || s.lnConf != 3, .stateMismatch), (decide (s.tick < s.ln.mutedAt + 60 * secTicks), .notReady)]
    if o = .ok then (.ok, s.modLn (fun x => { x with resume := true })) else (o, s)
  else if cmd = 9 then
    let o := judge [(!s.isOn .line || !s.isMaster, .stateMismatch), (decide (arg < 13), .param),
      (s.ln.commit.isSome, .busy)]
    if o = .ok then
      let c := s.hcIndex + 16 * arg
      let w : Word := BitVec.ofNat 128 (s.lac F.LA_CFG_DOMAIN_ID * 2 ^ 112 + c / 2 % 2 ^ 32 * 2 ^ 80 + c % 2 * 2 ^ 79
        + s.wakeIdx * 2 ^ 64)
      let s := s.modLn (fun x => { x with queue := x.queue ++
        [{ ftype := 3, cls := 2, tiers := s.lac F.LA_CFG_DOM_TIERS, words := [w] }] })
      (.ok, s.lnPropose (s.lac F.LA_CFG_ADDR) c)
    else (o, s)
  else if cmd = 10 then (if s.isOn .line then (.ok, s.lnWakeRequest) else (.stateMismatch, s))
  else (.param, s)

/-- The forced substate takes effect: 1 enters WATCH, 0 leaves it (spec/06_line_access.md R217). -/
def State.lnForce (s : State) (arg : Nat) : State :=
  let s := s.changeMirror .line (fun m => { m with forced := false, pend := none, held := arg })
  if arg = 1 then s.lnWatch else s.lnWoken

/-- LINE's start steps are done: its windows need CALD, the maps and tone sets must agree (spec/05_line_signal.md R184,
spec/07_line_learning.md R254, spec/09_caldera_jobs.md R326). A start while CALD is STARTING waits. -/
def State.lnStart (s : State) : State :=
  let s := s.p F.LS_CFG_CHK_ERR 0 s.lsCheck
  if s.st .cald = .starting then s
  else if s.lsCheck ≠ 0 ∨ !s.isOn .cald then (s.goFault .line 0 State.lnEndAll).ascDrop (List.range 37)
  else
    let s := s.lnWindows.llStart.modLn (fun x => { x with
      frame := none, unknown := false, idleSeen := false, queue := [], txQuarters := [], txSlots := [], ltxen := 0,
      resume := false, wakeLeft := 0, agc := Vector.replicate 3 {} })
    let s := (List.range 3).foldl (fun s i => s.p F.LS_RXSTAT_GAIN i (s.lsGain i)) s
    s.goOn .line (s.lnConf + 4 * s.lnDorm + 16 * b2n s.dev.hostLost + 32 * b2n s.isMaster)

/-- LINE leaves service: nothing is sent, its windows are removed, a pending commit and own map are dropped
(spec/09_caldera_jobs.md R326, spec/07_line_learning.md R264; notes/assumptions/26.md). -/
def State.lnOut (s : State) : State :=
  let s := s.modLn (fun x => { x with
    frame := none, unknown := false, queue := [], txQuarters := [], txSlots := [], ltxen := 0, wakeLeft := 0, commit := none,
    resume := false })
  ((s.p F.LA_DORM_DSTATE 0 0).ascDrop (List.range 37)).llStop

end Sys2Proof.Machine
end

