-- ==== Sys2Proof/Machine/Sensor.lean ====
section
/-! DEFINITION. The bridge sensor front end: conversions and their validity, the auxiliary converter, linearisation, the
impedance check, LOW_RATE (spec/14_sensor_front_end.md). -/

namespace Sys2Proof.Machine

open Sys2Proof

/-! Channels. -/

/-- A channel's working state. -/
def State.sfc (s : State) (n : Nat) : SfCh := vget s.sf.ch n

/-- A channel's working state changed. -/
def State.modSfc (s : State) (n : Nat) (f : SfCh → SfCh) : State := s.modSf (fun x => { x with ch := vmod x.ch n f })

/-- A field of a channel's configuration in force (spec/14_sensor_front_end.md R524). -/
def State.sfCur (s : State) (n : Nat) (f : Fld) : Nat := f.of (s.sfc n).cur

/-- The tenant of a channel: a change waits for the channel's next conversion boundary (spec/14_sensor_front_end.md
R546). -/
def State.sfTenant (s : State) (n : Nat) : Nat :=
  if (s.sfc n).pend then s.sfCur n F.SF_CH_TENANT else s.g F.SF_CH_TENANT (2 + n)

/-- SUB.LOW_RATE (spec/14_sensor_front_end.md R540). -/
def State.sfLow (s : State) : Bool := bitOf (s.sub .sens) 0

/-- SUB changes, and the status entry with it (spec/14_sensor_front_end.md R540, R550). -/
def State.sfSetSub (s : State) (low : Bool) (check : Option Nat) : State :=
  let c := check.getD 0
  (s.ps 0x3D 13 [(F.SF_ST_CHECKING, b2n check.isSome), (F.SF_ST_CHK_CH, c), (F.SF_ST_LOW_RATE, b2n low)]).setSub .sens
    (b2n low + 2 * b2n check.isSome + 4 * c)

/-- Outputs that a change of EN, EXC, INSEL or GAIN makes invalid: the first 2 of SINC3, the one window of CYCLE
(spec/14_sensor_front_end.md R524). -/
def sfCount (cycleFilter : Bool) : Nat := if cycleFilter then 1 else 2

/-- A change with a reason leaves outputs of a channel invalid (spec/14_sensor_front_end.md R524, R541). -/
def State.sfMark (s : State) (n reason count : Nat) : State :=
  s.modSfc n (fun x => { x with left := vset x.left reason count })

/-- The reasons in their order of priority (spec/14_sensor_front_end.md R525). -/
def sfPriority : List Nat := [7, 6, 8, 3, 1, 2, 4, 5]

/-- The reason of an output (spec/14_sensor_front_end.md R525). -/
def State.sfReason (s : State) (n : Nat) (ovl : Bool) : Nat :=
  let holds (r : Nat) : Bool :=
    vget (s.sfc n).left r != 0 || (r == 7 && s.sf.check == some n) || (r == 6 && s.b F.SF_CH_TRIPPED (2 + n))
      || (r == 5 && ovl)
  (sfPriority.find? holds).getD 0

/-- RAW of a conversion whose exact rounded value is `x`: it saturates at the ends of the range, and so it does when the
modulator overloads, on the value's side (spec/14_sensor_front_end.md R520). -/
def sfRaw (x : Int) (ovl : Bool) : BitVec 24 × Bool :=
  let m : Int := 2 ^ 23 - 1
  if ovl ∨ x < -m ∨ m < x then (BitVec.ofInt 24 (if x < 0 then -m else m), true) else (BitVec.ofInt 24 x, false)

/-- A conversion of channel `n` completes: it joins the batch that waits for K4 (spec/14_sensor_front_end.md R520, R524 to
R526, R528, R546). -/
def State.sfDeliver (s : State) (n : Nat) (x : Int) (ovl : Bool) : State :=
  let r := sfRaw x ovl
  let why := s.sfReason n r.2
  let c : SfConv :=
    { ch := n, raw := r.1, reason := why, unlocked := s.timeUnlocked, stamp := s.stamp48, tenant := s.sfCur n F.SF_CH_TENANT }
  let s := s.modSfc n (fun y => { y with
    left := Vector.ofFn (fun (i : Fin 9) => vget y.left i.val - 1), lastRaw := if why = 0 then r.1 else y.lastRaw })
  let s := if why = 5 then s.bump F.SF_CH_OVERS (2 + n) else s
  s.modSf (fun y => { y with batch := y.batch ++ [c] })

/-- The excitation current of a channel as measured, in units of 10 µA (spec/14_sensor_front_end.md R519, R549, R550). -/
def State.sfCurrent (s : State) (n i : Nat) : State :=
  let s := s.p F.SF_CH_IEXC (2 + n) i
  s.p F.SF_ST_ITOTAL 13 (((List.range 4).map (fun k => s.g F.SF_CH_IEXC (2 + k))).sum)

/-- The channel converts: SENS in service and EN set. -/
def State.sfRuns (s : State) (n : Nat) : Bool := s.isOn .sens && s.sfCur n F.SF_CH_EN == 1

/-- The channel runs as it is configured: not in LOW_RATE, or finishing the conversion that was in progress when LOW_RATE
was entered (spec/14_sensor_front_end.md R538). -/
def State.sfNormal (s : State) (n : Nat) : Bool := !s.sfLow || vget (s.sfc n).left 8 != 0

/-- SINC3_OUTPUT: at the next millisecond a SINC3 channel delivers an output; `x` is the exact rounded value, `ovl` an
overload within its span, `iexc` the excitation current (spec/14_sensor_front_end.md R520, R522). -/
def execSinc3Output (n : Fin 4) (x : Int) (ovl : Bool) (iexc : Nat) (s : State) : Host.Outcome State Fault Refusal :=
  let n := n.val
  if !s.sfRuns n || s.sfCur n F.SF_CH_FILTER == 1 || !s.sfNormal n then .next s
  else
    let k := ceilDiv s.tick msTicks
    let k := if (s.sfc n).lastOut = some k then k + 1 else k
    let s := s.advanceTo (k * msTicks)
    .next (((s.sfCurrent n iexc).sfDeliver n x ovl).modSfc n (fun y => { y with lastOut := some k }))

/-- Cycles of a channel's CYCLE window (spec/14_sensor_front_end.md R523). -/
def State.sfN (s : State) (n : Nat) : Nat := 2 ^ s.sfCur n F.SF_CH_NEXP

/-- CYCLE_WINDOW_END: at the closing boundary, or at a step of the stamp, a CYCLE window delivers its conversion
(spec/14_sensor_front_end.md R523, R524, R538). -/
def execCycleWindowEnd (n : Fin 4) (x : Int) (ovl : Bool) (iexc : Nat) (s : State) : Host.Outcome State Fault Refusal :=
  let n := n.val
  let normal := s.sfNormal n
  if !s.sfRuns n || (normal && s.sfCur n F.SF_CH_FILTER == 0) then .next s
  else if normal && (s.sfc n).jumps != s.gy.jumps then
    let s := ((s.sfMark n 4 2).sfCurrent n iexc).sfDeliver n x ovl
    .next (s.modSfc n (fun y => { y with jumps := s.gy.jumps }))
  else
    let t := s.toCycle
    let per := s.g F.SF_CFG_LR_PERIOD 0
    let ends := if normal then t.cycle % t.sfN n == 0 else t.cycle % per == 2 % per
    if ends && (t.sfc n).lastOut != some t.cycle then
      .next (((t.sfCurrent n iexc).sfDeliver n x ovl).modSfc n (fun y => { y with
        lastOut := some t.cycle, jumps := t.gy.jumps }))
    else .next s

/-! The auxiliary converter. -/

/-- The next enabled source after `k`, in the order TEMP, AUX0 to AUX3 (spec/14_sensor_front_end.md R527). -/
def State.sfNextSrc (s : State) (k : Nat) : Option Nat :=
  ((List.range 5).map (fun i => (k + 1 + i) % 5)).find? (fun i => bitOf (s.g F.SF_CFG_SRC_EN 1) i)

/-- FP32 of an exact value. -/
def fp32Of (m : Int) (e : Int) : Nat := Cf.fp32.encode ((Cf.rne32 false (Cf.ofInt m e)) (Cf.Cx.start 0)).1

/-- VALUE of an auxiliary source: volts, or degrees for the temperature sensor (spec/14_sensor_front_end.md R521). -/
def auxValue (src : Nat) (raw : BitVec 24) : Nat :=
  if src = 0 then fp32Of raw.toInt (-8) else fp32Of (raw.toInt * 5) (-24)

/-- The result entry of a source or channel takes a sample (spec/14_sensor_front_end.md R531, R550). -/
def State.sfPut (s : State) (e raw reason : Nat) (unlocked tstale : Bool) (value stamp : Nat) : State :=
  let s := s.ps 0x3D e [(F.SF_RES_RAW, raw), (F.SF_RES_REASON, reason), (F.SF_RES_VALID, b2n (reason == 0)),
    (F.SF_RES_TIME_UNLOCKED, b2n unlocked), (F.SF_RES_TSTALE, b2n tstale), (F.SF_RES_VALUE, value),
    (F.SF_RES_SEQ, s.g F.SF_RES_SEQ e + 1), (F.SF_RES_CYCLE, stamp / 65536), (F.SF_RES_ANGLE, stamp % 65536)]
  if e < 8 ∧ reason = 0 ∧ Cf.fp32.decode value ≠ .nan then
    s.modSf (fun x => { x with
      validAt := vset x.validAt e (some s.tick), validVal := vset x.validVal e (BitVec.ofNat 32 value) })
  else s

/-- The auxiliary converter delivers the result of a source. -/
def State.sfAux (s : State) (src : Nat) (x : Int) (ovl step : Bool) : State :=
  let r := sfRaw x ovl
  let why := if step then 4 else if r.2 then 5 else 0
  let s := s.modSf (fun y =>
    if why = 0 then
      { y with
        srcOk := y.srcOk ||| 2 ^ src, srcLast := vset y.srcLast src r.1.toNat, srcStale := y.srcStale &&& (31 ^^^ 2 ^ src) }
    else { y with srcStale := y.srcStale ||| 2 ^ src })
  s.sfPut (if src = 0 then 8 else 3 + src) r.1.toNat why s.timeUnlocked false (auxValue src r.1) s.stamp48

/-- AUX_CONVERSION: at a cycle boundary the auxiliary converter delivers the source it converted and takes the next; a step
of the stamp ends its window early (spec/14_sensor_front_end.md R521, R524, R527). -/
def execAuxConversion (x : Int) (ovl : Bool) (s : State) : Host.Outcome State Fault Refusal :=
  if !s.isOn .sens then .next s
  else
    match s.sf.auxAt with
    | none =>
      let s := s.toCycle
      .next (s.modSf (fun y => { y with auxAt := s.sfNextSrc 4, auxJumps := s.gy.jumps, auxStep := false }))
    | some src =>
      if s.sf.auxJumps ≠ s.gy.jumps then
        .next ((s.sfAux src x ovl true).modSf (fun y => { y with auxJumps := s.gy.jumps, auxStep := true }))
      else
        let s := s.toCycle
        .next ((s.sfAux src x ovl s.sf.auxStep).modSf (fun y => { y with
          auxAt := s.sfNextSrc src, auxJumps := s.gy.jumps, auxStep := false }))

/-! Linearisation. -/

/-- t of a channel and TSTALE (spec/14_sensor_front_end.md R529). -/
def State.sfT (s : State) (n : Nat) : Cf.Fv × Bool :=
  let k := s.g F.SF_CH_TSRC (2 + n)
  let raw := (BitVec.ofNat 24 (vget s.sf.srcLast k)).toInt
  if bitOf s.sf.srcOk k then (Cf.ofInt raw (if k = 0 then -15 else -23), bitOf s.sf.srcStale k) else (.zero, true)

/-- VALUE of a conversion: POLY2D with the channel's active coefficients (spec/14_sensor_front_end.md R528, R530). -/
def State.sfValue (s : State) (n : Nat) (raw : BitVec 24) : Nat :=
  let c (i j : Nat) : Cf.M Cf.Fv := pure (Cf.fp32.decode (((s.sfc n).coef.getD i 0).bits (32 * j) 32))
  Cf.fp32.encode ((Cf.poly2d false false (s.g F.SF_CH_DS (2 + n)) (s.g F.SF_CH_DT (2 + n)) c .zero
    (Cf.ofInt raw.toInt (-23)) (s.sfT n).1) (Cf.Cx.start 0)).1

/-- At the start of a K4 window waiting LOADs copy their six staged words, unless committed in the same core tick
(spec/14_sensor_front_end.md R530, R542). -/
def State.sfLoads (s : State) : State :=
  (List.range 4).foldl (fun s n =>
    if s.b F.SF_CTL_LOAD_PEND (6 + n) && decide ((s.sfc n).loadAt < s.tick) then
      (s.ps 0x3C (6 + n) [(F.SF_CTL_LOAD_PEND, 0), (F.SF_CTL_CGEN, s.g F.SF_CTL_CGEN (6 + n) + 1)]).modSfc n (fun x => { x with
        coef := (List.range 6).map (fun i => s.rd 0x3C (16 + 6 * n + i)) })
    else s) s

/-- K4 takes the batch (spec/14_sensor_front_end.md R528, R547). -/
def State.sfK4Start (s : State) : State :=
  s.modSf (fun x => { x with
    batch := [], inK4 := x.batch.map (fun c => { c with value := BitVec.ofNat 32 (s.sfValue c.ch c.raw), tstale := (s.sfT c.ch).2 }) })

/-- One conversion is published (spec/14_sensor_front_end.md R528, R531, R532, R548). -/
def State.sfPublish (s : State) (c : SfConv) : State :=
  let s := s.sfPut c.ch c.raw.toNat c.reason c.unlocked c.tstale c.value.toNat c.stamp
  let s := s.modSfc c.ch (fun x => { x with evtCnt := x.evtCnt + 1 })
  let k := s.g F.SF_CTL_EVT_DIV (6 + c.ch)
  if k ≠ 0 ∧ (s.sfc c.ch).evtCnt % k = 0 then
    s.raiseTenant .sens c.tenant 0 0x10
      (s.g F.SF_RES_SEQ c.ch * 65536 + c.reason * 4096 + b2n (c.reason == 0) * 256 + c.ch)
  else s

/-- K4 ends: the batch is published; `late` when it ran past its window (spec/14_sensor_front_end.md R528, R550). -/
def State.sfK4Done (s : State) (late : Bool) : State :=
  let l := s.sf.inK4
  let s := l.foldl State.sfPublish (s.modSf (fun x => { x with inK4 := [] }))
  (if late then s.bump F.SF_ST_LATE_BATCHES 13 else s).p F.SF_ST_BATCH 13 l.length

/-! The impedance check. -/

/-- A check's entry and its record; the fault bits in the record's ARG (spec/14_sensor_front_end.md R535, R548). -/
def State.sfResult (s : State) (n result faults : Nat) : State :=
  let s := s.ps 0x3D (9 + n) [(F.SF_IMP_RESULT, result), (F.SF_IMP_FAULTS, faults), (F.SF_IMP_CYCLE, s.cycle)]
  s.raiseTenant .sens (s.sfTenant n) (if result = 1 ∧ faults = 0 then 0 else 2) 0x13
    (faults * 256 + result * 16 + n)

/-- The check ends: the channel is restored, the claim released (spec/14_sensor_front_end.md R533, R537). -/
def State.sfCheckEnd (s : State) : State :=
  match s.sf.check with
  | none => s
  | some n =>
    let s := s.modSf (fun x => { x with check := none })
    let s := s.sfMark n 7 (sfCount (s.sfCur n F.SF_CH_FILTER == 1))
    let s := if s.unitHolds .sens 0x20 then s.freeClaim 0x20 else s
    s.sfSetSub s.sfLow none

/-- A running check is abandoned (spec/14_sensor_front_end.md R538, R543). -/
def State.sfAbandon (s : State) : State :=
  match s.sf.check with
  | none => s
  | some n => s.sfCheckEnd.sfResult n 2 0

/-- K5 does not run, or LOW_RATE is in force: a check is skipped for power (spec/14_sensor_front_end.md R537). -/
def State.sfNoPower (s : State) : Bool := s.sfLow || bitOf (s.sub .cald) 1

/-- A channel may be checked (spec/14_sensor_front_end.md R536, R540). -/
def State.sfCheckable (s : State) (n : Nat) : Bool := s.sfCur n F.SF_CH_EN == 1 && s.sfCur n F.SF_CH_EXC != 0

/-- Core ticks of IMP_PERIOD. -/
def State.sfPeriod (s : State) : Nat := s.g F.SF_CFG_IMP_PERIOD 0 * 60 * secTicks

/-- IMP_CHECK_DUE: a channel's scheduled check falls due (spec/14_sensor_front_end.md R536). -/
def execImpCheckDue (n : Fin 4) (s : State) : Host.Outcome State Fault Refusal :=
  match (s.sfc n.val).due with
  | some t =>
    if s.isOn .sens then
      let s := s.advanceTo t
      let run := s.g F.SF_CFG_IMP_EN 0 == 1 && s.sfCheckable n.val
      .next (s.modSfc n.val (fun x => { x with due := some (t + s.sfPeriod), dueNow := x.dueNow || run }))
    else .next s
  | none => .next s

/-- The channel whose check begins next: a commanded one, or the first due in channel order
(spec/14_sensor_front_end.md R536, R540). -/
def State.sfNextCheck (s : State) : Option Nat :=
  match s.sf.checkReq with
  | some n => some n
  | none => (List.range 4).find? (fun n => (s.sfc n).dueNow)

/-- IMP_CHECK_START: at a cycle boundary the next check begins, or is skipped (spec/14_sensor_front_end.md R533, R536,
R537). -/
def execImpCheckStart (s : State) : Host.Outcome State Fault Refusal :=
  if !s.isOn .sens || s.sf.check.isSome then .next s
  else
    match s.sfNextCheck with
    | none => .next s
    | some n =>
      let s := s.toCycle
      let s := if s.sf.checkReq = some n then s.modSf (fun x => { x with checkReq := none })
        else s.modSfc n (fun x => { x with dueNow := false })
      if s.sfNoPower then .next (s.sfResult n 4 0)
      else if s.claimed 0x20 then .next (s.sfResult n 3 0)
      else
        let s := s.unitClaim .sens 0x20
        let s := s.modSf (fun x => { x with
          check := some n, checkAt := s.stamp48, half := 0, lockI := Vector.replicate 6 0, lockQ := Vector.replicate 6 0 })
        .next (s.sfSetSub s.sfLow (some n))

/-- A K5 result of the running check: I and Q of one half-cycle, in the stage its half-cycle belongs to
(spec/14_sensor_front_end.md R533, R534). -/
def State.sfLock (s : State) (i q : Int) : State :=
  if s.sf.check.isNone then s
  else
    s.modSf (fun x => { x with
      half := x.half + 1, lockI := vmod x.lockI (x.half / 32) (fun v => v + i),
      lockQ := vmod x.lockQ (x.half / 32) (fun v => v + q) })

/-- The largest number whose square does not exceed `x`, found bit by bit from bit `k - 1` on top of `r`. -/
def isqrtFrom (x : Nat) : Nat → Nat → Nat
  | 0, r => r
  | k + 1, r => isqrtFrom x k (if (r + 2 ^ k) * (r + 2 ^ k) ≤ x then r + 2 ^ k else r)

/-- The square root of a number, rounded down. -/
def isqrt (x : Nat) : Nat := isqrtFrom x (x.log2 / 2 + 1) 0

/-- I² + Q² of a stage (spec/14_sensor_front_end.md R534). -/
def State.sfSq (s : State) (stage : Nat) : Nat :=
  ((vget s.sf.lockI stage) ^ 2 + (vget s.sf.lockQ stage) ^ 2).toNat

/-- |a_i − r| exceeds 2⁻⁶, where a_i² is `s4 / s3` and r is `num / den` (spec/14_sensor_front_end.md R535). -/
def sfOpenRatio (s3 s4 : Nat) (num : Int) (den : Nat) : Bool :=
  let hi : Int := 64 * num + den
  let lo : Int := 64 * num - den
  let d : Int := 64 * den
  decide ((hi < 0 ∨ hi * hi * s3 < s4 * (d * d)) ∨ (0 < lo ∧ s4 * (d * d) < lo * lo * s3))

/-- IMP_RESULT: 96 cycles after its start the check ends; `vsn` is the DC sense voltage in µV, `iexc` the DC excitation
current in nA, `ad` the tone's amplitude A_d in the unit in which the sums of I and Q give 4,096 times an amplitude
(spec/14_sensor_front_end.md R533 to R535). -/
def execImpResult (vsn iexc ad : Nat) (s : State) : Host.Outcome State Fault Refusal :=
  match s.sf.check with
  | none => .next s
  | some n =>
    let s := s.advanceFrac (s.fracUntil (s.sf.checkAt + 6291456))
    let e := 9 + n
    let s1 := s.sfSq 1
    let s2 := s.sfSq 2
    let s3 := s.sfSq 3
    let s4 := s.sfSq 4
    let s5 := s.sfSq 5
    let fit (x : Option Nat) (s : State) : Nat × State :=
      match x with
      | some v => if v < 65536 then (v, s) else ((s.draw.1 % 65536), s.draw.2)
      | none => ((s.draw.1 % 65536), s.draw.2)
    let rb := fit (if iexc = 0 then none else some (roundQ (vsn * 10000 : Nat) iexc).toNat) s
    let arm (x : Nat) : Option Nat :=
      if iexc = 0 ∨ s3 = 0 then none else some (isqrt (x * (100000 * vsn) ^ 2 / (s3 * iexc ^ 2)))
    let rp := fit (arm s1) rb.2
    let rn := fit (arm s2) rp.2
    let lk := fit (if ad = 0 then none else some (isqrt (256 * s5 / ad ^ 2))) rn.2
    let s := lk.2
    let g := 2 ^ s.sfCur n F.SF_CH_GAIN
    let rMax := s.g F.SF_CFG_R_MAX 0
    let rMin := s.g F.SF_CFG_R_MIN 0
    let open_ := (if iexc = 0 then decide (rMax * 10 < rb.1) else decide (rMax * iexc < vsn * 1000))
      || (if s3 = 0 then bitOf rp.1 0 else sfOpenRatio s3 s4 (s.sfc n).lastRaw.toInt (2 ^ 23 * g))
    let short := if iexc = 0 then decide (rb.1 < rMin * 10) else decide (vsn * 1000 < rMin * iexc)
    let th := s.g F.SF_CFG_IMB_TH 0
    let dd := 10 ^ 8 * vsn ^ 2
    let l : Int := ((s1 + s2) * dd : Nat) - ((th ^ 2 * s3 * iexc ^ 2 : Nat) : Int)
    let imb := if iexc = 0 ∨ s3 = 0 then decide (th * 10 < ((rp.1 : Int) - rn.1).natAbs)
      else decide (0 < l) && decide (((4 * s1 * s2 * dd ^ 2 : Nat) : Int) < l * l)
    let leak := if ad = 0 then decide (s.g F.SF_CFG_LEAK_TH 0 < lk.1)
      else decide ((s.g F.SF_CFG_LEAK_TH 0 * ad) ^ 2 < 256 * s5)
    let s := s.ps 0x3D e [(F.SF_IMP_RB, rb.1), (F.SF_IMP_RLP, rp.1), (F.SF_IMP_RLN, rn.1), (F.SF_IMP_LEAK, lk.1),
      (F.SF_IMP_CHECKS, s.g F.SF_IMP_CHECKS e + 1)]
    .next (s.sfCheckEnd.sfResult n 1 (b2n open_ + 2 * b2n short + 4 * b2n imb + 8 * b2n leak))

/-! Excitation. -/

/-- A channel's excitation is applied. -/
def State.sfExcited (s : State) (n : Nat) : Bool := (s.sfc n).excOn && s.isOn .sens

/-- A channel trips (spec/14_sensor_front_end.md R519, R543). -/
def State.sfTrip (s : State) (n cause : Nat) : State :=
  let sec := s.g F.SF_CFG_EXC_RETRY_S 0
  let s := (s.p F.SF_CH_TRIPPED (2 + n) 1).bump F.SF_CH_TRIPS (2 + n)
  let s := s.modSfc n (fun x => { x with
    excOn := false, retryAt := if sec = 0 then none else some (s.tick + sec * secTicks) })
  (s.raiseCommon .sens 2 0x11 (cause * 4 + n)).sfAbandon

/-- EXC_TRIP: an excitation trips. Cause 1: the channel's own current; cause 2: the sum, and the channel is the
highest-numbered one excited; cause 3: VEXC too low, and every channel at 5.0 V trips (spec/14_sensor_front_end.md R519,
R545). -/
def execExcTrip (n : Fin 4) (cause : Nat) (s : State) : Host.Outcome State Fault Refusal :=
  if cause = 3 then
    .next ((List.range 4).foldl (fun s k => if s.sfExcited k && s.sfCur k F.SF_CH_EXC == 2 then s.sfTrip k 3 else s) s)
  else if s.sfExcited n.val && (cause == 1 || (cause == 2 && !(List.range 4).any (fun k => decide (n.val < k) && s.sfExcited k)))
  then .next (s.sfTrip n.val cause)
  else .next s

/-- The configured excitation comes back (spec/14_sensor_front_end.md R519, R524). -/
def State.sfRestore (s : State) (n : Nat) : State :=
  let s := s.p F.SF_CH_TRIPPED (2 + n) 0
  let s := s.modSfc n (fun x => { x with excOn := s.sfCur n F.SF_CH_EXC != 0, retryAt := none })
  (s.sfMark n 1 (sfCount (s.sfCur n F.SF_CH_FILTER == 1))).raiseCommon .sens 1 0x12 n

/-- EXC_RESTORE: EXC_RETRY_S after a trip the configured excitation is re-applied (spec/14_sensor_front_end.md R519). -/
def execExcRestore (n : Fin 4) (s : State) : Host.Outcome State Fault Refusal :=
  match (s.sfc n.val).retryAt with
  | some t =>
    if s.isOn .sens && s.b F.SF_CH_TRIPPED (2 + n.val) then .next ((s.advanceTo t).sfRestore n.val) else .next s
  | none => .next s

/-! Changes. -/

/-- A channel's KIND 2 entry (spec/14_sensor_front_end.md R539). -/
def State.sfWindow (s : State) (n : Nat) : State :=
  let k := s.sfCur n F.SF_CH_NEXP
  if s.sfCur n F.SF_CH_FILTER = 1 then s.ascPut (41 + n) 8 2 0 0 65535 (if k = 0 then 1 else 2) k 0
  else s.ascDrop [41 + n]

/-- The entries of the check: K5's window and the tone's sampling grid, while IMP_EN = 1 (spec/14_sensor_front_end.md
R539, spec/09_caldera_jobs.md R326, R327). -/
def State.sfImpWindows (s : State) : State :=
  if s.g F.SF_CFG_IMP_EN 0 = 1 then
    (s.ascPut 40 3 1 5 ((21904 + s.gy.grid) % 65536) 7 0 0 0).ascPut 45 8 3 0 0 32768 0 0 0
  else s.ascDrop [40, 45]

/-- SF_CHANGE_APPLY: at the next conversion boundary of R522 a channel's change takes effect; a CYCLE window that a change
to SINC3 ends delivers `x` (spec/14_sensor_front_end.md R524, R541). -/
def execSfChangeApply (n : Fin 4) (x : Int) (ovl : Bool) (s : State) : Host.Outcome State Fault Refusal :=
  let n := n.val
  if !s.isOn .sens || !(s.sfc n).pend then .next s
  else
    let k := ceilDiv s.tick msTicks
    let s := s.advanceTo ((if k * msTicks = (s.sfc n).pendAt then k + 1 else k) * msTicks)
    let old := (s.sfc n).cur
    let new := s.rd 0x3C (2 + n)
    let diff (f : Fld) : Bool := f.of old != f.of new
    let toSinc := F.SF_CH_FILTER.of old == 1 && F.SF_CH_FILTER.of new == 0
    let cyc := F.SF_CH_FILTER.of new == 1
    let s := if toSinc && F.SF_CH_EN.of old == 1 && s.sfNormal n then (s.sfMark n 3 1).sfDeliver n x ovl else s
    let s := s.modSfc n (fun y => { y with
      cur := new, pend := false, lastOut := if diff F.SF_CH_FILTER then none else y.lastOut, jumps := s.gy.jumps,
      excOn := F.SF_CH_EXC.of new != 0 && !s.b F.SF_CH_TRIPPED (2 + n) && (!s.sfLow || s.sf.lrOn) })
    let s := if diff F.SF_CH_INSEL || diff F.SF_CH_EN || diff F.SF_CH_EXC then s.sfMark n 1 (sfCount cyc) else s
    let s := if diff F.SF_CH_GAIN then s.sfMark n 2 (sfCount cyc) else s
    let s := if diff F.SF_CH_FILTER then s.sfMark n 3 (if cyc then 1 else 3)
      else if diff F.SF_CH_NEXP && cyc then s.sfMark n 3 1 else s
    let s := if s.b F.SF_CH_TRIPPED (2 + n) then s.sfRestore n else s
    .next (s.sfWindow n)

/-! LOW_RATE. -/

/-- LOW_RATE is entered or left as its causes say: the governor's step 4, or FORCE ARG 0x01 (spec/14_sensor_front_end.md
R538, spec/16_power_start_sinter.md R593). -/
def State.sfLowRate (s : State) : State :=
  let want := decide (4 ≤ s.pw.steps) || (s.mirror .sens).held == 1
  if !s.isOn .sens || s.sfLow == want then s
  else
    let s := if want then s.sfAbandon else s
    let s := s.sfSetSub want s.sf.check
    let s := (List.range 4).foldl (fun s n =>
      if s.sfCur n F.SF_CH_EN = 1 then s.sfMark n 8 (if want || s.sfCur n F.SF_CH_FILTER == 1 then 1 else 3) else s) s
    let s := (List.range 4).foldl (fun s n => s.modSfc n (fun x => { x with
      excOn := !want && F.SF_CH_EXC.of x.cur != 0 && !s.b F.SF_CH_TRIPPED (2 + n) })) s
    (s.modSf (fun x => { x with lrOn := false })).raiseCommon .sens 1 0x14 (b2n want)

/-- LOW_RATE: SENS enters or leaves LOW_RATE (spec/14_sensor_front_end.md R538). -/
def execLowRate (s : State) : Host.Outcome State Fault Refusal := .next s.sfLowRate

/-- The low-rate excitation switches at a cycle boundary: on from a cycle with CYCLE ≡ 0 mod LR_PERIOD to the end of the
next (spec/14_sensor_front_end.md R538). -/
def State.sfCycle (s : State) : State :=
  if s.isOn .sens && s.sfLow then
    let on := decide (s.cycle % s.g F.SF_CFG_LR_PERIOD 0 < 2)
    (List.range 4).foldl (fun s n => s.modSfc n (fun x => { x with
      excOn := on && F.SF_CH_EXC.of x.cur != 0 && F.SF_CH_EN.of x.cur == 1 && !s.b F.SF_CH_TRIPPED (2 + n) }))
      (s.modSf (fun x => { x with lrOn := on }))
  else s

/-- The forced substate takes effect at the end of the current SINC3 output or CYCLE window
(spec/14_sensor_front_end.md R538, R543). -/
def State.sfForce (s : State) (arg : Nat) : State :=
  let sinc := (List.range 4).any (fun n => s.sfCur n F.SF_CH_EN == 1 && s.sfCur n F.SF_CH_FILTER == 0)
  let s := if sinc then s.advanceTo (ceilDiv s.tick msTicks * msTicks) else s.toCycle
  (s.sfAbandon.changeMirror .sens (fun m => { m with forced := false, pend := none, held := arg })).sfLowRate

/-! The unit. -/

/-- The legality that the first start step checks (spec/14_sensor_front_end.md R539, R549). -/
def State.sfLegal (s : State) : Bool :=
  s.g F.SF_CFG_IMP_PERIOD 0 != 0 && decide (4 ≤ s.g F.SF_CFG_LR_PERIOD 0)
    && decide (s.g F.SF_CFG_R_MIN 0 < s.g F.SF_CFG_R_MAX 0)
    && (List.range 4).all (fun n => s.g F.SF_CH_EXC (2 + n) != 3 && decide (s.g F.SF_CH_INSEL (2 + n) < 2)
      && decide (s.g F.SF_CH_TSRC (2 + n) < 5) && decide (s.g F.SF_CH_DS (2 + n) < 6))

/-- The start steps: the check of SF_CFG, the windows, the excitation and the converters (spec/14_sensor_front_end.md
R524, R536, R539, spec/09_caldera_jobs.md R326). -/
def State.sfStart (s : State) : State :=
  if !s.sfLegal then s.goFault .sens 0 (fun _ s => s)
  else if s.st .cald = .starting then s
  else if !s.isOn .cald then s.goFault .sens 0 (fun _ s => s)
  else
    let s := (s.ascPut 39 3 1 4 ((17808 + s.gy.grid) % 65536) 192 0 0 0).sfImpWindows
    let s := s.modSf (fun x => { x with
      batch := [], inK4 := [], auxAt := none, auxStep := false, srcOk := 0, srcStale := 0, check := none, checkReq := none,
      lrOn := false })
    let s := (List.range 4).foldl (fun s n =>
      let w := s.rd 0x3C (2 + n)
      let s := s.modSfc n (fun x => { x with
        cur := w, pend := false, left := Vector.replicate 9 0, lastOut := none, jumps := s.gy.jumps,
        excOn := F.SF_CH_EXC.of w != 0, retryAt := none, dueNow := false,
        due := some (s.tick + s.sfPeriod + n * s.sfPeriod / 4) })
      ((s.p F.SF_CH_TRIPPED (2 + n) 0).sfMark n 1 (sfCount (F.SF_CH_FILTER.of w == 1))).sfWindow n) s
    ((s.goOn .sens 0).sfSetSub false none).sfLowRate

/-- The stop steps: a check is abandoned, the claim released, every excitation off, the entries removed
(spec/14_sensor_front_end.md R539). -/
def State.sfOut (s : State) : State :=
  let s := (s.sfAbandon.ascDrop [39, 40, 41, 42, 43, 44, 45]).modSf (fun x => { x with
    batch := [], inK4 := [], auxAt := none, checkReq := none, lrOn := false })
  let s := (List.range 4).foldl (fun s n => (s.p F.SF_CH_IEXC (2 + n) 0).modSfc n (fun x => { x with
    excOn := false, pend := false, retryAt := none, due := none, dueNow := false })) s
  s.p F.SF_ST_ITOTAL 13 0

/-- SENS's own unit command IMP_CHECK (spec/14_sensor_front_end.md R540). -/
def State.sfUnitCmd (s : State) (cmd arg : Nat) : Oc × State :=
  if cmd ≠ 8 then (.param, s)
  else
    let o := judge [
      (Nat.ble 4 arg, .param),
      (!s.isOn .sens || s.sf.check.isSome || !s.sfCheckable arg, .stateMismatch),
      (s.sfNoPower, .power), (s.claimed 0x20, .resourceHeld)]
    if o = .ok then (.ok, s.modSf (fun x => { x with checkReq := some arg })) else (o, s)

/-- Who may commit to an entry of SF_CFG (spec/14_sensor_front_end.md R549). -/
def State.sfMayCommit (s : State) (t e : Nat) : Bool :=
  t == 0 || (decide (6 ≤ e ∧ e ≤ 9) && s.sfTenant (e - 6) == t)
    || (decide (16 ≤ e ∧ e ≤ 39) && s.sfTenant ((e - 16) / 6) == t)

/-- A commit to SF_CFG by tenant `t` (spec/14_sensor_front_end.md R524, R530, R532, R549). -/
def State.sfCommit (s : State) (t e : Nat) (w : Word) : Oc × State :=
  let new := s.merged 0x3C e w
  let g (f : Fld) : Nat := f.of new
  if !s.sfMayCommit t e then (.notAvailable, s)
  else if e = 0 then
    if g F.SF_CFG_IMP_PERIOD = 0 ∨ g F.SF_CFG_LR_PERIOD < 4 ∨ g F.SF_CFG_R_MAX ≤ g F.SF_CFG_R_MIN then (.param, s)
    else
      let s := s.wr 0x3C 0 new
      (.ok, if s.isOn .sens then s.sfImpWindows else s)
  else if 2 ≤ e ∧ e ≤ 5 then
    if g F.SF_CH_EXC = 3 ∨ 2 ≤ g F.SF_CH_INSEL ∨ 5 ≤ g F.SF_CH_TSRC ∨ 6 ≤ g F.SF_CH_DS then (.param, s)
    else
      let s := s.wr 0x3C e new
      (.ok, if s.isOn .sens then s.modSfc (e - 2) (fun x => { x with pend := true, pendAt := s.tick }) else s)
  else if 6 ≤ e ∧ e ≤ 9 then
    let s := s.wr 0x3C e (F.SF_CTL_LOAD.into 0 new)
    let s := s.modSfc (e - 6) (fun x => { x with evtCnt := 0 })
    (.ok, if g F.SF_CTL_LOAD = 1 then
        (s.p F.SF_CTL_LOAD_PEND e 1).modSfc (e - 6) (fun x => { x with loadAt := s.tick }) else s)
  else (.ok, s.wr 0x3C e new)

end Sys2Proof.Machine
end

