-- ==== Sys2Proof/Machine/Loop.lean ====
section
/-! DEFINITION. The current-loop output: target, updates, headroom and source failure (spec/15_loop_output.md). -/

namespace Sys2Proof.Machine

open Sys2Proof

/-! The target. -/

/-- The rounded FP32 quotient of two finite values, the divisor not 0 (spec/15_loop_output.md R553). -/
def div32 (a b : Cf.Fv) : Cf.Fv :=
  match a, b with
  | .fin x m e, .fin y k d =>
    let q := m * 2 ^ 64 / k
    let sticky := b2n (m * 2 ^ 64 % k != 0)
    ((Cf.rne32 false (if m = 0 then .zero else .fin (x != y) (2 * q + sticky) (e - d - 65))) (Cf.Cx.start 0)).1
  | _, _ => .nan

/-- 65536/24 in FP32. -/
def loopScale : Cf.Fv := div32 (.fin false 65536 0) (.fin false 24 0)

/-- The code of a value before it is clamped; none where the division has no stated result (spec/15_loop_output.md
R553). -/
def loopCode (v lo hi : Nat) : Option Int :=
  let run (m : Cf.M Cf.Fv) : Cf.Fv := (m (Cf.Cx.start 0)).1
  let d (x : Nat) : Cf.Fv := Cf.fp32.decode x
  let num := run (Cf.sub32 false (d v) (d lo))
  let den := run (Cf.sub32 false (d hi) (d lo))
  match num, den with
  | .inf a, .fin b k _ => if k = 0 then none else some (if a = b then 2 ^ 31 - 1 else -2 ^ 31)
  | .fin _ _ _, .inf _ =>
    some ((Cf.toInt32 .rne (run (Cf.mul32 false loopScale (.fin false 4 0)))) (Cf.Cx.start 0)).1
  | .fin _ _ _, .fin _ k _ =>
    if k = 0 then none
    else
      let frac := div32 num den
      let y := run (Cf.add32 false (.fin false 4 0) (run (Cf.mul32 false (.fin false 16 0) frac)))
      some ((Cf.toInt32 .rne (run (Cf.mul32 false loopScale y))) (Cf.Cx.start 0)).1
  | _, _ => none

/-- A code within the measurement clamp (spec/15_loop_output.md R552, R553). -/
def loopClamp (x : Int) : Nat := if x < 10377 then 10377 else if 55978 < x then 55978 else x.toNat

/-- The source's latest valid sample, its core tick and VALUE (spec/15_loop_output.md R553, R554). -/
def State.lpSample (s : State) : Option (Nat × Nat) :=
  let k := s.g F.LP_CTL_SRC 0
  (vget s.sf.validAt k).map (fun t => (t, (vget s.sf.validVal k).toNat))

/-- Core tick at which HOLD_MS passes without a valid sample (spec/15_loop_output.md R554). -/
def State.lpHoldEnd (s : State) : Nat :=
  (match s.lpSample with | some (t, _) => max t s.lp.since | none => s.lp.since) + s.g F.LP_CTL_HOLD_MS 0 * msTicks

/-- The source has failed: SENS is not ON, or HOLD_MS has passed (spec/15_loop_output.md R554, R566). -/
def State.lpFailed (s : State) : Bool := !s.isOn .sens || decide (s.lpHoldEnd ≤ s.tick)

/-- FAIL_HI or FAIL_LO, as FAIL_SEL says. -/
def State.lpFail (s : State) : Nat := if s.b F.LP_CTL_FAIL_SEL 0 then s.g F.LP_CTL_FAIL_HI 0 else s.g F.LP_CTL_FAIL_LO 0

/-- Bits of SUB: [1:0] MODE in force, [2] LIMITED, [3] SRC_FAIL, [4] HOSTFAIL, [5] SHORTFALL (spec/15_loop_output.md
R564). -/
def State.lpBit (s : State) (i : Nat) : Bool := bitOf (s.sub .loop) i

/-- SUB changes, with its mirror in LP_STAT (spec/15_loop_output.md R564, R572). -/
def State.lpSetSub (s : State) (mode : Nat) (limited src host short : Bool) : State :=
  let v := mode + 4 * b2n limited + 8 * b2n src + 16 * b2n host + 32 * b2n short
  (s.p F.LP_STAT_SUB 3 (v / 2)).setSub .loop v

/-- SRC_FAIL changes: LOOP_SRC is raised (spec/15_loop_output.md R554, R571). -/
def State.lpSrc (s : State) (fail : Bool) : State :=
  if s.lpBit 3 == fail then s
  else (s.lpSetSub (s.sub .loop % 4) (s.lpBit 2) fail (s.lpBit 4) (s.lpBit 5)).raiseCommon .loop 2 0x11 (b2n fail)

/-- LOOP_SRC: HOLD_MS has passed without a valid sample, or SENS is not ON (spec/15_loop_output.md R554). -/
def execLoopSrc (s : State) : Host.Outcome State Fault Refusal :=
  if s.isOn .loop && s.sub .loop % 4 == 0 && !s.lpBit 3 then
    let s := if s.isOn .sens then s.advanceTo s.lpHoldEnd else s
    .next (s.lpSrc true)
  else .next s

/-- The level LVL[CODE_SEL] (spec/15_loop_output.md R553). -/
def State.lpLvl (s : State) : Nat := (s.rd 0x3E 2).bits (16 * s.g F.LP_CTL_CODE_SEL 0) 16

/-- The target of the last valid sample, worked out again from the source's latest one (spec/15_loop_output.md R553). -/
def State.lpValue (s : State) : State :=
  match s.lpSample with
  | none => s
  | some (_, v) =>
    match loopCode v (s.g F.LP_SCALE_V_LO 1) (s.g F.LP_SCALE_V_HI 1) with
    | some x => s.modLp (fun y => { y with validCode := loopClamp x })
    | none => s.draw.2.modLp (fun y => { y with validCode := 10377 + s.draw.1 % 45602 })

/-- The target at an update (spec/15_loop_output.md R553, R554). -/
def State.lpTarget (s : State) (mode : Nat) (src : Bool) : Nat :=
  if mode = 2 then s.g F.LP_CTL_FAIL_LO 0
  else if mode = 3 then s.g F.LP_CTL_FAIL_HI 0
  else if src then s.lpFail
  else if mode = 1 then s.lpLvl
  else s.lp.validCode

/-! Headroom. -/

/-- V_PRED is less than a number of millivolts (spec/15_loop_output.md R557). -/
def predBelow (vh : Nat) (iref imeas : Int) (r mv : Nat) : Bool :=
  decide ((65536 * vh : Int) - (iref - imeas) * 24 * r < 65536 * mv)

/-- R_EST after an update without a shortfall (spec/15_loop_output.md R557). -/
def rEst (r : Nat) (prev : Option (Nat × Nat)) (imeas vh : Nat) : Nat :=
  match prev with
  | none => r
  | some (i0, v0) =>
    let di : Int := (imeas : Int) - i0
    let dv : Int := (vh : Int) - v0
    if 65536 ≤ 24 * di.natAbs then
      let q := roundQ ((if di < 0 then dv else -dv) * 65536) (24 * di.natAbs)
      if q < 0 then 0 else capAt 65535 q.toNat
    else r

/-- The headroom test of an update: the timers, LIMITED and R_EST (spec/15_loop_output.md R557 to R559). Answers whether
the update shows a shortfall, too. -/
def State.lpHeadroom (s : State) (imeas vh iref : Nat) : Bool × State :=
  let th := s.g F.LP_CTL_HR_TH 0 * 50
  let short := predBelow vh iref imeas s.lp.r th
  let good := !predBelow vh iref imeas s.lp.r (th + s.g F.LP_CTL_HR_HYST 0 * 50)
  let limited := s.lpBit 2
  let shortAt := if short then some (s.lp.shortAt.getD s.tick) else none
  let recAt := if limited && good then some (s.lp.recAt.getD s.tick) else none
  let ran (a : Option Nat) (f : Fld) : Bool :=
    match a with | some t => Nat.ble (t + s.g f 0 * 10 * msTicks) s.tick | none => false
  let r := if short then s.lp.r else rEst s.lp.r s.lp.prev imeas vh
  let s := s.modLp (fun x => { x with shortAt := shortAt, recAt := recAt, r := r })
  let set (s : State) (v : Bool) : State :=
    (s.lpSetSub (s.sub .loop % 4) v (s.lpBit 3) (s.lpBit 4) (s.lpBit 5)).raiseCommon .loop 2 0x10
      (b2n v * 65536 + imeas % 65536)
  if !limited && ran shortAt F.LP_CTL_HR_MS then (short, set (s.bump F.LP_STAT_LIMITED_N 3) true)
  else if limited && ran recAt F.LP_CTL_REC_MS then
    (short, (set s false).modLp (fun x => { x with recAt := none }))
  else (short, s)

/-! Updates. -/

/-- Approach a target by at most SLEW (spec/15_loop_output.md R555). -/
def slewTo (now target slew : Nat) : Nat :=
  if now < target then min target (now + slew) else max target (now - slew)

/-- The forced substate takes effect at an update (spec/15_loop_output.md R564). -/
def State.lpForce (s : State) (arg : Nat) : State :=
  s.changeMirror .loop (fun m => { m with forced := false, pend := none, held := arg })

/-- LOOP is out of service: the drive is off, LIMITED clears without an event (spec/15_loop_output.md R562, R563,
R570). -/
def State.lpOut (s : State) : State :=
  let s := (s.p F.LP_STAT_OUTPUT 3 0).modLp (fun x => { x with
    drive := false, phase := 0, shortAt := none, recAt := none, prev := none, lastUpd := none })
  s.lpSetSub (s.sub .loop % 4) false false false false

/-- An update of a loop in service (spec/15_loop_output.md R553 to R559, R566, Table LP-3). -/
def State.lpRun (s : State) (imeas vh : Nat) : State :=
  let s := match (s.mirror .loop).pend with | some a => s.lpForce a | none => s
  let mode := s.g F.LP_CTL_MODE 0
  let fresh := mode == 0 && !s.lpFailed
  let s := s.lpSrc (mode == 0 && !fresh)
  let s := if mode = 0 then s.lpValue else s
  let iref := if s.lpBit 2 then s.lp.target else s.g F.LP_STAT_OUTPUT 3
  let h := s.lpHeadroom imeas vh iref
  let s := h.2
  let target := s.lpTarget mode (s.lpBit 3)
  let host := s.dev.hostLost && s.b F.LP_CTL_HOSTFAIL_EN 0
  let held := (s.mirror .loop).held
  let now := s.g F.LP_STAT_OUTPUT 3
  let out :=
    if held = 1 then s.g F.LP_CTL_FAIL_LO 0
    else if held = 2 then s.g F.LP_CTL_FAIL_HI 0
    else if s.lpBit 2 && s.b F.LP_CTL_HR_POL 0 then s.g F.LP_CTL_FAIL_LO 0
    else if host then s.lpFail
    else if mode = 2 ∨ mode = 3 ∨ s.lpBit 3 then target
    else slewTo now target (s.g F.LP_CTL_SLEW 0)
  let s := s.lpSetSub mode (s.lpBit 2) (s.lpBit 3) host h.1
  (s.ps 0x3E 3 [(F.LP_STAT_OUTPUT, out), (F.LP_STAT_TARGET, target)]).modLp (fun x => { x with target := target })

/-- LOOP_UPDATE: a grid half-cycle boundary; `imeas` is the mean current in codes and `vh` the mean sink voltage in mV over
the last cycle (spec/15_loop_output.md R555, R563). -/
def execLoopUpdate (imeas vh : Nat) (s : State) : Host.Outcome State Fault Refusal :=
  let s := if s.lp.lastUpd = some s.hcIndex ∧ s.onMark s.gy.grid 32768 then s.advance 1 else s
  let s := s.toHalf
  let s := s.modLp (fun x => { x with lastUpd := some s.hcIndex })
  let on := s.isOn .loop
  if !on && !decide (s.st .loop = .stopping) then .next s
  else
    let fit (x : Nat) (s : State) : Nat × State := if x < 65536 then (x, s) else (s.draw.1 % 65536, s.draw.2)
    let i := fit imeas s
    let v := fit vh i.2
    let s := v.2.ps 0x3E 3 [(F.LP_STAT_I_MEAS, i.1), (F.LP_STAT_V_H, v.1)]
    if on && decide (245 * 65536 < 240 * imeas) then
      .next ((s.goFault .loop (s.sub .loop % 4) (fun _ s => s)).lpOut)
    else
      let lo := s.g F.LP_CTL_FAIL_LO 0
      let s := if !on then
          (if s.lp.phase = 2 then (s.p F.LP_STAT_OUTPUT 3 lo).modLp (fun x => { x with phase := 1 })
           else (s.p F.LP_STAT_OUTPUT 3 0).modLp (fun x => { x with phase := 0, drive := false }))
        else if s.lp.phase = 1 then (s.p F.LP_STAT_OUTPUT 3 lo).modLp (fun x => { x with phase := 0, drive := true })
        else s.lpRun imeas vh
      .next ((s.modLp (fun x => { x with prev := some (imeas, vh) })).p F.LP_STAT_R_EST 3 s.lp.r)

/-! The unit and its table. -/

/-- A floating field that is neither NaN nor infinite (spec/15_loop_output.md R572). -/
def fp32Finite (x : Nat) : Bool := match Cf.fp32.decode x with | .fin _ _ _ => true | _ => false

/-- The start steps (spec/15_loop_output.md R563). -/
def State.lpStart (s : State) : State :=
  let lo := Cf.fp32.decode (s.g F.LP_SCALE_V_LO 1)
  let hi := Cf.fp32.decode (s.g F.LP_SCALE_V_HI 1)
  if !Cf.ltX lo hi && !Cf.ltX hi lo then s.goFault .loop (s.sub .loop % 4) (fun _ s => s)
  else
    let s := s.modLp (fun x => { x with
      r := s.g F.LP_SCALE_R_LOOP 1, phase := 1, since := s.tick, shortAt := none, recAt := none, prev := none,
      validCode := s.g F.LP_CTL_FAIL_LO 0 })
    let m := s.g F.LP_CTL_MODE 0
    (s.p F.LP_STAT_SUB 3 (m / 2)).goOn .loop m

/-- LOOP begins to stop: FAIL_LO at the next update, the drive off at the one after (spec/15_loop_output.md R563). -/
def State.lpStopping (s : State) : State := s.modLp (fun x => { x with phase := 2 })

/-- A commit to LP (spec/15_loop_output.md R568, R572). -/
def State.lpCommit (s : State) (e : Nat) (w : Word) : Oc × State :=
  let new := s.merged 0x3E e w
  let g (f : Fld) : Nat := f.of new
  let busy := decide (s.st .loop = .starting ∨ s.st .loop = .on ∨ s.st .loop = .stopping)
  let o :=
    if e = 0 then
      judge [(Nat.ble 8 (g F.LP_CTL_SRC) || g F.LP_CTL_SLEW == 0 || Nat.ble 9831 (g F.LP_CTL_FAIL_LO)
        || Nat.ble (g F.LP_CTL_FAIL_HI) 57343 || g F.LP_CTL_HOLD_MS == 0 || g F.LP_CTL_HR_MS == 0
        || g F.LP_CTL_REC_MS == 0, .param)]
    else if e = 1 then
      judge [
        (!fp32Finite (g F.LP_SCALE_V_LO) || !fp32Finite (g F.LP_SCALE_V_HI) || g F.LP_SCALE_VS_SCALE == 0
          || Nat.ble (g F.LP_SCALE_RSENSE) 999 || Nat.ble 5001 (g F.LP_SCALE_RSENSE), .param),
        (busy && (g F.LP_SCALE_VS_SCALE != s.g F.LP_SCALE_VS_SCALE 1 || g F.LP_SCALE_RSENSE != s.g F.LP_SCALE_RSENSE 1),
          .stateMismatch)]
    else .ok
  if o = .ok then (.ok, s.wr 0x3E e new) else (o, s)

end Sys2Proof.Machine
end

