-- ==== Sys2Proof/Machine/MasterSerial.lean ====
section
/-! DEFINITION. The master serial port (spec/11_master_serial.md). A chunk is one command: time passes to its last
trailing edge (notes/assumptions/27.md). -/

namespace Sys2Proof.Machine

open Sys2Proof

/-- Table entry of queue entry `q`, and of its status. -/
def msEnt (q : Nat) : Nat := 8 + q
def msSt (q : Nat) : Nat := 32 + q

/-- MODE is DECODED (spec/11_master_serial.md R410). -/
def State.msDecoded (s : State) : Bool := s.b F.MS_CFG_MODE 0

/-- HOST_HOLD (spec/11_master_serial.md R423). -/
def State.msHold (s : State) : Bool := s.sub .msp % 2 == 1

/-- One half-period in core ticks, by the profile in force (spec/11_master_serial.md R402). -/
def State.msH (s : State) : Nat := F.MS_PROF_DIV.of s.ms.prof + 1

/-- Bits an entry exchanges (spec/11_master_serial.md R407). -/
def State.msBits (s : State) (q : Nat) : Nat :=
  if s.b F.MS_E_LONG (msEnt q) then s.g F.MS_E_LEN (msEnt q) else s.g F.MS_E_WLEN (msEnt q)

/-- Chunks of an entry. -/
def State.msChunks (s : State) (q : Nat) : Nat := ceilDiv (s.msBits q) 32

/-- Bits of chunk `c` of an entry. -/
def State.msChunkLen (s : State) (q c : Nat) : Nat := min 32 (s.msBits q - 32 * c)

/-- LSB_FIRST of the profile in force. -/
def State.msLsb (s : State) : Bool := F.MS_PROF_LSB_FIRST.of s.ms.prof == 1

/-- Fields of a LONG entry's TXD (spec/11_master_serial.md R431). -/
def lngTxa (w : Word) : Nat := F.MS_E_TXD.of w % 4096
def lngRxa (w : Word) : Nat := F.MS_E_TXD.of w / 4096 % 4096
def lngTxm (w : Word) : Bool := bitOf (F.MS_E_TXD.of w) 24
def lngRxm (w : Word) : Bool := bitOf (F.MS_E_TXD.of w) 25

/-- Words of a LONG entry's span. -/
def lngWords (w : Word) : Nat := ceilDiv (F.MS_E_LEN.of w) 128

/-- The bit of a memory word at place `i` of its 128 in time order (spec/11_master_serial.md R405, R419). -/
def streamBit (w : Word) (lsb : Bool) (i : Nat) : Bool := w.getLsbD (if lsb then i else 127 - i)

/-- The memory word of up to 128 received bits in time order, missing bits 0 (spec/11_master_serial.md R419, R420). -/
def streamWord (lsb : Bool) (l : List Bool) : Word :=
  let l := l ++ List.replicate (128 - l.length) false
  BitVec.ofNat 128 (if lsb then ofBitsLE l else ofBitsBE l)

/-- The bits an entry drives on MMOSI (spec/11_master_serial.md R405, R419). -/
def State.msOut (s : State) (q : Nat) (from_ n : Nat) : List Bool :=
  let w := s.rd 0x3F (msEnt q)
  let lsb := s.msLsb
  if s.b F.MS_E_LONG (msEnt q) then
    if !lngTxm w then List.replicate n (F.MS_PROF_FILL.of s.ms.prof == 1)
    else if q < 4 then
      let all := s.ms.radioTx.flatMap (fun b => if lsb then bitsLE b.toNat 8 else bitsBE b.toNat 8)
      (all.drop from_).take n
    else (List.range n).map (fun i => streamBit (s.rd 0x25 (lngTxa w + (from_ + i) / 128)) lsb ((from_ + i) % 128))
  else
    let len := F.MS_E_WLEN.of w
    let d := F.MS_E_TXD.of w % 2 ^ len
    ((if lsb then bitsLE d len else bitsBE d len).drop from_).take n

/-! Ending. -/

/-- An entry reaches an end (spec/11_master_serial.md R421). A radio entry is taken back by the script that runs. -/
def State.msEnd (s : State) (q : Nat) (o : Oc) : State :=
  let e := msEnt q
  let s := s.bump F.MS_CFG_ENTRIES 0
  let s := s.modMs (fun x => { x with order := x.order.filter (· != q) })
  if q < 4 then (s.wr 0x3F e 0).modRc (fun x => { x with xferOk := if o = .ok then x.xferOk else some false })
  else
    let w := s.rd 0x3F e
    let s :=
      if o = .aborted then
        let s := s.p F.MS_E_RXD e 0
        if F.MS_E_LONG.of w = 1 ∧ lngRxm w then
          (List.range (lngWords w)).foldl (fun s i => if s.pageOf 0 (lngRxa w + i) then s.cjPut (lngRxa w + i) 0 else s) s
        else s
      else s
    (s.ps 0x3F e [(F.MS_E_STATE, 3), (F.MS_E_OUTCOME, o.code)]).raiseDone .msp 0 (F.MS_E_TAG.of w) o (q + 1)

/-- The select is released `LAG` half-periods from now, and the next assertion waits for the gap; a revoked claim becomes
free (spec/11_master_serial.md R409, R412, R418). -/
def State.msRelease (s : State) : State :=
  let s := s.advance (F.MS_PROF_LAG.of s.ms.prof * s.msH)
  let gap := F.MS_PROF_GAP.of s.ms.prof
  let gap := if s.msDecoded then max gap 2 else gap
  let s := match s.ms.freeClaim with | some r => s.freeClaim r | none => s
  s.modMs (fun x => { x with
    chain := [], selLow := false, readyAt := s.tick + gap * s.msH, chunk := 0, rx := [], abort := false, stopping := false,
    fault := false, freeClaim := none })

/-- The running chain ends early: its running entry with `o`, the later ones ABORTED (spec/11_master_serial.md R408,
R418, R420, R422). -/
def State.msBreak (s : State) (o : Oc) : State :=
  match s.ms.chain with
  | [] => s
  | q :: rest =>
    let s := rest.foldl (fun s p => s.msEnd p .aborted) (s.msEnd q o)
    let radio := decide (q < 4)
    let s := s.msRelease
    if radio then s.modRc (fun x => { x with xferOk := some false }) else s

/-- The received words of a LONG host entry that are complete, or all of them at its end (spec/11_master_serial.md
R420). -/
def State.msStoreRx (s : State) (q from_ : Nat) (atEnd : Bool) : State :=
  let w := s.rd 0x3F (msEnt q)
  if q < 4 ∨ F.MS_E_LONG.of w = 0 ∨ !lngRxm w then s
  else
    let n := s.ms.rx.length
    let hi := if atEnd then ceilDiv n 128 else n / 128
    (List.range hi).foldl (fun s i =>
      if i < from_ / 128 then s
      else s.cjPut (lngRxa w + i) (streamWord s.msLsb ((s.ms.rx.drop (128 * i)).take 128))) s

/-- The running entry has exchanged every bit: its result stands (spec/11_master_serial.md R419 to R421). -/
def State.msResult (s : State) (q : Nat) : State :=
  let e := msEnt q
  if s.b F.MS_E_LONG e then
    if q < 4 then
      if lngRxm (s.rd 0x3F e) then
        s.modRc (fun x => { x with rxBytes :=
          (chunksOf 8 s.ms.rx.length s.ms.rx).map (fun l => BitVec.ofNat 8 (if s.msLsb then ofBitsLE l else ofBitsBE l)) })
      else s
    else s.msStoreRx q (128 * (s.ms.rx.length / 128)) true
  else
    let v := if s.msLsb then ofBitsLE s.ms.rx else ofBitsBE s.ms.rx
    if q < 4 then s.modRc (fun x => { x with lastRxd := BitVec.ofNat 32 v }) else s.p F.MS_E_RXD e v

/-! Starting. -/

/-- A radio RXDATA entry takes its length from LAST_RXD (spec/12_radio_coordinator.md R436). -/
def State.msOpen (s : State) (q : Nat) : State :=
  let e := msEnt q
  let s := s.ps 0x3F e [(F.MS_E_STATE, 2)]
  let s := s.ps 0x3F (msSt q) [(F.MS_S_BITS, 0), (F.MS_S_STRETCH, 0), (F.MS_S_CYCLE, s.cycle), (F.MS_S_ANGLE, s.angle),
    (F.MS_S_AHEAD, 0)]
  let s := s.modMs (fun x => { x with chunk := 0, rx := [], sent := [] })
  if q < 4 ∧ lngRxm (s.rd 0x3F e) then
    s.p F.MS_E_LEN e (8 * (s.rc.lastRxd.toNat / 2 ^ (F.MS_E_TXD.of (s.rd 0x3F e) % 32) % 256))
  else s

/-- The requester of an entry may use its select and its pages (spec/11_master_serial.md R411, R417, R418). -/
def State.msAllowed (s : State) (q : Nat) : Bool :=
  let w := s.rd 0x3F (msEnt q)
  let sel := F.MS_E_SEL.of w
  if q < 4 then s.msDecoded || s.unitHolds .radio (8 + sel)
  else
    (s.msDecoded || s.tenantHolds 0 (8 + sel))
      && (F.MS_E_LONG.of w == 0 || ((!lngTxm w || s.spanOk 0 (lngTxa w) (lngWords w)) && (!lngRxm w || s.spanOk 0 (lngRxa w) (lngWords w))))

/-- The complete chains waiting, in order: the radio's first (spec/11_master_serial.md R415, R416). -/
def State.msNext (s : State) : List Nat :=
  let radio := s.ms.order.filter (· < 4)
  if !radio.isEmpty then radio
  else if s.msHold then []
  else
    let host := s.ms.order.filter (4 ≤ ·)
    let whole (q : Nat) : Bool :=
      host.any (fun p => vget s.ms.tags p == vget s.ms.tags q && !s.b F.MS_E_CONT (msEnt p))
    match host.find? whole with
    | none => []
    | some q => host.filter (fun p => vget s.ms.tags p == vget s.ms.tags q)

/-- The port starts the next chain when it is free (spec/11_master_serial.md R403, R407, R416, R418). -/
def State.msStart (s : State) : State :=
  if !s.isOn .msp || !s.ms.chain.isEmpty || decide (s.tick < s.ms.readyAt) then s
  else
    match s.msNext with
    | [] => s
    | q :: rest =>
      let s := s.modMs (fun x => { x with order := x.order.filter (fun p => !(q :: rest).contains p), chain := q :: rest })
      if !s.msAllowed q then
        let s := rest.foldl (fun s p => s.msEnd p .aborted) (s.msEnd q .notAvailable)
        s.modMs (fun x => { x with chain := [] })
      else
        let prof := s.rd 0x3F (1 + s.g F.MS_E_PROF (msEnt q))
        let s := (s.modMs (fun x => { x with
          prof := prof, sel := s.g F.MS_E_SEL (msEnt q), selLow := true })).msOpen q
        s.modMs (fun x => { x with readyAt := s.tick + F.MS_PROF_LEAD.of prof * s.msH })

/-- RDY_TO in core ticks (spec/11_master_serial.md R408). -/
def State.msTo (s : State) : Nat := ceilDiv (F.MS_PROF_RDY_TO.of s.ms.prof * 196608) 1000

/-- The stretch of a ready point is counted. -/
def State.msStretch (s : State) (q wait : Nat) : State :=
  let s := s.p F.MS_S_STRETCH (msSt q) (capAt (2 ^ 32 - 1) (s.g F.MS_S_STRETCH (msSt q) + wait))
  s.p F.MS_CFG_STRETCH_MAX 0 (capAt 65535 (max (s.g F.MS_CFG_STRETCH_MAX 0) wait))

/-- One chunk: MRDY is judged high `wait` ticks after the ready point, and `miso` holds the bits sampled
(spec/11_master_serial.md R404, R407, R408, R420, R425). -/
def State.msChunk (s : State) (wait : Nat) (miso : List Bool) : State :=
  match s.ms.chain with
  | [] => s
  | q :: _ =>
    let rdy := F.MS_PROF_RDY_EN.of s.ms.prof == 1
    let wait := if rdy then wait else 0
    if s.ms.abort || s.ms.stopping || s.ms.fault || decide (s.msChunks q ≤ s.ms.chunk) || decide (s.msTo < wait) then s
    else
      let s := s.advanceTo (s.ms.readyAt + wait)
      let s := if rdy then s.msStretch q wait else s
      let c := s.ms.chunk
      let n := s.msChunkLen q c
      let w := s.rd 0x3F (msEnt q)
      let txw := lngTxa w + 32 * c / 128
      let bad := decide (4 ≤ q) && F.MS_E_LONG.of w == 1 && lngTxm w && s.cjBadIn txw 1
      let s := if bad then (s.cjDetect txw 1).modMs (fun x => { x with fault := true }) else s
      let out := s.msOut q (32 * c) n
      let inp := (miso ++ List.replicate n false).take n
      let s := s.advance ((2 * n - 1) * s.msH)
      let s := s.modMs (fun x => { x with chunk := c + 1, rx := x.rx ++ inp, sent := x.sent ++ out, readyAt := s.tick + s.msH })
      (s.p F.MS_S_BITS (msSt q) s.ms.rx.length).msStoreRx q (32 * c) false

/-- The running entry ends at its chunk boundary: complete, or stopped (spec/11_master_serial.md R415, R420 to R422,
R428). -/
def State.msDone (s : State) : State :=
  match s.ms.chain with
  | [] => s
  | q :: rest =>
    if s.msChunks q ≤ s.ms.chunk ∧ !s.ms.fault then
      let s := (s.msResult q).msEnd q .ok
      match rest with
      | [] =>
        let s := s.msRelease
        if q < 4 then s.modRc (fun x => { x with xferOk := some true }) else s
      | p :: _ =>
        if s.ms.stopping || s.ms.abort then (s.modMs (fun x => { x with chain := rest })).msBreak .aborted
        else if !s.msAllowed p then (s.modMs (fun x => { x with chain := rest })).msBreak .notAvailable
        else (s.modMs (fun x => { x with chain := rest })).msOpen p
    else if s.ms.fault then s.msBreak .fault
    else if s.ms.abort || s.ms.stopping then s.msBreak .aborted
    else s

/-- The stretch of the running entry ends in a ready timeout (spec/11_master_serial.md R408, R430). -/
def State.msTimeout (s : State) : State :=
  match s.ms.chain with
  | [] => s
  | q :: _ =>
    if F.MS_PROF_RDY_EN.of s.ms.prof = 0 ∨ s.msChunks q ≤ s.ms.chunk ∨ s.ms.abort ∨ s.ms.stopping ∨ s.ms.fault then s
    else
      let s := s.advanceTo (s.ms.readyAt + s.msTo + 1)
      let s := (s.msStretch q s.msTo).bump F.MS_CFG_TIMEOUTS 0
      let w := s.rd 0x3F (msEnt q)
      let arg := if q < 4 then 8 + s.ms.sel else F.MS_E_TAG.of w * 256 + s.ms.sel
      (s.raiseCommon .msp 2 0x10 arg).msBreak .notReady

/-! Submission, abort, release. -/

/-- Spans overlap without being equal (spec/11_master_serial.md R419). -/
def lngClash (w : Word) : Bool :=
  lngTxm w && lngRxm w && lngTxa w != lngRxa w
    && decide (lngTxa w < lngRxa w + lngWords w ∧ lngRxa w < lngTxa w + lngWords w)

/-- The entries of the chain being submitted (spec/11_master_serial.md R415). -/
def State.msOpenChain (s : State) : List Nat :=
  s.ms.order.filter (fun q => decide (4 ≤ q) && vget s.ms.tags q == s.ms.nextChain)

/-- A submission breaks a rule of fields or chains (spec/11_master_serial.md R411, R415, R419). -/
def State.msIllegal (s : State) (w : Word) : Bool :=
  let long := F.MS_E_LONG.of w == 1
  let wlen := F.MS_E_WLEN.of w
  let len := F.MS_E_LEN.of w
  let open_ := s.msOpenChain
  (!s.msDecoded && decide (4 ≤ F.MS_E_SEL.of w)) || F.MS_E_CMD.of w != 0
    || (long && (wlen != 0 || len == 0 || F.MS_E_TXD.of w / 2 ^ 26 != 0 || lngClash w))
    || (!long && (len != 0 || decide (wlen < 4 ∨ 32 < wlen)))
    || open_.any (fun q => s.g F.MS_E_SEL (msEnt q) != F.MS_E_SEL.of w || s.g F.MS_E_PROF (msEnt q) != F.MS_E_PROF.of w)
    || (decide (3 ≤ open_.length) && F.MS_E_CONT.of w == 1)

/-- The unit that holds a select against the host, 0 for none (spec/11_master_serial.md R412, R417). -/
def State.msHolder (s : State) (sel : Nat) : Nat :=
  if s.msDecoded then (if s.b F.MS_CFG_RADIO_CODE_EN 0 && s.g F.MS_CFG_RADIO_CODE 0 == sel then 5 else 0)
  else if s.claimed (8 + sel) && s.g F.CLAIMS_HOLDER (8 + sel) != 0x0E then s.g F.CLAIMS_HOLDER (8 + sel)
  else 0

/-- Refusals of a submission (spec/11_master_serial.md R417, Table MS-3). -/
def State.msJudge (s : State) (w : Word) : Oc :=
  let sel := F.MS_E_SEL.of w
  let pages := F.MS_E_LONG.of w == 0 || ((!lngTxm w || s.spanOk 0 (lngTxa w) (lngWords w)) && (!lngRxm w || s.spanOk 0 (lngRxa w) (lngWords w)))
  judge [
    (!pages || (!s.msDecoded && s.msHolder sel == 0 && !s.tenantHolds 0 (8 + sel)), .notAvailable),
    (s.msIllegal w, .param), (!s.isOn .msp || s.msHold, .notReady), (s.msHolder sel != 0, .resourceHeld),
    (((List.range 12).all (fun i => s.g F.MS_E_STATE (msEnt (4 + i)) != 0)), .queueFull)]

/-- A submission by the owner (spec/11_master_serial.md R415, R417). -/
def State.msSubmit (s : State) (w : Word) : Oc × State :=
  let o := s.msJudge w
  let last (s : State) (o : Oc) (q ahead holder : Nat) : State :=
    (s.wr 0x3F 24 (F.MS_E_OUTCOME.into o.code (w &&& wcMask 0x3F 24))).ps 0x3F 48
      [(F.MS_S_HOLDER, holder), (F.MS_S_AHEAD, ahead), (F.MS_S_QIDX, q)]
  match ((List.range 12).map (4 + ·)).find? (fun q => s.g F.MS_E_STATE (msEnt q) == 0) with
  | none => let o := if o = .ok then Oc.queueFull else o; (o, last s o 0 0 (if o = .resourceHeld then s.msHolder (F.MS_E_SEL.of w) else 0))
  | some q =>
    if o = .ok then
      let ahead := (s.ms.order.filter (4 ≤ ·)).length + (s.ms.chain.filter (4 ≤ ·)).length
      let s := (s.wr 0x3F (msEnt q) (F.MS_E_STATE.into 1 (F.MS_E_CMD.into 0 (w &&& wcMask 0x3F 24)))).wr 0x3F (msSt q)
        (F.MS_S_AHEAD.into ahead 0)
      let s := s.modMs (fun x => { x with
        order := x.order ++ [q], tags := vset x.tags q x.nextChain,
        nextChain := if F.MS_E_CONT.of w = 1 then x.nextChain else x.nextChain + 1 })
      let s := s.msStart
      let o := if s.ms.chain.contains q ∧ s.g F.MS_E_STATE (msEnt q) = 2 then Oc.ok else .deferred
      let s := if s.g F.MS_E_STATE (msEnt q) = 3 then s else s.p F.MS_E_OUTCOME (msEnt q) o.code
      (o, last s o q (if o = .ok then 0 else ahead) 0)
    else (o, last s o 0 0 (if o = .resourceHeld then s.msHolder (F.MS_E_SEL.of w) else 0))

/-- The entries of a waiting chain end (spec/11_master_serial.md R422); a chain still open is closed. -/
def State.msDropChain (s : State) (q : Nat) (o : Oc) : State :=
  let tag := vget s.ms.tags q
  let l := s.ms.order.filter (fun p => decide (4 ≤ p) && vget s.ms.tags p == tag)
  let s := l.foldl (fun s p => s.msEnd p o) s
  s.modMs (fun x => { x with nextChain := if tag = x.nextChain then x.nextChain + 1 else x.nextChain })

/-- An abort or a release of an entry by the owner (spec/11_master_serial.md R421, R422, R426; notes/assumptions/28.md). -/
def State.msCmd (s : State) (q cmd : Nat) : Oc × State :=
  let st := s.g F.MS_E_STATE (msEnt q)
  if cmd = 0 then (.ok, s)
  else if cmd = 3 then (.param, s)
  else if cmd = 2 then
    if st = 3 then (.ok, (s.wr 0x3F (msEnt q) 0).wr 0x3F (msSt q) 0) else (.stateMismatch, s)
  else if st = 1 then
    if s.ms.order.contains q then (.ok, s.msDropChain q .aborted)
    else
      let rest := s.ms.chain.drop 1
      let s := rest.foldl (fun s p => s.msEnd p .aborted) s
      (.ok, s.modMs (fun x => { x with chain := x.chain.take 1 }))
  else if st = 2 then
    if s.b F.MS_E_LONG (msEnt q) ∧ s.ms.chunk < s.msChunks q then (.ok, s.modMs (fun x => { x with abort := true })) else (.tooLate, s)
  else if st = 3 then
    match s.abortCase .msp (q + 1) with
    | .gone => (.notAvailable, s)
    | _ => (.tooLate, s)
  else (.notAvailable, s)

/-- A commit to MS (spec/11_master_serial.md R410, R417, R431). -/
def State.msCommit (s : State) (e : Nat) (w : Word) : Oc × State :=
  let new := s.merged 0x3F e w
  if e = 0 then
    let mode := F.MS_CFG_MODE.of new != s.g F.MS_CFG_MODE 0
    let held := [8, 9, 10, 11].any s.claimed
    let out := decide (s.st .msp = .off ∨ s.st .msp = .fault)
    if mode && (!out || held) then (.stateMismatch, s) else (.ok, s.wr 0x3F 0 new)
  else if e ≤ 4 then
    let g (f : Fld) : Nat := f.of new
    if g F.MS_PROF_DIV < 3 ∨ g F.MS_PROF_LEAD = 0 ∨ g F.MS_PROF_LAG = 0 ∨ g F.MS_PROF_GAP = 0 ∨ g F.MS_PROF_RDY_TO = 0 then (.param, s)
    else (.ok, s.wr 0x3F e new)
  else if e = 24 then s.msSubmit w
  else if 12 ≤ e ∧ e ≤ 23 then s.msCmd (e - 8) (F.MS_E_CMD.of w)
  else (.ok, s)

/-! The unit. -/

/-- A page is unassigned: a running LONG entry that names it is to stop (spec/11_master_serial.md R428). -/
def State.msPageGone (s : State) (p : Nat) : State :=
  match s.ms.chain with
  | q :: _ =>
    let w := s.rd 0x3F (msEnt q)
    let names (a : Nat) : Bool := decide (a < 0x600 + 64 * p + 64 ∧ 0x600 + 64 * p < a + lngWords w)
    if 4 ≤ q ∧ F.MS_E_LONG.of w = 1 ∧ ((lngTxm w && names (lngTxa w)) || (lngRxm w && names (lngRxa w))) then
      s.modMs (fun x => { x with abort := true })
    else s
  | [] => s

/-- Queued entries end; the running one stops at its chunk boundary when the unit stops, at once when it faults
(spec/11_master_serial.md R423, R429, spec/03_units_events.md R84). -/
def State.msEndAll (o : Oc) (s : State) : State :=
  let s := s.ms.order.foldl (fun s q => s.msEnd q o) s
  if o = .aborted then s.modMs (fun x => { x with stopping := !x.chain.isEmpty, nextChain := x.nextChain + 1 })
  else (s.msBreak o).modMs (fun x => { x with nextChain := x.nextChain + 1 })

/-- The stop steps are done: whatever still runs has stopped, the select is released (spec/11_master_serial.md R423). -/
def State.msStopped (s : State) : State := (s.msBreak .aborted).modMs (fun x => { x with stopping := false, sent := [] })

/-- The start step: MODE against the claims held (spec/11_master_serial.md R423). -/
def State.msStartUp (s : State) : State :=
  let bad := s.msDecoded && [8, 9, 10, 11].any s.claimed
  if bad then s.goFault .msp 0 State.msEndAll
  else (s.modMs (fun x => { x with readyAt := s.tick, chain := [], stopping := false })).goOn .msp (2 * b2n s.msDecoded)

/-- HOST_HOLD takes effect (spec/11_master_serial.md R423). -/
def State.msForce (s : State) (arg : Nat) : State :=
  s.changeMirror .msp (fun m => { m with forced := false, pend := none, held := arg, sub := m.sub / 2 * 2 + arg % 2 })

end Sys2Proof.Machine
end

