-- ==== Sys2Proof/Machine/RadioScript.lean ====
section
/-! DEFINITION. The radio coordinator's scripts, channels and budgets (spec/12_radio_coordinator.md R432 to R442, R457 to
R459). -/

namespace Sys2Proof.Machine

open Sys2Proof

/-! Times. -/

/-- Core ticks of a number of microseconds of the crystal. -/
def usTicks (n : Nat) : Nat := ceilDiv (n * 196608) 1000

/-- ACK_DLY in core ticks (spec/12_radio_coordinator.md R450). -/
def State.rcAckDly (s : State) : Nat := usTicks (100 * s.g F.RC_CFG_ACK_DLY 0)

/-- est of a frame of `n` bytes in microseconds, rounded up (spec/12_radio_coordinator.md R457; notes/assumptions/29.md). -/
def State.rcEst (s : State) (n : Nat) : Nat := ceilDiv ((s.g F.RC_CFG_OVH_BYTES 0 + n) * 8 * s.g F.RC_CFG_BIT_NS 0) 1000

/-- Core ticks of one millisecond of the crystal. -/
def mst (n : Nat) : Nat := n * msTicks

/-! Channels (spec/12_radio_coordinator.md R439, R440). -/

/-- The enabled hop entries in ascending order. -/
def State.rcHops (s : State) : List Nat := (List.range 64).filter (fun e => s.b F.RC_HOP_EN e)

/-- The hop slot of the present stamp (spec/12_radio_coordinator.md R439). -/
def State.rcSlot (s : State) : Nat := s.stamp48 / 2 ^ s.g F.RC_CFG_SLOT_EXP 0 % 2 ^ 32

/-- The swaps of the permutation, from `j` down (spec/12_radio_coordinator.md R440). -/
def hopSwaps : Nat → Nat → List Nat → List Nat
  | 0, _, p => p
  | j + 1, x, p =>
    let x := Cf.xorshift x
    let k := x % (j + 2)
    hopSwaps j x ((p.set (j + 1) (p.getD k 0)).set k (p.getD (j + 1) 0))

/-- The permutation of epoch `e` of `n` channels (spec/12_radio_coordinator.md R440). -/
def hopPerm (seed n e : Nat) : List Nat :=
  let x := seed ^^^ (0x9E3779B9 * (e + 1) % 2 ^ 32)
  hopSwaps (n - 1) (if x = 0 then 1 else x) (List.range n)

/-- The hop entry of a slot (spec/12_radio_coordinator.md R440). -/
def State.rcHopOf (s : State) (n : Nat) : Nat :=
  let hops := s.rcHops
  if hops.isEmpty then 0
  else hops.getD ((hopPerm s.rc.seed.toNat hops.length (n / hops.length)).getD (n % hops.length) 0) 0

/-! Budgets (spec/12_radio_coordinator.md R458, R459). -/

/-- Use of an account: the current bin and the 32 before it. -/
def Bin.use (b : Bin) : Nat := b.bins.sum

/-- A charge to the current bin. -/
def Bin.charge (b : Bin) (n : Nat) : Bin := { bins := (b.bins.headD 0 + n) :: b.bins.drop 1 }

/-- The bins turn over. -/
def Bin.turn (b : Bin) : Bin := { bins := (0 :: b.bins).take 33 }

/-- Turns until an estimate passes a limit, none when it never does. -/
def Bin.turnsFor (b : Bin) (est limit : Nat) : Option Nat :=
  if limit < est then none
  else (List.range 34).find? (fun k => decide ((b.bins.take (33 - k)).sum + est ≤ limit))

/-- Ticks of one bin of an account of band `b`: its dwell window or its duty window (spec/12_radio_coordinator.md R458). -/
def State.rcBinTicks (s : State) (duty : Bool) (b : Nat) : Nat :=
  (if duty then s.g F.RC_BAND_DUTY_WIN_S b else s.g F.RC_BAND_DWELL_WIN_S b) * secTicks / 32

/-- The index of the turn counter. -/
def binIdx (duty : Bool) (b : Nat) : Nat := if duty then 4 + b else b

/-- The tick at which the next bin begins. -/
def State.rcNextTurn (s : State) (duty : Bool) (b : Nat) : Nat :=
  s.rc.startTick + (vget s.rc.binTurn (binIdx duty b) + 1) * s.rcBinTicks duty b

/-- WAIT in units of 100 ms (spec/12_radio_coordinator.md R459). -/
def State.rcWaitFor (s : State) (a : Bin) (duty : Bool) (b est limit : Nat) : Nat :=
  match a.turnsFor est limit with
  | none => 0xFFFF
  | some 0 => 0
  | some (k + 1) => capAt 0xFFFF (ceilDiv (s.rcNextTurn duty b + k * s.rcBinTicks duty b - s.tick) (100 * msTicks))

/-- Limits in microseconds (spec/12_radio_coordinator.md R458). -/
def State.rcDwellMax (s : State) (b : Nat) : Nat := s.g F.RC_BAND_DWELL_MS b * 1000
def State.rcDutyMax (s : State) (b : Nat) : Nat := s.g F.RC_BAND_DUTY_MS b * 1000
def State.rcTenantDuty (s : State) (b : Nat) : Nat :=
  s.g F.RC_BAND_DUTY_MS b * 1000 - s.g F.RC_BAND_DUTY_MS b * 10 * s.g F.RC_BAND_RESERVE_PCT b
/-- A tenant that is not enabled has share 0 (spec/01_cabinet_system.md R29). -/
def State.rcShareMax (s : State) (t b : Nat) : Nat :=
  s.rcTenantDuty b * (if s.enabled t then s.g F.RC_TENANT_SHARE t else 0) / 256

/-- The share account of a tenant in a band. -/
def State.rcShare (s : State) (t b : Nat) : Bin := vget s.rc.share (4 * t + b)

/-- The checks of a transmission on hop entry `e`: OK, or the WAIT of the first that fails; `who` names the tenant of a
tenant frame or call (spec/12_radio_coordinator.md R458, R459). -/
def State.rcBudget (s : State) (e est : Nat) (who : Option Nat) : Option Nat :=
  let b := s.g F.RC_HOP_BAND e
  let dwell := vget s.rc.dwell e
  let duty := vget s.rc.duty b
  let dutyMax := if who.isSome then s.rcTenantDuty b else s.rcDutyMax b
  if s.rcDwellMax b < dwell.use + est then some (s.rcWaitFor dwell false b est (s.rcDwellMax b))
  else if dutyMax < duty.use + est then some (s.rcWaitFor duty true b est dutyMax)
  else
    match who with
    | none => none
    | some t =>
      if s.rcShareMax t b < (s.rcShare t b).use + est then some (s.rcWaitFor (s.rcShare t b) true b est (s.rcShareMax t b))
      else none

/-- The fields that show the accounts of a hop entry, a band and a tenant (spec/12_radio_coordinator.md R473, R474, R478). -/
def State.rcShow (s : State) (e b t : Nat) : State :=
  let s := s.p F.RC_HOP_USED e (vget s.rc.dwell e).use
  let s := s.p F.RC_BAND_USED b (vget s.rc.duty b).use
  let f := match b with
    | 0 => F.RC_TENANT_USED0 | 1 => F.RC_TENANT_USED1 | 2 => F.RC_TENANT_USED2 | _ => F.RC_TENANT_USED3
  s.p f t (capAt 65535 ((s.rcShare t b).use / 1000))

/-- A charge of on-air time (spec/12_radio_coordinator.md R457, R458, R473). -/
def State.rcCharge (s : State) (e us : Nat) (who : Option Nat) : State :=
  let b := s.g F.RC_HOP_BAND e
  let s := s.modRc (fun x => { x with
    dwell := vmod x.dwell e (·.charge us), duty := vmod x.duty b (·.charge us),
    share := match who with | some t => vmod x.share (4 * t + b) (·.charge us) | none => x.share })
  (s.p F.RC_HOP_TOTAL e (s.g F.RC_HOP_TOTAL e + us / 1000)).rcShow e b (who.getD 0)

/-! Substate. -/

/-- SUB bits: DORMANT, NOACK, BEACON_ONLY, JOIN_OPEN (spec/12_radio_coordinator.md R460). -/
def State.rcBit (s : State) (i : Nat) : Bool := bitOf (s.sub .radio) i

/-- A bit of SUB changes. -/
def State.rcSetBit (s : State) (i : Nat) (v : Bool) : State :=
  let x := s.sub .radio
  s.setSub .radio (if v then x ||| 2 ^ i else x &&& (255 ^^^ 2 ^ i))

/-! Scripts (spec/12_radio_coordinator.md R435 to R437). -/

/-- Step `a` of RC_SCRIPT. -/
def State.rcStep (s : State) (a : Nat) : Nat := (s.rd 0x31 (a / 4 % 64)).bits (32 * (a % 4)) 32

/-- The first step of script `c`. -/
def State.rcEntry (s : State) (c : Nat) : Nat := (s.rd 0x30 1).bits (8 * c) 8

/-- OP of a step. -/
def stepOp (w : Nat) : Nat := w / 2 ^ 28

/-- A step is a transfer. -/
def stepXfer (w : Nat) : Bool := decide (1 ≤ stepOp w ∧ stepOp w ≤ 3)

/-- CONT of a transfer step. -/
def stepCont (w : Nat) : Bool := bitOf w 21

/-- The transfer steps of one chain from step `a` on, with the step after it; `fuel` bounds them. -/
def State.rcChain (s : State) : Nat → Nat → List Nat × Nat
  | 0, a => ([], a)
  | fuel + 1, a =>
    let w := s.rcStep a
    if !stepXfer w then ([], a)
    else
      let next := a + (if stepOp w = 1 then 2 else 1)
      if stepCont w then let r := s.rcChain fuel next; (a :: r.1, r.2) else ([a], next)

/-- A script is legal from step `a` on: opcodes, chains of at most 4 closed by a step without CONT, END within 255 steps;
`last` is the last step allowed, `run` the transfers of the chain so far (spec/12_radio_coordinator.md R436). -/
def State.rcLegalFrom (s : State) (last : Nat) : Nat → Nat → Nat → Bool
  | 0, _, _ => false
  | fuel + 1, a, run =>
    let w := s.rcStep a
    if last < a ∨ 7 ≤ stepOp w ∨ (run ≠ 0 ∧ !stepXfer w) ∨ 4 ≤ run ∧ stepXfer w then false
    else if stepOp w = 0 then true
    else s.rcLegalFrom last fuel (a + (if stepOp w = 1 then 2 else 1)) (if stepXfer w ∧ stepCont w then run + 1 else 0)

/-- Script `c` is legal. -/
def State.rcLegal (s : State) (c : Nat) : Bool := s.rcLegalFrom (s.rcEntry c + 255) 256 (s.rcEntry c) 0

/-- The frame loaded, as bytes. -/
def State.rcLoaded (s : State) : List Byte := match s.rc.loaded with | some f => f.bytes | none => []

/-- The descriptor of the queue entry of a transfer step (spec/12_radio_coordinator.md R436, Table RC-3). -/
def State.rcEntryWord (s : State) (a : Nat) (cont : Bool) : Word :=
  let w := s.rcStep a
  let sel := s.g F.RC_CFG_SEL 0
  let prof := s.g F.RC_CFG_PROF 0
  let base := F.MS_E_CONT.into (b2n cont) (F.MS_E_PROF.into prof (F.MS_E_SEL.into sel (F.MS_E_STATE.into 1 0)))
  if stepOp w = 1 then
    let sub := w / 2 ^ 18 % 8
    let v := if sub = 1 then s.g F.RC_HOP_CH s.rc.hopEnt else if sub = 2 then s.rcLoaded.length else if sub = 3 then s.rc.wucCode else 0
    let d := s.rcStep (a + 1) ||| (v * 2 ^ (w / 2 ^ 13 % 32) % 2 ^ 32)
    F.MS_E_TXD.into d (F.MS_E_WLEN.into (w / 2 ^ 22 % 64) base)
  else if stepOp w = 2 then
    F.MS_E_TXD.into (2 ^ 24) (F.MS_E_LEN.into (8 * s.rcLoaded.length) (F.MS_E_LONG.into 1 base))
  else F.MS_E_TXD.into (2 ^ 25 + w % 32) (F.MS_E_LONG.into 1 base)

/-- A chain of the script goes to the master serial port (spec/12_radio_coordinator.md R436); the port out of service, the
transfer has failed. -/
def State.rcTransfer (s : State) (l : List Nat) : State :=
  let s := s.modRc (fun x => { x with waiting := 1, xferOk := none })
  if !s.isOn .msp then s.modRc (fun x => { x with xferOk := some false })
  else
    let n := l.length
    let s := ((List.range n).zip l).foldl (fun s x => s.wr 0x3F (msEnt x.1) (s.rcEntryWord x.2 (decide (x.1 + 1 < n)))) s
    (s.modMs (fun x => { x with order := x.order ++ List.range n, radioTx := s.rcLoaded })).msStart

/-- Level of the RF_IRQ pin (spec/12_radio_coordinator.md R432, Table RC-1). -/
def State.rcIrqPin (s : State) : Bool := s.rc.irq != s.b F.RC_CFG_IRQ_POL 0

/-- The script runs until it waits or ends; true when it has ended (spec/12_radio_coordinator.md R436, Table RC-3). -/
def State.rcGo : Nat → State → Bool × State
  | 0, s => (false, s)
  | fuel + 1, s =>
    let a := s.rc.step
    let w := s.rcStep a
    let op := stepOp w
    if op = 0 then (true, s)
    else if stepXfer w then
      let r := s.rcChain 4 a
      (false, (s.modRc (fun x => { x with step := r.2 })).rcTransfer r.1)
    else if op = 4 then
      if s.rcIrqPin = bitOf w 27 then State.rcGo fuel (s.modRc (fun x => { x with step := a + 1 }))
      else (false, s.modRc (fun x => { x with waiting := 2, waitEnd := s.tick + usTicks (w % 65536) }))
    else if op = 5 then (false, s.modRc (fun x => { x with waiting := 3, waitEnd := s.tick + usTicks (w % 65536), step := a + 1 }))
    else State.rcGo fuel (s.modRc (fun x => { x with step := a + 1, rstN := if op = 6 then bitOf w 0 else x.rstN }))

/-- No script runs or waits to run. -/
def State.rcIdle (s : State) : Bool := s.rc.script.isNone && s.rc.plan.isEmpty && s.rc.rst == 0

/-- What the end of a script leaves, before the next one of the plan: a transmission begins, a frame has been read, INIT is
done (spec/12_radio_coordinator.md R435, R437, R457). -/
def State.rcEnded (s : State) (c : Nat) : State :=
  if c = 2 ∨ c = 7 then s.modRc (fun x => { x with txSince := s.tick, txBusy := true })
  else if c = 4 then s.modRc (fun x => { x with rxDue := true })
  else if c = 0 then s.modRc (fun x => { x with initFails := 0, initOk := true })
  else s

/-- The scripts of the plan run one after another; TX_START waits for its tick. `fuel` bounds the scripts that need no
wait (spec/12_radio_coordinator.md R435, R441, R450). -/
def State.rcRun : Nat → State → State
  | 0, s => s
  | fuel + 1, s =>
    match s.rc.script with
    | some c =>
      let r := State.rcGo 256 s
      if r.1 then State.rcRun fuel ((r.2.modRc (fun x => { x with script := none, waiting := 0 })).rcEnded c) else r.2
    | none =>
      match s.rc.plan with
      | [] => s
      | c :: rest =>
        if c = 2 ∧ s.tick < s.rc.txAt then s.modRc (fun x => { x with waiting := 4, waitEnd := x.txAt })
        else
          State.rcRun fuel (s.modRc (fun x => { x with
            plan := rest, script := some c, lastScript := c, step := s.rcEntry c, waiting := 0, irq := x.irq && c != 1 && c != 2 && c != 4 }))

/-- Scripts are run when none runs yet, or after those planned. -/
def State.rcPlan (s : State) (l : List Nat) : State :=
  let idle := s.rc.script.isNone && s.rc.plan.isEmpty
  let s := s.modRc (fun x => { x with plan := x.plan ++ l })
  if idle then State.rcRun 16 s else s

/-- The channel changes where it has to, then the receiver is switched on (spec/12_radio_coordinator.md R435, R442). -/
def State.rcListen (s : State) : State :=
  let e := s.rcHopOf s.rc.slot.toNat
  if !s.rc.exchange && (e != s.rc.hopEnt) then (s.modRc (fun x => { x with hopEnt := e, chan := s.g F.RC_HOP_CH e })).rcPlan [5, 1]
  else s.rcPlan [1]

/-- The exchange in progress ends: the coordinator moves to the current slot's channel
(spec/12_radio_coordinator.md R442, R465). -/
def State.rcEndExchange (s : State) : State :=
  (s.modRc (fun x => { x with exchange := false, slot := BitVec.ofNat 32 s.rcSlot, loaded := none })).rcListen

/-- The transceiver's reset begins: RF_RST_N low (spec/12_radio_coordinator.md R437). -/
def State.rcReset (s : State) : State :=
  s.modRc (fun x => { x with
    script := none, plan := [], waiting := 0, xferOk := none, rst := 1, rstN := false, exchange := false, txBusy := false,
    rxDue := false, ackDue := none, joinDue := none, loaded := none, waitEnd := s.tick + usTicks (s.g F.RC_CFG_RST_US 0) })

end Sys2Proof.Machine
end

