-- ==== Sys2Proof/Machine/Radio.lean ====
section
/-! DEFINITION. The radio coordinator: frames, joining, receptions, downlinks, dormancy, and the master serial commands
that a script takes up (spec/12_radio_coordinator.md, spec/11_master_serial.md). -/

namespace Sys2Proof.Machine

open Sys2Proof

/-! Tags. -/

/-- The pair of an address 1 to 128. -/
def pairOf (a : Nat) : Nat := a - 1

/-- Fields of a pair (spec/12_radio_coordinator.md R475). -/
def State.tagState (s : State) (i : Nat) : Nat := s.g F.RC_TAG_STATE (2 * i)
def State.tagTenant (s : State) (i : Nat) : Nat := s.g F.RC_TAG_TENANT (2 * i)

/-- A JOINED tag (spec/12_radio_coordinator.md R447). -/
def State.tagJoined (s : State) (a : Nat) : Bool := decide (1 ≤ a ∧ a ≤ 128) && s.tagState (pairOf a) == 3

/-- The key slot of a tag (spec/12_radio_coordinator.md R444). -/
def State.tagSlot (s : State) (i : Nat) : Nat := 4 * s.tagTenant i + s.g F.RC_TAG_TKEY (2 * i)

/-- The nonce of a SEC frame (spec/12_radio_coordinator.md R444). -/
def State.tagNonce (s : State) (i fc ftype : Nat) (down : Bool) : List Byte :=
  ofNatBytes (Aes.beBytes 8 (s.g F.RC_TAG_EUI (2 * i)) ++ Aes.beBytes 4 fc ++ [b2n down * 128 + ftype % 8])

/-! Frames. -/

/-- The six header bytes (spec/12_radio_coordinator.md R443, Table RC-4). -/
def State.rcHeader (s : State) (ftype : Nat) (sec ackreq pend : Bool) (seq dst src : Nat) : List Nat :=
  let net := s.g F.RC_CFG_NET_ID 0
  [ftype * 32 + b2n sec * 16 + b2n ackreq * 8 + b2n pend * 4, seq % 256, net / 256, net % 256, dst, src]

/-- PEND of a frame to a tag: its PENDING flag or a queued request (spec/12_radio_coordinator.md R450). -/
def State.rcPend (s : State) (a : Nat) : Bool :=
  s.b F.RC_TAG_PENDING (2 * pairOf a) || s.rc.order.any (fun q => s.g F.RC_TXQ_DST q == a)

/-- The beacon (spec/12_radio_coordinator.md R443, R460, Table RC-5). -/
def State.rcBeacon (s : State) : List Nat :=
  let dorm := s.b F.RC_CFG_FOLLOW_LINE 0 && s.ln.commit.isSome
  s.rcHeader 0 false false false s.rc.bcnSeq.toNat 0xFF 0 ++ Aes.beBytes 4 s.rc.slot.toNat ++ Aes.beBytes 4 s.rc.seed.toNat
    ++ [s.g F.RC_CFG_SLOT_EXP 0, s.g F.RC_CFG_BCN_EXP 0, s.rcHops.length, b2n (s.rcBit 3) + 2 * b2n (s.rcBit 1) + 4 * b2n dorm]
    ++ Aes.beBytes 2 (s.rc.sfdOfs % 65536)

/-- A frame is sent: loaded, the transmitter keyed at `start` (spec/12_radio_coordinator.md R435, R441, R450). -/
def State.rcSend (s : State) (bytes : List Nat) (kind tenant entry start : Nat) : State :=
  (s.modRc (fun x => { x with
    loaded := some { bytes := ofNatBytes bytes, kind := kind, tenant := tenant, entry := entry },
    txAt := start, txEst := s.rcEst bytes.length })).rcPlan [3, 2]

/-- A device frame: sent when the budgets allow it, else counted in SKIPS (spec/12_radio_coordinator.md R458). -/
def State.rcSendDevice (s : State) (bytes : List Nat) (start : Nat) : Bool × State :=
  match s.rcBudget s.rc.hopEnt (s.rcEst bytes.length) none with
  | some _ => (false, s.bump F.RC_CFG_SKIPS 1)
  | none => (true, s.rcSend bytes 0 0 0 start)

/-! Requests. -/

/-- Submitter of a request. -/
def State.rcOwner (s : State) (q : Nat) : Nat := vget s.rc.owner q

/-- Bytes of a request's frame on air (spec/12_radio_coordinator.md R443). -/
def State.rcReqLen (s : State) (q : Nat) : Nat := 6 + s.g F.RC_TXQ_BYTES q + (if s.b F.RC_TXQ_SEC q then 12 else 0)

/-- A request ends with one DONE record (spec/12_radio_coordinator.md R454). -/
def State.rcEnd (s : State) (q : Nat) (o : Oc) (wait : Nat) : State :=
  let t := if bitOf s.rc.toOwner q then 0 else s.rcOwner q
  let s := s.modRc (fun x => { x with
    order := x.order.filter (· != q), granted := if x.granted = some q then none else x.granted,
    filled := if x.granted = some q then 0 else x.filled, ackWait := if x.ackWait = some q then none else x.ackWait,
    callDue := x.callDue.filter (· != q), callSent := x.callSent.filter (· != q), toOwner := x.toOwner &&& (255 ^^^ 2 ^ q) })
  (s.ps 0x35 q [(F.RC_TXQ_STATE, 4), (F.RC_TXQ_OUTCOME, o.code), (F.RC_TXQ_AHEAD, 0), (F.RC_TXQ_WAIT, wait)]).raiseDone
    .radio t (s.g F.RC_TXQ_TAG q) o (q + 1)

/-- A request waits, runs or is locked. -/
def State.rcLive (s : State) (q : Nat) : Bool := s.g F.RC_TXQ_STATE q != 0 && s.g F.RC_TXQ_STATE q != 4

/-- Every request ends (spec/03_units_events.md R84). -/
def State.rcEndAll (o : Oc) (s : State) : State :=
  (List.range 8).foldl (fun s q => if s.rcLive q then s.rcEnd q o 0 else s) s

/-- The open poll of a tag. -/
def State.rcPoll (s : State) (a : Nat) : Option Poll := s.rc.polls.find? (fun p => p.addr == a && !p.answered)

/-- LISTEN_MS of a tag in core ticks. -/
def State.rcListenTicks (s : State) (a : Nat) : Nat := mst (s.g F.RC_TAG_LISTEN_MS (2 * pairOf a + 1))

/-- D of a request for an open poll (spec/12_radio_coordinator.md R452). -/
def State.rcD (s : State) (p : Poll) (q : Nat) : Nat :=
  p.tp + s.rcListenTicks p.addr - usTicks (s.rcEst (s.rcReqLen q)) - mst 1

/-- The tick of a poll's empty answer (spec/12_radio_coordinator.md R453). -/
def State.rcEmptyAt (s : State) (p : Poll) : Nat := p.tp + s.rcListenTicks p.addr - usTicks (s.rcEst 6) - mst 1

/-- The staging frame may be granted: in service, not reduced to beacons, not dormant (spec/12_radio_coordinator.md R452,
R460, R461). -/
def State.rcMayGrant (s : State) : Bool := s.isOn .radio && !s.rcBit 0 && !s.rcBit 2 && s.rc.granted.isNone

/-- The first request of each tag with an open poll whose D has not come; one whose call is still due waits
(spec/12_radio_coordinator.md R451, R452, R456). -/
def State.rcReady (s : State) : List Nat :=
  (s.rc.polls.filter (fun p => !p.answered)).filterMap (fun p =>
    (s.rc.order.find? (fun q => s.g F.RC_TXQ_DST q == p.addr)).filter (fun q =>
      decide (s.tick < s.rcD p q) && !s.rc.callDue.contains q))

/-- Rounds until a tenant's deficit covers one request. -/
def State.rcRounds (s : State) (t : Nat) : Nat :=
  ceilDiv (1 - vget s.rc.deficit t) (s.g F.RC_TENANT_WEIGHT t)

/-- The request served next and the deficits after it (spec/12_radio_coordinator.md R451; notes/assumptions/17.md). -/
def State.rcPick (s : State) : Option (Nat × State) :=
  let ready := s.rcReady
  let turn (q : Nat) : Nat := (s.rcOwner q + 127 - s.rc.rr) % 64
  let heavy := ready.filter (fun q => s.g F.RC_TENANT_WEIGHT (s.rcOwner q) != 0)
  let least (f : Nat → Nat) (l : List Nat) : Option Nat :=
    l.foldl (fun a q => match a with | none => some q | some b => if f q < f b then some q else a) none
  let key (q : Nat) : Nat :=
    if s.rcRounds (s.rcOwner q) = 0 ∧ s.rcOwner q = s.rc.rr then 0 else 64 * max 1 (s.rcRounds (s.rcOwner q)) + turn q
  if heavy.isEmpty then (least turn ready).map (fun q => (q, s.modRc (fun x => { x with rr := s.rcOwner q })))
  else
    (least key heavy).map (fun q =>
      let t := s.rcOwner q
      let r := max 1 (s.rcRounds t)
      let d := if key q = 0 then s.rc.deficit else (heavy.map s.rcOwner).eraseDups.foldl (fun d u =>
        let k := if (u + 127 - s.rc.rr) % 64 ≤ turn q then r else r - 1
        vmod d u (fun (x : Nat) => x + k * s.g F.RC_TENANT_WEIGHT u)) s.rc.deficit
      (q, s.modRc (fun x => { x with deficit := vmod d t (fun (y : Nat) => y - 1), rr := t })))

/-- The grant (spec/12_radio_coordinator.md R452). -/
def State.rcGrant (s : State) : State :=
  if !s.rcMayGrant then s
  else
    match s.rcPick with
    | none => s
    | some (q, s) =>
      match s.rcPoll (s.g F.RC_TXQ_DST q) with
      | none => s
      | some p =>
        let d := s.rcD p q
        let s := (List.range 8).foldl (fun s i => s.wr 0x36 i 0) s
        let s := s.modRc (fun x => { x with
          order := x.order.filter (· != q), granted := some q, filled := 0, deadline := d })
        (s.ps 0x35 q [(F.RC_TXQ_STATE, 2), (F.RC_TXQ_AHEAD, 0)]).raiseTenant .radio (s.rcOwner q) 0 0x12
          (s.g F.RC_TXQ_TAG q * 256 + (d - s.tick) / msTicks % 256)

/-- Every word of the granted request has been committed (spec/12_radio_coordinator.md R452). -/
def State.rcFilled (s : State) (q : Nat) : Bool :=
  (List.range (ceilDiv (s.g F.RC_TXQ_BYTES q) 16)).all (fun i => bitOf s.rc.filled i)

/-- The bands of the enabled hop entries, the one with the smallest limit for a tenant (spec/12_radio_coordinator.md R458). -/
def State.rcTightBand (s : State) (t : Nat) : Nat :=
  match (s.rcHops.map (fun e => s.g F.RC_HOP_BAND e)).eraseDups with
  | [] => 0
  | b :: l => l.foldl (fun a c => if s.rcShareMax t c < s.rcShareMax t a then c else a) b

/-- An FC of a tag would reach the mark (spec/16_power_start_sinter.md R602). -/
def State.rcFcOut (s : State) (i : Nat) : Bool := decide (s.fcMark (i + 1) ≤ s.g F.RC_TAG_TX_FC (2 * i + 1) + 1)

/-- Refusals of a submission (spec/12_radio_coordinator.md R451, Table RC-6). -/
def State.rcJudge (s : State) (t : Nat) (w : Word) : Oc :=
  let dst := F.RC_TXQ_DST.of w
  let n := F.RC_TXQ_BYTES.of w
  let sec := F.RC_TXQ_SEC.of w == 1
  let est := s.rcEst (6 + n + (if sec then 12 else 0))
  let b := s.rcTightBand t
  judge [
    (!s.enabled t, .notAvailable),
    (decide (1 ≤ dst ∧ dst ≤ 128) && !(s.tagJoined dst && s.tagTenant (pairOf dst) == t), .notAvailable),
    (sec && decide (1 ≤ dst ∧ dst ≤ 128) && (s.slotKey (s.tagSlot (pairOf dst))).isNone, .notAvailable),
    (dst == 0 || decide (128 < dst) || decide (128 < n) || (sec && decide (112 < n)) || F.RC_TXQ_CMD.of w != 0, .param),
    (!s.isOn .radio, .notReady), (s.rcBit 2, .power),
    (sec && s.rcFcOut (pairOf dst) && !s.snAccepts, .power),
    ((List.range 8).all (fun q => s.g F.RC_TXQ_STATE q != 0)
      || decide (s.g F.RC_TENANT_QLIM t ≤ ((List.range 8).filter (fun q => s.g F.RC_TXQ_STATE q != 0 && s.rcOwner q == t)).length),
      .queueFull),
    (decide (s.rcShareMax t b < (s.rcShare t b).use + est), .budget)]

/-- A submission (spec/12_radio_coordinator.md R451). What the submitter reads in entry 8 is kept under entry 0x800 + t. -/
def State.rcSubmit (s : State) (t : Nat) (w : Word) : Oc × State :=
  let o := s.rcJudge t w
  let desc := F.RC_TXQ_CMD.into 0 w &&& wcMask 0x35 8
  let est := s.rcEst (6 + F.RC_TXQ_BYTES.of w + (if F.RC_TXQ_SEC.of w = 1 then 12 else 0))
  let b := s.rcTightBand t
  let last (s : State) (o : Oc) (q ahead wait : Nat) : State :=
    (s.wr 0x35 (0x800 + t) desc).ps 0x35 (0x800 + t)
      [(F.RC_TXQ_OUTCOME, o.code), (F.RC_TXQ_QIDX, q), (F.RC_TXQ_AHEAD, ahead), (F.RC_TXQ_WAIT, wait)]
  match (List.range 8).find? (fun q => s.g F.RC_TXQ_STATE q == 0) with
  | none => let o := if o = .ok then Oc.queueFull else o; (o, last s o 0 0 0)
  | some q =>
    if o = .ok then
      let ahead := (s.rc.order.filter (fun p => s.rcOwner p == t)).length
      let i := pairOf (F.RC_TXQ_DST.of w)
      let seq := (s.g F.RC_TAG_TX_SEQ (2 * i + 1) + 1) % 256
      let s := (s.wr 0x35 q desc).p F.RC_TAG_TX_SEQ (2 * i + 1) seq
      let s := s.modRc (fun x => { x with
        owner := vset x.owner q t, seqs := vset x.seqs q seq, order := x.order ++ [q], toOwner := x.toOwner &&& (255 ^^^ 2 ^ q),
        callDue := if F.RC_TXQ_WAKE.of w = 1 then x.callDue ++ [q] else x.callDue })
      let s := (s.ps 0x35 q [(F.RC_TXQ_STATE, 1), (F.RC_TXQ_AHEAD, ahead)]).rcGrant
      let o := if s.rc.granted = some q then Oc.ok else .deferred
      let s := s.p F.RC_TXQ_OUTCOME q o.code
      (o, last s o q (if o = .ok then 0 else ahead) 0)
    else
      (o, last s o 0 0 (if o = .budget then s.rcWaitFor (s.rcShare t b) true b est (s.rcShareMax t b) else 0))

/-- An abort or a release of a request (spec/12_radio_coordinator.md R454, R466, R476, spec/03_units_events.md R102). -/
def State.rcCmd (s : State) (t q cmd : Nat) : Oc × State :=
  let st := s.g F.RC_TXQ_STATE q
  if cmd = 0 then (.ok, s)
  else if st ≠ 0 ∧ s.rcOwner q ≠ t then (.notAvailable, s)
  else if cmd = 3 then (.param, s)
  else if cmd = 2 then (if st = 4 then (.ok, (s.wr 0x35 q 0).modRc (fun x => { x with owner := vset x.owner q 0 })) else (.stateMismatch, s))
  else if st = 0 then (.notAvailable, s)
  else if st = 1 ∨ st = 2 then (.ok, s.rcEnd q .aborted 0)
  else if st = 3 then (.tooLate, s)
  else
    match s.abortCase .radio (q + 1) with
    | .withdrawn =>
      if s.g F.RC_TXQ_ATTEMPTS q = 0 then (.ok, (s.withdraw .radio (q + 1)).rcEnd q .aborted 0) else (.tooLate, s)
    | .tooLate => (.tooLate, s)
    | .gone => (.notAvailable, s)

/-- A commit to RC_TXQ (spec/12_radio_coordinator.md R476). -/
def State.rcCommitTxq (s : State) (t e : Nat) (w : Word) : Oc × State :=
  if e = 8 then s.rcSubmit t w else s.rcCmd t e (F.RC_TXQ_CMD.of w)

/-- A receive buffer becomes free. -/
def State.rcFreeBuf (s : State) (b : Nat) : State :=
  let s := (List.range 9).foldl (fun s i => s.wr 0x36 (8 + 9 * b + i) 0) s
  s.modRc (fun x => { x with bufs := vset x.bufs b {} })

/-- The staging frame is open to its tenant's host (spec/01_cabinet_system.md R26). -/
def State.rcStageOpen (s : State) : Bool :=
  match s.rc.granted with | some q => s.g F.RC_TXQ_STATE q == 2 | none => false

/-- A commit to RC_FRAME (spec/12_radio_coordinator.md R449, R477, spec/01_cabinet_system.md R26). -/
def State.rcCommitFrame (s : State) (e : Nat) (w : Word) : Oc × State :=
  if e < 8 then
    if s.rcStageOpen then (.ok, (s.wr 0x36 e w).modRc (fun x => { x with filled := x.filled ||| 2 ^ e })) else (.stateMismatch, s)
  else
    let b := (e - 8) / 9
    if (vget s.rc.bufs b).seen then
      if (e - 8) % 9 = 0 ∧ F.RC_RX_RELEASE.of w = 1 then (.ok, s.rcFreeBuf b) else (.ok, s)
    else (.stateMismatch, s)

/-- Tenant `t` is disabled (spec/01_cabinet_system.md R37). -/
def State.rcDisable (s : State) (t : Nat) : State :=
  let s := (List.range 8).foldl (fun s q =>
    if s.rcLive q && s.rcOwner q == t then
      if s.g F.RC_TXQ_STATE q = 3 then s.modRc (fun x => { x with toOwner := x.toOwner ||| 2 ^ q }) else s.rcEnd q .aborted 0
    else s) s
  (List.range 2).foldl (fun s b => if (vget s.rc.bufs b).full && (vget s.rc.bufs b).tenant == t then s.rcFreeBuf b else s) s

/-! Commits to the other tables. -/

/-- RADIO is in service or on the way, so its configuration is fixed (spec/12_radio_coordinator.md R469). -/
def State.rcFixed (s : State) : Bool := decide (s.st .radio = .starting ∨ s.st .radio = .on ∨ s.st .radio = .stopping)

/-- A commit to RC_CFG (spec/12_radio_coordinator.md R469, R471). -/
def State.rcCommitCfg (s : State) (e : Nat) (w : Word) : Oc × State :=
  let new := s.merged 0x30 e w
  let g (f : Fld) : Nat := f.of new
  let bad0 := (!s.msDecoded && decide (4 ≤ g F.RC_CFG_SEL)) || decide (g F.RC_CFG_SLOT_EXP < 13 ∨ 20 < g F.RC_CFG_SLOT_EXP)
    || decide (12 < g F.RC_CFG_BCN_EXP ∨ 31 < g F.RC_CFG_SLOT_EXP + g F.RC_CFG_BCN_EXP)
    || g F.RC_CFG_ACK_DLY == 0 || g F.RC_CFG_BIT_NS == 0 || g F.RC_CFG_RST_US == 0
  let o := judge [(if e = 0 then bad0 else g F.RC_CFG_WUC_MS == 0, .param), (s.rcFixed, .stateMismatch)]
  if o = .ok then (.ok, s.wr 0x30 e new) else (o, s)

/-- A commit to RC_SCRIPT or RC_HOP (spec/12_radio_coordinator.md R469, R472, R473). -/
def State.rcCommitFixed (s : State) (t e : Nat) (w : Word) : Oc × State :=
  if s.rcFixed then (.stateMismatch, s) else (.ok, s.wr t e (s.merged t e w))

/-- A commit to RC_BAND (spec/12_radio_coordinator.md R469, R474). -/
def State.rcCommitBand (s : State) (e : Nat) (w : Word) : Oc × State :=
  let new := s.merged 0x33 e w
  let o := judge [
    (F.RC_BAND_DUTY_WIN_S.of new == 0 || F.RC_BAND_DWELL_WIN_S.of new == 0 || decide (100 < F.RC_BAND_RESERVE_PCT.of new), .param),
    (s.rcFixed, .stateMismatch)]
  if o = .ok then (.ok, s.wr 0x33 e new) else (o, s)

/-- A commit to RC_TENANT (spec/12_radio_coordinator.md R478). -/
def State.rcCommitTenant (s : State) (t e : Nat) (w : Word) : Oc × State :=
  let new := s.merged 0x37 e w
  if t ≠ 0 then (.notAvailable, s)
  else if F.RC_TENANT_QLIM.of new = 0 ∨ 8 < F.RC_TENANT_QLIM.of new then (.param, s)
  else (.ok, s.wr 0x37 e new)

/-- A pair is freed: its requests end, its TX_FC stays (spec/12_radio_coordinator.md R445, R466;
notes/assumptions/30.md). -/
def State.tagFree (s : State) (i : Nat) : State :=
  let s := (List.range 8).foldl (fun s q =>
    if s.rcLive q && s.g F.RC_TXQ_STATE q != 3 && s.g F.RC_TXQ_DST q == i + 1 then s.rcEnd q .aborted 0 else s) s
  let fc := s.g F.RC_TAG_TX_FC (2 * i + 1)
  let s := (s.wr 0x34 (2 * i) (resetWord 0x34 (2 * i))).wr 0x34 (2 * i + 1) (F.RC_TAG_TX_FC.into fc (resetWord 0x34 (2 * i + 1)))
  s.modRc (fun x => { x with
    polls := x.polls.filter (fun p => p.addr != i + 1), joinDue := if x.joinDue = some i then none else x.joinDue })

/-- A commit to RC_TAG (spec/12_radio_coordinator.md R445, R475). -/
def State.rcCommitTag (s : State) (t e : Nat) (w : Word) : Oc × State :=
  let new := s.merged 0x34 e w
  let own (f : Fld) : Word := f.into 0 (new ^^^ s.rd 0x34 e)
  if e % 2 = 1 then
    if F.RC_TAG_LISTEN_MS.of new = 0 then (.param, s) else (.ok, s.wr 0x34 e new)
  else if t ≠ 0 then
    if own F.RC_TAG_PENDING = 0 then (.ok, s.wr 0x34 e new) else (.notAvailable, s)
  else
    let cmd := F.RC_TAG_CMD.of w
    let keep := F.RC_TAG_CMD.into 0 new
    if cmd = 3 then (.param, s)
    else if cmd = 2 then (.ok, s.tagFree (e / 2))
    else if cmd = 1 then
      (.ok, s.wr 0x34 e (F.RC_TAG_STATE.into (if F.RC_TAG_STATE.of keep = 3 then 3 else 2) keep))
    else (.ok, s.wr 0x34 e keep)

/-! Reception. -/

/-- A field of the frame read. -/
def rxByte (l : List Nat) (i : Nat) : Nat := l.getD i 0

/-- A number from bytes, most significant first. -/
def beNat (l : List Nat) : Nat := l.foldl (fun a b => 256 * a + b) 0

/-- A frame is discarded and counted (spec/12_radio_coordinator.md R438, R447). -/
def State.rcFilter (s : State) : State := s.bump F.RC_CFG_FILTERED 1

/-- A JOIN_REQ (spec/12_radio_coordinator.md R445). -/
def State.rcJoin (s : State) (l : List Nat) : State :=
  let eui := beNat ((l.drop 6).take 8)
  let wake := beNat ((l.drop 14).take 2)
  let pairs := List.range 128
  match pairs.find? (fun i => decide (2 ≤ s.tagState i) && s.g F.RC_TAG_EUI (2 * i) == eui) with
  | some i =>
    let s := (s.ps 0x34 (2 * i) [(F.RC_TAG_STATE, 3), (F.RC_TAG_WAKE_CODE, wake)]).ps 0x34 (2 * i + 1)
      [(F.RC_TAG_SEQ_VALID, 0), (F.RC_TAG_LAST_CYCLE, s.cycle)]
    let s := s.raiseTenant .radio (s.tagTenant i) 0 0x11 (i + 1)
    if s.rcBit 1 then s else s.modRc (fun x => { x with joinDue := some i })
  | none =>
    match (if s.rcBit 3 then pairs.find? (fun i => s.tagState i == 0) else none) with
    | some i =>
      if pairs.any (fun j => s.tagState j == 1 && s.g F.RC_TAG_EUI (2 * j) == eui) then s
      else (s.ps 0x34 (2 * i) [(F.RC_TAG_STATE, 1), (F.RC_TAG_EUI, eui)]).raiseTenant .radio 0 1 0x10 i
    | none => s.rcFilter

/-- A SEC payload is opened: the data, or what stops the frame (spec/12_radio_coordinator.md R444, R448). -/
def State.rcOpen (s : State) (i : Nat) (l : List Nat) : Oc × List Nat :=
  let fc := beNat ((l.drop 6).take 4)
  let body := (l.drop 10).take (l.length - 18)
  s.obInline 1 { mode := 5, dir := 1, slot := s.tagSlot i, m := 8, nonce := s.tagNonce i fc (rxByte l 0 / 32) false,
                 aad := ofNatBytes (l.take 6), msg := ofNatBytes body, tag := ofNatBytes (l.drop (l.length - 8)) }

/-- An ACK is owed when the frame asks for one and NOACK is clear (spec/12_radio_coordinator.md R450). -/
def State.rcOwe (s : State) (l : List Nat) : State :=
  if bitOf (rxByte l 0) 3 && !s.rcBit 1 then s.modRc (fun x => { x with ackDue := some (rxByte l 5, rxByte l 1) }) else s

/-- The payload of a kept DATA frame is stored (spec/12_radio_coordinator.md R449, R477). -/
def State.rcStore (s : State) (i : Nat) (l data : List Nat) : State :=
  match [s.rc.nextBuf, 1 - s.rc.nextBuf].find? (fun b => !(vget s.rc.bufs b).full) with
  | none => s.raiseTenant .radio (s.tagTenant i) 2 0x15 ((i + 1) * 2 ^ 24)
  | some b =>
    let t := s.tagTenant i
    let sec := bitOf (rxByte l 0) 4
    let ws := wordsDown (data ++ List.replicate ((16 - data.length % 16) % 16) 0)
    let s := (List.range 8).foldl (fun s k => s.wr 0x36 (9 + 9 * b + k) (ws.getD k 0)) s
    let s := s.ps 0x36 (8 + 9 * b) [(F.RC_RX_SRC, i + 1), (F.RC_RX_SEQ, rxByte l 1), (F.RC_RX_BYTES, data.length),
      (F.RC_RX_FTYPE, rxByte l 0 / 32), (F.RC_RX_SEC, b2n sec), (F.RC_RX_RELEASE, 0), (F.RC_RX_SFD_TICK, s.rc.sfdTick.toNat),
      (F.RC_RX_CYCLE, s.rc.sfdStamp / 65536), (F.RC_RX_ANGLE, s.rc.sfdStamp % 65536), (F.RC_RX_CH, s.rc.chan)]
    let s := s.modRc (fun x => { x with bufs := vset x.bufs b { full := true, seen := false, tenant := t }, nextBuf := 1 - b })
    let s := s.raise .radio
      { common := false, tenant := t, sev := 0, code := 0x13, ref := 64 + b,
        arg := (i + 1) * 2 ^ 24 + rxByte l 1 * 65536 + data.length * 256 + b * 16 + b2n sec }
    (s.ps 0x34 (2 * i + 1) [(F.RC_TAG_LAST_SEQ, rxByte l 1), (F.RC_TAG_SEQ_VALID, 1)]).rcOwe l

/-- A kept DATA or POLL frame whose MIC and FC have been checked (spec/12_radio_coordinator.md R448, R449, R452). -/
def State.rcKept (s : State) (i : Nat) (l data : List Nat) : State :=
  let e := 2 * i + 1
  let s := s.p F.RC_TAG_LAST_CYCLE e s.cycle
  let dup := s.b F.RC_TAG_SEQ_VALID e && s.g F.RC_TAG_LAST_SEQ e == rxByte l 1
  let poll := rxByte l 0 / 32 == 5
  let s := if dup then (s.bump F.RC_CFG_DUPS 1).rcOwe l else s
  if poll then
    let s := s.ps 0x34 e [(F.RC_TAG_LAST_SEQ, rxByte l 1), (F.RC_TAG_SEQ_VALID, 1)]
    let s := s.modRc (fun x => { x with
      polls := x.polls.filter (fun p => p.addr != i + 1) ++ [{ addr := i + 1, tp := x.irqTick, answered := false }] })
    s.raiseTenant .radio (s.tagTenant i) 0 0x14 ((i + 1) * 2 ^ 24 + s.g F.RC_TAG_LISTEN_MS e)
  else if dup then s
  else s.rcStore i l data

/-- The tag's ACK of an answer: the request ends OK (spec/12_radio_coordinator.md R454). -/
def State.rcAcked (s : State) (i : Nat) (l : List Nat) : State :=
  match s.rc.ackWait with
  | some q => if s.g F.RC_TXQ_DST q = i + 1 ∧ vget s.rc.seqs q = rxByte l 1 then s.rcEnd q .ok 0 else s
  | none => s

/-- A frame read is filtered, verified and stored (spec/12_radio_coordinator.md R438, R445 to R450, R454). -/
def State.rcReceive (s : State) (l : List Nat) : State :=
  let n := l.length
  let b0 := rxByte l 0
  let ftype := b0 / 32
  let sec := bitOf b0 4
  let src := rxByte l 5
  if n < 6 ∨ 146 < n ∨ beNat ((l.drop 2).take 2) ≠ s.g F.RC_CFG_NET_ID 0 then s.rcFilter
  else if ftype = 3 ∧ src = 0xFE then (if n = 16 ∧ rxByte l 4 = 0 then s.rcJoin l else s.rcFilter)
  else if rxByte l 4 ≠ 0 ∨ !s.tagJoined src then s.rcFilter
  else
    let i := pairOf src
    if ftype = 2 then (s.p F.RC_TAG_LAST_CYCLE (2 * i + 1) s.cycle).rcAcked i l
    else if ftype ≠ 1 ∧ ftype ≠ 5 then s
    else if (sec && decide (n < 18 ∨ 130 < n)) || (!sec && decide (134 < n)) then s.rcFilter
    else if sec then
      let r := s.rcOpen i l
      let fc := beNat ((l.drop 6).take 4)
      if r.1 ≠ .ok then s
      else if fc ≤ s.g F.RC_TAG_RX_FC (2 * i + 1) then s.raiseTenant .radio (s.tagTenant i) 2 0x16 (src * 2 ^ 24)
      else (s.p F.RC_TAG_RX_FC (2 * i + 1) fc).rcKept i l r.2
    else s.rcKept i l (l.drop 6)

/-! What happens when nothing more is owed. -/

/-- After a reception or a transmission: listen again, in the exchange while a poll, an answer's ACK or a frame owed is
open (spec/12_radio_coordinator.md R442). -/
def State.rcAfter (s : State) : State :=
  let s := s.modRc (fun x => { x with loaded := none })
  if s.rc.ackDue.isSome || s.rc.joinDue.isSome then s
  else if s.rc.polls.any (fun p => !p.answered) || s.rc.ackWait.isSome then
    (s.modRc (fun x => { x with exchange := true })).rcPlan [1]
  else s.rcEndExchange

/-! Failure. -/

/-- A request has had its 4 attempts (spec/12_radio_coordinator.md R454). -/
def State.rcSpent (s : State) (q : Nat) : Bool := Nat.ble 4 (s.g F.RC_TXQ_ATTEMPTS q)

/-- RADIO is out of service: its claim and its entry go (spec/12_radio_coordinator.md R462). -/
def State.rcOut (s : State) : State :=
  let s := s.modRc (fun x => { x with
    script := none, plan := [], waiting := 0, xferOk := none, polls := [], exchange := false, ackDue := none, joinDue := none,
    rxDue := false, txBusy := false, loaded := none, rst := 0, stage := 0, initOk := false, callDue := [], callSent := [],
    joinUntil := none })
  s.ascDrop [48]

/-- A script has failed: RF_FAULT, the exchange ends, the transceiver is reset; the third failure of INIT in a row sends
RADIO to FAULT (spec/12_radio_coordinator.md R437, R454; notes/assumptions/31.md). -/
def State.rcFail (s : State) : State :=
  let c := s.rc.script.getD s.rc.lastScript
  let s := s.raiseCommon .radio 2 0x17 (s.rc.step % 256 * 256 + c)
  let locked := (List.range 8).find? (fun q => s.g F.RC_TXQ_STATE q == 3)
  let s := match locked with
    | none => s
    | some q =>
      if s.rcSpent q then s.rcEnd q .badFrame 0
      else ((s.p F.RC_TXQ_STATE q 1).modRc (fun x => { x with
        order := q :: x.order, granted := none, filled := 0, ackWait := none }))
  let s := s.modRc (fun x => { x with polls := [] })
  let fails := s.rc.initFails + 1
  let s := if c = 0 then s.modRc (fun x => { x with initFails := fails }) else s
  if c == 0 && Nat.ble 3 fails then (s.goFault .radio 0 State.rcEndAll).rcOut else s.rcReset

/-- A chain of the running script has ended: the script goes on or fails (spec/12_radio_coordinator.md R437). -/
def State.rcResume (s : State) : State :=
  match s.rc.waiting, s.rc.xferOk with
  | 1, some true => State.rcRun 16 (s.modRc (fun x => { x with waiting := 0, xferOk := none }))
  | 1, some false => if s.isOn .radio || decide (s.st .radio = .starting) then s.rcFail else s.modRc (fun x => { x with script := none, plan := [], waiting := 0, xferOk := none })
  | _, _ => s

/-! The unit. -/

/-- The first start step's checks (spec/12_radio_coordinator.md R436, R462). -/
def State.rcCheck (s : State) : Bool :=
  (List.range 8).all s.rcLegal && !s.rcHops.isEmpty && s.rcHops.all (fun e => s.g F.RC_BAND_DUTY_MS (s.g F.RC_HOP_BAND e) != 0)
    && (!s.msDecoded || (s.b F.MS_CFG_RADIO_CODE_EN 0 && s.g F.MS_CFG_RADIO_CODE 0 == s.g F.RC_CFG_SEL 0))

/-- The start steps begin: checks, the claim, the transceiver's reset (spec/12_radio_coordinator.md R462). -/
def State.rcStart1 (s : State) : State :=
  let r := 8 + s.g F.RC_CFG_SEL 0
  if !s.rcCheck then s.goFault .radio 0 State.rcEndAll
  else if !s.msDecoded && s.claimed r && !s.unitHolds .radio r then s.goStopping .radio .resourceHeld false State.rcEndAll
  else
    let s := if s.msDecoded then s else s.unitClaim .radio r
    (s.modRc (fun x => { x with stage := 1, initOk := false, initFails := 0, polls := [], exchange := false })).rcReset

/-- The start steps end, INIT done: the hop seed, the beacon slots' window, the accounts (spec/12_radio_coordinator.md
R458, R460 to R462). -/
def State.rcStart2 (s : State) : State :=
  let d := s.rngDraw 32
  let zero := s.g F.RC_CFG_HOP_SEED 0 == 0
  let s := if zero then d.2 else s
  let seed := if zero then d.1 else s.g F.RC_CFG_HOP_SEED 0
  let se := s.g F.RC_CFG_SLOT_EXP 0
  let sum := se + s.g F.RC_CFG_BCN_EXP 0
  let s := s.ascPut 48 5 5 0 0 (min (2 ^ se) 32768) (if sum ≤ 16 then 1 else 2) (if sum ≤ 16 then 0 else sum - 16) 0
  let empty : Bin := { bins := [0] }
  let s := s.modRc (fun x => { x with
    seed := BitVec.ofNat 32 seed, stage := 0, startTick := s.tick, binTurn := Vector.replicate 8 0,
    dwell := Vector.replicate 64 empty, duty := Vector.replicate 4 empty, share := Vector.replicate 256 empty,
    slot := BitVec.ofNat 32 s.rcSlot, slotTick := s.tick, followed := false, beaconDue := false, noackOff := false })
  let s := s.modRc (fun x => { x with hopEnt := s.rcHopOf s.rcSlot, chan := s.g F.RC_HOP_CH (s.rcHopOf s.rcSlot) })
  let only := decide (2 ≤ s.pw.steps)
  (s.goOn .radio (2 * b2n (only || s.dev.hostLost) + 4 * b2n only)).rcPlan [5, 1]

/-- START_STEPS_DONE for RADIO: its steps begin, and end once INIT has (spec/12_radio_coordinator.md R462). -/
def State.rcStart (s : State) : State :=
  if s.rc.stage = 0 then s.rcStart1 else if s.rc.initOk && s.rcIdle then s.rcStart2 else s

/-- RADIO stops: SLEEP is run (spec/12_radio_coordinator.md R462). -/
def State.rcStopping (s : State) : State :=
  if s.rc.initOk then
    (s.modRc (fun x => { x with
      script := none, plan := [], waiting := 0, polls := [], exchange := false, ackDue := none, joinDue := none,
      rxDue := false, txBusy := false, loaded := none, rst := 0 })).rcPlan [6]
  else s

/-- NOACK follows its causes; a clearing waits for the next slot (spec/12_radio_coordinator.md R461). -/
def State.rcNoack (s : State) : State :=
  if s.dev.hostLost || s.rcBit 2 then (s.rcSetBit 1 true).modRc (fun x => { x with noackOff := false })
  else if s.rcBit 1 then s.modRc (fun x => { x with noackOff := true })
  else s

/-- The governor reduces the radio to beacons, or restores it (spec/12_radio_coordinator.md R461). -/
def State.rcShed (s : State) (only : Bool) : State :=
  if s.isOn .radio then (s.rcSetBit 2 only).rcNoack else s

/-- DORMANT is entered (spec/12_radio_coordinator.md R460). -/
def State.rcSleep (s : State) : State :=
  if s.rcBit 0 then s
  else
    (((s.rcSetBit 0 true).raiseCommon .radio 1 0x18 1).modRc (fun x => { x with
      polls := [], ackDue := none, joinDue := none, rxDue := false, script := none, plan := [], waiting := 0 })).rcPlan [6]

/-- DORMANT is left (spec/12_radio_coordinator.md R460). -/
def State.rcAwake (s : State) : State :=
  if s.rcBit 0 then ((s.rcSetBit 0 false).raiseCommon .radio 1 0x18 0).rcEndExchange else s

/-- The forced substate takes effect (spec/12_radio_coordinator.md R460). -/
def State.rcForce (s : State) (arg : Nat) : State :=
  let s := s.changeMirror .radio (fun m => { m with forced := false, pend := none, held := arg })
  if arg = 1 then s.rcSleep else s.rcAwake

/-- RADIO's own unit commands (spec/12_radio_coordinator.md R446, R462). -/
def State.rcUnitCmd (s : State) (cmd arg : Nat) : Oc × State :=
  if cmd ≠ 8 ∧ cmd ≠ 9 then (.param, s)
  else if !s.isOn .radio then (.stateMismatch, s)
  else if cmd = 8 then
    (.ok, (s.modRc (fun x => { x with joinUntil := if arg = 0 then none else some (s.tick + 60 * arg * secTicks) })).rcSetBit 3 (arg != 0))
  else (.ok, s.rcReset)

/-! The commands. -/

/-- RADIO is in service and not dormant. -/
def State.rcWorks (s : State) : Bool := s.isOn .radio && !s.rcBit 0

/-- RF_IRQ: the pin is asserted or deasserted; an assertion after RX_ON is a reception, after TX_START or WUC_SEND the end
of the transmission (spec/12_radio_coordinator.md R433, R436). -/
def execRfIrq (asserted : Bool) (s : State) : Host.Outcome State Fault Refusal :=
  let rose := asserted && !s.rc.irq
  let s := s.modRc (fun x => { x with irq := asserted, irqTick := if rose then s.tick else x.irqTick })
  if s.rc.waiting = 2 ∧ s.rcIrqPin = bitOf (s.rcStep s.rc.step) 27 then
    .next (State.rcRun 16 (s.modRc (fun x => { x with waiting := 0 })))
  else if rose && s.rcWorks && s.rcIdle && s.rc.lastScript == 1 then
    .next ((s.modRc (fun x => { x with exchange := true })).rcPlan [4])
  else .next s

/-- RF_SFD: an edge came `ago` core ticks before now; that of a beacon sets SFD_OFS (spec/12_radio_coordinator.md R434,
R443). -/
def execRfSfd (ago : Nat) (s : State) : Host.Outcome State Fault Refusal :=
  let t := s.tick - ago
  let beacon := s.rc.lastScript == 2 && (match s.rc.loaded with | some f => f.kind == 0 && rxByte (natBytes f.bytes) 0 / 32 == 0 | none => false)
  .next (s.modRc (fun x => { x with
    sfdTick := BitVec.ofNat 32 t, sfdStamp := (s.stampAgo ago).toNat / 2 ^ 32,
    sfdOfs := if beacon then (t - x.slotTick) * 1000 / 196608 % 65536 else x.sfdOfs }))

/-- RF_FAULT: a failed transfer, or a WAITIRQ that times out (spec/12_radio_coordinator.md R437). -/
def execRfFault (s : State) : Host.Outcome State Fault Refusal :=
  if s.rc.waiting = 1 then .next s.rcResume
  else if s.rc.waiting = 2 then .next (s.advanceTo s.rc.waitEnd).rcFail
  else .next s

/-- SCRIPT_DELAY: a DELAY step, the wait for a transmission's tick, or a wait of a transceiver reset runs out
(spec/12_radio_coordinator.md R436, R437, R441, R450). -/
def execScriptDelay (s : State) : Host.Outcome State Fault Refusal :=
  if s.rc.rst = 1 then
    let s := s.advanceTo s.rc.waitEnd
    .next (s.modRc (fun x => { x with rst := 2, rstN := true, waitEnd := s.tick + usTicks (s.g F.RC_CFG_RST_US 0) }))
  else if s.rc.rst = 2 then
    let s := (s.advanceTo s.rc.waitEnd).modRc (fun x => { x with rst := 0, irq := false })
    .next (s.rcPlan (if s.isOn .radio then [0, 5, 1] else [0]))
  else if s.rc.waiting = 3 ∨ s.rc.waiting = 4 then
    .next (State.rcRun 16 ((s.advanceTo s.rc.waitEnd).modRc (fun x => { x with waiting := 0 })))
  else .next s

/-- HOP_SLOT_START: the coordinator takes up the slot and its channel (spec/12_radio_coordinator.md R435, R439, R442,
R461). -/
def execHopSlotStart (s : State) : Host.Outcome State Fault Refusal :=
  let s := s.toMark 0 (2 ^ s.g F.RC_CFG_SLOT_EXP 0)
  if !s.isOn .radio then .next s
  else
    let n := s.rcSlot
    let s := if s.rc.noackOff && !s.dev.hostLost && !s.rcBit 2 then
      (s.rcSetBit 1 false).modRc (fun x => { x with noackOff := false }) else s
    let s := s.modRc (fun x => { x with
      slot := if x.exchange then x.slot else BitVec.ofNat 32 n, slotTick := s.tick, beaconDue := n % 2 ^ s.g F.RC_CFG_BCN_EXP 0 == 0 })
    .next (if s.rcBit 0 || s.rc.exchange || !s.rcIdle || s.rc.txBusy || !s.rc.callDue.isEmpty then s else s.rcListen)

/-- BEACON_TX: in the first half of a beacon slot, outside an exchange (spec/12_radio_coordinator.md R441, R442, R458). -/
def execBeaconTx (s : State) : Host.Outcome State Fault Refusal :=
  if !s.rcWorks || !s.rc.beaconDue || !s.rcIdle || s.rc.txBusy then .next s
  else
    let late := decide (s.stamp48 % 2 ^ s.g F.RC_CFG_SLOT_EXP 0 ≥ 2 ^ (s.g F.RC_CFG_SLOT_EXP 0 - 1))
    let s := if late || !s.rc.exchange then s.modRc (fun x => { x with beaconDue := false }) else s
    if late || s.rc.exchange then .next s
    else
      let r := s.rcSendDevice s.rcBeacon (s.rc.slotTick + usTicks (100 * s.g F.RC_CFG_TX_LEAD 0))
      .next (if r.1 then r.2.modRc (fun x => { x with bcnSeq := x.bcnSeq + 1 }) else r.2)

/-- RADIO_FRAME_RX: the frame read is filtered, verified and stored, when this is done before ACK_DLY has passed
(spec/12_radio_coordinator.md R438, R447 to R450). -/
def execRadioFrameRx (s : State) : Host.Outcome State Fault Refusal :=
  if !s.rc.rxDue || !s.rcWorks then .next s
  else
    let l := natBytes s.rc.rxBytes
    let s := s.modRc (fun x => { x with rxDue := false })
    let late := decide (s.rc.irqTick + s.rcAckDly < s.tick) && rxByte l 0 / 32 == 1
    .next (if late then s else s.rcReceive l).rcAfter

/-- RADIO_ACK_TX: the ACK owed goes out ACK_DLY after the reception (spec/12_radio_coordinator.md R450, R463). -/
def execRadioAckTx (s : State) : Host.Outcome State Fault Refusal :=
  match s.rc.ackDue with
  | none => .next s
  | some (a, seq) =>
    if !s.rcIdle || s.rc.txBusy then .next s
    else
      let s := s.modRc (fun x => { x with ackDue := none })
      let r := s.rcSendDevice (s.rcHeader 2 false false (s.rcPend a) seq a 0) (s.rc.irqTick + s.rcAckDly)
      .next (if r.1 then r.2 else r.2.rcAfter)

/-- JOIN_RSP_TX (spec/12_radio_coordinator.md R443, R445, R461). -/
def execJoinRspTx (s : State) : Host.Outcome State Fault Refusal :=
  match s.rc.joinDue with
  | none => .next s
  | some i =>
    if !s.rcIdle || s.rc.txBusy then .next s
    else
      let s := s.modRc (fun x => { x with joinDue := none })
      let r := s.rcSendDevice (s.rcHeader 4 false false false 0 0xFE 0 ++ Aes.beBytes 8 (s.g F.RC_TAG_EUI (2 * i)) ++ [i + 1])
        (s.rc.irqTick + s.rcAckDly)
      .next (if r.1 then r.2 else r.2.rcAfter)

/-- JOIN_OPEN_EXPIRE (spec/12_radio_coordinator.md R446). -/
def execJoinOpenExpire (s : State) : Host.Outcome State Fault Refusal :=
  match s.rc.joinUntil with
  | none => .next s
  | some t => .next (((s.advanceTo t).modRc (fun x => { x with joinUntil := none })).rcSetBit 3 false)

/-- RADIO_GRANT (spec/12_radio_coordinator.md R452). -/
def execRadioGrant (s : State) : Host.Outcome State Fault Refusal := .next s.rcGrant

/-- RADIO_DEADLINE: at D an incomplete request ends UNDERRUN (spec/12_radio_coordinator.md R452). -/
def execRadioDeadline (s : State) : Host.Outcome State Fault Refusal :=
  match s.rc.granted with
  | none => .next s
  | some q =>
    if s.g F.RC_TXQ_STATE q ≠ 2 then .next s
    else
      let s := s.advanceTo s.rc.deadline
      if s.rcFilled q then .next s
      else
        let t := if bitOf s.rc.toOwner q then 0 else s.rcOwner q
        .next ((s.rcEnd q .underrun 0).raiseDeadline .radio t (s.g F.RC_TXQ_TAG q) .underrun)

/-- The answer of the granted request is built and sent (spec/12_radio_coordinator.md R444, R454, R458,
spec/10_obsidian_cipher.md R660). -/
def State.rcAnswer (s : State) (q : Nat) (p : Poll) : State :=
  let a := p.addr
  let i := pairOf a
  let sec := s.b F.RC_TXQ_SEC q
  let hd := s.rcHeader 1 sec (s.b F.RC_TXQ_ACKREQ q) (s.rcPend a) (vget s.rc.seqs q) a 0
  let data := (natBytes (bytesDown ((List.range 8).map (fun k => s.rd 0x36 k)))).take (s.g F.RC_TXQ_BYTES q)
  let fc := s.g F.RC_TAG_TX_FC (2 * i + 1) + 1
  let job : Inline := {
    mode := 5, dir := 0, slot := s.tagSlot i, m := 8, nonce := s.tagNonce i fc 1 true, aad := ofNatBytes hd,
    msg := ofNatBytes data, tag := [] }
  let r := if sec then s.obInline 1 job else (.ok, data)
  let s := if sec then s.p F.RC_TAG_TX_FC (2 * i + 1) fc else s
  if r.1 ≠ .ok then s.rcEnd q r.1 0
  else
    let s := s.modRc (fun x => { x with polls := x.polls.map (fun y => if y.addr = a then { y with answered := true } else y) })
    let s := s.ps 0x35 q [(F.RC_TXQ_STATE, 3), (F.RC_TXQ_ATTEMPTS, s.g F.RC_TXQ_ATTEMPTS q + 1)]
    s.rcSend (hd ++ (if sec then Aes.beBytes 4 fc else []) ++ r.2) 1 (s.rcOwner q) q (p.tp + s.rcAckDly)

/-- RADIO_ANSWER_TX: the staging entries are complete (spec/12_radio_coordinator.md R452, R454, R458, R468,
spec/16_power_start_sinter.md R602). -/
def execRadioAnswerTx (s : State) : Host.Outcome State Fault Refusal :=
  match s.rc.granted with
  | none => .next s
  | some q =>
    match s.rcPoll (s.g F.RC_TXQ_DST q) with
    | none => .next s
    | some p =>
      if s.g F.RC_TXQ_STATE q ≠ 2 ∨ !s.rcFilled q ∨ !s.rcWorks ∨ s.rcBit 2 ∨ !s.rcIdle ∨ s.rc.txBusy ∨ s.rc.deadline < s.tick then .next s
      else if s.b F.RC_TXQ_SEC q && s.rcFcOut (pairOf p.addr) then
        .next (if s.snAccepts then s.snRaiseMark p.addr else s.rcEnd q .power 0)
      else
        match s.rcBudget s.rc.hopEnt (s.rcEst (s.rcReqLen q)) (some (s.rcOwner q)) with
        | some w => .next (s.rcEnd q .budget w)
        | none => .next (s.rcAnswer q p)

/-- EMPTY_ANSWER: no answer has begun in time (spec/12_radio_coordinator.md R453, R461). -/
def execEmptyAnswer (s : State) : Host.Outcome State Fault Refusal :=
  match s.rc.polls.find? (fun p => !p.answered) with
  | none => .next s
  | some p =>
    if !s.rcIdle || s.rc.txBusy then .next s
    else
      let s := s.advanceTo (s.rcEmptyAt p)
      let s := s.modRc (fun x => { x with polls := x.polls.filter (fun y => y.addr != p.addr) })
      let s := match s.rc.granted with
        | some q =>
          if s.g F.RC_TXQ_DST q = p.addr ∧ s.g F.RC_TXQ_STATE q = 2 then
            (s.p F.RC_TXQ_STATE q 1).modRc (fun x => { x with granted := none, filled := 0, order := q :: x.order })
          else s
        | none => s
      if s.rcBit 2 || !s.rcWorks then .next s.rcAfter
      else
        let r := s.rcSendDevice (s.rcHeader 1 false false (s.rcPend p.addr) (s.g F.RC_TAG_TX_SEQ (2 * pairOf p.addr + 1)) p.addr 0) s.tick
        .next (if r.1 then r.2 else r.2.rcAfter)

/-- RADIO_ANSWER_ACK_TIMEOUT (spec/12_radio_coordinator.md R454). -/
def execRadioAnswerAckTimeout (s : State) : Host.Outcome State Fault Refusal :=
  match s.rc.ackWait with
  | none => .next s
  | some q =>
    let s := (s.advanceTo s.rc.ackEnd).modRc (fun x => { x with ackWait := none })
    let s := if s.rcSpent q then s.rcEnd q .badFrame 0
      else (s.p F.RC_TXQ_STATE q 1).modRc (fun x => { x with granted := none, filled := 0, order := q :: x.order })
    .next s.rcAfter

/-- WAKE_UP_CALL: at a slot start with no exchange in progress (spec/12_radio_coordinator.md R455, R456, R458, R461). -/
def execWakeUpCall (s : State) : Host.Outcome State Fault Refusal :=
  match s.rc.callDue with
  | [] => .next s
  | q :: rest =>
    if !s.rcWorks || s.rcBit 2 || s.rc.exchange || !s.rcIdle || s.rc.txBusy || decide (s.tick ≠ s.rc.slotTick) then .next s
    else
      let i := pairOf (s.g F.RC_TXQ_DST q)
      let e := s.g F.RC_TAG_WU_ENT (2 * i)
      let est := 1000 * s.g F.RC_CFG_WUC_MS 1
      match s.rcBudget e est (some (s.rcOwner q)) with
      | some w => .next (s.rcEnd q .budget w)
      | none =>
        .next ((s.modRc (fun x => { x with
          callDue := rest, callSent := q :: x.callSent, exchange := true, hopEnt := e, chan := s.g F.RC_HOP_CH e,
          wucCode := s.g F.RC_TAG_WAKE_CODE (2 * i), txEst := est,
          loaded := some { bytes := [], kind := 2, tenant := s.rcOwner q, entry := q } })).rcPlan [5, 7])

/-- A transmission has ended: what follows it (spec/12_radio_coordinator.md R442, R454). -/
def State.rcSent (s : State) : State :=
  match s.rc.loaded with
  | none => s.rcAfter
  | some f =>
    let s := s.modRc (fun x => { x with polls := x.polls.filter (fun p => !p.answered) })
    if f.kind = 1 then
      if s.b F.RC_TXQ_ACKREQ f.entry then
        (s.modRc (fun x => { x with ackWait := some f.entry, ackEnd := s.tick + s.rcAckDly + usTicks (s.rcEst 6) + mst 1 })).rcAfter
      else (s.rcEnd f.entry .ok 0).rcAfter
    else s.rcAfter

/-- The tenant a loaded frame is charged to. -/
def State.rcPayer (s : State) : Option Nat :=
  match s.rc.loaded with | some f => if f.kind = 0 then none else some f.tenant | none => none

/-- RADIO_TX_END: RF_IRQ has ended the transmission; its on-air time is charged (spec/12_radio_coordinator.md R457, R458). -/
def execRadioTxEnd (s : State) : Host.Outcome State Fault Refusal :=
  if s.rc.txBusy && s.rc.irq && decide (s.rc.txSince ≤ s.rc.irqTick) then
    let us := ceilDiv ((s.rc.irqTick - s.rc.txSince) * 1000) 196608
    .next (((s.rcCharge s.rc.hopEnt us s.rcPayer).modRc (fun x => { x with txBusy := false })).rcSent)
  else .next s

/-- TX_END_TIMEOUT: twice the estimate plus 1 ms without the ending RF_IRQ (spec/12_radio_coordinator.md R457). -/
def execTxEndTimeout (s : State) : Host.Outcome State Fault Refusal :=
  if s.rc.txBusy && !s.rc.irq then
    let s := s.advanceTo (s.rc.txSince + usTicks (2 * s.rc.txEst) + mst 1)
    .next (((s.rcCharge s.rc.hopEnt (2 * s.rc.txEst) s.rcPayer).modRc (fun x => { x with txBusy := false })).rcFail)
  else .next s

/-- BUDGET_BIN_TURN: the bins of band `b`'s dwell window, or of its duty window, turn over (spec/12_radio_coordinator.md
R458, R464). -/
def execBudgetBinTurn (duty : Bool) (b : Fin 4) (s : State) : Host.Outcome State Fault Refusal :=
  if s.rcBinTicks duty b.val = 0 ∨ !s.isOn .radio then .next s
  else
    let s := s.advanceTo (s.rcNextTurn duty b.val)
    let s := s.modRc (fun x => { x with binTurn := vmod x.binTurn (binIdx duty b.val) (· + 1) })
    if duty then
      let s := s.modRc (fun x => { x with
        duty := vmod x.duty b.val Bin.turn,
        share := (List.range 64).foldl (fun v t => vmod v (4 * t + b.val) Bin.turn) x.share })
      .next ((List.range 64).foldl (fun s t => s.rcShow 0 b.val t) s)
    else
      let es := (List.range 64).filter (fun e => s.g F.RC_HOP_BAND e == b.val)
      let s := s.modRc (fun x => { x with dwell := es.foldl (fun v e => vmod v e Bin.turn) x.dwell })
      .next (es.foldl (fun s e => s.p F.RC_HOP_USED e (vget s.rc.dwell e).use) s)

/-- RADIO_DORMANT: the end of a hop slot (spec/12_radio_coordinator.md R460, R468). -/
def execRadioDormant (s : State) : Host.Outcome State Fault Refusal :=
  let s := s.toMark 0 (2 ^ s.g F.RC_CFG_SLOT_EXP 0)
  if !s.isOn .radio || s.rc.exchange then .next s
  else
    let forced := (s.mirror .radio).held == 1
    let watch := s.lnDorm == 2 && s.b F.RC_CFG_FOLLOW_LINE 0
    if watch && !s.rc.followed then .next (s.modRc (fun x => { x with followed := true })).rcSleep
    else if !watch && s.rc.followed then
      let s := s.modRc (fun x => { x with followed := false })
      .next (if forced then s else s.rcAwake)
    else .next s

/-! Commands of the master serial port, after which a script goes on. -/

/-- MS_ENTRY_START (spec/11_master_serial.md R416). -/
def execMsEntryStart (s : State) : Host.Outcome State Fault Refusal :=
  if s.ms.chain.isEmpty && !s.msNext.isEmpty then .next (s.advanceTo s.ms.readyAt).msStart.rcResume else .next s

/-- MS_READY_POINT: MRDY is judged high `wait` core ticks after the ready point, and the chunk's bits are exchanged
(spec/11_master_serial.md R407). -/
def execMsReadyPoint (wait : Nat) (miso : List Bool) (s : State) : Host.Outcome State Fault Refusal := .next (s.msChunk wait miso)

/-- RDY_TIMEOUT (spec/11_master_serial.md R408). -/
def execRdyTimeout (s : State) : Host.Outcome State Fault Refusal := .next s.msTimeout.rcResume

/-- MS_ENTRY_DONE (spec/11_master_serial.md R421). -/
def execMsEntryDone (s : State) : Host.Outcome State Fault Refusal := .next s.msDone.rcResume

end Sys2Proof.Machine
end

