-- ==== Sys2Proof/Machine/Optical.lean ====
section
/-! DEFINITION. The optical supervisory ports: cells and their groups, host buffers, lasers, calibration, the pilot and
automatic laser shut-down (spec/13_optical_ports.md). -/

namespace Sys2Proof.Machine

open Sys2Proof

/-! A port, 0 for OPT1 and 1 for OPT2. -/

/-- The state of a port. -/
def State.op (s : State) (n : Nat) : Op := if n = 0 then s.op1 else s.op2

/-- The state with a port changed. -/
def State.modOp (s : State) (n : Nat) (f : Op → Op) : State :=
  if n = 0 then { s with op1 := f s.op1 } else { s with op2 := f s.op2 }

/-- The unit of a port (spec/00_scope.md R20). -/
def opU (n : Nat) : Src := if n = 0 then .opt1 else .opt2

/-- A field of OP_CFG in force (spec/13_optical_ports.md R509). -/
def State.opc (s : State) (n : Nat) (f : Fld) : Nat := f.of ((s.op n).cfgOld.getD (s.rd 0x38 n))

/-- A committed field of OP_LASER in force (spec/13_optical_ports.md R509). -/
def State.opl (s : State) (n l : Nat) (f : Fld) : Nat := f.of ((vget (s.op n).lasOld l).getD (s.rd 0x39 (2 * n + l)))

/-- Core ticks of one cell (spec/13_optical_ports.md R481). -/
def cellTicks : Nat := 61440

/-! SUB: [1:0] ALS, [2] LIVE, [3] CAL, [4] SYNC, [5] LOS, [6] TX_DEAD (spec/13_optical_ports.md R502). -/

/-- A bit of SUB. -/
def State.opBit (s : State) (n i : Nat) : Bool := bitOf (s.sub (opU n)) i

/-- The ALS state: 0 RUN, 1 SHUT, 2 PULSE, 3 TEST. -/
def State.opAls (s : State) (n : Nat) : Nat := s.sub (opU n) % 4

/-- The live laser: 0 A, 1 B. -/
def State.opLive (s : State) (n : Nat) : Nat := b2n (s.opBit n 2)

/-- A number with one bit set to a value. -/
def putBit (x i : Nat) (v : Bool) : Nat := if bitOf x i = v then x else if v then x + 2 ^ i else x - 2 ^ i

/-- One bit of SUB changes. -/
def State.opPut (s : State) (n i : Nat) (v : Bool) : State := s.setSub (opU n) (putBit (s.sub (opU n)) i v)

/-- The ALS state changes: ALS_STATE is raised (spec/13_optical_ports.md R501, R513). -/
def State.opSetAls (s : State) (n a : Nat) : State :=
  if s.opAls n = a then s
  else (s.setSub (opU n) (s.sub (opU n) / 4 * 4 + a)).raiseCommon (opU n) 1 0x11 a

/-! Lasers. -/

/-- A laser that may be lit as far as its own results go: not FAILED, and not waiting for the good calibration that
CLEAR asks for (spec/13_optical_ports.md R495, R503). -/
def State.opUsable (s : State) (n l : Nat) : Bool := !s.b F.OP_LASER_FAILED (2 * n + l) && !vget (s.op n).clearing l

/-- The governor sheds the partner of OPT1's live laser (spec/13_optical_ports.md R502, spec/16_power_start_sinter.md
R593). -/
def State.opShed (s : State) (n : Nat) : Bool := n == 0 && decide (3 ≤ s.pw.steps)

/-- The bias a laser starts at: that of its last good calibration, or BIAS_EOL/2 (spec/13_optical_ports.md R495). -/
def State.opStartBias (s : State) (n l : Nat) : Nat :=
  match vget (s.op n).calBias l with
  | some b => b
  | none => s.opl n l F.OP_LASER_BIAS_EOL / 2

/-- BIAS as it reads: a laser under calibration runs at k × BIAS_MAX/8 in cycle k of its window
(spec/13_optical_ports.md R497, R515). -/
def State.opBias (s : State) (n l : Nat) : Nat :=
  if (s.op n).calLaser = some l then
    capAt 8 ((s.cycle + 2 ^ 32 - (s.op n).calStart / 65536) % 2 ^ 32) * s.opl n l F.OP_LASER_BIAS_MAX / 8
  else s.g F.OP_LASER_BIAS (2 * n + l)

/-- The live laser may carry cells now: ALS lets it, it is not forced dark and the port is not TX_DEAD
(spec/13_optical_ports.md R495, R501, R503). -/
def State.opMayLight (s : State) (n : Nat) : Bool :=
  s.isOn (opU n) && s.opAls n != 1 && !s.opBit n 6 && (s.mirror (opU n)).held != 3

/-- Traffic moves to a laser, which starts at its starting bias; the other goes dark (spec/13_optical_ports.md R495). -/
def State.opGoLive (s : State) (n l : Nat) : State :=
  let s := (s.p F.OP_LASER_BIAS (2 * n + l) (s.opStartBias n l)).p F.OP_LASER_BIAS (2 * n + (1 - l)) 0
  s.opPut n 2 (l == 1)

/-- Traffic moves by a takeover: TAKEOVER is counted and raised (spec/13_optical_ports.md R495, R497). -/
def State.opTakeover (s : State) (n l cause : Nat) : State :=
  ((s.opGoLive n l).bump F.OP_CNT_TAKEOVERS (2 * n + 1)).raiseCommon (opU n) 2 0x12 (l + 2 * cause)

/-! Cell boundaries. -/

/-- The core tick of the next cell boundary at which no cell has been sent; the boundaries of both ports coincide
(spec/13_optical_ports.md R481). -/
def State.opNext (s : State) (n : Nat) : Nat :=
  let k := ceilDiv s.tick cellTicks
  cellTicks * (if (s.op n).lastSlot = some k then k + 1 else k)

/-- The KIND 4 entry of a port (spec/13_optical_ports.md R496). -/
def State.opKind4 (s : State) (n : Nat) : State :=
  let k := s.opc n F.OP_CFG_CAL_K
  if s.opc n F.OP_CFG_CAL_EN = 1 then s.ascPut (46 + n) (6 + n) 4 0 0 65535 2 k (if n = 0 then 0 else 2 ^ (k - 1))
  else s.ascDrop [46 + n]

/-- At a cell boundary the commits that wait for one take effect, and the lasers are lit or darkened
(spec/13_optical_ports.md R501, R509). -/
def State.opBoundary (s : State) (n : Nat) : State :=
  let changed := (s.op n).cfgOld.isSome
  let s := s.modOp n (fun x => { x with cfgOld := none, lasOld := Vector.replicate 2 none })
  let s := if changed then s.opKind4 n else s
  let want := s.opMayLight n
  if want = (s.op n).lit then s
  else
    let live := 2 * n + s.opLive n
    let s := s.p F.OP_LASER_BIAS live (if want then s.opStartBias n (s.opLive n) else 0)
    s.modOp n (fun x => { x with lit := want })

/-! Calibration windows. -/

/-- A window ends with a result: 0 good, 1 bad, 2 abandoned, 3 skipped (spec/13_optical_ports.md R497, R513). -/
def State.opCalEvent (s : State) (n l r : Nat) : State :=
  s.raiseCommon (opU n) (if r = 0 then 0 else 2) 0x14 (l + 2 * r)

/-- The running window is abandoned: CAL clears; traffic stays where it is (spec/13_optical_ports.md R504, R505, R507). -/
def State.opAbandon (s : State) (n : Nat) : State :=
  match (s.op n).calLaser with
  | none => s
  | some l =>
    let s := s.modOp n (fun x => { x with calLaser := none })
    ((s.p F.OP_LASER_BIAS (2 * n + l) 0).opPut n 3 false).opCalEvent n l 2

/-- The port has no laser to light: TX_DEAD is set and the queued host cells end FAULT; or its partner takes over at the
next cell boundary (spec/13_optical_ports.md R490, R495). `endAll` ends the host cells. -/
def State.opLoseLive (s : State) (n cause : Nat) (endAll : State → State) : State :=
  let l := 1 - s.opLive n
  if s.opUsable n l && !s.opShed n then (s.advanceTo (s.opNext n)).opTakeover n l cause
  else (endAll (s.opPut n 6 true)).modOp n (fun x => { x with lit := false })

/-! Host cells. -/

/-- Descriptor entry of transmit buffer `i` (spec/13_optical_ports.md R517). -/
def opTx (n i : Nat) : Nat := 32 * n + 2 * i

/-- Descriptor entry of receive buffer `b`. -/
def opRx (n b : Nat) : Nat := 32 * n + 8 + 2 * b

/-- State of a transmit buffer: 0 free, 1 FILLING, 2 READY. -/
def State.opTxState (s : State) (n i : Nat) : Nat := s.g F.OP_CELL_STATE (opTx n i)

/-- A transmit buffer becomes free with an outcome (spec/13_optical_ports.md R490). -/
def State.opFreeTx (s : State) (n i : Nat) (o : Oc) : State :=
  let s := (s.wr 0x3B (opTx n i) (F.OP_CELL_OUTCOME.into o.code 0)).wr 0x3B (opTx n i + 1) 0
  s.modOp n (fun x => { x with txOrder := x.txOrder.filter (· != i) })

/-- Every host cell of the port ends (spec/13_optical_ports.md R495, R502). -/
def State.opEndAll (n : Nat) (o : Oc) (s : State) : State :=
  (List.range 4).foldl (fun s i => if s.opTxState n i = 0 then s else s.opFreeTx n i o) s

/-- A receive buffer becomes free. -/
def State.opFreeRx (s : State) (n b : Nat) : State :=
  ((s.wr 0x3B (opRx n b) 0).wr 0x3B (opRx n b + 1) 0).modOp n (fun x => { x with bufs := vset x.bufs b {} })

/-- Tenant `t` is disabled (spec/13_optical_ports.md R511). -/
def State.opDisable (s : State) (t : Nat) : State :=
  (List.range 2).foldl (fun s n =>
    let s := (List.range 4).foldl (fun s i =>
      if s.opTxState n i != 0 && s.g F.OP_CELL_TENANT (opTx n i) == t then s.opFreeTx n i .aborted else s) s
    (List.range 4).foldl (fun s b =>
      if (vget (s.op n).bufs b).full && (vget (s.op n).bufs b).tenant == t then s.opFreeRx n b else s) s) s

/-- Refusals of a submission (spec/13_optical_ports.md R490, Table OP-3). -/
def State.opJudge (s : State) (n t : Nat) (w : Word) : Oc :=
  let ty := F.OP_CELL_TYPE.of w
  let hop := F.OP_CELL_HOP.of w
  let used := (List.range 4).filter (fun i => s.opTxState n i != 0)
  let mine := used.filter (fun i => s.g F.OP_CELL_TENANT (opTx n i) == t)
  judge [
    (!s.enabled t || (ty == 4 && t != 0), .notAvailable),
    (!(ty == 1 || ty == 2 || ty == 4) || (ty == 2) != (hop != 0) || F.OP_CELL_CMD.of w != 0, .param),
    (!s.isOn (opU n) || s.opAls n != 0, .notReady),
    (s.isOn (opU n) && s.opBit n 6, .fault),
    ((s.mirror (opU n)).govHeld, .power),
    (used.length == 4 || (t != 0 && Nat.ble (s.opc n F.OP_CFG_TX_QLIM) mine.length), .queueFull)]

/-- A submission (spec/13_optical_ports.md R490). What the submitter reads in the submission entry is kept under entry
0x800 + 64 n + t. -/
def State.opSubmit (s : State) (n t : Nat) (w : Word) : Oc × State :=
  let o := s.opJudge n t w
  let last := F.OP_CELL_TYPE.into (F.OP_CELL_TYPE.of w) (F.OP_CELL_HOP.into (F.OP_CELL_HOP.of w) 0)
  let note (s : State) (q : Nat) : State :=
    s.wr 0x3B (0x800 + 64 * n + t) (F.OP_CELL_OUTCOME.into o.code (F.OP_CELL_QIDX.into q last))
  match (List.range 4).find? (fun i => s.opTxState n i == 0) with
  | some i =>
    if o = .ok then
      let s := s.wr 0x3B (opTx n i) (F.OP_CELL_TENANT.into t (F.OP_CELL_STATE.into 1 last))
      (.ok, note (s.wr 0x3B (opTx n i + 1) 0) i)
    else (o, note s 0)
  | none => (o, note s 0)

/-- A commit of a transmit payload (spec/13_optical_ports.md R490, R517). -/
def State.opPayload (s : State) (n i : Nat) (w : Word) : Oc × State :=
  if s.opTxState n i = 1 then
    (.ok, ((s.wr 0x3B (opTx n i + 1) w).p F.OP_CELL_STATE (opTx n i) 2).modOp n (fun x => { x with txOrder := x.txOrder ++ [i] }))
  else (.stateMismatch, s)

/-- A commit to a transmit descriptor (spec/13_optical_ports.md R490, R517). -/
def State.opTxCmd (s : State) (n i cmd : Nat) : Oc × State :=
  if cmd = 0 then (.ok, s)
  else if cmd ≠ 1 then (.param, s)
  else if s.opTxState n i = 0 then (.notAvailable, s)
  else (.ok, s.opFreeTx n i .aborted)

/-- A commit to a receive descriptor (spec/13_optical_ports.md R491, R517, spec/01_cabinet_system.md R26). -/
def State.opRxCmd (s : State) (n b : Nat) (w : Word) : Oc × State :=
  if (vget (s.op n).bufs b).seen then (if F.OP_CELL_RELEASE.of w = 1 then (.ok, s.opFreeRx n b) else (.ok, s))
  else (.stateMismatch, s)

/-- A commit to OP_CELL by tenant `t` (spec/13_optical_ports.md R517). -/
def State.opCommitCell (s : State) (t e : Nat) (w : Word) : Oc × State :=
  let n := e / 32
  let k := e % 32
  if k = 16 then s.opSubmit n t w
  else if k < 8 then (if k % 2 = 1 then s.opPayload n (k / 2) w else s.opTxCmd n (k / 2) (F.OP_CELL_CMD.of w))
  else if k < 16 then
    (if k % 2 = 0 then s.opRxCmd n ((k - 8) / 2) w
     else if (vget (s.op n).bufs ((k - 8) / 2)).seen then (.ok, s) else (.stateMismatch, s))
  else (.notAvailable, s)

/-! Commits to the configuration. -/

/-- A commit to OP_CFG (spec/13_optical_ports.md R509, R514). -/
def State.opCommitCfg (s : State) (n : Nat) (w : Word) : Oc × State :=
  let new := s.merged 0x38 n w
  let g (f : Fld) : Nat := f.of new
  let within (f : Fld) (a b : Nat) : Bool := decide (a ≤ g f ∧ g f ≤ b)
  let good := (within F.OP_CFG_KEY 0 3 || within F.OP_CFG_KEY 257 271) && within F.OP_CFG_LOS_TH 2 255
    && within F.OP_CFG_LOS_MS 10 4095 && within F.OP_CFG_PULSE_MS 100 65535 && within F.OP_CFG_PERIOD_S 10 511
    && within F.OP_CFG_TEST_S 1 127 && within F.OP_CFG_FAIL_US 1 65 && within F.OP_CFG_PINT 0 10
    && within F.OP_CFG_CAL_K 12 24 && within F.OP_CFG_TX_QLIM 1 4 && within F.OP_CFG_RX_TLIM 1 4
    && within F.OP_CFG_TIME_EXP 0 8
  if good then
    let s := if s.isOn (opU n) then
        s.modOp n (fun x => { x with cfgOld := some (x.cfgOld.getD (s.rd 0x38 n)) }) else s
    (.ok, s.wr 0x38 n new)
  else (.param, s)

/-- A commit to OP_LASER (spec/13_optical_ports.md R509, R515). -/
def State.opCommitLaser (s : State) (e : Nat) (w : Word) : Oc × State :=
  let n := e / 2
  let new := s.merged 0x39 e w
  let g (f : Fld) : Nat := f.of new
  if g F.OP_LASER_BIAS_MAX ≤ 4000 ∧ g F.OP_LASER_BIAS_EOL ≤ g F.OP_LASER_BIAS_MAX ∧ g F.OP_LASER_MOD ≤ 3000
      ∧ g F.OP_LASER_MPD_MIN < g F.OP_LASER_MPD_SET then
    let s := if s.isOn (opU n) then
        s.modOp n (fun x => { x with lasOld := vset x.lasOld (e % 2) (some ((vget x.lasOld (e % 2)).getD (s.rd 0x39 e))) })
      else s
    (.ok, s.wr 0x39 e new)
  else (.param, s)

/-! Sending. -/

/-- Cell bits [183:32]: TYPE, HOP, TENANT, SEQ, FLAGS and PAYLOAD (spec/13_optical_ports.md R481, Table OP-2). -/
def cellBody (ty hop ten seq flags payload : Nat) : Nat :=
  (ty % 8) * 2 ^ 149 + (hop % 8) * 2 ^ 146 + (ten % 64) * 2 ^ 140 + (seq % 256) * 2 ^ 132 + (flags % 16) * 2 ^ 128
    + payload % 2 ^ 128

/-- CRC of a cell, over bits [183:32] taken from bit 183 (spec/13_optical_ports.md R481). -/
def cellCrc (body : Nat) : Nat := crc16 (bitsBE body 152)

/-- The 192 bits of a cell (spec/13_optical_ports.md R481). -/
def cellOf (body auth : Nat) : BitVec 192 :=
  BitVec.ofNat 192 (0xE2 * 2 ^ 184 + body * 2 ^ 32 + cellCrc body * 2 ^ 16 + auth % 65536)

/-- A field of a cell. -/
def cellField (c : BitVec 192) (lo w : Nat) : Nat := c.toNat / 2 ^ lo % 2 ^ w

/-- SYNC and CRC are right (spec/13_optical_ports.md R483). -/
def cellGood (c : BitVec 192) : Bool :=
  cellField c 184 8 == 0xE2 && cellField c 16 16 == cellCrc (cellField c 32 152)

/-- The tag of a group: the CMAC over its cells under the link key, as an in-line job (spec/13_optical_ports.md R484,
R485). -/
def State.opTag (s : State) (n : Nat) (key : Nat) (cells : List (BitVec 152)) : Oc × Nat :=
  let r := s.obInline (2 + n) { mode := 4, slot := key, msg := ofNatBytes (cells.flatMap (fun b => Aes.beBytes 19 b.toNat)) }
  (r.1, beNat r.2)

/-- At the first cell of a group the tag of the last one is computed, and AUTH and KEY take effect
(spec/13_optical_ports.md R484, R509, R510). -/
def State.opGroupStart (s : State) (n : Nat) : State :=
  if (s.op n).txSeq.toNat % 8 ≠ 0 then s
  else
    let auth := s.opc n F.OP_CFG_AUTH == 1
    let key := s.opc n F.OP_CFG_KEY
    let cells := (s.op n).txGroup
    let r := s.opTag n key cells
    let tag := if auth && cells.length == 8 && r.1 = .ok then some (BitVec.ofNat 128 r.2) else none
    s.modOp n (fun x => { x with txAuth := auth, txKey := key, txTag := tag, txGroup := [] })

/-- The payload of a TIME cell whose first bit starts now: the stamp is that of the middle of that bit, 160 core ticks on
(spec/13_optical_ports.md R492). -/
def State.opTime (s : State) : Nat :=
  let st := (s.gy.stamp.toNat + 160 * s.gy.rate.toNat) % 2 ^ 80 / 2 ^ 32
  (st / 65536) * 2 ^ 96 + (st % 65536) * 2 ^ 80 + s.gy.freq.toNat * 2 ^ 64 + b2n s.gy.netTime * 2 ^ 58
    + (s.sub .gy % 4) * 2 ^ 56

/-- A TIME cell may go (spec/13_optical_ports.md R492). -/
def State.opTimeMay (s : State) (n : Nat) : Bool := s.opc n F.OP_CFG_TIME_TX == 1 && s.timeOk

/-- What the cell slot carries: TYPE, HOP, TENANT and payload, and the state once it has been taken
(spec/13_optical_ports.md R489, R508). -/
def State.opChoose (s : State) (n : Nat) : (Nat × Nat × Nat × Nat) × State :=
  match (s.op n).transit with
  | some c =>
    ((2, cellField c 178 3, cellField c 172 6, cellField c 32 128), s.modOp n (fun x => { x with transit := none }))
  | none =>
    if (s.op n).timeDue && s.opTimeMay n then
      ((3, 0, 0, s.opTime), s.modOp n (fun x => { x with timeDue := false }))
    else
      let s := s.modOp n (fun x => { x with timeDue := false })
      match (s.op n).txOrder with
      | i :: _ =>
        let d := opTx n i
        let t := s.g F.OP_CELL_TENANT d
        let ty := s.g F.OP_CELL_TYPE d
        ((ty, s.g F.OP_CELL_HOP d, if ty = 4 then 0 else t, (s.rd 0x3B (d + 1)).toNat), s.opFreeTx n i .ok)
      | [] => ((0, 0, 0, 0), s)

/-- One monitor-loop step of the live laser, toward MPD_SET, every 8 cells (spec/13_optical_ports.md R494). -/
def State.opMonitor (s : State) (n mpd : Nat) : State :=
  let l := s.opLive n
  let e := 2 * n + l
  let b := s.g F.OP_LASER_BIAS e
  let set := s.opl n l F.OP_LASER_MPD_SET
  if (s.op n).txSeq.toNat % 8 ≠ 0 then s
  else if mpd < set then s.p F.OP_LASER_BIAS e (min (b + 1) (s.opl n l F.OP_LASER_BIAS_MAX))
  else if set < mpd then s.p F.OP_LASER_BIAS e (b - 1)
  else s

/-- The live laser sends the cell of a slot (spec/13_optical_ports.md R481, R484, R489). -/
def State.opSend (s : State) (n : Nat) : State :=
  let s := s.opGroupStart n
  let r := s.opChoose n
  let s := r.2
  let seq := (s.op n).txSeq.toNat
  let flags := 8 * b2n (s.op n).txTag.isNone + 4 * b2n (s.opBit n 3) + 2 * b2n (s.opBit n 5)
  let body := cellBody r.1.1 r.1.2.1 r.1.2.2.1 seq flags r.1.2.2.2
  let auth := ((s.op n).txTag.getD 0).bits (112 - 16 * (seq % 8)) 16
  s.modOp n (fun x => { x with
    out := cellOf body auth, txSeq := x.txSeq + 1, txGroup := x.txGroup ++ [BitVec.ofNat 152 body] })

/-- OPT_CELL_TX: a cell slot begins at the next cell boundary; `mpd` is the live laser's monitor current, averaged over
whole pilot periods (spec/13_optical_ports.md R481, R489, R494). -/
def execOptCellTx (n : Fin 2) (mpd : Nat) (s : State) : Host.Outcome State Fault Refusal :=
  if !s.isOn (opU n.val) then .next s
  else
    let s := s.advanceTo (s.opNext n.val)
    let s := (s.modOp n.val (fun x => { x with lastSlot := some (s.tick / cellTicks) })).opBoundary n.val
    if (s.op n.val).lit then .next ((s.opMonitor n.val mpd).opSend n.val) else .next s

/-- TIME_CELL_DUE: after a cycle boundary with CYCLE a multiple of 2^TIME_EXP (spec/13_optical_ports.md R492). -/
def execTimeCellDue (n : Fin 2) (s : State) : Host.Outcome State Fault Refusal :=
  if s.isOn (opU n.val) && s.opTimeMay n.val && s.cycle % 2 ^ s.opc n.val F.OP_CFG_TIME_EXP == 0 then
    .next (s.modOp n.val (fun x => { x with timeDue := true }))
  else .next s

/-! Receiving. -/

/-- A group is judged: OP_STAT shows the verdict, AUTH_FAIL at most once a second (spec/13_optical_ports.md R486, R513,
R516). -/
def State.opVerdict (s : State) (n gseq cause : Nat) : State :=
  let e := 2 * n
  let d := ((gseq + 256 - s.g F.OP_STAT_LAST_GSEQ e) % 256) / 8
  let hist := (s.g F.OP_STAT_GRP_HIST e * 2 ^ d) / 2 * 2 + b2n (cause == 0)
  let s := s.ps 0x3A e [(F.OP_STAT_GRP_HIST, hist % 65536), (F.OP_STAT_LAST_GSEQ, gseq)]
  if cause = 0 then s.bump F.OP_CNT_GRP_OK (e + 1)
  else
    let s := (s.bump F.OP_CNT_GRP_FAIL (e + 1)).modOp n (fun x => { x with authFails := x.authFails + 1 })
    let due := match (s.op n).authLast with | none => true | some t => Nat.ble (t + secTicks) s.tick
    if due then
      (s.raiseCommon (opU n) 2 0x16 (capAt 65535 (s.op n).authFails * 65536 + cause)).modOp n
        (fun x => { x with authFails := 0, authLast := some s.tick })
    else s

/-- The verdict's cause for the previous group, 0 when it verifies; `cells` are those of the group that carries its tag
(spec/13_optical_ports.md R486). -/
def State.opCause (s : State) (n : Nat) (cells : List CellIn) : Nat :=
  if (s.op n).prevCause ≠ 0 then (s.op n).prevCause
  else if cells.any (fun c => c.noauth) then 4
  else
    let r := s.opTag n (s.op n).rxKey ((s.op n).rxPrev.map (fun c => c.body))
    if r.1 ≠ .ok then 5
    else if cells.length = 8 ∧ r.2 = cells.foldl (fun a c => a * 65536 + c.auth.toNat) 0 then 0 else 3

/-- The TIME cell that waited for a group goes to Geyser when the group has verified (spec/13_optical_ports.md R493). -/
def State.opTimeVerified (s : State) (n gseq cause : Nat) : State :=
  match (s.op n).timeIn with
  | some (t, stamp, g) =>
    if g = gseq then
      let s := s.modOp n (fun x => { x with timeIn := none })
      if cause = 0 then s.gyStamped (5 + n) stamp (s.tick - t) else s
    else s
  | none => s

/-- A group ends: with AUTH the one before it is judged (spec/13_optical_ports.md R486). -/
def State.opGroupEnd (s : State) (n : Nat) : State :=
  let x := s.op n
  let prev := (x.rxGseq.toNat + 248) % 256
  let s :=
    if x.prevOn && x.rxAuth then
      let cause := s.opCause n x.rxGroup
      (s.opVerdict n prev cause).opTimeVerified n prev cause
    else s
  s.modOp n (fun y => { y with
    prevOn := x.rxTrack, rxPrev := x.rxGroup, prevCause := x.rxCause, rxGroup := [], rxCause := 0,
    rxGseq := BitVec.ofNat 8 (x.rxGseq.toNat + 8) })

/-- A group begins: AUTH and KEY take effect for this direction (spec/13_optical_ports.md R509). -/
def State.opGroupBegin (s : State) (n seq : Nat) : State :=
  s.modOp n (fun x => { x with
    rxTrack := true, rxGseq := BitVec.ofNat 8 seq, rxAuth := s.opc n F.OP_CFG_AUTH == 1, rxKey := s.opc n F.OP_CFG_KEY })

/-- The first failure of the group being received (spec/13_optical_ports.md R486). -/
def State.opMark (s : State) (n c : Nat) : State :=
  s.modOp n (fun x => { x with rxCause := if x.rxTrack && x.rxCause == 0 then c else x.rxCause })

/-- The cell expected next has not come, or came bad (spec/13_optical_ports.md R486). -/
def State.opMissed (s : State) (n : Nat) : State :=
  let q := (s.op n).rxNext
  let s := if q % 8 = 0 then s.opGroupBegin n q else s
  let s := s.opMark n 1
  let s := if q % 8 = 7 ∧ (s.op n).rxTrack then s.opGroupEnd n else s
  s.modOp n (fun x => { x with rxNext := (q + 1) % 256 })

/-- Every cell from the one expected to SEQ `q` is missing; `fuel` bounds their number. -/
def State.opSkip (s : State) (n q : Nat) : Nat → State
  | 0 => s
  | k + 1 => if (s.op n).rxNext = q then s else (s.opMissed n).opSkip n q k

/-- A good cell takes its place in its group (spec/13_optical_ports.md R486). -/
def State.opPlace (s : State) (n : Nat) (c : BitVec 192) : State :=
  let q := cellField c 164 8
  let s := s.opSkip n q 256
  let s := if q % 8 = 0 then s.opGroupBegin n q else s
  let x : CellIn := { body := BitVec.ofNat 152 (cellField c 32 152), auth := BitVec.ofNat 16 (cellField c 0 16),
                      noauth := bitOf (cellField c 160 4) 3 }
  s.modOp n (fun y => { y with rxGroup := if y.rxTrack then y.rxGroup ++ [x] else [], rxNext := (q + 1) % 256 })

/-- The group of a good cell ends with its eighth cell. -/
def State.opPlaced (s : State) (n : Nat) (c : BitVec 192) : State :=
  if cellField c 164 8 % 8 = 7 ∧ (s.op n).rxTrack then s.opGroupEnd n else s

/-- A cell is stored in a free receive buffer, or dropped (spec/13_optical_ports.md R491). -/
def State.opStore (s : State) (n : Nat) (c : BitVec 192) (stamp : Nat) : State :=
  let t := cellField c 172 6
  let bufs := (s.op n).bufs
  let held := ((List.range 4).filter (fun b => (vget bufs b).full && (vget bufs b).tenant == t)).length
  match (List.range 4).find? (fun b => !(vget bufs b).full) with
  | some b =>
    if s.opc n F.OP_CFG_RX_TLIM ≤ held then (s.bump F.OP_CNT_DROP (2 * n + 1)).opMark n 2
    else
      let s := s.wr 0x3B (opRx n b + 1) (BitVec.ofNat 128 (cellField c 32 128))
      let s := (s.wr 0x3B (opRx n b) 0).ps 0x3B (opRx n b) [(F.OP_CELL_TYPE, cellField c 181 3), (F.OP_CELL_TENANT, t),
        (F.OP_CELL_SEQ, cellField c 164 8), (F.OP_CELL_FLAGS, cellField c 160 4), (F.OP_CELL_STATE, 3),
        (F.OP_CELL_CYCLE, stamp / 65536), (F.OP_CELL_ANGLE, stamp % 65536)]
      let s := s.modOp n (fun x => { x with
        bufs := vset x.bufs b { full := true, seen := held != 0, tenant := t } })
      if held = 0 then
        s.raise (opU n) { common := false, tenant := t, sev := 0, code := 0x18, arg := b, ref := 64 + b }
      else s
  | none => (s.bump F.OP_CNT_DROP (2 * n + 1)).opMark n 2

/-- A transit cell with links still to cross is handed to the other port (spec/13_optical_ports.md R488). -/
def State.opForward (s : State) (n : Nat) (c : BitVec 192) : State :=
  let m := 1 - n
  if s.isOn (opU m) && s.opAls m == 0 && (s.op m).lit && (s.op m).transit.isNone then
    s.modOp m (fun x => { x with transit := some (c - BitVec.ofNat 192 (2 ^ 178)) })
  else s.bump F.OP_CNT_HOP_DROP (2 * n + 1)

/-- A TIME cell goes to Geyser when its sender is in LOCK or HOLDOVER, with AUTH once its group has verified
(spec/13_optical_ports.md R493). -/
def State.opTimeCell (s : State) (n : Nat) (c : BitVec 192) (ago : Nat) : State :=
  let p := cellField c 32 128
  let sub := p / 2 ^ 56 % 4
  let stamp := p / 2 ^ 96 * 65536 + p / 2 ^ 80 % 65536
  if sub = 1 ∨ sub = 2 then
    if (s.op n).rxTrack && !(s.op n).rxAuth then s.gyStamped (5 + n) stamp ago
    else if (s.op n).rxTrack then s.modOp n (fun x => { x with timeIn := some (s.tick - ago, stamp, x.rxGseq.toNat) })
    else if s.opc n F.OP_CFG_AUTH = 0 then s.gyStamped (5 + n) stamp ago
    else s
  else s

/-- What the received FLAGS say: CAL, and RLOS while this receiver has no LOS (spec/13_optical_ports.md R499, R512). -/
def State.opFlags (s : State) (n : Nat) (flags : Nat) : State :=
  let rlos := bitOf flags 1
  let s := s.modOp n (fun x => { x with rxCal := bitOf flags 2 })
  if s.opBit n 5 || s.b F.OP_STAT_RLOS_RX (2 * n) == rlos then s
  else (s.p F.OP_STAT_RLOS_RX (2 * n) (b2n rlos)).raiseCommon (opU n) 1 0x19 (b2n rlos)

/-- A good cell received in SYNC is handled (spec/13_optical_ports.md R483, R488, R491, R493). -/
def State.opHandle (s : State) (n : Nat) (c : BitVec 192) (ago : Nat) : State :=
  let ty := cellField c 181 3
  let hop := cellField c 178 3
  let stamp := (s.stampAgo ago).toNat / 2 ^ 32
  if 5 ≤ ty ∨ !s.enabled (cellField c 172 6) then s.bump F.OP_CNT_TYPE_BAD (2 * n + 1)
  else if ty = 1 ∨ ty = 4 then s.opStore n c stamp
  else if ty = 2 then
    if hop = 0 then s.bump F.OP_CNT_HOP_DROP (2 * n + 1)
    else if hop = 1 then s.opStore n c stamp
    else s.opForward n c
  else if ty = 3 then s.opTimeCell n c ago
  else s

/-- The receiver loses cell delineation: back to HUNT, PILOT_SIGN reads 0 (spec/13_optical_ports.md R483, R499). -/
def State.opHunt (s : State) (n : Nat) : State :=
  let s := s.modOp n (fun x => { x with
    rxLock := 0, good := 0, badRun := 0, rxTrack := false, rxGroup := [], rxPrev := [], prevOn := false, rxCause := 0,
    prevCause := 0, timeIn := none, rxCal := false, pilotRun := 0, pilotCand := 0 })
  (s.p F.OP_STAT_PILOT_SIGN (2 * n) 0).opPut n 4 false

/-- OPT_CELL_RX: 192 received bits whose stamp point passed `ago` core ticks before now: in HUNT at a bit position where
SYNC may stand, otherwise at the expected spacing (spec/13_optical_ports.md R483). -/
def execOptCellRx (n : Fin 2) (cell : BitVec 192) (ago : Nat) (s : State) : Host.Outcome State Fault Refusal :=
  let n := n.val
  let good := cellGood cell
  if !s.isOn (opU n) then .next s
  else if (s.op n).rxLock = 0 then
    (if good then .next (s.modOp n (fun x => { x with rxLock := 1, good := 0 })) else .next s)
  else if (s.op n).rxLock = 1 then
    if !good then .next (s.modOp n (fun x => { x with rxLock := 0, good := 0 }))
    else if (s.op n).good = 0 then .next (s.modOp n (fun x => { x with good := 1 }))
    else
      let s := s.modOp n (fun x => { x with
        rxLock := 2, good := 0, badRun := 0, rxTrack := false, rxNext := (cellField cell 164 8 + 1) % 256 })
      .next ((s.opPut n 4 true).raiseCommon (opU n) 1 0x15 1)
  else if good then
    let s := ((s.modOp n (fun x => { x with badRun := 0 })).opPlace n cell).opFlags n (cellField cell 160 4)
    .next ((s.opHandle n cell ago).opPlaced n cell)
  else
    let s := ((s.bump F.OP_CNT_CRC_BAD (2 * n + 1)).opMissed n).modOp n (fun x => { x with badRun := x.badRun + 1 })
    if Nat.ble 7 (s.op n).badRun then
      .next (((s.opHunt n).raiseCommon (opU n) 1 0x15 0).bump F.OP_CNT_SYNC_LOSS (2 * n + 1))
    else .next s

/-! The pilot and the received power. -/

/-- A K3 result of the port: signed in-phase and quadrature amplitudes and the average photocurrent, in 1/16 nA; none when
the invocation was skipped (spec/13_optical_ports.md R499). -/
def State.opPilot (s : State) (n : Nat) (r : Option (Int × Int × Nat)) : State :=
  let e := 2 * n
  match r with
  | none => s.p F.OP_STAT_PILOT_STALE e 1
  | some (i, q, avg) =>
    if !s.opBit n 4 then s
    else
      let s := s.p F.OP_STAT_PILOT_STALE e 0
      let s := if (s.op n).rxCal then s
        else s.ps 0x3A e [(F.OP_STAT_PWR_PILOT, capAt (2 ^ 24 - 1) i.natAbs), (F.OP_STAT_CYCLE, s.cycle)]
      let sign := if avg ≤ 100 * i.natAbs ∧ q.natAbs < i.natAbs then (if 0 < i then 1 else 2) else 0
      let run := if sign = 0 then 0 else if sign = (s.op n).pilotCand then (s.op n).pilotRun + 1 else 1
      let s := s.modOp n (fun x => { x with pilotCand := sign, pilotRun := run })
      if Nat.ble 4 run && s.g F.OP_STAT_PILOT_SIGN e != sign then
        (s.p F.OP_STAT_PILOT_SIGN e sign).raiseCommon (opU n) 1 0x17 sign
      else s

/-- PWR_AVG_UPDATE: at the next multiple of 2^PINT ms the mean photocurrent becomes `i`, in 1/16 nA
(spec/13_optical_ports.md R500, R516). -/
def execPwrAvgUpdate (n : Fin 2) (i : Nat) (s : State) : Host.Outcome State Fault Refusal :=
  if !s.isOn (opU n.val) then .next s
  else
    let per := 2 ^ s.opc n.val F.OP_CFG_PINT * msTicks
    let s := s.advanceTo ((s.tick / per + 1) * per)
    .next (s.ps 0x3A (2 * n.val) [(F.OP_STAT_PWR_AVG, capAt (2 ^ 24 - 1) i), (F.OP_STAT_CYCLE, s.cycle)])

/-! Failure and takeover. -/

/-- A laser is marked FAILED (spec/13_optical_ports.md R494, R497, R515). -/
def State.opFail (s : State) (n l cause : Nat) : State :=
  (s.ps 0x39 (2 * n + l) [(F.OP_LASER_FAILED, 1), (F.OP_LASER_FCAUSE, cause)]).modOp n
    (fun x => { x with clearing := vset x.clearing l false })

/-- LASER_FAIL: a failure condition of the live laser has held for FAIL_US. Cause 1: BIAS at BIAS_MAX with the monitor
current below MPD_MIN; cause 2: BIAS beyond BIAS_EOL (spec/13_optical_ports.md R494, R495, R504, R506). -/
def execLaserFail (n : Fin 2) (cause : Nat) (s : State) : Host.Outcome State Fault Refusal :=
  let n := n.val
  let l := s.opLive n
  let bias := s.g F.OP_LASER_BIAS (2 * n + l)
  let holds := if cause = 1 then decide (bias = s.opl n l F.OP_LASER_BIAS_MAX)
    else cause == 2 && decide (s.opl n l F.OP_LASER_BIAS_EOL < bias)
  if s.isOn (opU n) && (s.op n).lit && holds then
    let dead := !(s.opUsable n (1 - l) && !s.opShed n)
    let s := (s.opFail n l cause).raiseCommon (opU n) (if dead then 3 else 2) 0x13 (l + 2 * cause)
    .next ((s.opAbandon n).opLoseLive n cause (State.opEndAll n .fault))
  else .next s

/-! Calibration. -/

/-- The laser whose scheduled window begins in this cycle (spec/13_optical_ports.md R496). -/
def State.opScheduled (s : State) (n : Nat) : Bool :=
  let e := 46 + n
  s.b F.ASCHED_VALID e && s.cycle % 2 ^ s.g F.ASCHED_K e == s.g F.ASCHED_PHASE e % 2 ^ s.g F.ASCHED_K e

/-- A window begins or is skipped (spec/13_optical_ports.md R497). -/
def State.opCalBegin (s : State) (n l : Nat) : State :=
  let live := !s.opBit n 6 && s.opLive n == l
  let p := 1 - l
  if s.opAls n ≠ 0 ∨ (live && (!s.opUsable n p || s.opShed n)) ∨ (!live && s.opShed n && !s.opBit n 6)
      ∨ (s.op (1 - n)).calLaser.isSome then
    s.opCalEvent n l 3
  else
    let s := s.modOp n (fun x => { x with
      calLaser := some l, calStart := s.stamp48, calReturn := (if live then l else p), calOff := s.pinsDetached })
    let s := if live then (s.advanceTo (s.opNext n)).opTakeover n p 0 else s
    s.opPut n 3 true

/-- CAL_WINDOW_START: at a cycle boundary a commanded or scheduled window of the port begins
(spec/13_optical_ports.md R496, R497, R503). -/
def execCalWindowStart (n : Fin 2) (s : State) : Host.Outcome State Fault Refusal :=
  let n := n.val
  if !s.isOn (opU n) || (s.op n).calLaser.isSome then .next s
  else
    let s' := s.toCycle
    match (s.op n).calReq with
    | l :: rest =>
      if (s.op (1 - n)).calLaser.isSome then .next s
      else .next ((s'.modOp n (fun x => { x with calReq := rest })).opCalBegin n l)
    | [] =>
      if s'.opScheduled n then
        .next ((s'.modOp n (fun x => { x with calNext := 1 - x.calNext })).opCalBegin n (s.op n).calNext)
      else .next s

/-- A laser's least-squares fit over the steps that qualify, each a pair of step number and monitor current: how many,
the line's slope as a fraction, and its zero crossing's numerator, all in eighths of BIAS_MAX
(spec/13_optical_ports.md R497). -/
structure CalFit where
  n : Nat
  num : Int
  den : Int
  x0 : Int
  deriving DecidableEq, Repr

/-- The fit of a list of points. -/
def calFit (pts : List (Nat × Nat)) : CalFit :=
  let sum (f : Nat × Nat → Nat) : Int := (((pts.map f).sum : Nat) : Int)
  let n : Int := (pts.length : Int)
  let sx := sum (fun p => p.1)
  let sy := sum (fun p => p.2)
  let num := n * sum (fun p => p.1 * p.2) - sx * sy
  let den := n * sum (fun p => p.1 * p.1) - sx * sx
  { n := pts.length, num := num, den := den, x0 := sx * num - sy * den }

/-- What a window's steps give: ITH, SLOPE and the operating bias; none when fewer than 3 steps qualify or the line does
not rise. A number that does not fit its field has no stated value: it is free (spec/13_optical_ports.md R497, R515). -/
def State.opFit (s : State) (n l : Nat) (mpd : List Nat) : Option (Nat × Nat × Nat) × State :=
  let max := s.opl n l F.OP_LASER_BIAS_MAX
  let pts := ((List.range 8).map (fun k => (k + 1, mpd.getD k 0))).filter
    (fun p => Nat.ble (s.opl n l F.OP_LASER_MPD_MIN) (4 * p.2))
  let f := calFit pts
  if f.n < 3 ∨ f.num ≤ 0 ∨ max = 0 then (none, s)
  else
    let ith := roundQ (f.x0 * max) (8 * f.n * f.num.toNat)
    let slope := roundQ (f.num * 10240) (f.den.toNat * max)
    let free := s.draw
    let bad := decide (ith < 0 ∨ 4095 < ith ∨ slope < 1 ∨ 65535 < slope)
    let s := if bad then free.2 else s
    let ithF := if ith < 0 ∨ 4095 < ith then free.1 % 4096 else ith.toNat
    let slopeF := if slope < 1 ∨ 65535 < slope then free.1 / 4096 % 65535 + 1 else slope.toNat
    let bias := roundQ (ith * max + (s.opl n l F.OP_LASER_MPD_SET : Int) * 1280 * max / slopeF) max
    (some (ithF, slopeF, bias.toNat), s)

/-- CAL_DONE: the window's ninth cycle is over; `mpd` are the averaged monitor currents of cycles 1 to 8
(spec/13_optical_ports.md R497). -/
def execCalDone (n : Fin 2) (mpd : List Nat) (s : State) : Host.Outcome State Fault Refusal :=
  let n := n.val
  match (s.op n).calLaser with
  | none => .next s
  | some l =>
    let s := s.advanceFrac (s.fracUntil ((s.op n).calStart + 655360))
    let s := s.advanceTo (s.opNext n)
    let r := s.opFit n l mpd
    let fit := if (s.op n).calOff then none else r.1
    let s := r.2.modOp n (fun x => { x with calLaser := none, calOff := false })
    let s := (s.p F.OP_LASER_BIAS (2 * n + l) 0).opPut n 3 false
    let bad := (s.opFail n l 3).opCalEvent n l 1
    match fit with
    | none => .next bad
    | some (ith, slope, bias) =>
      if s.opl n l F.OP_LASER_BIAS_EOL < bias then .next bad
      else
        let s := (s.ps 0x39 (2 * n + l) [(F.OP_LASER_ITH, ith), (F.OP_LASER_SLOPE, slope)]).bump F.OP_LASER_CALS (2 * n + l)
        let s := s.modOp n (fun x => { x with
          calBias := vset x.calBias l (some bias), clearing := vset x.clearing l false })
        let dead := s.opBit n 6 && s.opUsable n l
        let s := if dead then (s.opPut n 6 false).opGoLive n l
          else if (s.op n).calReturn = l ∧ s.opLive n ≠ l then s.opTakeover n l 0 else s
        .next (s.opCalEvent n l 0)

/-! Automatic laser shut-down. -/

/-- The ALS state RUN or SHUT is entered (spec/13_optical_ports.md R501). -/
def State.opShut (s : State) (n : Nat) : State :=
  (s.opSetAls n 1).modOp n (fun x => { x with alsAt := s.tick })

/-- A pulse or a test begins: `a` 2 PULSE, 3 TEST (spec/13_optical_ports.md R501, Table OP-5). -/
def State.opPulse (s : State) (n a : Nat) : State :=
  let len := if a = 2 then s.opc n F.OP_CFG_PULSE_MS * msTicks else s.opc n F.OP_CFG_TEST_S * secTicks
  (s.opSetAls n a).modOp n (fun x => { x with alsAt := if a = 2 then s.tick else x.alsAt, pulseEnd := s.tick + len })

/-- LOS: LOS sets or clears, as the averages of LOS_MS say (spec/13_optical_ports.md R501, R505). -/
def execLos (n : Fin 2) (set : Bool) (s : State) : Host.Outcome State Fault Refusal :=
  let n := n.val
  if !s.isOn (opU n) || s.opBit n 5 == set then .next s
  else
    let s := (s.opPut n 5 set).raiseCommon (opU n) 2 0x10 (b2n set)
    if set then
      if s.opc n F.OP_CFG_ALS_EN = 1 ∧ s.opAls n = 0 then .next ((s.opAbandon n).opShut n) else .next (s.opAbandon n)
    else .next (s.opSetAls n 0)

/-- ALS_PULSE: PERIOD_S after SHUT was entered, or after the last pulse began (spec/13_optical_ports.md R501). -/
def execAlsPulse (n : Fin 2) (s : State) : Host.Outcome State Fault Refusal :=
  let n := n.val
  if s.isOn (opU n) && s.opAls n == 1 && (s.mirror (opU n)).held != 3 then
    .next ((s.advanceTo ((s.op n).alsAt + s.opc n F.OP_CFG_PERIOD_S * secTicks)).opPulse n 2)
  else .next s

/-- ALS_PULSE_END: the pulse or the test ends with LOS still set (spec/13_optical_ports.md R501). -/
def execAlsPulseEnd (n : Fin 2) (s : State) : Host.Outcome State Fault Refusal :=
  let n := n.val
  if s.isOn (opU n) && s.opAls n == 2 then .next ((s.advanceTo (s.op n).pulseEnd).opSetAls n 1)
  else if s.isOn (opU n) && s.opAls n == 3 then .next ((s.advanceTo (s.op n).pulseEnd).opShut n)
  else .next s

/-! The unit. -/

/-- The link key allows what the port needs (spec/13_optical_ports.md R485, R502). -/
def State.opKeyOk (s : State) (n : Nat) : Bool := s.slotAllows (s.opc n F.OP_CFG_KEY) 0x44

/-- The start steps: the key, the K3 and KIND 4 entries, a laser (spec/13_optical_ports.md R502, spec/09_caldera_jobs.md
R326). -/
def State.opStart (s : State) (n : Nat) : State :=
  let u := opU n
  let auth := s.opc n F.OP_CFG_AUTH == 1
  if auth && decide (s.st .obs = .starting) then s
  else if auth && !s.opKeyOk n then s.goFault u 0 (State.opEndAll n)
  else if s.st .cald = .starting then s
  else if !s.isOn .cald then s.goFault u 0 (State.opEndAll n)
  else
    let s := (s.ascPut (37 + n) 3 1 3 (((if n = 0 then 9616 else 13712) + s.gy.grid) % 65536) 7 0 0 0).opKind4 n
    let dead := !s.opUsable n 0 && !s.opUsable n 1
    let live := if s.opUsable n 0 || dead then 0 else 1
    let s := s.modOp n (fun x => { x with
      txSeq := 0, txGroup := [], txTag := none, txOrder := [], transit := none, timeDue := false, rxLock := 0, good := 0,
      badRun := 0, rxTrack := false, rxGroup := [], rxPrev := [], prevOn := false, timeIn := none, calLaser := none,
      calReq := [], lit := false, cfgOld := none, lasOld := Vector.replicate 2 none, pilotRun := 0, pilotCand := 0,
      authFails := 0, authLast := none })
    s.goOn u (4 * live + 64 * b2n dead)

/-- The port leaves service: both lasers dark, receive cells discarded, the entries removed
(spec/13_optical_ports.md R502). -/
def State.opOut (s : State) (n : Nat) : State :=
  let s := (List.range 4).foldl (fun s b => s.opFreeRx n b) s
  let s := (s.p F.OP_LASER_BIAS (2 * n) 0).p F.OP_LASER_BIAS (2 * n + 1) 0
  let s := s.modOp n (fun x => { x with
    lit := false, calLaser := none, calReq := [], transit := none, timeDue := false, timeIn := none, rxLock := 0,
    rxTrack := false, rxGroup := [], rxPrev := [], prevOn := false, cfgOld := none, lasOld := Vector.replicate 2 none })
  (s.p F.OP_STAT_PILOT_SIGN (2 * n) 0).ascDrop [37 + n, 46 + n]

/-- What stands against a FORCE with a legal argument: a forced laser that is FAILED or shed (spec/13_optical_ports.md
R503). -/
def State.opForceJudge (s : State) (n arg : Nat) : Oc :=
  if arg = 1 ∨ arg = 2 then
    judge [(!s.opUsable n (arg - 1), .stateMismatch), (s.opShed n && s.opLive n != arg - 1, .power)]
  else .ok

/-- The forced substate takes effect at the cell boundary; a running window is abandoned (spec/13_optical_ports.md R503,
R507). -/
def State.opForce (s : State) (n arg : Nat) : State :=
  let s := (s.advanceTo (s.opNext n)).opAbandon n
  let s := s.changeMirror (opU n) (fun m => { m with forced := false, pend := none, held := arg })
  if arg = 1 ∨ arg = 2 then
    let s := if s.opBit n 6 then s.opPut n 6 false else s
    if s.opLive n = arg - 1 then s else s.opGoLive n (arg - 1)
  else s

/-- The governor sheds, or gives back, the spare laser of OPT1: a window is abandoned, and the live laser keeps the
traffic; a laser given back takes a dead port's traffic (spec/13_optical_ports.md R502, spec/16_power_start_sinter.md
R593). Called once the steps in force have changed. -/
def State.opGov (s : State) : State :=
  if !s.isOn .opt1 then s
  else if s.opShed 0 then s.opAbandon 0
  else if s.opBit 0 6 && s.opUsable 0 (1 - s.opLive 0) then
    ((s.opPut 0 6 false).advanceTo (s.opNext 0)).opTakeover 0 (1 - s.opLive 0) 0
  else s

/-- The ports' own unit commands: RESTART, TEST, CALIBRATE, CLEAR (spec/13_optical_ports.md R503, Table OP-6). -/
def State.opUnitCmd (s : State) (n cmd arg : Nat) : Oc × State :=
  let on := s.isOn (opU n)
  let shut := s.opAls n == 1 && s.opc n F.OP_CFG_ALS_EN == 1
  let failed := s.b F.OP_LASER_FAILED (2 * n + arg)
  if cmd = 8 then
    let o := judge [(!(on && shut), .stateMismatch)]
    if o = .ok then (.ok, s.opPulse n 2) else (o, s)
  else if cmd = 9 then
    let o := judge [(arg != 0x5A, .param), (!(on && shut), .stateMismatch)]
    if o = .ok then (.ok, s.opPulse n 3) else (o, s)
  else if cmd = 10 then
    let o := judge [
      (Nat.ble 2 arg, .param),
      (!on || failed || (s.op n).calLaser.isSome || s.opAls n != 0, .stateMismatch),
      (!s.opBit n 6 && !s.opUsable n (1 - s.opLive n), .notReady), (s.opShed n, .power)]
    if o = .ok then (.ok, s.modOp n (fun x => { x with calReq := x.calReq ++ [arg] })) else (o, s)
  else if cmd = 11 then
    let o := judge [(Nat.ble 2 arg, .param), (!on || !failed, .stateMismatch)]
    if o = .ok then
      let s := s.ps 0x39 (2 * n + arg) [(F.OP_LASER_FAILED, 0), (F.OP_LASER_FCAUSE, 0)]
      (.ok, s.modOp n (fun x => { x with clearing := vset x.clearing arg true, calReq := x.calReq ++ [arg] }))
    else (o, s)
  else (.param, s)

end Sys2Proof.Machine
end

