-- ==== Sys2Proof/Machine/UnitOps.lean ====
section
/-! DEFINITION. What a unit does with its requests, its outputs and its memory as it stops, faults and goes OFF
(spec/03_units_events.md R84), unit by unit. -/

namespace Sys2Proof.Machine

open Sys2Proof

/-- Every queued request of a unit ends (spec/03_units_events.md R84). -/
def State.unitEndAll (u : Src) (o : Oc) (s : State) : State :=
  match u with
  | .line => State.lnEndAll o s
  | .cald => State.cjEndAll o s
  | .obs => State.obEndAll o s
  | .radio => State.rcEndAll o s
  | .opt1 => State.opEndAll 0 o s
  | .opt2 => State.opEndAll 1 o s
  | .msp => State.msEndAll o s
  | .sinter => State.snEndQueued o s
  | _ => s

/-- The outputs and the memory of a unit that is out of service. -/
def State.unitOut (s : State) (u : Src) : State :=
  match u with
  | .gy => s.gyOut
  | .line => s.lnOut
  | .cald => s.cjZeroMem
  | .obs => s.obOut
  | .radio => s.rcOut
  | .opt1 => s.opOut 0
  | .opt2 => s.opOut 1
  | .sens => s.sfOut
  | .loop => s.lpOut
  | .msp => s.msStopped
  | _ => s

/-- The substate a unit shows once it is out of service: the bits that stand for more than service remain
(notes/assumptions/32.md). -/
def State.subOut (s : State) (u : Src) : Nat :=
  match u with
  | .gy => 3
  | .obs => s.sub .obs % 2
  | .loop => s.sub .loop % 4
  | .cald => s.sub .cald % 4 + 4 * b2n (decide (1 ≤ s.pw.steps))
  | _ => 0

/-- One unit goes to STOPPING and begins its stop steps (spec/03_units_events.md R84). -/
def State.stopOne (s : State) (u : Src) (cause : Oc) (held : Bool) : State :=
  let s := s.goStopping u cause held (State.unitEndAll u)
  match u with
  | .radio => s.rcStopping
  | .loop => s.lpStopping
  | _ => s

/-- A unit is in STARTING or ON. -/
def State.running (s : State) (u : Src) : Bool := decide (s.st u = .starting ∨ s.st u = .on)

/-- The units whose kernels run on Caldera go to STOPPING with cause NOT_READY (spec/09_caldera_jobs.md R332, R333). -/
def State.stopConsumers (s : State) : State :=
  [Src.line, .opt1, .opt2, .sens].foldl (fun s u => if s.running u then s.stopOne u .notReady false else s) s

/-- A unit goes to STOPPING; CALD takes its kernels' consumers with it (spec/03_units_events.md R84,
spec/09_caldera_jobs.md R332). -/
def State.unitStopping (s : State) (u : Src) (cause : Oc) (held : Bool) : State :=
  let s := s.stopOne u cause held
  if u = .cald then s.stopConsumers else s

/-- A unit goes to FAULT (spec/03_units_events.md R84); CALD's kernels end and their consumers stop
(spec/09_caldera_jobs.md R333). A CALD in FAULT keeps its memory (R308). -/
def State.unitFault (s : State) (u : Src) : State :=
  if s.st u = .fault then s
  else
    match u with
    | .obs => s.obFault
    | .cald => (s.goFault .cald (s.subOut .cald) (State.unitEndAll .cald)).stopConsumers
    | _ => (s.goFault u (s.subOut u) (State.unitEndAll u)).unitOut u

end Sys2Proof.Machine
end

