-- ==== Sys2Proof/Machine/Kernels.lean ====
section
/-! DEFINITION. Caldera's kernel invocations, the scrubber and memory errors (spec/09_caldera_jobs.md R326 to R333, R338,
R342, R349). A kernel's measured inputs reach the consumer as the operand of KERNEL_DONE. -/

namespace Sys2Proof.Machine

open Sys2Proof

/-- Row of Table CJ-6 and kernel of an internal window, by its ASCHED entry (spec/09_caldera_jobs.md R327;
notes/assumptions/33.md). -/
def kernRow (e : Nat) : Nat × Nat :=
  if e < 8 then (1, 1) else if e < 22 then (2, 1) else if e < 36 then (6, 2) else if e = 36 then (7, 2)
  else if e < 39 then (4, 3) else if e = 39 then (3, 4) else (5, 5)

/-- The entry is a kernel's window (spec/04_geyser_time_base.md R138, spec/09_caldera_jobs.md R326). -/
def State.kernWin (s : State) (e : Nat) : Bool := s.b F.ASCHED_VALID e && s.g F.ASCHED_KIND e == 1

/-- Cost of an invocation in CALD cycles, and the state after; that of an evaluation, at most 240,000, is a free value
(spec/09_caldera_jobs.md R326, Table CJ-5; notes/assumptions/33.md). -/
def State.kernCost (s : State) (e : Nat) : Nat × State :=
  match (kernRow e).1 with
  | 1 => (s.lnP * 287, s)
  | 2 => (s.lnP * (196 * s.lnT + 47) + 1024, s)
  | 3 => (47 + 176 * s.sf.batch.length, s)
  | 4 => (115, s)
  | 5 => (115, s)
  | 6 => (96 * s.lnP + 48, s)
  | _ => (s.draw.1 % 240001, s.draw.2)

/-- The invocation that holds the engine: the earliest of the highest row (spec/09_caldera_jobs.md R328). -/
def State.kernHolder (s : State) : Option Kinv :=
  s.cj.kernels.foldl (fun a k => match a with | none => some k | some b => if k.row < b.row then some k else a) none

/-- Two invocations are one. -/
def kernSame (a b : Kinv) : Bool := a.idx == b.idx && a.openAt == b.openAt

/-- An invocation is changed. -/
def State.modKern (s : State) (k : Kinv) (f : Kinv → Kinv) : State :=
  s.modCj (fun x => { x with kernels := x.kernels.map (fun y => if kernSame y k then f y else y) })

/-- The holder is charged up to now (spec/09_caldera_jobs.md R328, R350). -/
def State.kernCharge (s : State) : State :=
  match s.kernHolder with
  | none => s
  | some k =>
    let n := min ((s.tick - k.start) * s.cjRate) k.left
    (s.modKern k (fun y => { y with left := y.left - n, start := s.tick })).modCj (fun x => { x with kernCyc := x.kernCyc + n })

/-- The highest invocation takes or resumes the engine; K4 takes its batch as it begins (spec/09_caldera_jobs.md R328,
spec/14_sensor_front_end.md R528). -/
def State.kernTake (s : State) : State :=
  match s.kernHolder with
  | none => s
  | some k =>
    let s := s.modKern k (fun y => { y with begun := true, start := s.tick })
    if k.kern = 4 ∧ !k.begun then s.sfK4Start else s

/-- An invocation leaves the engine. -/
def State.kernDrop (s : State) (k : Kinv) : State :=
  s.modCj (fun x => { x with kernels := x.kernels.filter (fun y => !kernSame y k) })

/-- A K2 update or evaluation is skipped (spec/09_caldera_jobs.md R328, R330, spec/07_line_learning.md R247, R267). -/
def State.k2Skip (s : State) : State :=
  ((s.bump F.CJ_KERN_SHED 1).modCj (fun x => { x with shedPer := x.shedPer + 1 })).modLl (fun x => { x with shed := true })

/-- The skips that KONLY makes (spec/09_caldera_jobs.md R330, spec/13_optical_ports.md R499, spec/14_sensor_front_end.md
R537). -/
def State.kernSkip (s : State) (e : Nat) : State :=
  match (kernRow e).2 with
  | 2 => s.k2Skip
  | 3 => (s.bump F.CJ_KERN_SHED 2).opPilot (e - 37) none
  | _ => s.bump F.CJ_KERN_SHED 4

/-- The stamp marks of a window's start and end: offset and period (spec/04_geyser_time_base.md R138). -/
def State.winMark (s : State) (e : Nat) (atEnd : Bool) : Nat × Nat :=
  (s.g F.ASCHED_START e + (if atEnd then s.g F.ASCHED_LEN e else 0), if (kernRow e).1 = 7 then 65536 * 256 else 32768)

/-- KERNEL_WINDOW_OPEN: a kernel's window opens and takes the engine from host jobs and from invocations of lower rows
(spec/09_caldera_jobs.md R326 to R328, R330, R334, R338). K5 runs only while a check is in progress. -/
def execKernelWindowOpen (e : Fin 56) (s : State) : Host.Outcome State Fault Refusal :=
  let e := e.val
  if !s.isOn .cald || !s.kernWin e then .next s
  else
    let m := s.winMark e false
    let s := s.toMark m.1 m.2
    let r := kernRow e
    if s.cj.kernels.any (fun k => k.idx == e && k.openAt == s.tick) then .next s
    else if r.2 = 5 ∧ s.sf.check.isNone then .next s
    else if s.cjKonly && (r.2 == 2 || r.2 == 3 || r.2 == 5) then .next (s.kernSkip e)
    else
      let s := if r.2 = 4 then s.sfLoads else s
      let s := s.cjYield.kernCharge
      let c := s.kernCost e
      let s := c.2.modCj (fun x => { x with kernels := x.kernels ++
        [{ row := r.1, kern := r.2, idx := e, left := c.1, cost := c.1, start := s.tick, openAt := s.tick }] })
      .next s.kernTake

/-- KERNEL_WINDOW_END: an update not begun and an evaluation not finished are skipped; any other invocation still running
counts as late (spec/09_caldera_jobs.md R328). -/
def execKernelWindowEnd (e : Fin 56) (s : State) : Host.Outcome State Fault Refusal :=
  let e := e.val
  if !s.kernWin e then .next s
  else
    let m := s.winMark e true
    let s := s.toMark m.1 m.2
    match s.cj.kernels.find? (fun k => k.idx == e && !k.late) with
    | none => .next s
    | some k =>
      if (k.row = 6 ∧ !k.begun) ∨ k.row = 7 then .next (s.kernCharge.kernDrop k).k2Skip.kernTake
      else
        .next (((s.modKern k (fun y => { y with late := true })).bump F.CJ_KERN_LATE (k.kern - 1)).modCj (fun x => { x with
          latePer := vmod x.latePer (k.kern - 1) (· + 1) }))

/-- What an invocation's end gives its consumer (spec/09_caldera_jobs.md R326). -/
def State.kernResult (s : State) (k : Kinv) (d : KernelData) : State :=
  if !s.kernWin k.idx then s
  else if k.row = 6 then (s.llSamples d.samples).modLl (fun x => { x with k2Halves := x.k2Halves ||| 2 ^ (s.hcIndex % 2) })
  else if k.kern = 3 then s.opPilot (k.idx - 37) (some (d.i, d.q, d.avg))
  else if k.kern = 4 then s.sfK4Done k.late
  else if k.kern = 5 then s.sfLock d.i d.q
  else s

/-- KERNEL_DONE: the invocation that holds the engine has run its cycles; `d` is what it measured
(spec/09_caldera_jobs.md R326, R328, R349). -/
def execKernelDone (d : KernelData) (s : State) : Host.Outcome State Fault Refusal :=
  match s.kernHolder with
  | none => .next s
  | some k =>
    let s := (s.advanceTo (k.start + ceilDiv k.left s.cjRate)).kernCharge
    let s := s.kernDrop k
    let e := k.kern - 1
    let s := s.ps 0x26 e [(F.CJ_KERN_INVOC, s.g F.CJ_KERN_INVOC e + 1), (F.CJ_KERN_LAST, k.cost),
      (F.CJ_KERN_MAX, max k.cost (s.g F.CJ_KERN_MAX e))]
    .next ((s.kernResult k d).kernTake)

/-- The beacon boundary for Caldera: K2_SHED and KERN_LATE with the period's counts (spec/09_caldera_jobs.md R333,
R342). -/
def State.cjBeacon (s : State) : State :=
  let s := if s.cj.shedPer = 0 then s else s.raiseCommon .cald 1 0x10 (s.cj.shedPer % 65536)
  let s := (List.range 5).foldl (fun s i =>
    let n := vget s.cj.latePer i
    if n = 0 then s else s.raiseCommon .cald 2 0x11 (n % 65536 * 65536 + (i + 1))) s
  s.modCj (fun x => { x with shedPer := 0, latePer := Vector.replicate 5 0, eccRaised := false })

/-! Memory errors. -/

/-- An uncorrectable word of the internal region is detected: counted, raised, and CALD goes to FAULT
(spec/09_caldera_jobs.md R333). -/
def State.cjInternal (s : State) (w : Nat) : State :=
  ((s.bump F.CJ_CFG_ECC_UNCORR 0).raiseCommon .cald 2 0x13 (2 ^ 16 + w)).unitFault .cald

/-- ECC: a word of local memory has a memory error; a corrected one is written back, an uncorrectable word of the host
region stays so until a reader meets it, one of the internal region is met by a kernel (spec/09_caldera_jobs.md R333). -/
def execEcc (word : Nat) (uncorr : Bool) (s : State) : Host.Outcome State Fault Refusal :=
  let w := word % 4096
  if uncorr then
    if w < 0x600 then .next (s.cjInternal w)
    else .next (s.modCj (fun x => { x with bad := if x.bad.contains w then x.bad else w :: x.bad }))
  else
    let s := s.bump F.CJ_CFG_ECC_CORR 0
    if s.cj.eccRaised then .next s
    else .next ((s.modCj (fun x => { x with eccRaised := true })).raiseCommon .cald 2 0x13 w)

/-- SCRUB: in a host slack period of 1,024 cycles one word is read; a word of the host region found uncorrectable is
reported and stays as it is (spec/09_caldera_jobs.md R333). -/
def execScrub (s : State) : Host.Outcome State Fault Refusal :=
  if s.isOn .cald && s.b F.CJ_CFG_SCRUB 0 && s.cj.running.isNone && s.cj.kernels.isEmpty then
    let s := s.advance (1024 / s.cjRate)
    let a := s.cj.scrubAt
    .next ((s.modCj (fun x => { x with scrubAt := (a + 1) % 4096 })).cjDetect a 1)
  else .next s

end Sys2Proof.Machine
end

