-- ==== Sys2Proof/Machine/Units.lean ====
section
/-! DEFINITION. The unit state machine: commands, start and stop steps, forced substates and the governor's hold
(spec/03_units_events.md R82 to R88). -/

namespace Sys2Proof.Machine

open Sys2Proof

/-- The governor forbids a unit: OPT2 from AMBER, and at BLACK every unit but GOV, GY and SINTER
(spec/16_power_start_sinter.md R593 to R595). -/
def State.forbids (s : State) (u : Src) : Bool :=
  (u == .opt2 && (decide (3 ≤ s.pw.steps) || (s.isOn .gov && decide (1 ≤ s.pw.level))))
    || (decide (3 ≤ s.pw.level) && u != .gov && u != .gy && u != .sinter)

/-- What a unit does as it enters STARTING, before its start steps end. -/
def State.unitBegun (s : State) (u : Src) : State :=
  match u with
  | .rng => s.rngStarting
  | _ => s

/-- A unit goes to STARTING (spec/03_units_events.md R83). -/
def State.unitBegin (s : State) (u : Src) : State :=
  (s.changeMirror u (fun m => { m with st := .starting, cause := Oc.ok.code, govHeld := false })).unitBegun u

/-- START (spec/03_units_events.md Table UE-2). -/
def State.cmdStart (s : State) (u : Src) : Oc × State :=
  match s.st u with
  | .off => if (s.mirror u).govHeld || s.forbids u then (.power, s) else (.ok, s.unitBegin u)
  | .starting => (.ok, s)
  | .on => (.ok, s)
  | .stopping => (.ok, s.changeMirror u (fun m => { m with rearm := true }))
  | .fault => (.stateMismatch, s)

/-- STOP (spec/03_units_events.md Table UE-2). -/
def State.cmdStop (s : State) (u : Src) : Oc × State :=
  match s.st u with
  | .off => (.ok, s.changeMirror u (fun m => { m with govHeld := false }))
  | .starting => (.ok, s.unitStopping u .ok false)
  | .on => (.ok, s.unitStopping u .ok false)
  | .stopping => (.ok, s.changeMirror u (fun m => { m with rearm := false }))
  | .fault => (.stateMismatch, s)

/-- RESET (spec/03_units_events.md Table UE-2, R84). -/
def State.cmdReset (s : State) (u : Src) : Oc × State :=
  match s.st u with
  | .fault => (.ok, s.changeMirror u (fun m => { m with st := .off, rearm := false, cause := Oc.ok.code }))
  | _ => (.stateMismatch, s)

/-- The FORCE arguments a unit's chapter defines (spec/03_units_events.md R83, R88). -/
def forceArgs : Src → List Nat
  | .gy => [0, 2, 3]
  | .line => [0, 1]
  | .cald => [0, 1]
  | .obs => [0, 1]
  | .radio => [0, 1]
  | .opt1 => [0, 1, 2, 3]
  | .opt2 => [0, 1, 2, 3]
  | .sens => [0, 1]
  | .loop => [0, 1, 2]
  | .msp => [0, 1]
  | _ => []

/-- What a unit's chapter holds against a legal FORCE in ON. -/
def State.forceJudge (s : State) (u : Src) (arg : Nat) : Oc :=
  match u with
  | .opt1 => s.opForceJudge 0 arg
  | .opt2 => s.opForceJudge 1 arg
  | _ => .ok

/-- FORCE (spec/03_units_events.md R83, R88, Table UE-2). -/
def State.cmdForce (s : State) (u : Src) (arg : Nat) : Oc × State :=
  if !(forceArgs u).contains arg then (.param, s)
  else if !s.isOn u then (.stateMismatch, s)
  else
    match s.forceJudge u arg with
    | .ok => (.ok, s.changeMirror u (fun m => { m with forced := true, pend := some arg }))
    | o => (o, s)

/-- A forced substate takes effect (spec/03_units_events.md R88). -/
def State.applyForce (s : State) (u : Src) (arg : Nat) : State :=
  match u with
  | .gy => s.gyForce arg
  | .line => s.lnForce arg
  | .cald => s.cjForce arg (decide (1 ≤ s.pw.steps))
  | .obs => s.obForce arg
  | .radio => s.rcForce arg
  | .opt1 => s.opForce 0 arg
  | .opt2 => s.opForce 1 arg
  | .sens => s.sfForce arg
  | .loop => s.lpForce arg
  | .msp => s.msForce arg
  | _ => s

/-- Time passes until a unit's safe boundary (spec/03_units_events.md R88, Table UE-3). The optical ports and SENS go to
theirs as the substate takes effect. -/
def State.toBoundary (s : State) (u : Src) : State :=
  match u with
  | .gy => s.toHalf
  | .line => s.toHalf
  | .loop => s.toHalf
  | .radio => s.toMark 0 (2 ^ s.g F.RC_CFG_SLOT_EXP 0)
  | .obs =>
    match s.ob.running with
    | some j => if 4 ≤ j ∧ j < 16 then (match s.obBoundary j with | some t => s.advanceTo t | none => s) else s
    | none => s
  | _ => s

/-- The boundary stands open: no line frame for GY, no entry begun for MSP (spec/03_units_events.md R88, Table UE-3). -/
def State.atBoundary (s : State) (u : Src) : Bool :=
  match u with
  | .gy => !s.frameNow
  | .msp => s.ms.chain.isEmpty || s.ms.chunk == 0
  | _ => true

/-- FORCE_BOUNDARY: the unit's safe boundary, at which a pending forced substate takes effect (spec/03_units_events.md
R88). -/
def execForceBoundary (u : Src) (s : State) : Host.Outcome State Fault Refusal :=
  if (s.mirror u).forced && s.isOn u then
    let s := s.toBoundary u
    match (s.mirror u).pend with
    | some a => .next (if s.atBoundary u then s.applyForce u a else s)
    | none => .next s
  else .next s

/-! Start and stop steps. -/

/-- The analogue rail a unit runs from is bad (spec/16_power_start_sinter.md R573, R575, Table PW-1). -/
def State.railBad (s : State) (u : Src) : Bool :=
  match u with
  | .line => bitOf s.dev.anaBad 0
  | .opt1 => bitOf s.dev.anaBad 1
  | .opt2 => bitOf s.dev.anaBad 1
  | .sens => bitOf s.dev.anaBad 2
  | .loop => bitOf s.dev.anaBad 2
  | _ => false

/-- The start steps of a unit, to their end (spec/03_units_events.md R84). GOV sets the first level from its first mean
(spec/16_power_start_sinter.md R580, R591), SINTER scans (R606), RNG tests its first 1,024 samples
(spec/10_obsidian_cipher.md R379). -/
def State.startSteps (s : State) (u : Src) : State :=
  match u with
  | .gy => s.gyStart
  | .line => s.lnStart
  | .cald => s.cjStart
  | .obs => s.obStart true
  | .radio => s.rcStart
  | .opt1 => s.opStart 0
  | .opt2 => s.opStart 1
  | .sens => s.sfStart
  | .loop => s.lpStart
  | .msp => s.msStartUp
  | .rng => if 1024 ≤ s.rng.samples then s.goOn .rng 0 else s
  | .gov => if s.pw.firstLevel then s.goOn .gov 0 else s
  | .sinter =>
    let s := (s.draw.2.draw.2.snScan s.draw.1 s.draw.2.draw.1).goOn .sinter 0
    (if s.dev.ready then s.snScanEvent else s).snSub
  | _ => s

/-- Steps that begin with a change of the mirror end in a later core tick than that change; GY has none, and RNG's wait for
its samples (notes/assumptions/1.md). -/
def State.settle (s : State) (u : Src) : State :=
  if u ≠ .gy ∧ u ≠ .rng ∧ (s.mirror u).chgAt = some s.tick then s.advance 1 else s

/-- START_STEPS_DONE: a unit's start steps have run; one whose analogue rail is bad fails them
(spec/03_units_events.md R84, spec/16_power_start_sinter.md R575). -/
def execStartStepsDone (u : Src) (s : State) : Host.Outcome State Fault Refusal :=
  if s.st u ≠ .starting then .next s
  else if s.railBad u then .next ((s.settle u).unitFault u)
  else .next ((s.settle u).startSteps u)

/-- START_STEP_FAIL: a start step fails, for lack of a claim or otherwise (spec/03_units_events.md R84). -/
def execStartStepFail (u : Src) (claim : Bool) (s : State) : Host.Outcome State Fault Refusal :=
  if s.st u ≠ .starting then .next s
  else if claim then .next ((s.settle u).unitStopping u .resourceHeld false)
  else .next ((s.settle u).unitFault u)

/-- The stop steps of a unit end: OFF, or STARTING after REARM, in one change of the mirror
(spec/03_units_events.md R84). -/
def State.unitStopped (s : State) (u : Src) : State :=
  let s := s.unitOut u
  let off := s.subOut u
  let no := s.forbids u
  let s := s.changeMirror u (fun m =>
    if m.rearm && !no then { m with st := .starting, rearm := false, cause := Oc.ok.code, sub := off, held := 0 }
    else if m.rearm then { m with st := .off, rearm := false, govHeld := true, cause := Oc.power.code, sub := off, held := 0 }
    else { m with st := .off, sub := off, held := 0 })
  let s := s.releaseUnitClaims u
  if s.st u = .starting then s.unitBegun u else s

/-- The order in which HIBERNATE stops the units: the reverse of the autostart, then RNG
(spec/16_power_start_sinter.md R582, R587). -/
def hibOrder : List Src := [.loop, .sens, .opt2, .opt1, .radio, .line, .msp, .cald, .obs, .rng]

/-- The sequence of HIBERNATE goes on: the next unit stops once the last has, then SINTER's transaction ends, then
EMB_PWREN falls (spec/16_power_start_sinter.md R587). -/
def State.hibNext (s : State) : State :=
  if !s.dev.hibReq || hibOrder.any (fun u => s.st u == .stopping) then s
  else
    match hibOrder.find? (fun u => s.running u) with
    | some u => s.unitStopping u .ok false
    | none =>
      let s := State.snEndQueued .aborted s
      if s.sn.running.isSome then s
      else
        let s := s.p F.PW_EMBER_LAST_LEVEL 1 s.pw.level
        (s.modPw (fun x => { x with pwren := false, woke := false })).modDev (fun x => { x with
          hibReq := false, hibAt := s.tick, phase := .hib })

/-- What the stop steps wait for has happened: a running Sinter transaction, the loop's two updates, the radio's SLEEP
(spec/16_power_start_sinter.md R606, spec/15_loop_output.md R563, spec/12_radio_coordinator.md R462). -/
def State.stopReady (s : State) (u : Src) : Bool :=
  match u with
  | .sinter => s.sn.running.isNone
  | .loop => s.lp.phase == 0
  | .radio => s.rcIdle
  | _ => true

/-- STOP_STEPS_DONE: a unit's stop steps have run (spec/03_units_events.md R84). -/
def execStopStepsDone (u : Src) (s : State) : Host.Outcome State Fault Refusal :=
  if s.st u = .stopping ∧ s.stopReady u then .next ((s.settle u).unitStopped u).hibNext else .next s

/-! The governor and the units. -/

/-- The governor stops a unit in STARTING or ON (spec/03_units_events.md R84). -/
def State.govStop (s : State) (u : Src) : State := if s.running u then s.unitStopping u .power true else s

/-- The governor permits a unit again: one it holds starts (spec/03_units_events.md R84). -/
def State.govPermit (s : State) (u : Src) : State :=
  if !(s.mirror u).govHeld then s
  else
    match s.st u with
    | .off => s.unitBegin u
    | .stopping => s.changeMirror u (fun m => { m with govHeld := false, rearm := true })
    | _ => s.changeMirror u (fun m => { m with govHeld := false })

/-- The autostart's START: a unit the level forbids stays OFF with GOV_HELD (spec/16_power_start_sinter.md R582). -/
def State.autoStart (s : State) (u : Src) : State :=
  match s.cmdStart u with
  | (.power, s) => if s.st u = .off then s.changeMirror u (fun m => { m with govHeld := true }) else s
  | (_, s) => s

/-! Unit commands. -/

/-- The own commands of a unit, 0x8 to 0xF (spec/03_units_events.md R83). GOV's are judged in Machine/Power.lean. -/
def State.ownCmd (s : State) (u : Src) (cmd arg : Nat) : Oc × State :=
  match u with
  | .gy => s.gyUnitCmd cmd
  | .line => s.lnUnitCmd cmd arg
  | .obs => s.obUnitCmd cmd arg
  | .radio => s.rcUnitCmd cmd arg
  | .opt1 => s.opUnitCmd 0 cmd arg
  | .opt2 => s.opUnitCmd 1 cmd arg
  | .sens => s.sfUnitCmd cmd arg
  | .rng => s.rngUnitCmd cmd
  | .sinter => s.snUnitCmd cmd
  | _ => (.param, s)

end Sys2Proof.Machine
end

