-- ==== Sys2Proof/Machine/Claims.lean ====
section
/-! DEFINITION. Claims of resources by tenants, their release and revocation (spec/03_units_events.md R99 to R101, R105,
spec/17_pins_electrical.md R624, R625). -/

namespace Sys2Proof.Machine

open Sys2Proof

/-- A resource a tenant may claim (spec/03_units_events.md R99, Table UE-6). -/
def mayClaim (t r : Nat) : Bool :=
  claimExists r && (t == 0 || decide (0x10 ≤ r ∧ r ≤ 0x1F) || decide (0x28 ≤ r ∧ r ≤ 0x2F))

/-- A legal function of a general-purpose pin (spec/17_pins_electrical.md R624, Table PE-2). -/
def gpLegal (f : Nat) : Bool :=
  let kind := f / 32
  let arg := f % 16
  kind == 1 || ((kind == 2 || kind == 5) && arg == 0) || (kind == 3 && (arg == 1 || arg == 2))
    || (kind == 4 && decide (arg ≤ 1))

/-- The governor forbids a resource (spec/16_power_start_sinter.md R593, Table PW-6). -/
def State.forbidsRes (s : State) (r : Nat) : Bool :=
  (decide (0x28 ≤ r ∧ r ≤ 0x2F) && decide (1 ≤ s.pw.steps)) || (r == 0x20 && decide (4 ≤ s.pw.steps))

/-- The governor revokes a claim: the resource is free, and CLAIM_REVOKED, a common record, goes to its holder's view
alone, the owner's for a unit (spec/03_units_events.md R90, R91, R101; notes/assumptions/38.md). -/
def State.revoke (s : State) (r : Nat) : State :=
  if s.claimed r then
    let h := s.g F.CLAIMS_HOLDER r
    let t := s.g F.CLAIMS_TENANT r
    (s.freeClaim r).raise .arb { common := true, tenant := t, sev := 2, code := 0x04, arg := h * 65536 + Src.gov.code * 256 + r, ref := 0 }
  else s

/-- The holder of a resource is another tenant than `t`. -/
def State.heldByOther (s : State) (t r : Nat) : Bool :=
  s.claimed r && s.g F.CLAIMS_HOLDER r == 0x0E && s.g F.CLAIMS_TENANT r != t

/-- The outcome of CLAIM (spec/03_units_events.md R100, Table UE-7a, spec/17_pins_electrical.md R624,
spec/11_master_serial.md R410). -/
def State.claimJudge (s : State) (t r f : Nat) : Oc :=
  judge [
    (!mayClaim t r || s.heldByOther t r, .notAvailable),
    (decide (r < 8) && !gpLegal f, .param),
    (decide (8 ≤ r ∧ r < 12) && s.msDecoded, .stateMismatch),
    (s.forbidsRes r, .power), (s.claimed r, .resourceHeld)]

/-- The outcome of RELEASE (spec/03_units_events.md R100, Table UE-7a). -/
def State.releaseJudge (s : State) (t r : Nat) : Oc :=
  judge [
    (!mayClaim t r || !s.claimed r || s.heldByOther t r, .notAvailable),
    (!s.tenantHolds t r, .resourceHeld)]

/-- A tenant takes a free resource; FUNC is kept for the general-purpose pins (spec/03_units_events.md R110). -/
def State.hostClaim (s : State) (t r f : Nat) : State :=
  s.ps 0x02 r [(F.CLAIMS_HELD, 1), (F.CLAIMS_HOLDER, 0x0E), (F.CLAIMS_TENANT, t), (F.CLAIMS_FUNC, if r < 8 then f else 0)]

/-- CLAIM_CMD in the name of a tenant, with CLAIM_STAT (spec/03_units_events.md R100, R109). -/
def State.claimCmd (s : State) (t op : Nat) : Oc × State :=
  let x := vget s.tsel t
  let r := x.claimSel.toNat % 64
  let f := x.claimSel.toNat / 256
  let o : Oc := if op = 1 then s.claimJudge t r f else if op = 2 then s.releaseJudge t r else .param
  let holder := if o = .resourceHeld then s.g F.CLAIMS_HOLDER r else 0
  let s := if o = .ok then (if op = 1 then s.hostClaim t r f else s.freeClaim r) else s
  (o, { s with tsel := vmod s.tsel t (fun (y : TenantSel) => { y with claimStat := BitVec.ofNat 16 (holder * 256 + o.code) }) })

/-- A disabled tenant's claims are released without a record (spec/03_units_events.md R101). -/
def State.claimsDisable (s : State) (t : Nat) : State :=
  (List.range 64).foldl (fun s r => if s.tenantHolds t r then s.freeClaim r else s) s

end Sys2Proof.Machine
end

