-- ==== Sys2Proof/Machine/Power.lean ====
section
/-! DEFINITION. Supplies, resets, the Ember domain and the Vent governor (spec/16_power_start_sinter.md R573 to R595,
R601 to R618). -/

namespace Sys2Proof.Machine

open Sys2Proof

/-! Ember. -/

/-- Core ticks of a tick of the AON domain, with both crystals at their nominal frequencies (spec/16_power_start_sinter.md
R577; notes/assumptions/34.md). -/
def aonTicks : Nat := 6000

/-- SECONDS and its fraction as one count of 47 bits; it stands still while X32_FAIL (spec/16_power_start_sinter.md R578,
R585). -/
def State.rtcNow (s : State) : Nat :=
  (s.g F.PW_EMBER_SECONDS 0 * 32768 + s.g F.PW_EMBER_FRAC 0
    + (if s.b F.PW_EMBER_X32_FAIL 1 then 0 else (s.tick - s.pw.rtcAt) / aonTicks)) % 2 ^ 47

/-- PW_EMBER's entry 0 shows the present SECONDS (spec/16_power_start_sinter.md R586). -/
def State.rtcSync (s : State) : State :=
  let n := s.rtcNow
  let rest := if s.b F.PW_EMBER_X32_FAIL 1 then 0 else (s.tick - s.pw.rtcAt) % aonTicks
  (s.ps 0x06 0 [(F.PW_EMBER_SECONDS, n / 32768), (F.PW_EMBER_FRAC, n % 32768)]).modPw (fun x => { x with
    rtcAt := s.tick - rest })

/-- The RTC runs on by a number of AON ticks while CORE is stopped. -/
def State.rtcSkip (s : State) (n : Nat) : State :=
  if s.b F.PW_EMBER_X32_FAIL 1 then s
  else
    let c := (s.rtcNow + n) % 2 ^ 47
    (s.ps 0x06 0 [(F.PW_EMBER_SECONDS, c / 32768), (F.PW_EMBER_FRAC, c % 32768)]).modPw (fun x => { x with rtcAt := s.tick })

/-- A commit reaches the AON domain; one of entry 0 sets the count and clears the fraction
(spec/16_power_start_sinter.md R585, R586). -/
def State.emberLand (s : State) (e : Nat) (w : Word) : State :=
  if e = 0 then ((s.wr 0x06 0 w).p F.PW_EMBER_FRAC 0 0).modPw (fun x => { x with rtcAt := s.tick, alarmDone := false })
  else s.wr 0x06 e w

/-- PW_EMBER_COMMIT: the oldest commit on its way reaches the AON domain, within 3 AON ticks
(spec/16_power_start_sinter.md R586; notes/assumptions/34.md). -/
def execPwEmberCommit (s : State) : Host.Outcome State Fault Refusal :=
  match s.pw.emberNew with
  | [] => .next s
  | x :: rest =>
    let s := (s.advanceTo ((x.1 / aonTicks + 3) * aonTicks)).modPw (fun y => { y with emberNew := rest })
    .next (s.emberLand x.2.1 x.2.2)

/-- A commit to PW_EMBER by the owner (spec/16_power_start_sinter.md R586, R619). -/
def State.emberCommit (s : State) (e : Nat) (w : Word) : Oc × State :=
  let s := s.rtcSync
  let new := s.merged 0x06 e w
  if e = 0 ∧ F.PW_EMBER_BLACK_HOLD_S.of new = 0 then (.param, s)
  else if e = 1 then (.ok, s)
  else (.ok, s.modPw (fun x => { x with emberNew := x.emberNew ++ [(s.tick, e, new)] }))

/-- The door stands open (spec/16_power_start_sinter.md R619, DOOR_POL). -/
def State.doorOpen (s : State) : Bool := s.pw.doorRaw != s.b F.PW_EMBER_DOOR_POL 0

/-- CORE runs and serves its ports: not held in reset, and past start-up step 1 (spec/16_power_start_sinter.md R580,
R581). -/
def State.coreRuns (s : State) : Bool :=
  match s.dev.phase with
  | .starting => decide (1 ≤ s.dev.step)
  | .ready => true
  | .hib => true
  | _ => false

/-- DOOR: the debounced level of the contact changes (spec/16_power_start_sinter.md R578, R585, R616). -/
def execDoor (level : Bool) (s : State) : Host.Outcome State Fault Refusal :=
  if level = s.pw.doorRaw ∨ s.b F.PW_EMBER_X32_FAIL 1 then .next s
  else
    let s := s.modPw (fun x => { x with doorRaw := level })
    .next (if s.coreRuns then s.raiseCommon .gov 1 0x14 (b2n s.doorOpen) else s)

/-- RTC_ALARM: SECONDS comes to equal ALARM (spec/16_power_start_sinter.md R585, R616). -/
def execRtcAlarm (s : State) : Host.Outcome State Fault Refusal :=
  if !s.b F.PW_EMBER_ALARM_EN 0 || s.b F.PW_EMBER_X32_FAIL 1 then .next s
  else
    let now := s.rtcNow
    let due := s.g F.PW_EMBER_ALARM 0
    if now / 32768 = due ∧ s.pw.alarmDone then .next s
    else
      let wait := if now / 32768 = due then 0 else (due * 32768 + 2 ^ 47 - now) % 2 ^ 47
      let s := (s.advanceTo (if wait = 0 then s.tick else s.pw.rtcAt + ((s.tick - s.pw.rtcAt) / aonTicks + wait) * aonTicks)).rtcSync
      let s := s.modPw (fun x => { x with alarmDone := true })
      .next (if s.coreRuns then s.raiseCommon .gov 1 0x15 0 else s)

/-- X32_FAIL: the 32.768 kHz crystal stops (spec/16_power_start_sinter.md R578). -/
def execX32Fail (s : State) : Host.Outcome State Fault Refusal := .next (s.rtcSync.p F.PW_EMBER_X32_FAIL 1 1)

/-! Resets. -/

/-- The cells the Ember domain retains. -/
def emberCells (l : List (Nat × Cell)) : List (Nat × Cell) := l.filter (fun c => c.1 / 4096 == 0x06)

/-- Every unit and register to its reset state, save Ember, the Sinter array and the count of its laps, the levels of the pins and of the rails, and
the TAP (spec/16_power_start_sinter.md R579, R584, spec/17_pins_electrical.md R640; notes/assumptions/35.md). A word
being written reads as unwritten (R611). -/
def State.toReset (s : State) (phase : Phase) (cause : Nat) : State :=
  let s := (s.snCollapse.rtcSync).p F.PW_EMBER_X32_FAIL 1 0
  let s := s.pw.emberNew.foldl (fun s x => s.emberLand x.2.1 x.2.2) s
  let laps := s.g F.SN_STAT_LAPS 0
  let t : State := { State.reset with
    pending := s.pending, free := s.free, nv := s.nv, cells := emberCells s.cells, sn := { wear := Nat.ble 900000 laps },
    dev := { phase := phase, cause := cause, mainRails := s.dev.mainRails, testHeld := s.dev.testHeld, tapIr := s.dev.tapIr,
             anaBad := s.dev.anaBad, emberLost := s.dev.emberLost },
    pw := { pfail := s.pw.pfail, pwren := s.pw.pwren, doorRaw := s.pw.doorRaw, seed := s.pw.seed, woke := s.pw.woke,
            alarmDone := s.pw.alarmDone } }
  t.p F.SN_STAT_LAPS 0 laps

/-- Ember has been without power: every retained value reads 0 (spec/16_power_start_sinter.md R584, R619). -/
def State.emberLose (s : State) : State :=
  { s with cells := s.cells.filter (fun c => c.1 / 4096 != 0x06), dev := { s.dev with emberLost := true },
           pw := { s.pw with seed := 0, rtcAt := s.tick, emberNew := [], alarmDone := false, woke := false } }

/-- POWER_ON_RESET: a main rail leaves its range, or all four have stayed in range for 1 ms; `kept` says whether Ember
has kept its power, `test` is the level of TEST at the release, `aon` the AON ticks for which CORE has stood still
(spec/16_power_start_sinter.md R574, R579, R584, R587, R588, spec/17_pins_electrical.md R623; notes/assumptions/35.md). -/
def execPowerOnReset (inRange kept test : Bool) (aon : Nat) (s : State) : Host.Outcome State Fault Refusal :=
  if inRange then
    if s.dev.phase ≠ .por then .next s
    else
      let s := if kept then s.rtcSkip aon else s.emberLose
      let cause := if s.dev.emberLost then 1 else if s.dev.cause = 6 ∧ s.pw.woke then 6 else 2
      let s := s.modDev (fun x => { x with mainRails := true, testHeld := test })
      .next (s.toReset (if test then .reset else .starting) cause)
  else
    let cause := if s.dev.phase = .hib ∨ (s.dev.phase = .por ∧ s.dev.cause = 6) then 6 else 2
    let s := if kept then s else s.emberLose
    .next ((s.toReset .por cause).modDev (fun x => { x with
      mainRails := false, testHeld := false, tapIr := 2 }))

/-- RESET_N: low for 1 µs or more it resets the device, high again it releases it (spec/16_power_start_sinter.md R579). -/
def execResetN (low : Bool) (s : State) : Host.Outcome State Fault Refusal :=
  if s.dev.phase = .por ∨ s.dev.phase = .black ∨ s.dev.testHeld then .next s
  else if low then .next (s.toReset .reset 3)
  else if s.dev.phase = .reset then .next (s.toReset .starting 3)
  else .next s

/-- CLOCK_FAIL: the main crystal stops or the PLL loses lock (spec/16_power_start_sinter.md R578). -/
def execClockFail (s : State) : Host.Outcome State Fault Refusal :=
  if s.dev.phase = .por ∨ s.dev.phase = .black ∨ s.dev.phase = .reset then .next s else .next (s.toReset .starting 4)

/-- WAKE_SOURCE: WAKE_N (0), DOOR (1) or the RTC alarm (2) acts while the device hibernates: an enabled one raises
EMB_PWREN and is recorded (spec/16_power_start_sinter.md R578, R587, R613). -/
def execWakeSource (w : Fin 3) (s : State) : Host.Outcome State Fault Refusal :=
  let asleep := s.dev.phase = .hib ∨ (s.dev.phase = .por ∧ s.dev.cause = 6)
  let x32 := s.b F.PW_EMBER_X32_FAIL 1
  let on := if w.val = 0 then s.b F.PW_EMBER_WAKE_N_EN 0
    else if w.val = 1 then s.b F.PW_EMBER_DOOR_EN 0 && !x32 else s.b F.PW_EMBER_ALARM_EN 0 && !x32
  let s := if w.val = 1 ∧ asleep then s.modPw (fun x => { x with doorRaw := !x.doorRaw }) else s
  if asleep ∧ on ∧ !s.pw.pwren then
    .next ((s.p F.PW_EMBER_WAKE_CAUSE 1 (w.val + 1)).modPw (fun x => { x with pwren := true, woke := true }))
  else .next s

/-- HIBERNATE_TIMEOUT: CORE still runs 1 s after EMB_PWREN fell (spec/16_power_start_sinter.md R587;
notes/assumptions/35.md). -/
def execHibernateTimeout (s : State) : Host.Outcome State Fault Refusal :=
  if s.dev.phase ≠ .hib then .next s
  else
    let s := (s.advanceTo (s.dev.hibAt + secTicks)).toReset .starting 7
    .next (s.modPw (fun x => { x with pwren := true }))

/-- BLACK_HOLD_EXPIRE: after BLACK_HOLD_S seconds in Ember EMB_PWREN rises, and the device starts with cause 5
(spec/16_power_start_sinter.md R588). -/
def execBlackHoldExpire (s : State) : Host.Outcome State Fault Refusal :=
  if s.dev.phase ≠ .black then .next s
  else
    let s := (s.rtcSkip (s.g F.PW_EMBER_BLACK_HOLD_S 0 * 32768)).toReset .starting 5
    .next (s.modPw (fun x => { x with pwren := true }))

/-! Analogue rails. -/

/-- RAIL: an analogue rail, VDDA_LN, VDDA_OP, VDDA_SN or VEXC, goes bad or good (spec/16_power_start_sinter.md R575,
R616). -/
def execRail (r : Fin 4) (bad : Bool) (s : State) : Host.Outcome State Fault Refusal :=
  if bitOf s.dev.anaBad r.val = bad then .next s
  else
    let v := if bad then s.dev.anaBad ||| 2 ^ r.val else s.dev.anaBad &&& (15 ^^^ 2 ^ r.val)
    let s := s.modDev (fun x => { x with
      anaBad := v, anaSince := if bad then vset x.anaSince r.val s.tick else x.anaSince })
    .next (if s.coreRuns then s.raiseCommon .gov 2 0x12 v else s)

/-- RAIL_BAD_PERSIST: an analogue rail that has been bad for 1 ms sends the units in ON it feeds to FAULT
(spec/16_power_start_sinter.md R575). -/
def execRailBadPersist (r : Fin 4) (s : State) : Host.Outcome State Fault Refusal :=
  if bitOf s.dev.anaBad r.val then
    let s := s.advanceTo (vget s.dev.anaSince r.val + msTicks)
    .next ([Src.line, .opt1, .opt2, .sens, .loop].foldl (fun s u =>
      let fed := match u with | .line => r.val == 0 | .opt1 => r.val == 1 | .opt2 => r.val == 1 | _ => r.val == 2
      if fed && s.isOn u then s.unitFault u else s) s)
  else .next s

/-! The level. -/

/-- A threshold of PW_GOV. -/
def State.gov (s : State) (f : Fld) : Nat := s.g f 0

/-- The level falls: counted, LEVEL for AMBER and RED, the rise count cleared (spec/16_power_start_sinter.md R590, R591,
R603, R616; notes/assumptions/36.md). -/
def State.govFall (s : State) (new cause : Nat) : State :=
  let old := s.pw.level
  if new ≤ old then s
  else
    let s := s.modPw (fun x => { x with
      level := new, riseAt := none,
      redAt := if old < 2 ∧ 2 ≤ new then s.tick else x.redAt, redCause := if old < 2 ∧ 2 ≤ new then cause else x.redCause })
    let s := s.bump F.PW_GOV_FALLS 1
    let s := if new = 3 then s else s.raiseCommon .gov (new + 1) 0x10 (cause * 65536 + new * 256 + old)
    s.snSub

/-- The best level FLOOR and HOT allow (spec/16_power_start_sinter.md R591, R609). -/
def State.govCap (s : State) : Nat := max s.pw.floor (b2n s.pw.hot)

/-- The first level, from one mean (spec/16_power_start_sinter.md R591). -/
def State.govFirst (s : State) (feed hold : Nat) : State :=
  let fe := s.gov F.PW_GOV_FEED_EN == 1
  let low := s.gov F.PW_GOV_HOLD_EN == 1 && decide (hold < s.gov F.PW_GOV_H_OK)
  let pf := s.gov F.PW_GOV_PFAIL_EN == 1 && s.pw.pfail
  let byFeed := if fe && decide (feed < s.gov F.PW_GOV_F_RED) then 2 else if fe && decide (feed < s.gov F.PW_GOV_F_AMBER) then 1 else 0
  let new := max (max byFeed (if low || pf then 2 else 0)) s.govCap
  let cause := if byFeed = 2 then 1 else if low then 3 else if pf then 2 else 5
  (s.modPw (fun x => { x with
    level := new, firstLevel := true, riseAt := none, redAt := if new = 2 then s.tick else x.redAt,
    redCause := if new = 2 then cause else x.redCause })).snSub

/-- Every condition of a rise from the present level but FLOOR and HOT holds at the last mean
(spec/16_power_start_sinter.md R591). -/
def State.govRiseOk (s : State) (feed hold : Nat) : Bool :=
  let thr := (if s.pw.level = 2 then s.gov F.PW_GOV_F_RED else s.gov F.PW_GOV_F_AMBER) + s.gov F.PW_GOV_F_HYST
  (s.gov F.PW_GOV_FEED_EN == 0 || decide (thr ≤ feed)) && (s.gov F.PW_GOV_PFAIL_EN == 0 || !s.pw.pfail)
    && (s.gov F.PW_GOV_HOLD_EN == 0 || decide (s.gov F.PW_GOV_H_OK ≤ hold))

/-- A 1 ms mean of FEED_V and HOLD_V, in mV, is judged (spec/16_power_start_sinter.md R589 to R591, R618). -/
def State.govMean (s : State) (feed hold : Nat) : State :=
  let feed := capAt 4095 feed
  let hold := capAt 4095 hold
  let s := s.ps 0x05 1 [(F.PW_GOV_FEED_MV, feed), (F.PW_GOV_HOLD_MV, hold),
    (F.PW_GOV_FEED_MIN, min feed (s.g F.PW_GOV_FEED_MIN 1))]
  let fe := s.gov F.PW_GOV_FEED_EN == 1
  let s := s.modPw (fun x => { x with
    holdOk := decide (s.gov F.PW_GOV_H_OK ≤ hold),
    amberRun := if fe && decide (feed < s.gov F.PW_GOV_F_AMBER) then x.amberRun + 1 else 0 })
  if !s.pw.firstLevel then s.govFirst feed hold
  else
    let was := s.pw.level
    let s := if fe && decide (feed < s.gov F.PW_GOV_F_RED) then s.govFall 2 1 else s
    let s := if s.gov F.PW_GOV_HOLD_EN == 1 && decide (hold < s.gov F.PW_GOV_H_OK) then s.govFall 2 3 else s
    let s := if s.gov F.PW_GOV_AMBER_MS ≤ s.pw.amberRun then s.govFall 1 1 else s
    if s.pw.level ≠ was then s
    else
      let ok := (s.pw.level == 1 || s.pw.level == 2) && s.govRiseOk feed hold
      s.modPw (fun x => { x with riseAt := if ok then some (x.riseAt.getD s.tick) else none, feedLow := !ok })

/-- GOV_SAMPLE: the end of a 1 ms mean, or a single sample of HOLD_V, of which two in a row below H_BLACK make BLACK
(spec/16_power_start_sinter.md R589, R590). Before GOV's start nothing is monitored. -/
def execGovSample (mean : Bool) (feed hold : Nat) (s : State) : Host.Outcome State Fault Refusal :=
  if (!s.pw.firstLevel && decide (s.st .gov ≠ .starting)) || decide (3 ≤ s.pw.level) then .next s
  else if mean then .next (s.govMean feed hold)
  else
    let n := if s.gov F.PW_GOV_HOLD_EN = 1 ∧ hold < s.gov F.PW_GOV_H_BLACK then s.pw.blackRun + 1 else 0
    let s := s.modPw (fun x => { x with blackRun := n })
    .next (if 2 ≤ n then s.govFall 3 3 else s)

/-- PFAIL_N: the pin falls, to RED with PFAIL_EN = 1, or rises (spec/16_power_start_sinter.md R590, R609). -/
def execPfailN (low : Bool) (s : State) : Host.Outcome State Fault Refusal :=
  let s := s.modPw (fun x => { x with pfail := low, riseAt := none })
  .next (if low && s.gov F.PW_GOV_PFAIL_EN == 1 && s.pw.firstLevel then s.govFall 2 2 else s)

/-- THERMAL: the die temperature, in sixteenths of a degree, is read; CAPPED and HOT follow it
(spec/16_power_start_sinter.md R589, R592, R616). -/
def execThermal (t : Int) (s : State) : Host.Outcome State Fault Refusal :=
  if !s.pw.firstLevel then .next s
  else
    let s := s.p F.PW_GOV_TDIE 1 (unsignedN 16 t)
    let at_ (now : Bool) (x : Nat) : Bool := if t ≤ 16 * ((x : Int) - 5) then false else if 16 * (x : Int) ≤ t then true else now
    let cap := at_ s.pw.capped (s.gov F.PW_GOV_T_CAP)
    let hot := at_ s.pw.hot (s.gov F.PW_GOV_T_HOT)
    if cap = s.pw.capped ∧ hot = s.pw.hot then .next s
    else
      let s := if cap = s.pw.capped then s else s.kernCharge.cjCap cap
      let s := (s.modPw (fun x => { x with capped := cap, hot := hot })).raiseCommon .gov 2 0x11
        (if hot then 2 else b2n cap)
      .next (if hot then s.govFall 1 4 else s)

/-! Shedding. -/

/-- A step of Table PW-6 takes effect or is undone, the steps in force being counted already
(spec/16_power_start_sinter.md R593). -/
def State.govStep (s : State) (k : Nat) (on : Bool) : State :=
  match k with
  | 1 =>
    let s := s.cjShed on
    if on then (List.range 8).foldl (fun s i => s.revoke (0x28 + i)) s else s
  | 2 => s.rcShed on
  | 3 => if on then (s.govStop .opt2).opGov else s.opGov.govPermit .opt2
  | 4 => if on then (s.revoke 0x20).sfLowRate else s.sfLowRate
  | 5 => s.snSub
  | _ => (s.kernCharge.cjSetKonly on).llPause on

/-- The steps that the level asks for; GOV out of service takes none and undoes none (spec/16_power_start_sinter.md R593,
R594; notes/assumptions/36.md). -/
def State.govTarget (s : State) : Nat :=
  if s.isOn .gov then (if s.pw.level = 0 then 0 else if s.pw.level = 1 then 4 else 6) else s.pw.steps

/-- The steps are taken or undone, each in its own core tick (spec/16_power_start_sinter.md R593). -/
def State.govSteps : Nat → State → State
  | 0, s => s
  | n + 1, s =>
    let k := s.pw.steps
    if k < s.govTarget then
      State.govSteps n (((s.modPw (fun x => { x with steps := k + 1 })).govStep (k + 1) true).advance 1)
    else if s.govTarget < k then
      State.govSteps n (((s.modPw (fun x => { x with steps := k - 1 })).govStep k false).advance 1)
    else s

/-- GOV_LEVEL_FALL: the steps of the level in force take effect, in step order (spec/16_power_start_sinter.md R593). -/
def execGovLevelFall (s : State) : Host.Outcome State Fault Refusal :=
  .next (if s.pw.steps < s.govTarget then State.govSteps 6 s else s)

/-- GOV_LEVEL_RISE: the conditions of a rise have held for RISE_MS: the level rises by one, and the steps above it are
undone in reverse order (spec/16_power_start_sinter.md R591, R593, R616). -/
def execGovLevelRise (s : State) : Host.Outcome State Fault Refusal :=
  let s :=
    match s.pw.riseAt with
    | none => s
    | some t =>
      let old := s.pw.level
      if (old = 1 ∨ old = 2) ∧ s.govCap ≤ old - 1 then
        let s := (s.advanceTo (t + s.gov F.PW_GOV_RISE_MS * msTicks)).modPw (fun x => { x with level := old - 1, riseAt := none })
        (s.raiseCommon .gov 1 0x10 (6 * 65536 + (old - 1) * 256 + old)).snSub
      else s
  .next (if s.govTarget < s.pw.steps then State.govSteps 6 s else s)

/-- BLACK: every output goes to its reset state and every unit but GOV, GY and SINTER is OFF without a record; SINTER ends
its transaction and writes the last gasp; the device then holds itself in reset with EMB_PWREN low
(spec/16_power_start_sinter.md R588, R595, R601, R603, R614; notes/assumptions/37.md). -/
def execBlack (s : State) : Host.Outcome State Fault Refusal :=
  if s.pw.level ≠ 3 ∨ s.dev.phase = .black then .next s
  else
    let s := (s.modPw (fun x => { x with emberNew := [] })).rtcSync.snLastGasp
    let s := (s.p F.PW_EMBER_LAST_LEVEL 1 3).advance (snTicks 3)
    .next ((s.toReset .black 5).modPw (fun x => { x with pwren := false }))

/-! GOV's commands and table. -/

/-- HIBERNATE and FLOOR (spec/16_power_start_sinter.md R587, R594). -/
def State.govCmd (s : State) (cmd arg : Nat) : Oc × State :=
  if cmd = 8 then
    let wakes := s.b F.PW_EMBER_WAKE_N_EN 0 || s.b F.PW_EMBER_DOOR_EN 0 || s.b F.PW_EMBER_ALARM_EN 0
    let o := judge [
      (arg != 0xA5 || !s.b F.PW_EMBER_PWREN_USED 0, .param),
      (!s.isOn .gov || !wakes, .stateMismatch), (decide (2 ≤ s.pw.level), .power)]
    if o = .ok then (.ok, (s.modDev (fun x => { x with hibReq := true })).hibNext) else (o, s)
  else if cmd = 9 then
    let o := judge [(Nat.ble 3 arg, .param), (!s.isOn .gov, .stateMismatch)]
    if o = .ok then (.ok, (s.modPw (fun x => { x with floor := arg })).govFall arg 5) else (o, s)
  else (.param, s)

/-- A commit to PW_GOV (spec/16_power_start_sinter.md R590, R618). -/
def State.govCommit (s : State) (e : Nat) (w : Word) : Oc × State :=
  let new := s.merged 0x05 e w
  let g (f : Fld) : Nat := f.of new
  if e ≠ 0 then (.ok, s)
  else if g F.PW_GOV_F_AMBER ≤ g F.PW_GOV_F_RED ∨ g F.PW_GOV_H_OK ≤ g F.PW_GOV_H_BLACK
      ∨ g F.PW_GOV_T_HOT < g F.PW_GOV_T_CAP + 5 ∨ g F.PW_GOV_AMBER_MS = 0 ∨ g F.PW_GOV_RISE_MS < 100
      ∨ g F.PW_GOV_T_CAP < 70 ∨ 110 < g F.PW_GOV_T_CAP ∨ 125 < g F.PW_GOV_T_HOT then (.param, s)
  else
    let s := s.wr 0x05 0 new
    (.ok, if s.pw.pfail && g F.PW_GOV_PFAIL_EN == 1 && s.pw.firstLevel then s.govFall 2 2 else s)

/-- GOV_STAT (spec/16_power_start_sinter.md R617). -/
def State.govStat (s : State) : Half :=
  BitVec.ofNat 16 (s.pw.level + 4 * b2n s.pw.pfail + 8 * b2n s.pw.capped + 16 * b2n s.pw.hot + 32 * s.pw.floor
    + 128 * b2n s.pw.holdOk + 256 * (s.dev.anaBad % 16) + 4096 * b2n s.snAccepts)

/-- SINTER_TXN_DONE: the running transaction's last word write completes (spec/16_power_start_sinter.md R599); a
HIBERNATE that waited for it goes on (R587). -/
def execSinterTxnDone (s : State) : Host.Outcome State Fault Refusal :=
  match s.sn.running with
  | none => .next s
  | some x => .next ((s.advanceTo (s.snDue x)).snFinish x).snSub.hibNext

/-- Every unit command, by code (spec/03_units_events.md R83). -/
def State.unitCmd (s : State) (u : Src) (cmd arg : Nat) : Oc × State :=
  if cmd = 1 then s.cmdStart u
  else if cmd = 2 then s.cmdStop u
  else if cmd = 3 then s.cmdReset u
  else if cmd = 4 then s.cmdForce u arg
  else if cmd < 8 then (.param, s)
  else if u = .gov then s.govCmd cmd arg
  else s.ownCmd u cmd arg

/-- A write of UNIT_CMD: the owner's command to the unit its UNIT_SEL names, with the generation check
(spec/03_units_events.md R83, R87, spec/00_scope.md R659). -/
def State.unitWrite (s : State) (t : Nat) (data : Half) : Oc × State :=
  if t ≠ 0 then (.notAvailable, s)
  else
    let sel := (vget s.tsel 0).unitSel.toNat
    match Src.unitOf (sel % 256) with
    | none => (.param, s)
    | some u =>
      let r := s.unitCmd u (data.toNat % 16) (data.toNat / 256)
      let old := bitOf data.toNat 4 && decide ((s.mirror u).gen.toNat ≠ sel / 256)
      if old && decide (r.1 ≠ .param) && decide (r.1 ≠ .notAvailable) then (.stateMismatch, s) else r

end Sys2Proof.Machine
end

