-- ==== Sys2Proof/Machine/Operands.lean ====
section
/-! DEFINITION. The operand forms of the host: which entry of a window table an access reaches and in whose name, what a
read of it shows, and what a commit to it does (spec/02_host_access.md R56 to R66, spec/18_register_index.md R652). -/

namespace Sys2Proof.Machine

open Sys2Proof

/-! Tags of view class F. -/

/-- The tenant that holds a resource through the host ports; 0 when it is free or a unit's (spec/03_units_events.md
R110). -/
def State.resTenant (s : State) (r : Nat) : Nat :=
  if s.claimed r && s.g F.CLAIMS_HOLDER r == 0x0E then s.g F.CLAIMS_TENANT r else 0

/-- The tag of a receive buffer. -/
def bufTag (b : Buf) : Nat := if b.full then b.tenant else 0

/-- The tag of an OP_CELL entry for a tenant (spec/13_optical_ports.md R517). -/
def State.opCellTag (s : State) (e who : Nat) : Option Nat :=
  let n := e / 32
  let k := e % 32
  if k < 8 then some (if s.opTxState n (k / 2) = 0 then 0 else s.g F.OP_CELL_TENANT (opTx n (k / 2)))
  else if k < 16 then some (bufTag (vget (s.op n).bufs ((k - 8) / 2)))
  else if k = 16 then some who
  else none

/-- The tag of an entry for an access in the name of `who`: `none` where the entry is refused to everyone. An entry that
is free is tagged 0. Each chapter states the tags of its tables (spec/02_host_access.md R66, Table HA-6, class F). -/
def State.tag (s : State) (t e who : Nat) : Option Nat :=
  match t with
  | 0x01 => some e
  | 0x02 => if claimExists e then some (s.resTenant e) else none
  | 0x04 => some (if e < 64 then e else 0)
  | 0x07 =>
    some (if e = 0 then 0 else if e < 5 then (if s.g F.PW_SINTER_STATE e = 0 then 0 else vget s.sn.owner e)
      else if e = 5 then who else e - 6)
  | 0x0A => some (if e < 56 then 0 else s.resTenant (0x28 + (e - 56)))
  | 0x0B => some (s.resTenant (0x10 + e))
  | 0x16 => some e
  | 0x17 => some (if e < 16 then (if s.g F.LA_TXQ_STATE e = 0 then 0 else s.lnOwner e) else who)
  | 0x18 => some (match s.ln.granted with | some q => s.lnOwner q | none => 0)
  | 0x19 => some (bufTag (vget s.ln.bufs (e / 9)))
  | 0x21 => some (if e < 8 then (if s.g F.CJ_QSTAT_STATE e = 0 then 0 else (s.cjob e).tenant) else who)
  | 0x22 => some (if e < 8 then (if s.g F.CJ_QSTAT_STATE e = 0 then 0 else (s.cjob e).tenant) else who)
  | 0x23 => some e
  | 0x24 => some (if s.b F.CJ_PAGE_ASSIGNED e then s.g F.CJ_PAGE_TENANT e else 0)
  | 0x25 =>
    some (if e < 0x600 then 0
      else if s.b F.CJ_PAGE_ASSIGNED ((e - 0x600) / 64) then s.g F.CJ_PAGE_TENANT ((e - 0x600) / 64) else 0)
  | 0x29 => some (if e < 256 then e / 4 else 0)
  | 0x2B =>
    some (if e < 4 then 0 else if e < 16 then (if s.g F.OB_Q_STATE e = 0 then 0 else vget s.ob.owner e) else who)
  | 0x2C => some (if s.g F.OB_Q_STATE (4 + e / 10) = 0 then 0 else vget s.ob.owner (4 + e / 10))
  | 0x2D => some e
  | 0x34 => some (if 2 ≤ s.g F.RC_TAG_STATE (e / 2 * 2) then s.g F.RC_TAG_TENANT (e / 2 * 2) else 0)
  | 0x35 => some (if e < 8 then (if s.g F.RC_TXQ_STATE e = 0 then 0 else s.rcOwner e) else who)
  | 0x36 =>
    some (if e < 8 then (match s.rc.granted with | some q => s.rcOwner q | none => 0)
      else bufTag (vget s.rc.bufs ((e - 8) / 9)))
  | 0x37 => some e
  | 0x3B => s.opCellTag e who
  | 0x3C =>
    if 10 ≤ e ∧ e < 16 then none
    else some (if e < 2 then 0 else if e < 10 then s.sfTenant ((e - 2) % 4)
      else s.sfTenant ((e - 16) / 6))
  | 0x3D =>
    some (if e < 4 then s.sfTenant e else if 9 ≤ e ∧ e < 13 then s.sfTenant (e - 9) else 0)
  | 0x3F => if (5 ≤ e ∧ e < 8) ∨ (25 ≤ e ∧ e < 32) then none else some 0
  | _ => some 0

/-- The absolute entry that an access in the name of `who` reaches at index `e` of a table, `none` where it is refused
with NOT_AVAILABLE: no such table or entry, or the view class forbids it (spec/02_host_access.md R56, R66, R81,
spec/18_register_index.md R653, spec/03_units_events.md R96). -/
def State.reach (s : State) (t e who : Nat) (write : Bool) : Option Nat :=
  if tableSize t ≤ e then none
  else
    match tableClass t with
    | .o => if who = 0 ∧ (s.tag t e who).isSome then some e else none
    | .s => if who = 0 ∨ write = false then some e else none
    | .p =>
      let k := if who = 0 then e else 64 * who + e
      if (who = 0 ∨ e < 64) ∧ k % 64 < (vget s.views (k / 64)).log.length then some k else none
    | .f =>
      match s.tag t e who with
      | none => none
      | some x => if (who = 0 ∨ x = who) ∧ !(t = 1 ∧ who ≠ 0 ∧ write) then some e else none

/-- The key under which an entry's content is kept: a submission entry shows each tenant its own last submission
(spec/06_line_access.md R218, R241, spec/09_caldera_jobs.md R344, R345, spec/10_obsidian_cipher.md R397,
spec/12_radio_coordinator.md R476, spec/13_optical_ports.md R517, spec/16_power_start_sinter.md R620). -/
def entryKey (t e who : Nat) : Nat :=
  match t with
  | 0x07 => if e = 5 then 0x800 + who else e
  | 0x17 => if e = 16 then 0x800 + who else e
  | 0x21 => if e = 8 then 0x800 + who else e
  | 0x22 => if e = 8 then 0x800 + who else e
  | 0x2B => if e = 16 then 0x800 + who else e
  | 0x35 => if e = 8 then 0x800 + who else e
  | 0x3B => if e = 16 then 0x800 + who else if e = 48 then 0x840 + who else e
  | _ => e

/-- A data-plane buffer outside the intervals in which the host reaches it (spec/01_cabinet_system.md R26,
spec/02_host_access.md R77). A transmit descriptor of OP_CELL is no buffer: it shows the state of one. -/
def State.closed (s : State) (t e : Nat) : Bool :=
  match t with
  | 0x18 => !s.lnStageOpen
  | 0x19 => !(vget s.ln.bufs (e / 9)).seen
  | 0x36 => if e < 8 then !s.rcStageOpen else !(vget s.rc.bufs ((e - 8) / 9)).seen
  | 0x3B =>
    if e % 32 < 8 then e % 2 == 1 && s.opTxState (e / 32) (e % 32 / 2) == 0
    else e % 32 < 16 && !(vget (s.op (e / 32)).bufs ((e % 32 - 8) / 2)).seen
  | _ => false

/-! What a read shows. -/

/-- A view requests an interrupt (spec/03_units_events.md R97). -/
def State.requests (s : State) (t : Nat) : Bool :=
  s.enabled t && ((vget s.views t).pend &&& (vget s.views t).en) != 0

/-- The views bound to a port that request, one bit each (spec/03_units_events.md R98). -/
def State.reqBits (s : State) (bind : Fld) : Nat :=
  (List.range 64).foldl (fun a t => a + b2n (s.requests t && s.b bind t) * 2 ^ t) 0

/-- EVSUB with its mirrors of the view (spec/03_units_events.md R98, R112). -/
def State.evsubWord (s : State) (e : Nat) : Word :=
  if e < 64 then
    let v := vget s.views e
    [(F.EVSUB_PEND, v.pend.toNat), (F.EVSUB_COUNT, v.log.length), (F.EVSUB_LOST, v.lost.toNat),
      (F.EVSUB_NEXT_SEQ, v.seq.toNat)].foldl (fun w x => x.1.into x.2 w) (s.rd 0x04 e)
  else F.EVSUB64_REQ_P0.into (s.reqBits F.TENANTS_BIND_P0) (F.EVSUB64_REQ_P1.into (s.reqBits F.TENANTS_BIND_P1) 0)

/-- What an entry holds for a read in the name of `who`. -/
def State.content (s : State) (t e who : Nat) : Word :=
  if s.closed t e then 0
  else
    match t with
    | 0x03 => (vget s.views (e / 64)).log.getD (e % 64) 0
    | 0x04 => s.evsubWord e
    | 0x06 => if e = 1 then F.PW_EMBER_DOOR.into (b2n s.doorOpen) (s.rd 0x06 1) else s.rtcSync.rd 0x06 e
    | 0x1A => F.LA_STAT_CREDIT_S.into s.lnCreditS (s.rd 0x1A 0)
    | 0x20 => F.CJ_CFG_SUB.into (s.sub .cald) (s.rd 0x20 0)
    | 0x2A => 0
    | 0x39 => F.OP_LASER_BIAS.into (s.opBias (e / 2) (e % 2)) (s.rd 0x39 e)
    | 0x3A => if e % 2 = 0 then F.OP_STAT_SUB.into (s.sub (opU (e / 2))) (s.rd 0x3A e) else s.rd 0x3A e
    | _ => s.rd t (entryKey t e who)

/-- How often an entry has changed, or the record an EVLOG entry names has shifted (spec/02_host_access.md R58,
spec/03_units_events.md R96). -/
def State.version (s : State) (t e who : Nat) : Nat :=
  if t = 0x03 then (vget s.views (e / 64)).pops else (s.cell t (entryKey t e who)).ver

/-- An entry with a field that a read clears: FEED_MIN of PW_GOV (spec/16_power_start_sinter.md R618). -/
def readClears (t e : Nat) : Bool := t == 0x05 && e == 1

/-- An entry differs from what a snapshot of it holds, or has changed since (spec/02_host_access.md R58). -/
def State.moved (s : State) (t e who : Nat) (x : WinSnap) : Bool :=
  s.version t e who != x.ver || (s.content t e who != x.word && !readClears t e)

/-- The state after a snapshot of an entry: FEED_MIN starts again (spec/16_power_start_sinter.md R618). -/
def State.afterRead (s : State) (t e : Nat) : State :=
  if readClears t e then s.p F.PW_GOV_FEED_MIN 1 0xFFF else s

/-! Tenants. -/

/-- A window drops its snapshot and its staging word, which STAGE_LOST reports (spec/02_host_access.md R61). -/
def Win.drop (w : Win) : Win := { w with snap := none, staging := none, stageLost := w.stageLost || w.staging.isSome }

/-- What disabling a tenant does to a port (spec/02_host_access.md R74, spec/03_units_events.md R93, R108). -/
def Port.disable (t : Nat) (p : Port) : Port :=
  { p with
    win := p.win.map (fun w => if w.holder = t then w.drop else w),
    snap := match p.snap with | some x => if x.tenant = t then none else some x | none => none,
    pos := vset p.pos t 0 }

/-- A view as it starts: empty, SEQ 0x0000 next, EVT_LOST, IRQ_PEND and IRQ_EN at their reset values
(spec/03_units_events.md R93). -/
def State.viewStart (s : State) (t : Nat) : State :=
  { s with views := vmod s.views t (fun (v : View) => { en := if t = 0 then 0x1C else 0, pops := v.pops + 1 }) }

/-- A disabled tenant's Sinter transactions: queued ones end ABORTED, and its entries are freed but for one that runs
(spec/01_cabinet_system.md R37). -/
def State.snDisable (s : State) (t : Nat) : State :=
  let s := (s.sn.order.filter (fun e => vget s.sn.owner e == t)).foldl (fun s e => s.snEnd e .aborted 0) s
  let s := s.modSn (fun x => { x with order := x.order.filter (fun e => vget x.owner e != t) })
  [1, 2, 3, 4].foldl (fun s e =>
    if s.g F.PW_SINTER_STATE e = 3 ∧ vget s.sn.owner e = t then s.wr 0x07 e 0 else s) s

/-- A tenant is disabled: its requests end, its claims become free, its log, its windows' staging words and every port
snapshot in its name are discarded (spec/01_cabinet_system.md R37, spec/02_host_access.md R74, spec/03_units_events.md
R93, R101, R108). -/
def State.tenantOff (s : State) (t : Nat) : State :=
  let s := ((((s.lnDisable t).rcDisable t).opDisable t).obDisable t).cjDisable t
  let s := ((s.snDisable t).claimsDisable t).viewStart t
  { s with port0 := s.port0.disable t, port1 := s.port1.disable t }

/-- A commit to TENANTS by the owner (spec/02_host_access.md R81). -/
def State.tenantsCommit (s : State) (e : Nat) (w : Word) : Oc × State :=
  let new := s.merged 0x01 e w
  let on := F.TENANTS_ENABLE.of new == 1
  if e = 0 ∧ on = false then (.param, s)
  else
    let was := s.enabled e
    let s := s.wr 0x01 e new
    if on = was then (.ok, s)
    else if on then (.ok, (s.bump F.TENANTS_GEN e).viewStart e)
    else (.ok, s.tenantOff e)

/-- A commit to EVSUB (spec/03_units_events.md R112). -/
def State.evsubCommit (s : State) (e who : Nat) (w : Word) : Oc × State :=
  if 64 ≤ e then (.ok, s)
  else
    let new := s.merged 0x04 e w
    let sub := F.EVSUB_SUB.of new
    let allow := F.EVSUB_ALLOW.of new
    let out := (sub &&& (32767 ^^^ s.g F.EVSUB_SUB e)) &&& (32767 ^^^ allow)
    let o := judge [(decide (who ≠ 0 ∧ allow ≠ s.g F.EVSUB_ALLOW e), .notAvailable), (out != 0, .param)]
    if o = .ok then (.ok, s.wr 0x04 e (F.EVSUB_SUB.into (sub &&& allow) new)) else (o, s)

/-! Commits. -/

/-- What a submission entry keeps of an accepted commit for its tenant to read: the WC fields as committed
(spec/00_scope.md R15, spec/09_caldera_jobs.md R344). -/
def State.keepCj (who : Nat) (w : Word) (r : Oc × State) : Oc × State :=
  if r.1.accepts then (r.1, r.2.wr 0x21 (0x800 + who) (w &&& wcMask 0x21 8)) else (r.1, r.2)

/-- The commit of a whole staging word to an entry that the access has reached: outcome and state
(spec/02_host_access.md R59). Entries whose fields are all RO take a commit and ignore it. -/
def State.commit (s : State) (t e who : Nat) (w : Word) : Oc × State :=
  match t with
  | 0x01 => s.tenantsCommit e w
  | 0x04 => s.evsubCommit e who w
  | 0x05 => s.govCommit e w
  | 0x06 => s.emberCommit e w
  | 0x07 => s.snCommitEntry who e w
  | 0x08 => s.gyCommitCfg w
  | 0x09 => s.gyCommitRef e w
  | 0x0A => s.ascCommit who e w
  | 0x0B => s.cmpCommit who e w
  | 0x10 => s.lsCommitCfg w
  | 0x11 => s.lsCommitTones e w
  | 0x12 => s.lsCommitMap e w
  | 0x14 => s.lnCommitCfg w
  | 0x15 => s.lnCommitNbr e w
  | 0x16 => s.lnCommitTenant who e w
  | 0x17 => s.lnCommitTxq who e w
  | 0x18 => s.lnCommitStage e w
  | 0x19 => s.lnCommitRx e w
  | 0x1C => s.llCommitCfg e w
  | 0x1F => s.llCommitMaps e w
  | 0x20 => s.cjCommitCfg w
  | 0x21 => if e = 8 then State.keepCj who w (s.cjCommitQ who e w) else s.cjCommitQ who e w
  | 0x22 => s.cjCommitStat who e w
  | 0x23 => s.cjCommitTenant who e w
  | 0x24 =>
    let r := s.cjCommitPage who e w
    if r.1 = .ok then (.ok, r.2.msPageGone e) else r
  | 0x25 => s.cjCommitMem e w
  | 0x28 => s.obCommitCfg w
  | 0x29 => s.slotCommit who e w
  | 0x2A => (.ok, s.wr 0x2A e w)
  | 0x2B => s.obCommitQ who e w
  | 0x2C => s.obCommitData e w
  | 0x2D => s.obCommitTenant who e w
  | 0x2E => s.rngCommit w
  | 0x30 => s.rcCommitCfg e w
  | 0x31 => s.rcCommitFixed 0x31 e w
  | 0x32 => s.rcCommitFixed 0x32 e w
  | 0x33 => s.rcCommitBand e w
  | 0x34 => s.rcCommitTag who e w
  | 0x35 => s.rcCommitTxq who e w
  | 0x36 => s.rcCommitFrame e w
  | 0x37 => s.rcCommitTenant who e w
  | 0x38 => s.opCommitCfg e w
  | 0x39 => s.opCommitLaser e w
  | 0x3B => s.opCommitCell who e w
  | 0x3C => s.sfCommit who e w
  | 0x3E => s.lpCommit e w
  | 0x3F => s.msCommit e w
  | _ => (.ok, s)

/-- A commit judged from the start, as a host commit of a whole entry in the name of `who` would be
(spec/02_host_access.md R59, R66). -/
def State.commitAt (s : State) (t e who : Nat) (w : Word) : Oc × State :=
  match s.reach t e who true with
  | none => (.notAvailable, s)
  | some k => s.commit t k who w

end Sys2Proof.Machine
end

