-- ==== Sys2Proof/Machine/Flags.lean ====
section
/-! DEFINITION. The status registers and the pins that follow state: every flag a host or a board reads
(spec/02_host_access.md R78, R79, spec/03_units_events.md R97, R109, spec/17_pins_electrical.md R624). -/

namespace Sys2Proof.Machine

open Sys2Proof

/-- ACC_STAT of a port (spec/02_host_access.md R78). -/
def Port.accStat (p : Port) : Half :=
  BitVec.ofNat 16 (p.outcome % 256 + 256 * b2n p.stale + 512 * b2n p.refused + 1024 * b2n p.snap.isSome)

/-- WINn_STAT of a window (spec/02_host_access.md R79). -/
def Win.stat (w : Win) : Half :=
  BitVec.ofNat 16 (w.outcome % 256 + 256 * b2n w.stale + 512 * b2n w.snap.isSome + 1024 * b2n w.staging.isSome
    + 2048 * b2n w.stageLost)

/-- WINn_IDX of a window (spec/02_host_access.md R79). -/
def Win.idx (w : Win) : Half := BitVec.ofNat 16 (w.entry % 4096 + 4096 * (w.hw % 8) + 32768 * b2n w.ainc)

/-- DEV_STAT (spec/02_host_access.md R78). -/
def State.devStat (s : State) : Half :=
  BitVec.ofNat 16 (b2n s.dev.ready + 2 * b2n s.dev.hostLost + 4 * b2n (Src.units.any (fun u => s.st u == .fault))
    + 8 * b2n s.dev.imgApplied + 16 * b2n s.rngReady + 32 * b2n (s.isOn .gy && s.sub .gy == 1))

/-- HP_CFG (spec/02_host_access.md R78). -/
def State.hpCfg (s : State) : Half :=
  BitVec.ofNat 16 (b2n s.dev.p1En + 2 * b2n s.dev.hirqOd + 4 * b2n s.dev.hsirqOd + 256 * (s.dev.wdogPer % 256))

/-- HP_BIND: the binding in force for the tenant it names (spec/02_host_access.md R78). -/
def State.hpBind (s : State) : Half :=
  let t := s.dev.bindTenant % 64
  BitVec.ofNat 16 (t + 256 * b2n (s.b F.TENANTS_BIND_P0 t) + 512 * b2n (s.b F.TENANTS_BIND_P1 t))

/-- HOST_WDOG: the time remaining in units of 10 ms, rounded up (spec/02_host_access.md R68). -/
def State.hostWdog (s : State) : Half :=
  if s.dev.hostLost then 0
  else
    match s.dev.wdogEnd with
    | some t => BitVec.ofNat 16 (max 1 (ceilDiv (t - s.tick) (10 * msTicks)))
    | none => BitVec.ofNat 16 (s.dev.wdogPer * 10)

/-- EVT_STAT of a view on a port (spec/03_units_events.md R109). -/
def State.evtStat (s : State) (p : PortId) (t : Nat) : Half :=
  BitVec.ofNat 16 ((vget s.views t).log.length + 256 * (vget (s.port p).pos t % 8))

/-- UNIT_STATE of a mirror (spec/03_units_events.md R109). -/
def Mirror.stateHalf (m : Mirror) : Half :=
  BitVec.ofNat 16 (m.st.code + 8 * b2n m.rearm + 16 * b2n m.forced + 32 * b2n m.govHeld + 256 * m.gen.toNat)

/-- UNIT_INFO of a mirror (spec/03_units_events.md R109). -/
def Mirror.infoHalf (m : Mirror) : Half := BitVec.ofNat 16 (m.sub % 256 + 256 * (m.cause % 256))

/-! Interrupt pins. -/

/-- HIRQ_N is low, or pulled low: an enabled tenant bound to port 0 requests (spec/03_units_events.md R97). -/
def State.hirq (s : State) : Bool := s.reqBits F.TENANTS_BIND_P0 != 0

/-- HSIRQ_N is low, or pulled low: an enabled tenant bound to port 1 requests (spec/03_units_events.md R97). -/
def State.hsirq (s : State) : Bool := s.reqBits F.TENANTS_BIND_P1 != 0

/-! Pins. -/

/-- The digital outputs follow the core: it is out of reset and the TAP does not hold the pins
(spec/17_pins_electrical.md R622, R625, R642, R646). -/
def State.pinsLive (s : State) : Bool :=
  !s.pinsDetached && (match s.dev.phase with | .por => false | .reset => false | .black => false | _ => true)

/-- An interrupt pin: `none` released, `some` driven; low while it requests, push-pull or open-drain
(spec/02_host_access.md R40, R78). -/
def irqPin (live od request : Bool) : Option Bool :=
  if !live then none else if request then some false else if od then none else some true

/-- HIRQ_N and HSIRQ_N (spec/03_units_events.md R97). -/
def State.hirqPin (s : State) : Option Bool := irqPin s.pinsLive s.dev.hirqOd s.hirq
def State.hsirqPin (s : State) : Option Bool := irqPin s.pinsLive s.dev.hsirqOd s.hsirq

/-- The function of a general-purpose pin is active (spec/17_pins_electrical.md R624, Table PE-2, R625). -/
def State.gpActive (s : State) (func : Nat) : Bool :=
  let arg := func % 16
  match func / 32 with
  | 1 => s.claimed (0x10 + arg) && s.b F.GY_CMP_PIN arg && (vget s.gy.pulse arg).isSome
  | 2 => s.ln.ltxen != 0
  | 3 => decide (arg ≤ s.pw.level)
  | 4 => arg % 2 == 1
  | 5 => s.dev.hostLost
  | _ => false

/-- Pin GPk: `none` is its reset state, an input, or an open-drain pin released; `some` a driven level
(spec/17_pins_electrical.md R624, R625). -/
def State.gpPin (s : State) (k : Nat) : Option Bool :=
  if !s.pinsLive || !s.claimed k then none
  else
    let f := s.g F.CLAIMS_FUNC k
    if bitOf f 4 then (if s.gpActive f then none else some false) else some (s.gpActive f)

/-- The instruction a TAP code selects: every code that names none acts as BYPASS (spec/17_pins_electrical.md R641). -/
def tapInstruction (code : Nat) : Nat := if [0, 1, 2, 4, 5].contains code then code else 0x1F

/-- TAP_INSTRUCTION: an instruction takes effect. EXTEST, CLAMP and HIGHZ take the pins from the core, whose units do not
learn of it; a calibration window under way reads its monitor with the sink off (spec/17_pins_electrical.md R640 to
R642, R646, R649). The TAP works while power-on reset is released. -/
def execTapInstruction (code : Fin 32) (s : State) : Host.Outcome State Fault Refusal :=
  if s.dev.phase = .por then .next s
  else
    let s := s.modDev (fun x => { x with tapIr := tapInstruction code.val })
    let off (o : Op) : Op := if s.pinsDetached && o.calLaser.isSome then { o with calOff := true } else o
    .next { s with op1 := off s.op1, op2 := off s.op2 }

end Sys2Proof.Machine
end

