-- ==== Sys2Proof/Machine/Host.lean ====
section
/-! DEFINITION. The two host ports: register and window accesses, their profiles and outcomes, Tuichex frames, the
watchdog, and the commands a host gives through them (spec/02_host_access.md, spec/03_units_events.md R82 to R112,
spec/18_register_index.md). -/

namespace Sys2Proof.Machine

open Sys2Proof

/-! Windows. -/

/-- The state with a window of a port changed. -/
def State.modWin (s : State) (p : PortId) (n : Nat) (f : Win → Win) : State :=
  s.modPort p (fun q => { q with win := vmod q.win n f })

/-- A window of a port. -/
def State.winOf (s : State) (p : PortId) (n : Nat) : Win := vget (s.port p).win n

/-- After a DATA access that reached its entry (spec/02_host_access.md R60). -/
def Win.step (w : Win) : Win :=
  if w.ainc then
    if w.hw % 8 = 7 then { w.drop with hw := 0, entry := (w.entry + 1) % 4096 } else { w with hw := w.hw % 8 + 1 }
  else w

/-- The outcome of a DATA access, and the advance after it (spec/02_host_access.md R60, R79). -/
def State.winDone (s : State) (p : PortId) (n : Nat) (o : Oc) (adv : Bool) : State :=
  s.modWin p n (fun w => if adv then { w.step with outcome := o.code } else { w with outcome := o.code })

/-- A word of Caldera memory that a window read finds uncorrectable (spec/09_caldera_jobs.md R333). -/
def State.winBad (s : State) (t e : Nat) : Bool := t == 0x25 && s.cj.bad.contains e

/-- A read of WINn_DATA in the name of tenant `who`; `cont` is SNAPCONT (spec/02_host_access.md R57, R58, R60, R62, R65,
R66, R77, spec/18_register_index.md R656). -/
def State.winRead (s : State) (p : PortId) (n who : Nat) (cont : Bool) : Oc × Half × State :=
  let w := s.winOf p n
  let h := w.hw % 8
  if w.holder ≠ who then (.notAvailable, 0, s)
  else
    match s.reach w.sel w.entry who false with
    | none => (.notAvailable, 0, s.winDone p n .notAvailable false)
    | some e =>
      if h = 0 ∧ cont = false then
        if s.winBad w.sel e then
          let s := if e < 0x600 then s.cjInternal e else s.cjDetect e 1
          (.fault, 0, s.winDone p n .fault true)
        else
          let word := s.content w.sel e who
          let s := s.afterRead w.sel e
          let x : WinSnap := { word := word, ver := s.version w.sel e who, tenant := who }
          let s := s.modWin p n (fun w => { w with snap := some x, stale := s.closed w.sel e })
          (.ok, x.word.half 0, s.winDone p n .ok true)
      else if s.closed w.sel e then
        (.ok, 0, (s.modWin p n (fun w => { w with stale := true })).winDone p n .ok true)
      else
        match w.snap with
        | none => (.stateMismatch, 0, s.winDone p n .stateMismatch false)
        | some x =>
          if x.tenant ≠ who then (.notAvailable, 0, s.winDone p n .notAvailable false)
          else
            let s := s.modWin p n (fun y => { y with stale := y.stale || s.moved w.sel e who x })
            (.ok, x.word.half h, s.winDone p n .ok true)

/-- A write of WINn_DATA in the name of tenant `who`: staging, and at halfword 7 the commit (spec/02_host_access.md R59,
R60, R65, R66). -/
def State.winWrite (s : State) (p : PortId) (n who : Nat) (data : Half) : Oc × State :=
  let w := s.winOf p n
  let h := w.hw % 8
  if w.holder ≠ who then (.notAvailable, s)
  else
    match s.reach w.sel w.entry who true with
    | none => (.notAvailable, s.winDone p n .notAvailable false)
    | some e =>
      let word := (w.staging.getD (s.content w.sel e who)).setHalf h data
      if h < 7 then (.ok, (s.modWin p n (fun w => { w with staging := some word })).winDone p n .ok true)
      else
        let r := (s.modWin p n (fun w => { w with staging := none })).commit w.sel e who word
        (r.1, r.2.winDone p n r.1 true)

/-- A write of WINn_SEL (spec/02_host_access.md R56, R61, R65). -/
def State.winSelect (s : State) (p : PortId) (n who : Nat) (data : Half) : State :=
  s.modWin p n (fun w => { w.drop with sel := data.toNat % 64, entry := 0, hw := 0, holder := who })

/-- A write of WINn_IDX by the holder (spec/02_host_access.md R56). -/
def State.winIndex (s : State) (p : PortId) (n : Nat) (data : Half) : State :=
  let e := data.toNat % 4096
  s.modWin p n (fun w =>
    { (if e = w.entry then w else w.drop) with
      entry := e, hw := data.toNat / 4096 % 8, ainc := bitOf data.toNat 15 })

/-- A register of window `n`: 0 SEL, 1 IDX, 2 DATA, 3 STAT, read. -/
def State.winRegRead (s : State) (p : PortId) (n k who : Nat) (cont : Bool) : Oc × Half × State :=
  let w := s.winOf p n
  if k = 2 then s.winRead p n who cont
  else if w.holder ≠ who then (.notAvailable, 0, s)
  else (.ok, if k = 0 then BitVec.ofNat 16 (w.sel % 64) else if k = 1 then w.idx else w.stat, s)

/-- A register of window `n`: 0 SEL, 1 IDX, 2 DATA, 3 STAT, written. -/
def State.winRegWrite (s : State) (p : PortId) (n k who : Nat) (data : Half) : Oc × State :=
  if k = 0 then (.ok, s.winSelect p n who data)
  else if k = 2 then s.winWrite p n who data
  else if (s.winOf p n).holder ≠ who then (.notAvailable, s)
  else if k = 1 then (.ok, s.winIndex p n data)
  else (.ok, s.modWin p n (fun w => { w with
    stale := w.stale && !bitOf data.toNat 8, stageLost := w.stageLost && !bitOf data.toNat 11 }))

/-! Top-level snapshots. -/

/-- A port takes its top-level snapshot (spec/03_units_events.md R86). -/
def State.takeSnap (s : State) (p : PortId) (x : TopSnap) : State :=
  s.modPort p (fun q => { q with snap := some x })

/-- A read served from the port's top-level snapshot; `pick` gives the halfword and the present change count of its
source where the snapshot is of the kind asked for (spec/03_units_events.md R86, R94, spec/04_geyser_time_base.md R135,
spec/18_register_index.md R656). -/
def State.snapRead (s : State) (p : PortId) (who : Nat) (pick : TopSnap → Option (Half × Nat)) : Oc × Half × State :=
  match (s.port p).snap with
  | none => (.stateMismatch, 0, s)
  | some x =>
    if x.tenant ≠ who then (.notAvailable, 0, s)
    else
      match pick x with
      | none => (.stateMismatch, 0, s)
      | some (h, ver) => (.ok, h, s.modPort p (fun q => { q with stale := q.stale || ver != x.ver }))

/-- What a unit snapshot gives: UNIT_STATE or UNIT_INFO. -/
def State.pickUnit (s : State) (info : Bool) (x : TopSnap) : Option (Half × Nat) :=
  match x.data with
  | .unit u a b => some (if info then b else a, (s.mirror u).chg)
  | _ => none

/-- What a Geyser snapshot gives: 0 the fraction, 1 CYCLE_LO, 2 CYCLE_HI, 3 ANGLE (spec/04_geyser_time_base.md R135). -/
def State.pickGy (s : State) (k : Nat) (x : TopSnap) : Option (Half × Nat) :=
  match x.data with
  | .geyser st =>
    some (if k = 0 then st.extractLsb' 16 16 else if k = 1 then st.extractLsb' 48 16
      else if k = 2 then st.extractLsb' 64 16 else st.extractLsb' 32 16, s.gy.steps)
  | _ => none

/-- What an event snapshot gives: halfword `k` of the record (spec/03_units_events.md R94, R95). -/
def State.pickEvent (s : State) (who k : Nat) (x : TopSnap) : Option (Half × Nat) :=
  match x.data with
  | .event r _ => some (r.half k, (vget s.views who).pops)
  | _ => none

/-- A read of UNIT_STATE (spec/03_units_events.md R86). -/
def State.unitStateRead (s : State) (p : PortId) (who : Nat) (cont : Bool) : Oc × Half × State :=
  if cont then s.snapRead p who (s.pickUnit false)
  else
    let u := (Src.unitOf ((vget s.tsel who).unitSel.toNat % 256)).getD .gy
    let m := s.mirror u
    (.ok, m.stateHalf, s.takeSnap p { data := .unit u m.stateHalf m.infoHalf, ver := m.chg, tenant := who })

/-- A read of GY_SNAP (spec/04_geyser_time_base.md R135). -/
def State.gySnap (s : State) (p : PortId) (who : Nat) (cont : Bool) : Oc × Half × State :=
  if cont then s.snapRead p who (s.pickGy 0)
  else (.ok, s.gy.stamp.extractLsb' 16 16, s.takeSnap p { data := .geyser s.gy.stamp, ver := s.gy.steps, tenant := who })

/-- EVT_STAT.POS moves on (spec/03_units_events.md R94). -/
def State.setPos (s : State) (p : PortId) (who k : Nat) : State :=
  s.modPort p (fun q => { q with pos := vset q.pos who (k % 8) })

/-- A read of EVT_DATA (spec/03_units_events.md R94, R95). -/
def State.evtData (s : State) (p : PortId) (who : Nat) (cont : Bool) : Oc × Half × State :=
  let v := vget s.views who
  let k := vget (s.port p).pos who % 8
  match k, v.log with
  | 0, [] => (.notAvailable, 0, s)
  | k, log =>
    if k = 0 ∧ cont = false then
      let r := log.headD 0
      (.ok, r.half 0, (s.takeSnap p { data := .event r v.pops, ver := v.pops, tenant := who }).setPos p who 1)
    else
      let x := s.snapRead p who (s.pickEvent who k)
      if x.1 = .ok then (.ok, x.2.1, x.2.2.setPos p who (k + 1)) else x

/-- A read of EVT_POP (spec/03_units_events.md R95). -/
def State.evtPop (s : State) (p : PortId) (who : Nat) : Oc × Half × State :=
  match (vget s.views who).log with
  | [] => (.notAvailable, 0, s)
  | r :: rest =>
    let s := { s with views := vmod s.views who (fun (v : View) => { v with log := rest, pops := v.pops + 1 }) }
    (.ok, r.half 7, s.setPos p who 0)

/-- A read of EVT_LOST (spec/03_units_events.md R92, R109). -/
def State.evtLost (s : State) (who : Nat) : Oc × Half × State :=
  (.ok, (vget s.views who).lost, { s with views := vmod s.views who (fun (v : View) => { v with lost := 0 }) })

/-! The watchdog. -/

/-- The count expires: the host-absence posture (spec/02_host_access.md R69). -/
def State.hostGone (s : State) : State :=
  let s := (s.modDev (fun x => { x with hostLost := true, wdogEnd := none })).raiseCommon .host 3 0x10 0
  let s := if s.isOn .line then s.lnHostless true else s
  if s.isOn .radio then s.rcNoack else s

/-- A count that ran out before this core tick has expired (spec/02_host_access.md R68, R73). -/
def State.wdogDue (s : State) : State :=
  match s.dev.wdogEnd with
  | some t => if t < s.tick then s.hostGone else s
  | none => s

/-- The count restarts; HOST_BACK ends the host-absence posture (spec/02_host_access.md R68, R70). -/
def State.wdogKick (s : State) : State :=
  let s := s.modDev (fun x => { x with wdogEnd := some (s.tick + x.wdogPer * 100 * msTicks) })
  if s.dev.hostLost then
    let s := (s.modDev (fun x => { x with hostLost := false })).raiseCommon .host 1 0x11 0
    if s.isOn .radio then s.rcNoack else s
  else s

/-- A write of HOST_WDOG in the name of tenant `who` (spec/02_host_access.md R68). -/
def State.wdogWrite (s : State) (p : PortId) (who : Nat) (data : Half) : Oc × State :=
  let o := judge [(p == .p1 && who != 0, .notAvailable), (data != 0x5A5A, .param)]
  if o = .ok then (.ok, s.wdogKick) else (o, s)

/-- HOST_LOST: the watchdog count expires (spec/02_host_access.md R69). -/
def execHostLost (s : State) : Host.Outcome State Fault Refusal :=
  match s.dev.wdogEnd with
  | some t => .next (s.advanceTo t).hostGone
  | none => .next s

/-! The owner's port registers. -/

/-- A write of HP_BIND by the owner (spec/02_host_access.md R64, R78). -/
def State.hpBindWrite (s : State) (data : Half) : Oc × State :=
  let d := data.toNat
  let t := d % 64
  if bitOf d 15 && t == 0 && !bitOf d 8 then (.param, s)
  else
    let s := s.modDev (fun x => { x with bindTenant := t })
    (.ok, if bitOf d 15 then s.ps 0x01 t [(F.TENANTS_BIND_P0, b2n (bitOf d 8)), (F.TENANTS_BIND_P1, b2n (bitOf d 9))] else s)

/-- HP_CFG takes a value; enabling port 1 again clears its replies and its ALIVE tracking (spec/02_host_access.md R75,
R78). -/
def State.hpCfgSet (s : State) (d : Nat) : State :=
  let on := bitOf d 0
  let s := if on && !s.dev.p1En then { s with tux := {} } else s
  s.modDev (fun x => { x with p1En := on, hirqOd := bitOf d 1, hsirqOd := bitOf d 2, wdogPer := d / 256 })

/-- A write of HP_CFG by the owner (spec/02_host_access.md R68, R75, R78). -/
def State.hpCfgWrite (s : State) (p : PortId) (data : Half) : Oc × State :=
  let d := data.toNat
  if d / 256 = 0 ∨ (p = .p1 ∧ bitOf d 0 = false) then (.param, s) else (.ok, (s.hpCfgSet d).wdogKick)

/-! Registers. -/

/-- A read of the top-level register at byte address `addr` in the name of the acting tenant: outcome, data, state
(spec/02_host_access.md R67, R78, spec/03_units_events.md R109, spec/18_register_index.md R650, R651). -/
def State.regRead (s : State) (p : PortId) (addr : Nat) (cont : Bool) : Oc × Half × State :=
  let who := s.acting p
  if 0x10 ≤ addr ∧ addr < 0x30 then s.winRegRead p ((addr - 0x10) / 8) (addr % 8 / 2) who cont
  else
    match addr with
    | 0x00 => (.ok, 0x6408, s)
    | 0x02 => (.ok, 0x00A1, s)
    | 0x04 => (.ok, BitVec.ofNat 16 who, s)
    | 0x06 => (.ok, (s.port p).accStat, s)
    | 0x08 => if who = 0 then (.ok, s.hpBind, s) else (.notAvailable, 0, s)
    | 0x0A => (.ok, (s.port p).scratch, s)
    | 0x0C => (.ok, s.hpCfg, s)
    | 0x0E => (.ok, s.devStat, s)
    | 0x30 => (.ok, s.evtStat p who, s)
    | 0x32 => s.evtData p who cont
    | 0x34 => s.evtPop p who
    | 0x36 => (.ok, (vget s.views who).pend.setWidth 16, s)
    | 0x38 => (.ok, (vget s.views who).en.setWidth 16, s)
    | 0x3A => (.ok, 0, s)
    | 0x3C => s.evtLost who
    | 0x3E => (.ok, s.hostWdog, s)
    | 0x40 => (.ok, (vget s.tsel who).unitSel, s)
    | 0x42 => (.ok, 0, s)
    | 0x44 => s.unitStateRead p who cont
    | 0x46 => s.snapRead p who (s.pickUnit true)
    | 0x48 => (.ok, (vget s.tsel who).claimSel, s)
    | 0x4A => (.ok, 0, s)
    | 0x4C => (.ok, (vget s.tsel who).claimStat, s)
    | 0x4E => (.ok, s.govStat, s)
    | 0x50 => (.ok, s.gyStat, s)
    | 0x52 => s.gySnap p who cont
    | 0x54 => s.snapRead p who (s.pickGy 1)
    | 0x56 => s.snapRead p who (s.pickGy 2)
    | 0x58 => s.snapRead p who (s.pickGy 3)
    | 0x5A => (.ok, s.gy.freq, s)
    | 0x5C => (.ok, s.rngStat, s)
    | 0x5E => s.rngRead p who
    | _ => (.notAvailable, 0, s)

/-- A change of one tenant's selection registers. -/
def State.modSel (s : State) (t : Nat) (f : TenantSel → TenantSel) : State := { s with tsel := vmod s.tsel t f }

/-- A write of the top-level register at byte address `addr` in the name of the acting tenant: outcome and state. Writes
to read-only registers are ignored (spec/00_scope.md R15 to R17, spec/02_host_access.md R67, R78,
spec/03_units_events.md R109, spec/18_register_index.md R650, R651). -/
def State.regWrite (s : State) (p : PortId) (addr : Nat) (data : Half) : Oc × State :=
  let who := s.acting p
  if 0x10 ≤ addr ∧ addr < 0x30 then s.winRegWrite p ((addr - 0x10) / 8) (addr % 8 / 2) who data
  else
    match addr with
    | 0x04 => (.ok, match p with | .p0 => s.modPort .p0 (fun q => { q with ctx := data.toNat % 64 }) | .p1 => s)
    | 0x06 => (.ok, s.modPort p (fun q => { q with
        stale := q.stale && !bitOf data.toNat 8, refused := q.refused && !bitOf data.toNat 9 }))
    | 0x08 => if who = 0 then s.hpBindWrite data else (.notAvailable, s)
    | 0x0A => (.ok, s.modPort p (fun q => { q with scratch := data }))
    | 0x0C => if who = 0 then s.hpCfgWrite p data else (.notAvailable, s)
    | 0x38 => (.ok, { s with views := vmod s.views who (fun (v : View) => { v with en := data.setWidth 5 }) })
    | 0x3A => (.ok, { s with views := vmod s.views who (fun (v : View) => { v with pend := v.pend &&& ~~~(data.setWidth 5) }) })
    | 0x3E => s.wdogWrite p who data
    | 0x40 =>
      if (Src.unitOf (data.toNat % 256)).isSome then (.ok, s.modSel who (fun x => { x with unitSel := data })) else (.param, s)
    | 0x42 => s.unitWrite who data
    | 0x48 => (.ok, s.modSel who (fun x => { x with claimSel := data &&& 0xFF3F }))
    | 0x4A => s.claimCmd who (data.toNat % 4)
    | _ => (if addr < 0x60 ∧ addr % 2 = 0 then .ok else .notAvailable, s)

/-! Accesses. -/

/-- Core ticks of an access's profile: it depends on the address, the direction and the halfword position alone; `ahead`
counts accesses of the same frame still before it (spec/02_host_access.md R42, R43, Table HA-2). -/
def State.profile (s : State) (p : PortId) (addr : Nat) (write : Bool) (ahead : Nat) : Nat :=
  let long :=
    if 0x10 ≤ addr ∧ addr < 0x30 ∧ addr % 8 = 4 then
      let w := s.winOf p ((addr - 0x10) / 8)
      (w.hw + (if w.ainc then ahead else 0)) % 8 == (if write then 7 else 0)
    else if addr = 0x32 then !write && (vget (s.port p).pos (s.acting p) + ahead) % 8 == 0
    else !write && (addr == 0x44 || addr == 0x52)
  if long then 48 else 16

/-- Registers served before READY (spec/16_power_start_sinter.md R581). -/
def preReady (addr : Nat) : Bool := [0x00, 0x02, 0x0A, 0x0E].contains addr

/-- Port 0 accesses served whatever tenant CTX names (spec/02_host_access.md R63). -/
def anyTenant (addr : Nat) (write : Bool) : Bool :=
  [0x04, 0x06, 0x0A].contains addr || (!write && [0x00, 0x02, 0x0E].contains addr) || (write && addr == 0x3E)

/-- The acting tenant may make an access on a port (spec/01_cabinet_system.md R29, R30, spec/02_host_access.md R63). -/
def State.mayAct (s : State) (p : PortId) (addr : Nat) (write : Bool) : Bool :=
  match p with
  | .p0 => s.enabled (s.acting .p0) || anyTenant addr write
  | .p1 => s.enabled (s.acting .p1) && s.b F.TENANTS_BIND_P1 (s.acting .p1)

/-- An access takes effect: outcome, data of a read, state. A refused read gives 0. Before READY every access but the
four of R581 is refused, with NOT_READY unless a refusal that stands before it applies (spec/02_host_access.md R44, R63,
spec/16_power_start_sinter.md R581, spec/00_scope.md R659). -/
def State.serve (s : State) (p : PortId) (addr : Nat) (data : Option Half) (cont : Bool) : Oc × Half × State :=
  let r : Oc × Half × State :=
    if s.mayAct p addr data.isSome then
      match data with
      | none => s.regRead p addr cont
      | some d => ((s.regWrite p addr d).1, 0, (s.regWrite p addr d).2)
    else (.notAvailable, 0, s)
  if s.dev.ready || preReady addr then (r.1, if r.1.accepts then r.2.1 else 0, r.2.2)
  else (if !r.1.accepts && decide (r.1.rank < Oc.notReady.rank) then r.1 else .notReady, 0, s)

/-- What an access leaves in its port: ACC_STAT, which accesses to ACC_STAT itself leave alone, and the data of a read
(spec/02_host_access.md R44, R78). -/
def State.noted (s : State) (p : PortId) (addr : Nat) (o : Oc) (hd : Option Half) : State :=
  s.modPort p (fun q => { q with
    outcome := if addr = 0x06 then q.outcome else o.code,
    refused := if addr = 0x06 then q.refused else q.refused || !o.accepts,
    hd := hd.getD q.hd })

/-- One access of a port: it takes its profile and takes effect in the last core tick of it (spec/02_host_access.md
R42). -/
def State.access (s : State) (p : PortId) (addr : Nat) (data : Option Half) (cont : Bool) : Oc × Half × State :=
  let s := (s.advance (s.profile p addr data.isSome 0 - 1)).wdogDue
  let r := s.serve p addr data cont
  (r.1, r.2.1, (r.2.2.noted p addr r.1 (if data.isNone then some r.2.1 else none)).advance 1)

/-- Port 0 serves accesses: the device is out of reset (spec/17_pins_electrical.md R631). -/
def State.outOfReset (s : State) : Bool :=
  match s.dev.phase with
  | .por => false
  | .reset => false
  | .black => false
  | _ => true

/-- Before CORE runs an access on port 0 waits for it (spec/16_power_start_sinter.md R580, R581). -/
def State.awaitCore (s : State) : State :=
  if s.coreRuns then s else s.advanceTo (s.dev.released + 5 * msTicks)

/-- Port 1 takes frames (spec/02_host_access.md R46, R75, spec/16_power_start_sinter.md R581). -/
def State.port1Live (s : State) : Bool := s.coreRuns && s.dev.ready && s.dev.p1En

/-- An access on a port: on port 0 a bus cycle, on port 1 the one access of a Tuichex frame in the name of the tenant
CTX shows. A device in reset serves none (notes/assumptions/39.md). -/
def State.bus (s : State) (p : PortId) (addr : Nat) (data : Option Half) : State :=
  match p with
  | .p0 => if s.outOfReset then (s.awaitCore.access .p0 addr data false).2.2 else s
  | .p1 => if s.port1Live then (s.access .p1 addr data false).2.2 else s

/-- REGISTER_WRITE: a write of a top-level register, or, with no data, a read of one (spec/02_host_access.md R42, R44,
R78). -/
def execRegisterWrite (p : PortId) (addr : Nat) (data : Option Half) (s : State) : Host.Outcome State Fault Refusal :=
  .next (s.bus p (addr / 2 * 2 % 128) data)

/-- UNDEFINED_ADDRESS_ACCESS: a port 0 access to 0x60 to 0x7E (spec/18_register_index.md R651). -/
def execUndefinedAddressAccess (addr : Nat) (write : Bool) (s : State) : Host.Outcome State Fault Refusal :=
  .next (s.bus .p0 (0x60 + addr / 2 % 16 * 2) (if write then some 0 else none))

/-- WIN_SEL_WRITE (spec/02_host_access.md R56). -/
def execWinSelWrite (p : PortId) (win : Fin 4) (data : Half) (s : State) : Host.Outcome State Fault Refusal :=
  .next (s.bus p (0x10 + 8 * win.val) (some data))

/-- WIN_IDX_WRITE (spec/02_host_access.md R56). -/
def execWinIdxWrite (p : PortId) (win : Fin 4) (data : Half) (s : State) : Host.Outcome State Fault Refusal :=
  .next (s.bus p (0x12 + 8 * win.val) (some data))

/-- WIN_DATA_READ (spec/02_host_access.md R57). -/
def execWinDataRead (p : PortId) (win : Fin 4) (s : State) : Host.Outcome State Fault Refusal :=
  .next (s.bus p (0x14 + 8 * win.val) none)

/-- WIN_DATA_WRITE: with the window at halfword 0 to 6 (spec/02_host_access.md R59). -/
def execWinDataWrite (p : PortId) (win : Fin 4) (data : Half) (s : State) : Host.Outcome State Fault Refusal :=
  .next (s.bus p (0x14 + 8 * win.val) (some data))

/-- WIN_COMMIT: with the window at halfword 7 (spec/02_host_access.md R59). -/
def execWinCommit (p : PortId) (win : Fin 4) (data : Half) (s : State) : Host.Outcome State Fault Refusal :=
  .next (s.bus p (0x14 + 8 * win.val) (some data))

/-- HP_BIND_WRITE (spec/02_host_access.md R64). -/
def execHpBindWrite (p : PortId) (data : Half) (s : State) : Host.Outcome State Fault Refusal :=
  .next (s.bus p 0x08 (some data))

/-- HP_CFG_WRITE (spec/02_host_access.md R68, R75). -/
def execHpCfgWrite (p : PortId) (data : Half) (s : State) : Host.Outcome State Fault Refusal :=
  .next (s.bus p 0x0C (some data))

/-- HOST_WDOG_KICK (spec/02_host_access.md R68, R70). -/
def execHostWdogKick (p : PortId) (data : Half) (s : State) : Host.Outcome State Fault Refusal :=
  .next (s.bus p 0x3E (some data))

/-- UNIT_STATE_READ (spec/03_units_events.md R86). -/
def execUnitStateRead (p : PortId) (s : State) : Host.Outcome State Fault Refusal := .next (s.bus p 0x44 none)

/-- EVT_DATA_READ (spec/03_units_events.md R94). -/
def execEvtDataRead (p : PortId) (s : State) : Host.Outcome State Fault Refusal := .next (s.bus p 0x32 none)

/-- EVT_POP (spec/03_units_events.md R95). -/
def execEvtPop (p : PortId) (s : State) : Host.Outcome State Fault Refusal := .next (s.bus p 0x34 none)

/-- EVT_LOST_READ (spec/03_units_events.md R92, R109). -/
def execEvtLostRead (p : PortId) (s : State) : Host.Outcome State Fault Refusal := .next (s.bus p 0x3C none)

/-- IRQ_CLR (spec/03_units_events.md R97, R109). -/
def execIrqClr (p : PortId) (data : Half) (s : State) : Host.Outcome State Fault Refusal := .next (s.bus p 0x3A (some data))

/-- CLAIM: CLAIM_CMD with OP CLAIM (spec/03_units_events.md R100). -/
def execClaim (p : PortId) (s : State) : Host.Outcome State Fault Refusal := .next (s.bus p 0x4A (some 1))

/-- RELEASE: CLAIM_CMD with OP RELEASE (spec/03_units_events.md R100). -/
def execRelease (p : PortId) (s : State) : Host.Outcome State Fault Refusal := .next (s.bus p 0x4A (some 2))

/-- GY_SNAP_READ (spec/04_geyser_time_base.md R135). -/
def execGySnapRead (p : PortId) (s : State) : Host.Outcome State Fault Refusal := .next (s.bus p 0x52 none)

/-- RNG_DATA_READ (spec/10_obsidian_cipher.md R380). -/
def execRngDataRead (p : PortId) (s : State) : Host.Outcome State Fault Refusal := .next (s.bus p 0x5E none)

/-! Unit commands. -/

/-- A write of UNIT_CMD: CMD, CHECK and ARG (spec/03_units_events.md R109). -/
def cmdHalf (cmd : Nat) (check : Bool) (arg : Nat) : Half := BitVec.ofNat 16 (cmd % 16 + 16 * b2n check + 256 * (arg % 256))

/-- A unit command: UNIT_SEL names the unit and the generation, then UNIT_CMD is written (spec/03_units_events.md R83,
R87; notes/assumptions/40.md). -/
def State.unitRow (s : State) (p : PortId) (u : Src) (cmd : Nat) (gen : Byte) (check : Bool) (arg : Nat) : State :=
  (s.bus p 0x40 (some (BitVec.ofNat 16 (u.code + 256 * gen.toNat)))).bus p 0x42 (some (cmdHalf cmd check arg))

/-- Port `n` as a unit. -/
def optU (n : Fin 2) : Src := opU n.val

/-- UNIT_START (spec/03_units_events.md R83). -/
def execUnitStart (p : PortId) (check : Bool) (s : State) : Host.Outcome State Fault Refusal :=
  .next (s.bus p 0x42 (some (cmdHalf 1 check 0)))

/-- UNIT_STOP (spec/03_units_events.md R83). -/
def execUnitStop (p : PortId) (check : Bool) (s : State) : Host.Outcome State Fault Refusal :=
  .next (s.bus p 0x42 (some (cmdHalf 2 check 0)))

/-- UNIT_RESET (spec/03_units_events.md R83). -/
def execUnitReset (p : PortId) (check : Bool) (s : State) : Host.Outcome State Fault Refusal :=
  .next (s.bus p 0x42 (some (cmdHalf 3 check 0)))

/-- UNIT_FORCE (spec/03_units_events.md R83, R88). -/
def execUnitForce (p : PortId) (check : Bool) (arg : Byte) (s : State) : Host.Outcome State Fault Refusal :=
  .next (s.bus p 0x42 (some (cmdHalf 4 check arg.toNat)))

/-- GY_REALIGN (spec/04_geyser_time_base.md R142). -/
def execGyRealign (p : PortId) (gen : Byte) (check : Bool) (s : State) : Host.Outcome State Fault Refusal :=
  .next (s.unitRow p .gy 8 gen check 0)

/-- GY_RELEARN (spec/04_geyser_time_base.md R142). -/
def execGyRelearn (p : PortId) (gen : Byte) (check : Bool) (s : State) : Host.Outcome State Fault Refusal :=
  .next (s.unitRow p .gy 9 gen check 0)

/-- RESUME (spec/06_line_access.md R216). -/
def execResume (p : PortId) (gen : Byte) (check : Bool) (s : State) : Host.Outcome State Fault Refusal :=
  .next (s.unitRow p .line 8 gen check 0)

/-- DORMANT (spec/06_line_access.md R224). -/
def execDormant (p : PortId) (gen : Byte) (check : Bool) (arg : Byte) (s : State) : Host.Outcome State Fault Refusal :=
  .next (s.unitRow p .line 9 gen check arg.toNat)

/-- WAKE (spec/06_line_access.md R226). -/
def execWake (p : PortId) (gen : Byte) (check : Bool) (s : State) : Host.Outcome State Fault Refusal :=
  .next (s.unitRow p .line 10 gen check 0)

/-- PROV_CLOSE (spec/10_obsidian_cipher.md R374). -/
def execProvClose (p : PortId) (gen : Byte) (check : Bool) (s : State) : Host.Outcome State Fault Refusal :=
  .next (s.unitRow p .obs 8 gen check 0)

/-- ZEROIZE (spec/10_obsidian_cipher.md R374). -/
def execZeroize (p : PortId) (gen : Byte) (check : Bool) (arg : Byte) (s : State) : Host.Outcome State Fault Refusal :=
  .next (s.unitRow p .obs 9 gen check arg.toNat)

/-- RESEED (spec/10_obsidian_cipher.md R374). -/
def execReseed (p : PortId) (gen : Byte) (check : Bool) (s : State) : Host.Outcome State Fault Refusal :=
  .next (s.unitRow p .rng 8 gen check 0)

/-- JOIN_OPEN (spec/12_radio_coordinator.md R446). -/
def execJoinOpen (p : PortId) (gen : Byte) (check : Bool) (arg : Byte) (s : State) : Host.Outcome State Fault Refusal :=
  .next (s.unitRow p .radio 8 gen check arg.toNat)

/-- RF_RESET (spec/12_radio_coordinator.md R462). -/
def execRfReset (p : PortId) (gen : Byte) (check : Bool) (s : State) : Host.Outcome State Fault Refusal :=
  .next (s.unitRow p .radio 9 gen check 0)

/-- OPT_RESTART (spec/13_optical_ports.md R503). -/
def execOptRestart (p : PortId) (n : Fin 2) (gen : Byte) (check : Bool) (s : State) : Host.Outcome State Fault Refusal :=
  .next (s.unitRow p (optU n) 8 gen check 0)

/-- OPT_TEST (spec/13_optical_ports.md R503). -/
def execOptTest (p : PortId) (n : Fin 2) (gen : Byte) (check : Bool) (arg : Byte) (s : State) :
    Host.Outcome State Fault Refusal := .next (s.unitRow p (optU n) 9 gen check arg.toNat)

/-- CALIBRATE (spec/13_optical_ports.md R503). -/
def execCalibrate (p : PortId) (n : Fin 2) (gen : Byte) (check : Bool) (arg : Byte) (s : State) :
    Host.Outcome State Fault Refusal := .next (s.unitRow p (optU n) 10 gen check arg.toNat)

/-- CLEAR (spec/13_optical_ports.md R503). -/
def execClear (p : PortId) (n : Fin 2) (gen : Byte) (check : Bool) (arg : Byte) (s : State) :
    Host.Outcome State Fault Refusal := .next (s.unitRow p (optU n) 11 gen check arg.toNat)

/-- IMP_CHECK (spec/14_sensor_front_end.md R540). -/
def execImpCheck (p : PortId) (gen : Byte) (check : Bool) (arg : Byte) (s : State) : Host.Outcome State Fault Refusal :=
  .next (s.unitRow p .sens 8 gen check arg.toNat)

/-- HIBERNATE (spec/16_power_start_sinter.md R587). -/
def execHibernate (p : PortId) (gen : Byte) (check : Bool) (arg : Byte) (s : State) : Host.Outcome State Fault Refusal :=
  .next (s.unitRow p .gov 8 gen check arg.toNat)

/-- FLOOR (spec/16_power_start_sinter.md R594). -/
def execFloor (p : PortId) (gen : Byte) (check : Bool) (arg : Byte) (s : State) : Host.Outcome State Fault Refusal :=
  .next (s.unitRow p .gov 9 gen check arg.toNat)

/-- COMPACT (spec/16_power_start_sinter.md R606). -/
def execCompact (p : PortId) (gen : Byte) (check : Bool) (s : State) : Host.Outcome State Fault Refusal :=
  .next (s.unitRow p .sinter 8 gen check 0)

/-! Commits of whole entries. -/

/-- The window stands at halfword 7 of an entry in the acting tenant's name, with halfwords 0 to 6 of `w` staged, as
writes of WINn_SEL, WINn_IDX and WINn_DATA leave it (spec/02_host_access.md R56, R59; notes/assumptions/40.md). -/
def State.stage (s : State) (p : PortId) (n t e : Nat) (w : Word) : State :=
  if s.dev.ready && s.mayAct p 0x10 true then
    s.modWin p n (fun x => { x.drop with sel := t, entry := e, hw := 7, holder := s.acting p, staging := some w })
  else s

/-- The commit of word `w` to an entry through window `n` (spec/02_host_access.md R59). -/
def State.entryRow (s : State) (p : PortId) (n : Fin 4) (t e : Nat) (w : Word) : State :=
  let go (s : State) : State := (s.stage p n.val t e w).bus p (0x14 + 8 * n.val) (some (w.half 7))
  match p with
  | .p0 => go s
  | .p1 => if s.port1Live then go s else s

/-- The entry as the acting tenant reads it, with fields set. -/
def State.withFields (s : State) (p : PortId) (t e : Nat) (l : List (Fld × Nat)) : Word :=
  l.foldl (fun w x => x.1.into x.2 w) (s.content t e (s.acting p))

/-- TENANT_ENABLE (spec/03_units_events.md R93, spec/02_host_access.md R81). -/
def execTenantEnable (p : PortId) (win : Fin 4) (t : Nat) (label : BitVec 64) (s : State) :
    Host.Outcome State Fault Refusal :=
  .next (s.entryRow p win 0x01 t (s.withFields p 0x01 t [(F.TENANTS_ENABLE, 1), (F.TENANTS_LABEL, label.toNat)]))

/-- TENANT_DISABLE (spec/01_cabinet_system.md R37, spec/02_host_access.md R74, R81). -/
def execTenantDisable (p : PortId) (win : Fin 4) (t : Nat) (label : BitVec 64) (s : State) :
    Host.Outcome State Fault Refusal :=
  .next (s.entryRow p win 0x01 t (s.withFields p 0x01 t [(F.TENANTS_ENABLE, 0), (F.TENANTS_LABEL, label.toNat)]))

/-- LINE_TX_SUBMIT (spec/06_line_access.md R218). -/
def execLineTxSubmit (p : PortId) (win : Fin 4) (word : Word) (s : State) : Host.Outcome State Fault Refusal :=
  .next (s.entryRow p win 0x17 16 word)

/-- LINE_TX_ABORT (spec/06_line_access.md R221). -/
def execLineTxAbort (p : PortId) (win : Fin 4) (q : Nat) (s : State) : Host.Outcome State Fault Refusal :=
  .next (s.entryRow p win 0x17 q (s.withFields p 0x17 q [(F.LA_TXQ_CMD, 1)]))

/-- LINE_RX_RELEASE (spec/06_line_access.md R223). -/
def execLineRxRelease (p : PortId) (win : Fin 4) (buf : Nat) (s : State) : Host.Outcome State Fault Refusal :=
  .next (s.entryRow p win 0x19 (9 * buf) (s.withFields p 0x19 (9 * buf) [(F.LA_RX_RELEASE, 1)]))

/-- LL_APPROVE: a commit to LL_MAPS entry 2 (spec/07_line_learning.md R255). -/
def execLlApprove (p : PortId) (win : Fin 4) (word : Word) (s : State) : Host.Outcome State Fault Refusal :=
  .next (s.entryRow p win 0x1F 2 word)

/-- OWN_MAP_COMMIT: a commit to LS_MAPS entry 2 or 3 (spec/07_line_learning.md R255, spec/05_line_signal.md R192). -/
def execOwnMapCommit (p : PortId) (win : Fin 4) (e : Nat) (word : Word) (s : State) : Host.Outcome State Fault Refusal :=
  .next (s.entryRow p win 0x12 (2 + e % 2) word)

/-- LL_CLEAR: a commit to LL_CFG entry 0 with CLEAR = 1 (spec/07_line_learning.md R264). -/
def execLlClear (p : PortId) (win : Fin 4) (word : Word) (s : State) : Host.Outcome State Fault Refusal :=
  .next (s.entryRow p win 0x1C 0 (F.LL_CFG_CLEAR.into 1 word))

/-- CJ_SUBMIT (spec/09_caldera_jobs.md R319). -/
def execCjSubmit (p : PortId) (win : Fin 4) (word : Word) (s : State) : Host.Outcome State Fault Refusal :=
  .next (s.entryRow p win 0x21 8 word)

/-- CJ_ABORT (spec/09_caldera_jobs.md R325). -/
def execCjAbort (p : PortId) (win : Fin 4) (q : Nat) (s : State) : Host.Outcome State Fault Refusal :=
  .next (s.entryRow p win 0x22 q (s.withFields p 0x22 q [(F.CJ_QSTAT_CMD, 1)]))

/-- CJ_RELEASE (spec/09_caldera_jobs.md R325). -/
def execCjRelease (p : PortId) (win : Fin 4) (q : Nat) (s : State) : Host.Outcome State Fault Refusal :=
  .next (s.entryRow p win 0x22 q (s.withFields p 0x22 q [(F.CJ_QSTAT_CMD, 2)]))

/-- CJ_PAGE_COMMIT (spec/09_caldera_jobs.md R309, R337). -/
def execCjPageCommit (p : PortId) (win : Fin 4) (page : Nat) (word : Word) (s : State) : Host.Outcome State Fault Refusal :=
  .next (s.entryRow p win 0x24 page word)

/-- The word of a slot command (spec/10_obsidian_cipher.md R356, R395). -/
def slotWord (cmd : Nat) (usage : Byte) (persist : Bool) (klen kek : Nat) : Word :=
  [(F.OB_SLOT_CMD, cmd), (F.OB_SLOT_USAGE, usage.toNat), (F.OB_SLOT_PERS_REQ, b2n persist), (F.OB_SLOT_NEWLEN, klen),
    (F.OB_SLOT_KEK, kek)].foldl (fun w x => x.1.into x.2 w) 0

/-- OB_LOAD (spec/10_obsidian_cipher.md R357). -/
def execObLoad (p : PortId) (win : Fin 4) (slot : Nat) (usage : Byte) (persist : Bool) (klen : Nat) (s : State) :
    Host.Outcome State Fault Refusal := .next (s.entryRow p win 0x29 slot (slotWord 1 usage persist klen 0))

/-- OB_UNWRAP (spec/10_obsidian_cipher.md R357). -/
def execObUnwrap (p : PortId) (win : Fin 4) (slot : Nat) (usage : Byte) (persist : Bool) (klen kek : Nat) (s : State) :
    Host.Outcome State Fault Refusal := .next (s.entryRow p win 0x29 slot (slotWord 2 usage persist klen kek))

/-- OB_GENERATE (spec/10_obsidian_cipher.md R357). -/
def execObGenerate (p : PortId) (win : Fin 4) (slot : Nat) (usage : Byte) (persist : Bool) (klen : Nat) (s : State) :
    Host.Outcome State Fault Refusal := .next (s.entryRow p win 0x29 slot (slotWord 3 usage persist klen 0))

/-- OB_ERASE (spec/10_obsidian_cipher.md R357). -/
def execObErase (p : PortId) (win : Fin 4) (slot : Nat) (s : State) : Host.Outcome State Fault Refusal :=
  .next (s.entryRow p win 0x29 slot (slotWord 4 0 false 0 0))

/-- OB_RESTRICT (spec/10_obsidian_cipher.md R357). -/
def execObRestrict (p : PortId) (win : Fin 4) (slot : Nat) (usage : Byte) (s : State) : Host.Outcome State Fault Refusal :=
  .next (s.entryRow p win 0x29 slot (slotWord 5 usage false 0 0))

/-- OB_PLACE (spec/10_obsidian_cipher.md R360). -/
def execObPlace (p : PortId) (win : Fin 4) (word : Word) (s : State) : Host.Outcome State Fault Refusal :=
  .next (s.entryRow p win 0x2B 16 word)

/-- OB_GO (spec/10_obsidian_cipher.md R360). -/
def execObGo (p : PortId) (win : Fin 4) (q : Nat) (s : State) : Host.Outcome State Fault Refusal :=
  .next (s.entryRow p win 0x2B q (s.withFields p 0x2B q [(F.OB_Q_CMD, 3)]))

/-- OB_ABORT (spec/10_obsidian_cipher.md R372). -/
def execObAbort (p : PortId) (win : Fin 4) (q : Nat) (s : State) : Host.Outcome State Fault Refusal :=
  .next (s.entryRow p win 0x2B q (s.withFields p 0x2B q [(F.OB_Q_CMD, 1)]))

/-- OB_RELEASE (spec/10_obsidian_cipher.md R372). -/
def execObRelease (p : PortId) (win : Fin 4) (q : Nat) (s : State) : Host.Outcome State Fault Refusal :=
  .next (s.entryRow p win 0x2B q (s.withFields p 0x2B q [(F.OB_Q_CMD, 2)]))

/-- MS_SUBMIT (spec/11_master_serial.md R417). -/
def execMsSubmit (p : PortId) (win : Fin 4) (word : Word) (s : State) : Host.Outcome State Fault Refusal :=
  .next (s.entryRow p win 0x3F 24 word)

/-- MS_ABORT (spec/11_master_serial.md R422). -/
def execMsAbort (p : PortId) (win : Fin 4) (q : Nat) (s : State) : Host.Outcome State Fault Refusal :=
  .next (s.entryRow p win 0x3F (8 + q) (s.withFields p 0x3F (8 + q) [(F.MS_E_CMD, 1)]))

/-- MS_RELEASE (spec/11_master_serial.md R421). -/
def execMsRelease (p : PortId) (win : Fin 4) (q : Nat) (s : State) : Host.Outcome State Fault Refusal :=
  .next (s.entryRow p win 0x3F (8 + q) (s.withFields p 0x3F (8 + q) [(F.MS_E_CMD, 2)]))

/-- TAG_ALLOW: a commit to the first entry of a tag's pair (spec/12_radio_coordinator.md R445). -/
def execTagAllow (p : PortId) (win : Fin 4) (pair : Nat) (word : Word) (s : State) : Host.Outcome State Fault Refusal :=
  .next (s.entryRow p win 0x34 (2 * pair) (F.RC_TAG_CMD.into 1 word))

/-- TAG_FREE (spec/12_radio_coordinator.md R466). -/
def execTagFree (p : PortId) (win : Fin 4) (pair : Nat) (s : State) : Host.Outcome State Fault Refusal :=
  .next (s.entryRow p win 0x34 (2 * pair) (s.withFields p 0x34 (2 * pair) [(F.RC_TAG_CMD, 2)]))

/-- RADIO_TX_SUBMIT (spec/12_radio_coordinator.md R451). -/
def execRadioTxSubmit (p : PortId) (win : Fin 4) (word : Word) (s : State) : Host.Outcome State Fault Refusal :=
  .next (s.entryRow p win 0x35 8 word)

/-- RADIO_TX_ABORT (spec/12_radio_coordinator.md R466). -/
def execRadioTxAbort (p : PortId) (win : Fin 4) (q : Nat) (s : State) : Host.Outcome State Fault Refusal :=
  .next (s.entryRow p win 0x35 q (s.withFields p 0x35 q [(F.RC_TXQ_CMD, 1)]))

/-- RADIO_TX_RELEASE (spec/12_radio_coordinator.md R476). -/
def execRadioTxRelease (p : PortId) (win : Fin 4) (q : Nat) (s : State) : Host.Outcome State Fault Refusal :=
  .next (s.entryRow p win 0x35 q (s.withFields p 0x35 q [(F.RC_TXQ_CMD, 2)]))

/-- RADIO_RX_RELEASE (spec/12_radio_coordinator.md R449). -/
def execRadioRxRelease (p : PortId) (win : Fin 4) (buf : Nat) (s : State) : Host.Outcome State Fault Refusal :=
  .next (s.entryRow p win 0x36 (8 + 9 * buf) (s.withFields p 0x36 (8 + 9 * buf) [(F.RC_RX_RELEASE, 1)]))

/-- OPT_SUBMIT (spec/13_optical_ports.md R490). -/
def execOptSubmit (p : PortId) (win : Fin 4) (n : Fin 2) (word : Word) (s : State) : Host.Outcome State Fault Refusal :=
  .next (s.entryRow p win 0x3B (32 * n.val + 16) word)

/-- OPT_PAYLOAD_COMMIT (spec/13_optical_ports.md R490). -/
def execOptPayloadCommit (p : PortId) (win : Fin 4) (n : Fin 2) (buf : Fin 4) (word : Word) (s : State) :
    Host.Outcome State Fault Refusal := .next (s.entryRow p win 0x3B (32 * n.val + 2 * buf.val + 1) word)

/-- OPT_CELL_ABORT (spec/13_optical_ports.md R490). -/
def execOptCellAbort (p : PortId) (win : Fin 4) (n : Fin 2) (buf : Fin 4) (s : State) : Host.Outcome State Fault Refusal :=
  let e := 32 * n.val + 2 * buf.val
  .next (s.entryRow p win 0x3B e (s.withFields p 0x3B e [(F.OP_CELL_CMD, 1)]))

/-- OPT_RX_RELEASE (spec/13_optical_ports.md R491). -/
def execOptRxRelease (p : PortId) (win : Fin 4) (n : Fin 2) (buf : Fin 4) (s : State) : Host.Outcome State Fault Refusal :=
  let e := 32 * n.val + 8 + 2 * buf.val
  .next (s.entryRow p win 0x3B e (s.withFields p 0x3B e [(F.OP_CELL_RELEASE, 1)]))

/-- SF_LOAD: a commit with LOAD = 1 to a channel's control entry (spec/14_sensor_front_end.md R530). -/
def execSfLoad (p : PortId) (win : Fin 4) (n : Fin 4) (word : Word) (s : State) : Host.Outcome State Fault Refusal :=
  .next (s.entryRow p win 0x3C (6 + n.val) (F.SF_CTL_LOAD.into 1 word))

/-- SINTER_SUBMIT (spec/16_power_start_sinter.md R604). -/
def execSinterSubmit (p : PortId) (win : Fin 4) (word : Word) (s : State) : Host.Outcome State Fault Refusal :=
  .next (s.entryRow p win 0x07 5 word)

/-- SINTER_ABORT (spec/16_power_start_sinter.md R604). -/
def execSinterAbort (p : PortId) (win : Fin 4) (q : Nat) (s : State) : Host.Outcome State Fault Refusal :=
  .next (s.entryRow p win 0x07 q (s.withFields p 0x07 q [(F.PW_SINTER_CMD, 1)]))

/-- SINTER_RELEASE (spec/16_power_start_sinter.md R604). -/
def execSinterRelease (p : PortId) (win : Fin 4) (q : Nat) (s : State) : Host.Outcome State Fault Refusal :=
  .next (s.entryRow p win 0x07 q (s.withFields p 0x07 q [(F.PW_SINTER_CMD, 2)]))

end Sys2Proof.Machine
end

