-- ==== Sys2Proof/Machine/Boundary.lean ====
section
/-! DEFINITION. Half-cycle and cycle boundaries, and the event arbiter (spec/04_geyser_time_base.md R120, R121, R127,
R148, spec/03_units_events.md R89 to R97). -/

namespace Sys2Proof.Machine

open Sys2Proof

/-! Boundaries. -/

/-- The kernel windows move with the slot grid (spec/04_geyser_time_base.md R121, R138). -/
def State.ascShift (s : State) (old new : Nat) : State :=
  (List.range 56).foldl (fun s e =>
    if s.b F.ASCHED_VALID e ∧ s.g F.ASCHED_KIND e = 1 then
      s.p F.ASCHED_START e ((s.g F.ASCHED_START e + 65536 + new - old % 65536) % 65536)
    else s) s

/-- A cycle boundary: GRID_OFFSET, CYCLE load, OBS of the learner, low-rate excitation, and at a beacon boundary the
ages and Caldera's counts (spec/04_geyser_time_base.md R121, R127, R148, spec/07_line_learning.md R253, R260,
spec/14_sensor_front_end.md R538, spec/09_caldera_jobs.md R333). -/
def State.cycleBoundary (s : State) : State :=
  let s := s.modGy (fun g => { g with cycDone := BitVec.ofNat 32 s.cycle })
  let old := s.gy.grid
  let s := s.llCycle.gyCycle
  let s := if s.gy.grid = old then s else (s.ascShift old s.gy.grid).llGrid
  let s := s.sfCycle
  if s.cycle % 256 = 0 then s.llBeacon.cjBeacon else s

/-- Own map, common map and LA_CFG that wait for a half-cycle boundary with no frame in progress
(spec/05_line_signal.md R182, spec/06_line_access.md R213, spec/07_line_learning.md R257). -/
def State.lineWaits (s : State) : State :=
  let s := s.lsApplyCommon.lnApplyCfg
  if s.ll.own.isSome && !s.frameNow && !stampLater (s.ll.actCycle.toNat * 65536) s.stamp48 then s.llApplyOwn else s

/-- A forced substate that waits for a half-cycle boundary takes effect (spec/03_units_events.md R88, Table UE-3). -/
def State.forceDue (s : State) (u : Src) : State :=
  match (s.mirror u).pend with
  | some a => if s.isOn u then s.applyForce u a else s
  | none => s

/-- A grid half-cycle boundary: every change that waits for one takes effect (spec/04_geyser_time_base.md R120). -/
def State.halfBoundary (s : State) : State :=
  let s := s.modGy (fun g => { g with hcDone := s.hcIndex })
  let s := s.lnHalf.gyHalf.cjHalf.llHalf.lineWaits
  (s.forceDue .line).forceDue .loop

/-- Time passes to the next cycle boundary; none passes when one has come and not been taken up. -/
def State.nextCycle (s : State) : State :=
  if s.cycle % 2 ^ 32 = s.gy.cycDone.toNat then s.advanceFrac (s.fracTo 0 65536) else s

/-- Time passes to the next grid half-cycle boundary; none passes when one has come and not been taken up. -/
def State.nextHalfCycle (s : State) : State :=
  if s.hcIndex = s.gy.hcDone then s.advanceFrac (s.fracTo s.gy.grid 32768) else s

/-- CYCLE_BOUNDARY: ANGLE passes from 65,535 to 0 (spec/04_geyser_time_base.md R127). -/
def execCycleBoundary (s : State) : Host.Outcome State Fault Refusal := .next s.nextCycle.cycleBoundary

/-- HALF_CYCLE_BOUNDARY: the stamp reaches a grid half-cycle boundary; a cycle boundary of the same core tick comes first
(spec/04_geyser_time_base.md R120, R148). -/
def execHalfCycleBoundary (s : State) : Host.Outcome State Fault Refusal :=
  let s := s.nextHalfCycle
  let s := if s.cycle % 2 ^ 32 ≠ s.gy.cycDone.toNat ∧ s.onMark 0 65536 then s.cycleBoundary else s
  .next s.halfBoundary

/-! The arbiter. -/

/-- Sources in the order of their priority, highest first (spec/03_units_events.md Table UE-4). -/
def arbOrder : List Src :=
  [.gov, .gy, .obs, .line, .opt1, .opt2, .radio, .loop, .sens, .cald, .msp, .rng, .sinter, .host, .arb]

/-- The sources that present an event at this core tick, in priority order. -/
def State.presented (s : State) : List Src :=
  arbOrder.filter (fun u => !(vget s.src u.idx).q.isEmpty && decide ((vget s.src u.idx).since ≤ s.tick))

/-- The source granted at this core tick: the longest presented among those presented for 48 core ticks or more, else the
highest priority (spec/03_units_events.md R89). -/
def State.arbPick (s : State) : Option Src :=
  let old := s.presented.filter (fun u => decide ((vget s.src u.idx).since + 48 ≤ s.tick))
  let first (a : Option Src) (u : Src) : Option Src :=
    match a with
    | none => some u
    | some v => if (vget s.src u.idx).since < (vget s.src v.idx).since then some u else some v
  match old.foldl first none with
  | some u => some u
  | none => s.presented.head?

/-- The record of an event, less SEQ and AFTER_LOSS (spec/03_units_events.md R90, R111, Table UE-10). -/
def State.record (s : State) (u : Src) (e : Ev) : Word :=
  BitVec.ofNat 128 (
    (if e.common then 0 else e.tenant) % 64 * 2 ^ 106 + e.sev % 4 * 2 ^ 104 + u.code * 2 ^ 96 + e.code % 256 * 2 ^ 88
    + s.cycle % 2 ^ 32 * 2 ^ 56 + s.angle * 2 ^ 40 + b2n e.common * 2 ^ 34 + b2n s.timeUnlocked * 2 ^ 32 + e.arg % 2 ^ 32)

/-- The views that admit an event (spec/03_units_events.md R91, R101). -/
def State.admits (s : State) (u : Src) (e : Ev) : List Nat :=
  if u = .arb then [e.tenant].filter s.enabled
  else if e.common then
    (List.range 64).filter (fun t =>
      s.enabled t && ((bitOf (s.g F.EVSUB_SUB t) u.idx && decide (s.g F.EVSUB_SEV_MIN t ≤ e.sev)) || (t == 0 && e.sev == 3)))
  else if s.enabled e.tenant then [e.tenant]
  else [0]

/-- A record is admitted to a view: it takes the next SEQ, and is stored or, when the log is full, lost
(spec/03_units_events.md R92, R97). -/
def View.enter (w : Word) (sev : Nat) (v : View) : View :=
  if 64 ≤ v.log.length then
    { v with seq := v.seq + 1, lost := if v.lost = 0xFFFF then v.lost else v.lost + 1, pend := v.pend ||| 0x10,
             afterLoss := true }
  else
    let w := (w ||| (v.seq.setWidth 128 <<< 112)) ||| (if v.afterLoss then 1#128 <<< 33 else 0)
    { v with log := v.log ++ [w], seq := v.seq + 1, pend := v.pend ||| (1#5 <<< sev), afterLoss := false }

/-- A reception event is arbitrated: its buffer opens to the host (spec/01_cabinet_system.md R26). -/
def State.openBuf (s : State) (u : Src) (e : Ev) : State :=
  if 64 ≤ e.ref ∧ e.ref < 68 then
    let b := e.ref - 64
    let see (x : Buf) : Buf := { x with seen := true }
    match u with
    | .line => if e.code = 0x21 then s.modLn (fun l => { l with bufs := vmod l.bufs b see }) else s
    | .radio => if e.code = 0x13 then s.modRc (fun r => { r with bufs := vmod r.bufs b see }) else s
    | .opt1 => s.modOp 0 (fun o => { o with bufs := vmod o.bufs b see })
    | .opt2 => s.modOp 1 (fun o => { o with bufs := vmod o.bufs b see })
    | _ => s
  else s

/-- The head of a source's events is granted: records, and the source's next event is presented in the next core tick
(spec/03_units_events.md R89 to R92, R102). -/
def State.grant (s : State) (u : Src) : State :=
  match (vget s.src u.idx).q with
  | [] => s
  | e :: rest =>
    let w := s.record u e
    let views := (s.admits u e).foldl (fun vs t => vmod vs t (View.enter w (e.sev % 4))) s.views
    let live := s.granted.filter (fun g => decide (s.tick < g.tick + 49))
    let s := { s with
      views := views, src := vset s.src u.idx { q := rest, since := s.tick + 1 },
      granted := if e.ref = 0 then live else { src := u, ref := e.ref, tick := s.tick } :: live }
    s.openBuf u e

/-- The core tick at which the next event is presented, when none is yet. -/
def State.nextPresented (s : State) : Option Nat :=
  arbOrder.foldl (fun a u =>
    let x := vget s.src u.idx
    if x.q.isEmpty then a else match a with | none => some x.since | some t => some (min t x.since)) none

/-- EVENT_GRANT: the arbiter grants one event, and the core tick ends (spec/03_units_events.md R89). -/
def execEventGrant (s : State) : Host.Outcome State Fault Refusal :=
  match s.nextPresented with
  | none => .next s
  | some t =>
    let s := s.advanceTo t
    match s.arbPick with
    | some u => .next ((s.grant u).advance 1)
    | none => .next s

end Sys2Proof.Machine
end

