-- ==== Sys2Proof/Machine/Frames.lean ====
section
/-! DEFINITION. Tuichex frames on port 1: how a frame is judged and executed, and its reply (spec/02_host_access.md R46 to
R55, R62, R63, R75). -/

namespace Sys2Proof.Machine

open Sys2Proof

/-- D0 of a reply (spec/02_host_access.md R51, Table HA-5). -/
def statusHalf (o : Oc) (alive : Nat) (gap dup replayed : Bool) : Half :=
  BitVec.ofNat 16 (256 * o.code + 16 * (alive % 16) + 8 + 4 * b2n gap + 2 * b2n dup + b2n replayed)

/-- The halfwords of a reply, its CRC last (spec/02_host_access.md R51, Table HA-5). -/
def Reply.halves (r : Reply) : List Half :=
  let l := r.status :: r.body
  l ++ [crc16Halves l]

/-- What HSDO carries over a frame of `n` halfwords: the held reply, cut off or followed by zeros
(spec/02_host_access.md R51, R52). -/
def hsdoOver (n : Nat) (r : Option Reply) : List Half :=
  let l := match r with | none => [] | some x => x.halves
  (l ++ List.replicate n 0).take n

/-- The halfwords of a host frame (spec/02_host_access.md R47, Tables HA-3 and HA-4). -/
def frameHalves (op : Nat) (f : Frame) : List Half :=
  let h0 : Half := BitVec.ofNat 16
    (4096 * op + 256 * f.alive.toNat + 4 * f.tenant.toNat + 2 * b2n f.snapcont + b2n f.h0bit0)
  let h1 : Half := BitVec.ofNat 16 (4096 * f.h1top.toNat + 256 * f.rcnt.toNat + f.addr.toNat)
  let l := h0 :: h1 :: f.data
  l ++ [crc16Halves l]

/-- A frame is bad: a wrong CRC, fewer than 3 or more than 11 halfwords, or a fraction of one (spec/02_host_access.md
R48). -/
def frameBad (hws : List Half) (fraction : Bool) : Bool :=
  fraction || decide (hws.length < 3) || decide (11 < hws.length)
    || decide (crc16Halves hws.dropLast ≠ hws.getLast?.getD 0)

/-- Every access of a frame goes to this address: WINn_DATA, EVT_DATA or RNG_DATA (spec/02_host_access.md R50). -/
def fixedAddr (a : Nat) : Bool := (decide (0x10 ≤ a ∧ a < 0x30) && a % 8 == 4) || a == 0x32 || a == 0x5E

/-- The accesses of a frame: none for a read, the data for a write (spec/02_host_access.md R50). -/
def frameAccesses (op rcnt : Nat) (data : List Half) : List (Option Half) :=
  if op = 1 then List.replicate (rcnt + 1) none else if op = 2 then data.map some else []

/-- A good frame is refused as a whole (spec/02_host_access.md R49). -/
def frameIllegal (op rcnt addr : Nat) (h0bit0 : Bool) (h1top : Nat) (data : List Half) : Bool :=
  let n := (frameAccesses op rcnt data).length
  let past := if fixedAddr addr then false else decide (0x5E < addr + 2 * (n - 1))
  h0bit0 || decide (4 ≤ op) ||
    ((op == 1 || op == 2) && (h1top != 0 || addr % 2 == 1 || past || decide (0x5E < addr)))
    || (op == 1 && !data.isEmpty) || (op == 2 && (data.isEmpty || rcnt != 0))

/-- The core ticks of the accesses that a stopped frame still names (spec/02_host_access.md R50). -/
def State.restTicks (s : State) (step : Nat) : Nat → Nat → List (Option Half) → Nat
  | _, _, [] => 0
  | addr, ahead, d :: rest =>
    s.profile .p1 addr d.isSome ahead
      + s.restTicks step (addr + step) (if step = 0 then ahead + 1 else 0) rest

/-- The accesses of a frame run in order; the first refused one stops it, and the frame still takes the time of all:
outcome, accesses performed, halfwords read, state (spec/02_host_access.md R50, R51). -/
def State.frameRun (cont : Bool) (step : Nat) : Nat → List (Option Half) → State → Oc × Nat × List Half × State
  | _, [], s => (.ok, 0, [], s)
  | addr, d :: rest, s =>
    let r := s.access .p1 addr d cont
    if r.1.accepts then
      let x := State.frameRun cont step (addr + step) rest r.2.2
      (x.1, x.2.1 + 1, r.2.1 :: x.2.2.1, x.2.2.2)
    else
      (r.1, 0, 0 :: rest.map (fun _ => 0),
        r.2.2.advance (s.restTicks step (addr + step) (if step = 0 then 1 else 0) rest))

/-- The state with the frame registers of port 1 changed. -/
def State.modTux (s : State) (f : Tuichex → Tuichex) : State := { s with tux := f s.tux }

/-- The reply of a frame is held, and its execution ends (spec/02_host_access.md R51, R53). -/
def State.replyWith (s : State) (st : Half) (body : List Half) : State :=
  s.modTux (fun t => { t with held := some { status := st, body := body }, busyUntil := s.tick })

/-- A good frame that is no duplicate executes; `last` is the reply shifted out during the frame before it
(spec/02_host_access.md R49, R50, R54, R55, R63). -/
def State.frameExec (s : State) (hws : List Half) (last : Option Reply) : State :=
  let h0 := (hws.getD 0 0).toNat
  let h1 := (hws.getD 1 0).toNat
  let data := (hws.drop 2).dropLast
  let op := h0 / 4096
  let alive := h0 / 256 % 16
  let rcnt := h1 / 256 % 16
  let addr := h1 % 256
  let gap := match s.tux.alive with | none => false | some a => decide (alive ≠ (a + 1) % 16)
  let s := (s.modTux (fun t => { t with alive := some alive })).modPort .p1 (fun q => { q with ctx := h0 / 4 % 64 })
  let acc := frameAccesses op rcnt data
  let zeros : List Half := if op = 1 then acc.map (fun _ => 0) else []
  if frameIllegal op rcnt addr (bitOf h0 0) (h1 / 4096) data then
    s.replyWith (statusHalf .param alive gap false false) (if op = 1 ∨ op = 2 then 0 :: zeros else [])
  else if op = 0 then s.replyWith (statusHalf .ok alive gap false false) []
  else if op = 3 then
    match last with
    | none => s.replyWith (statusHalf .notReady alive gap false false) []
    | some r =>
      s.replyWith ((r.status &&& 0xFF00) ||| (statusHalf .ok alive gap false true)) r.body
  else
    let x := State.frameRun (bitOf h0 1) (if fixedAddr addr then 0 else 2) addr acc s
    let o : Oc := if x.1.accepts then .ok else x.1
    x.2.2.2.replyWith (statusHalf o alive gap false false)
      (BitVec.ofNat 16 x.2.1 :: (if op = 1 then x.2.2.1 else []))

/-- An early frame of `n` halfwords, or one before READY: zeros on HSDO, nothing done (spec/02_host_access.md R53,
spec/16_power_start_sinter.md R581). -/
def State.frameEarly (s : State) (n : Nat) : State :=
  s.modTux (fun t => { t with hsdo := List.replicate n 0, shifted := none })

/-- A frame of complete halfwords, with or without a fraction of one more, at the rise of HSSEL_N
(spec/02_host_access.md R46 to R55, R75). -/
def State.runFrame (s : State) (hws : List Half) (fraction : Bool) : State :=
  if !s.outOfReset || !s.dev.p1En then s
  else if !s.coreRuns || !s.dev.ready then s.frameEarly hws.length
  else
    let last := s.tux.shifted
    let s := s.modTux (fun t => { t with hsdo := hsdoOver hws.length t.held, shifted := t.held })
    let alive := (hws.getD 0 0).toNat / 256 % 16
    if frameBad hws fraction then s.replyWith (statusHalf .badFrame (s.tux.alive.getD 0) false false false) []
    else if s.tux.alive = some alive then s.replyWith (statusHalf .ok alive false true false) []
    else s.frameExec hws last

/-- HOST_FRAME_NOP (spec/02_host_access.md R47, R49). -/
def execHostFrameNop (f : Frame) (s : State) : Host.Outcome State Fault Refusal := .next (s.runFrame (frameHalves 0 f) false)

/-- HOST_FRAME_READ (spec/02_host_access.md R50). -/
def execHostFrameRead (f : Frame) (s : State) : Host.Outcome State Fault Refusal := .next (s.runFrame (frameHalves 1 f) false)

/-- HOST_FRAME_WRITE (spec/02_host_access.md R50). -/
def execHostFrameWrite (f : Frame) (s : State) : Host.Outcome State Fault Refusal := .next (s.runFrame (frameHalves 2 f) false)

/-- HOST_FRAME_REPLAY (spec/02_host_access.md R55). -/
def execHostFrameReplay (f : Frame) (s : State) : Host.Outcome State Fault Refusal :=
  .next (s.runFrame (frameHalves 3 f) false)

/-- BAD_FRAME: the halfwords clocked, and whether a fraction of one more was (spec/02_host_access.md R48). One that
breaks no rule is a good frame and acts as one. -/
def execBadFrame (hws : List Half) (fraction : Bool) (s : State) : Host.Outcome State Fault Refusal :=
  .next (s.runFrame hws fraction)

/-- EARLY_FRAME of `n` halfwords (spec/02_host_access.md R53). -/
def execEarlyFrame (n : Nat) (s : State) : Host.Outcome State Fault Refusal :=
  .next (if !s.outOfReset || !s.dev.p1En then s else s.frameEarly n)

end Sys2Proof.Machine
end

