-- ==== Sys2Proof/Machine/StartUp.lean ====
section
/-! DEFINITION. The start after reset: the order of Table PW-4, the BOOT and IMAGE records and the autostart
(spec/16_power_start_sinter.md R580 to R583, R602). -/

namespace Sys2Proof.Machine

open Sys2Proof

/-- The payload words of a live record. -/
def State.snWords (s : State) (r : SnRec) : List Word := (snPayload s.nv r.pos r.len).getD []

/-- An applied record's refusal is counted and raised (spec/16_power_start_sinter.md R582, R583). -/
def State.imgRefused (s : State) (o : Oc) (t e : Nat) : State :=
  (s.bumpSat F.SN_STAT_IMG_REFUSED 0).raiseCommon .sinter 2 0x11 (o.code * 2 ^ 24 + t % 64 * 4096 + e % 4096)

/-- The tag whose TX_FC a COUNTER key names has a place in RC_TAG. -/
def tagKey (k : Nat) : Bool := decide (1 ≤ k ∧ 2 * k ≤ tableSize 0x34)

/-- A counter resumes at its committed mark, which step 6 raises where the level permits (spec/16_power_start_sinter.md
R602). -/
def State.counterResume (s : State) (key : Nat) : State :=
  let m := s.snMark key
  let s := s.setFcMark key m
  let s := if key = 0 then s.p F.LA_STAT_TX_FC 0 m else s.p F.RC_TAG_TX_FC (2 * (key - 1) + 1) m
  if s.snAccepts then s.snRaiseMark key else s

/-- The keys of the counters that resume: the line FC, and every tag that has a COUNTER record. -/
def State.counterKeys (s : State) : List Nat :=
  0 :: ((snLive (snRecs s.nv)).filter (fun r => r.rtype == 5 && tagKey r.key)).map (·.key)

/-- Step 6: what the scan found takes force (spec/16_power_start_sinter.md R580, R602, spec/10_obsidian_cipher.md
R356). -/
def State.counterStep (s : State) : State :=
  let s := s.setProv (s.snFind 6 0 0).isNone
  s.counterKeys.foldl State.counterResume s

/-- The BOOT record in force: START mask, HP_CFG, P0 and P1 bindings (spec/16_power_start_sinter.md R582, R598). -/
def State.bootWords (s : State) : Option (Word × Word) :=
  match s.snFind 3 0 0 with
  | none => none
  | some r =>
    match s.snWords r with
    | [a, b] => some (a, b)
    | _ => none

/-- BOOT sets HP_CFG and the bindings of every tenant (spec/16_power_start_sinter.md R582). -/
def State.bootApply (s : State) (a b : Word) : State :=
  let cfg := a.bits 16 16
  let s := if cfg / 256 = 0 then s.imgRefused .param 0 0xFFF else s.hpCfgSet cfg
  let s := (List.range 64).foldl (fun s t =>
    s.ps 0x01 t [(F.TENANTS_BIND_P0, if t = 0 then 1 else b.bits t 1), (F.TENANTS_BIND_P1, a.bits (64 + t) 1)]) s
  s.modDev (fun x => { x with imgApplied := true })

/-- One entry of an IMAGE record is committed as the owner (spec/16_power_start_sinter.md R583). -/
def State.imageEntry (s : State) (t e : Nat) (w : Word) : State :=
  let r : Oc × State := if imageAllows t e then s.commitAt t e 0 w else (.param, s)
  if r.1.accepts then r.2.modDev (fun x => { x with imgApplied := true }) else r.2.imgRefused r.1 t e

/-- The entries of an IMAGE record, from entry `e`. -/
def State.imageWords (t : Nat) : Nat → List Word → State → State
  | _, [], s => s
  | e, w :: rest, s => State.imageWords t (e + 1) rest (s.imageEntry t e w)

/-- A record put before the first one with a higher KEY. -/
def keyInsert (r : SnRec) : List SnRec → List SnRec
  | [] => [r]
  | x :: t => if r.key ≤ x.key then r :: x :: t else x :: keyInsert r t

/-- The IMAGE records in ascending KEY order (spec/16_power_start_sinter.md R583). -/
def State.images (s : State) : List SnRec :=
  ((snLive (snRecs s.nv)).filter (fun r => r.rtype == 2)).foldr keyInsert []

/-- Step 7 (spec/16_power_start_sinter.md R580, R582, R583). -/
def State.imageStep (s : State) : State :=
  let s := match s.bootWords with | none => s | some (a, b) => s.bootApply a b
  s.images.foldl (fun s r => State.imageWords (r.key / 4096) (r.key % 4096) (s.snWords r) s) s

/-- The autostart order (spec/16_power_start_sinter.md R582). -/
def startOrder : List Src := [.obs, .cald, .msp, .line, .radio, .opt1, .opt2, .sens, .loop]

/-- The START mask in force (spec/16_power_start_sinter.md R582). -/
def State.startMask (s : State) : Nat :=
  match s.bootWords with
  | some (a, _) => a.bits 0 16
  | none => 2 ^ Src.obs.code + 2 ^ Src.cald.code

/-- Step 8: READY, the watchdog, the records that wait for READY, and the autostart in consecutive core ticks
(spec/16_power_start_sinter.md R580, R582, R587, R600, spec/02_host_access.md R68). -/
def State.readyStep (s : State) : State :=
  let s := s.modDev (fun x => { x with
    ready := true, phase := .ready, wdogEnd := some (s.tick + x.wdogPer * 100 * msTicks) })
  let s := s.snScanEvent
  let s := if s.dev.cause = 6 then s.raiseCommon .gov 1 0x13 (s.g F.PW_EMBER_WAKE_CAUSE 1) else s
  (startOrder.filter (fun u => bitOf s.startMask u.code)).foldl (fun s u => (s.autoStart u).advance 1) s

/-- Ember is read (spec/16_power_start_sinter.md R580, R584). -/
def State.emberRead (s : State) : State :=
  let ok := !s.dev.emberLost
  let s := s.ps 0x06 1 [(F.PW_EMBER_LAST_RESET, s.dev.cause), (F.PW_EMBER_EMB_VALID, b2n ok)]
  (if ok then s.bump F.PW_EMBER_PUC 1 else s).modDev (fun x => { x with emberLost := false })

/-- The step of the start that is taken next has been waited for: GOV's start for step 4, SINTER's scan for step 6. -/
def State.startWaits (s : State) : Bool :=
  (s.dev.step == 3 && s.st .gov == .starting) || (s.dev.step == 5 && s.st .sinter == .starting)

/-- A step of the start by its number, taken at its time in Table PW-4 (spec/16_power_start_sinter.md R580). -/
def State.startStep (s : State) (k : Nat) : State :=
  let at_ (us : Nat) : State := s.advanceTo (s.dev.released + us * msTicks / 1000)
  match k with
  | 0 => at_ 5000
  | 1 => s.emberRead
  | 2 => s.unitBegin .gov
  | 3 => ((at_ 6000).unitBegin .gy).unitBegin .rng
  | 4 => s.unitBegin .sinter
  | 5 => (at_ 9100).counterStep
  | 6 => (at_ 11000).imageStep
  | _ => s.readyStep

/-- START_UP: the next step of the start after reset (spec/16_power_start_sinter.md R580, Table PW-4). -/
def execStartUp (s : State) : Host.Outcome State Fault Refusal :=
  if s.dev.phase ≠ .starting ∨ s.startWaits then .next s
  else .next ((s.startStep s.dev.step).modDev (fun x => { x with step := s.dev.step + 1 }))

end Sys2Proof.Machine
end

