-- ==== Sys2Proof/Machine/Dispatch.lean ====
section
/-! DEFINITION. The dispatch: one arm for each command, each a call of its meaning. -/

namespace Sys2Proof.Machine

open Sys2Proof

/-- The effect of a command on everything but the queue. -/
def exec (i : Instr) (s : State) : Host.Outcome State Fault Refusal :=
  match i with
  | .registerWrite p addr data => Sys2Proof.Machine.execRegisterWrite p addr data s
  | .undefinedAddressAccess addr write => Sys2Proof.Machine.execUndefinedAddressAccess addr write s
  | .hostFrameNop f => Sys2Proof.Machine.execHostFrameNop f s
  | .hostFrameRead f => Sys2Proof.Machine.execHostFrameRead f s
  | .hostFrameWrite f => Sys2Proof.Machine.execHostFrameWrite f s
  | .hostFrameReplay f => Sys2Proof.Machine.execHostFrameReplay f s
  | .badFrame hws fraction => Sys2Proof.Machine.execBadFrame hws fraction s
  | .earlyFrame n => Sys2Proof.Machine.execEarlyFrame n s
  | .winSelWrite p win data => Sys2Proof.Machine.execWinSelWrite p win data s
  | .winIdxWrite p win data => Sys2Proof.Machine.execWinIdxWrite p win data s
  | .winDataRead p win => Sys2Proof.Machine.execWinDataRead p win s
  | .winDataWrite p win data => Sys2Proof.Machine.execWinDataWrite p win data s
  | .winCommit p win data => Sys2Proof.Machine.execWinCommit p win data s
  | .tenantEnable p win t label => Sys2Proof.Machine.execTenantEnable p win t label s
  | .tenantDisable p win t label => Sys2Proof.Machine.execTenantDisable p win t label s
  | .hpBindWrite p data => Sys2Proof.Machine.execHpBindWrite p data s
  | .hpCfgWrite p data => Sys2Proof.Machine.execHpCfgWrite p data s
  | .hostWdogKick p data => Sys2Proof.Machine.execHostWdogKick p data s
  | .hostLost => Sys2Proof.Machine.execHostLost s
  | .unitStart p check => Sys2Proof.Machine.execUnitStart p check s
  | .unitStop p check => Sys2Proof.Machine.execUnitStop p check s
  | .unitReset p check => Sys2Proof.Machine.execUnitReset p check s
  | .unitForce p check arg => Sys2Proof.Machine.execUnitForce p check arg s
  | .forceBoundary u => Sys2Proof.Machine.execForceBoundary u s
  | .startStepsDone u => Sys2Proof.Machine.execStartStepsDone u s
  | .stopStepsDone u => Sys2Proof.Machine.execStopStepsDone u s
  | .startStepFail u claim => Sys2Proof.Machine.execStartStepFail u claim s
  | .unitStateRead p => Sys2Proof.Machine.execUnitStateRead p s
  | .eventGrant => Sys2Proof.Machine.execEventGrant s
  | .evtDataRead p => Sys2Proof.Machine.execEvtDataRead p s
  | .evtPop p => Sys2Proof.Machine.execEvtPop p s
  | .evtLostRead p => Sys2Proof.Machine.execEvtLostRead p s
  | .irqClr p data => Sys2Proof.Machine.execIrqClr p data s
  | .claim p => Sys2Proof.Machine.execClaim p s
  | .release p => Sys2Proof.Machine.execRelease p s
  | .zcEdge inp ago => Sys2Proof.Machine.execZcEdge inp ago s
  | .zcMissedTimeout inp => Sys2Proof.Machine.execZcMissedTimeout inp s
  | .acqMaxExpire => Sys2Proof.Machine.execAcqMaxExpire s
  | .holdMaxExpire => Sys2Proof.Machine.execHoldMaxExpire s
  | .netTimeTimeout => Sys2Proof.Machine.execNetTimeTimeout s
  | .halfCycleBoundary => Sys2Proof.Machine.execHalfCycleBoundary s
  | .gyRealign p gen check => Sys2Proof.Machine.execGyRealign p gen check s
  | .gyRelearn p gen check => Sys2Proof.Machine.execGyRelearn p gen check s
  | .gySnapRead p => Sys2Proof.Machine.execGySnapRead p s
  | .cmp c => Sys2Proof.Machine.execCmp c s
  | .cmpPulseEnd c => Sys2Proof.Machine.execCmpPulseEnd c s
  | .agcStep ch peak => Sys2Proof.Machine.execAgcStep ch peak s
  | .commonMapApply => Sys2Proof.Machine.execCommonMapApply s
  | .lineTxSubmit p win word => Sys2Proof.Machine.execLineTxSubmit p win word s
  | .lineGrant => Sys2Proof.Machine.execLineGrant s
  | .lineStageCheck => Sys2Proof.Machine.execLineStageCheck s
  | .lineTxAbort p win q => Sys2Proof.Machine.execLineTxAbort p win q s
  | .lineContend idle pw cw => Sys2Proof.Machine.execLineContend idle pw cw s
  | .lineOriginHalfCycle => Sys2Proof.Machine.execLineOriginHalfCycle s
  | .lineAttemptEnd ack => Sys2Proof.Machine.execLineAttemptEnd ack s
  | .lineHeaderRx header burst back ago copy lq => Sys2Proof.Machine.execLineHeaderRx header burst back ago copy lq s
  | .lineFrameRx bits => Sys2Proof.Machine.execLineFrameRx bits s
  | .lineAckTx => Sys2Proof.Machine.execLineAckTx s
  | .lineRelayCopy tiers pw slots => Sys2Proof.Machine.execLineRelayCopy tiers pw slots s
  | .lineRxRelease p win buf => Sys2Proof.Machine.execLineRxRelease p win buf s
  | .beaconQueue => Sys2Proof.Machine.execBeaconQueue s
  | .beaconRx bits t ago => Sys2Proof.Machine.execBeaconRx bits t ago s
  | .laCfgApply => Sys2Proof.Machine.execLaCfgApply s
  | .bucketRefill => Sys2Proof.Machine.execBucketRefill s
  | .resume p gen check => Sys2Proof.Machine.execResume p gen check s
  | .alarmCredit => Sys2Proof.Machine.execAlarmCredit s
  | .dormant p gen check arg => Sys2Proof.Machine.execDormant p gen check arg s
  | .wake p gen check => Sys2Proof.Machine.execWake p gen check s
  | .dormantProposeRx bits => Sys2Proof.Machine.execDormantProposeRx bits s
  | .cancelRx bits => Sys2Proof.Machine.execCancelRx bits s
  | .dormantCommit => Sys2Proof.Machine.execDormantCommit s
  | .wakeDetect n => Sys2Proof.Machine.execWakeDetect n s
  | .learnReady => Sys2Proof.Machine.execLearnReady s
  | .proposal => Sys2Proof.Machine.execProposal s
  | .llApprove p win word => Sys2Proof.Machine.execLlApprove p win word s
  | .ownMapCommit p win e word => Sys2Proof.Machine.execOwnMapCommit p win e word s
  | .llClear p win word => Sys2Proof.Machine.execLlClear p win word s
  | .ownMapApply => Sys2Proof.Machine.execOwnMapApply s
  | .mapRepeat => Sys2Proof.Machine.execMapRepeat s
  | .nbrMap bits => Sys2Proof.Machine.execNbrMap bits s
  | .nbrMapStale n => Sys2Proof.Machine.execNbrMapStale n s
  | .cjSubmit p win word => Sys2Proof.Machine.execCjSubmit p win word s
  | .cjJobChoose => Sys2Proof.Machine.execCjJobChoose s
  | .cjJobDone => Sys2Proof.Machine.execCjJobDone s
  | .cjPreempt => Sys2Proof.Machine.execCjPreempt s
  | .cjBudgetCap => Sys2Proof.Machine.execCjBudgetCap s
  | .cjAbort p win q => Sys2Proof.Machine.execCjAbort p win q s
  | .cjRelease p win q => Sys2Proof.Machine.execCjRelease p win q s
  | .cjPageCommit p win page word => Sys2Proof.Machine.execCjPageCommit p win page word s
  | .kernelWindowOpen e => Sys2Proof.Machine.execKernelWindowOpen e s
  | .kernelWindowEnd e => Sys2Proof.Machine.execKernelWindowEnd e s
  | .kernelDone d => Sys2Proof.Machine.execKernelDone d s
  | .ecc word uncorr => Sys2Proof.Machine.execEcc word uncorr s
  | .scrub => Sys2Proof.Machine.execScrub s
  | .obLoad p win slot usage persist klen => Sys2Proof.Machine.execObLoad p win slot usage persist klen s
  | .obUnwrap p win slot usage persist klen kek => Sys2Proof.Machine.execObUnwrap p win slot usage persist klen kek s
  | .obGenerate p win slot usage persist klen => Sys2Proof.Machine.execObGenerate p win slot usage persist klen s
  | .obErase p win slot => Sys2Proof.Machine.execObErase p win slot s
  | .obRestrict p win slot usage => Sys2Proof.Machine.execObRestrict p win slot usage s
  | .slotCmdDone slot => Sys2Proof.Machine.execSlotCmdDone slot s
  | .obPlace p win word => Sys2Proof.Machine.execObPlace p win word s
  | .obGo p win q => Sys2Proof.Machine.execObGo p win q s
  | .obJobChoose => Sys2Proof.Machine.execObJobChoose s
  | .obInlineJob port x => Sys2Proof.Machine.execObInlineJob port x s
  | .obPreempt => Sys2Proof.Machine.execObPreempt s
  | .obJobDone fault => Sys2Proof.Machine.execObJobDone fault s
  | .obAbort p win q => Sys2Proof.Machine.execObAbort p win q s
  | .obRelease p win q => Sys2Proof.Machine.execObRelease p win q s
  | .provClose p gen check => Sys2Proof.Machine.execProvClose p gen check s
  | .zeroize p gen check arg => Sys2Proof.Machine.execZeroize p gen check arg s
  | .reseed p gen check => Sys2Proof.Machine.execReseed p gen check s
  | .rngSample bit line => Sys2Proof.Machine.execRngSample bit line s
  | .rngReady kat => Sys2Proof.Machine.execRngReady kat s
  | .rngPoolAdd => Sys2Proof.Machine.execRngPoolAdd s
  | .drbgReseed => Sys2Proof.Machine.execDrbgReseed s
  | .rngDataRead p => Sys2Proof.Machine.execRngDataRead p s
  | .msSubmit p win word => Sys2Proof.Machine.execMsSubmit p win word s
  | .msEntryStart => Sys2Proof.Machine.execMsEntryStart s
  | .msReadyPoint wait miso => Sys2Proof.Machine.execMsReadyPoint wait miso s
  | .rdyTimeout => Sys2Proof.Machine.execRdyTimeout s
  | .msEntryDone => Sys2Proof.Machine.execMsEntryDone s
  | .msAbort p win q => Sys2Proof.Machine.execMsAbort p win q s
  | .msRelease p win q => Sys2Proof.Machine.execMsRelease p win q s
  | .rfIrq asserted => Sys2Proof.Machine.execRfIrq asserted s
  | .rfSfd ago => Sys2Proof.Machine.execRfSfd ago s
  | .rfFault => Sys2Proof.Machine.execRfFault s
  | .hopSlotStart => Sys2Proof.Machine.execHopSlotStart s
  | .beaconTx => Sys2Proof.Machine.execBeaconTx s
  | .radioFrameRx => Sys2Proof.Machine.execRadioFrameRx s
  | .radioAckTx => Sys2Proof.Machine.execRadioAckTx s
  | .joinRspTx => Sys2Proof.Machine.execJoinRspTx s
  | .tagAllow p win pair word => Sys2Proof.Machine.execTagAllow p win pair word s
  | .tagFree p win pair => Sys2Proof.Machine.execTagFree p win pair s
  | .joinOpen p gen check arg => Sys2Proof.Machine.execJoinOpen p gen check arg s
  | .joinOpenExpire => Sys2Proof.Machine.execJoinOpenExpire s
  | .rfReset p gen check => Sys2Proof.Machine.execRfReset p gen check s
  | .radioTxSubmit p win word => Sys2Proof.Machine.execRadioTxSubmit p win word s
  | .radioGrant => Sys2Proof.Machine.execRadioGrant s
  | .radioDeadline => Sys2Proof.Machine.execRadioDeadline s
  | .radioAnswerTx => Sys2Proof.Machine.execRadioAnswerTx s
  | .emptyAnswer => Sys2Proof.Machine.execEmptyAnswer s
  | .radioAnswerAckTimeout => Sys2Proof.Machine.execRadioAnswerAckTimeout s
  | .wakeUpCall => Sys2Proof.Machine.execWakeUpCall s
  | .radioTxEnd => Sys2Proof.Machine.execRadioTxEnd s
  | .budgetBinTurn duty b => Sys2Proof.Machine.execBudgetBinTurn duty b s
  | .radioTxAbort p win q => Sys2Proof.Machine.execRadioTxAbort p win q s
  | .radioTxRelease p win q => Sys2Proof.Machine.execRadioTxRelease p win q s
  | .radioRxRelease p win buf => Sys2Proof.Machine.execRadioRxRelease p win buf s
  | .radioDormant => Sys2Proof.Machine.execRadioDormant s
  | .optCellTx n mpd => Sys2Proof.Machine.execOptCellTx n mpd s
  | .timeCellDue n => Sys2Proof.Machine.execTimeCellDue n s
  | .optCellRx n cell ago => Sys2Proof.Machine.execOptCellRx n cell ago s
  | .optSubmit p win n word => Sys2Proof.Machine.execOptSubmit p win n word s
  | .optPayloadCommit p win n buf word => Sys2Proof.Machine.execOptPayloadCommit p win n buf word s
  | .optCellAbort p win n buf => Sys2Proof.Machine.execOptCellAbort p win n buf s
  | .optRxRelease p win n buf => Sys2Proof.Machine.execOptRxRelease p win n buf s
  | .laserFail n cause => Sys2Proof.Machine.execLaserFail n cause s
  | .calWindowStart n => Sys2Proof.Machine.execCalWindowStart n s
  | .calDone n mpd => Sys2Proof.Machine.execCalDone n mpd s
  | .los n set => Sys2Proof.Machine.execLos n set s
  | .alsPulse n => Sys2Proof.Machine.execAlsPulse n s
  | .alsPulseEnd n => Sys2Proof.Machine.execAlsPulseEnd n s
  | .optRestart p n gen check => Sys2Proof.Machine.execOptRestart p n gen check s
  | .optTest p n gen check arg => Sys2Proof.Machine.execOptTest p n gen check arg s
  | .calibrate p n gen check arg => Sys2Proof.Machine.execCalibrate p n gen check arg s
  | .clear p n gen check arg => Sys2Proof.Machine.execClear p n gen check arg s
  | .pwrAvgUpdate n mean => Sys2Proof.Machine.execPwrAvgUpdate n mean s
  | .sinc3Output n x ovl iexc => Sys2Proof.Machine.execSinc3Output n x ovl iexc s
  | .cycleWindowEnd n x ovl iexc => Sys2Proof.Machine.execCycleWindowEnd n x ovl iexc s
  | .auxConversion x ovl => Sys2Proof.Machine.execAuxConversion x ovl s
  | .sfChangeApply n x ovl => Sys2Proof.Machine.execSfChangeApply n x ovl s
  | .excTrip n cause => Sys2Proof.Machine.execExcTrip n cause s
  | .excRestore n => Sys2Proof.Machine.execExcRestore n s
  | .sfLoad p win n word => Sys2Proof.Machine.execSfLoad p win n word s
  | .impCheckDue n => Sys2Proof.Machine.execImpCheckDue n s
  | .impCheckStart => Sys2Proof.Machine.execImpCheckStart s
  | .impResult vsn iexc ad => Sys2Proof.Machine.execImpResult vsn iexc ad s
  | .impCheck p gen check arg => Sys2Proof.Machine.execImpCheck p gen check arg s
  | .lowRate => Sys2Proof.Machine.execLowRate s
  | .loopUpdate imeas vh => Sys2Proof.Machine.execLoopUpdate imeas vh s
  | .loopSrc => Sys2Proof.Machine.execLoopSrc s
  | .powerOnReset inRange kept test aon => Sys2Proof.Machine.execPowerOnReset inRange kept test aon s
  | .resetN low => Sys2Proof.Machine.execResetN low s
  | .clockFail => Sys2Proof.Machine.execClockFail s
  | .x32Fail => Sys2Proof.Machine.execX32Fail s
  | .startUp => Sys2Proof.Machine.execStartUp s
  | .rail r bad => Sys2Proof.Machine.execRail r bad s
  | .govSample mean feed hold => Sys2Proof.Machine.execGovSample mean feed hold s
  | .pfailN low => Sys2Proof.Machine.execPfailN low s
  | .govLevelFall => Sys2Proof.Machine.execGovLevelFall s
  | .govLevelRise => Sys2Proof.Machine.execGovLevelRise s
  | .black => Sys2Proof.Machine.execBlack s
  | .thermal t => Sys2Proof.Machine.execThermal t s
  | .hibernate p gen check arg => Sys2Proof.Machine.execHibernate p gen check arg s
  | .hibernateTimeout => Sys2Proof.Machine.execHibernateTimeout s
  | .floor p gen check arg => Sys2Proof.Machine.execFloor p gen check arg s
  | .blackHoldExpire => Sys2Proof.Machine.execBlackHoldExpire s
  | .wakeSource w => Sys2Proof.Machine.execWakeSource w s
  | .door level => Sys2Proof.Machine.execDoor level s
  | .rtcAlarm => Sys2Proof.Machine.execRtcAlarm s
  | .pwEmberCommit => Sys2Proof.Machine.execPwEmberCommit s
  | .sinterSubmit p win word => Sys2Proof.Machine.execSinterSubmit p win word s
  | .sinterTxnStart => Sys2Proof.Machine.execSinterTxnStart s
  | .sinterTxnDone => Sys2Proof.Machine.execSinterTxnDone s
  | .sinterAbort p win q => Sys2Proof.Machine.execSinterAbort p win q s
  | .sinterRelease p win q => Sys2Proof.Machine.execSinterRelease p win q s
  | .counterRaise key => Sys2Proof.Machine.execCounterRaise key s
  | .compaction => Sys2Proof.Machine.execCompaction s
  | .compact p gen check => Sys2Proof.Machine.execCompact p gen check s
  | .tapInstruction code => Sys2Proof.Machine.execTapInstruction code s
  | .cycleBoundary => Sys2Proof.Machine.execCycleBoundary s
  | .hostReservationWindow r opens => Sys2Proof.Machine.execHostReservationWindow r opens s
  | .scriptDelay => Sys2Proof.Machine.execScriptDelay s
  | .txEndTimeout => Sys2Proof.Machine.execTxEndTimeout s
  | .railBadPersist r => Sys2Proof.Machine.execRailBadPersist r s

end Sys2Proof.Machine
end

