-- ==== Sys2Proof/Safety.lean ====
section
/-! DEFINITION. The terms the statements use: the invariant of the state (the two sparse stores keep their canonical form,
no event log holds more than its 64 records), which commands a part of the state belongs to, what an access a port serves
leaves, and what a reset leaves. -/

namespace Sys2Proof.Machine

open Sys2Proof

/-- The canonical form of the Sinter array: positions strictly rising, each within the array
(spec/16_power_start_sinter.md R596). -/
def nvWf (l : List (Nat × Word)) : Bool := Sparse.rising l && l.all (fun p => decide (p.1 < nvSize))

/-- Every event log holds at most 64 records (spec/03_units_events.md R92). -/
def logsWf (v : Vector View 64) : Prop := ∀ t : Nat, (vget v t).log.length ≤ 64

/-- The window-table store and the Sinter array are in canonical form, and no event log is overfull. -/
def State.wf (s : State) : Prop := cellsWf s.cells = true ∧ nvWf s.nv = true ∧ logsWf s.views

/-- A port serves an access that takes `n` core ticks: the device is READY, the port takes accesses, the acting tenant is
enabled (and on port 1 bound), and the watchdog count does not run out within them (spec/02_host_access.md R42, R63, R69,
R75, spec/16_power_start_sinter.md R581). -/
def State.serves (s : State) (p : PortId) (n : Nat) : Bool :=
  s.coreRuns && s.dev.ready && s.enabled (s.acting p)
    && (p == .p0 || (s.dev.p1En && s.b F.TENANTS_BIND_P1 (s.acting p)))
    && (match s.dev.wdogEnd with | none => true | some t => Nat.ble (s.tick + n) t)

/-- What an access that took `n` core ticks leaves in its port, once its effect `y` stands: ACC_STAT with outcome `o`, the
data of a read, and the last core tick of its profile (spec/02_host_access.md R42, R44, R78). -/
def State.ended (y : State) (p : PortId) (addr : Nat) (o : Oc) (hd : Option Half) : State := (y.noted p addr o hd).advance 1

/-- The state in which the commit of word `w` to entry `e` of table `t` through window `n` takes effect, in the last core
tick of the access that writes halfword 7 (spec/02_host_access.md R42, R59). -/
def State.committing (s : State) (p : PortId) (n : Fin 4) (t e : Nat) (w : Word) : State :=
  (State.advance 47 (s.stage p n.val t e w)).modWin p n.val (fun x => { x with staging := none })

/-- What a commit through window `n` that ended with outcome `o` leaves, once its effect `y` stands: the outcome in
WINn_STAT and ACC_STAT, the window moved on, and the last core tick of its profile (spec/02_host_access.md R42, R44, R60,
R78, R79). -/
def State.committed (y : State) (p : PortId) (n : Fin 4) (o : Oc) : State :=
  (y.winDone p n.val o true).ended p (0x14 + 8 * n.val) o none

/-- The state in which the command of a unit command row takes effect: UNIT_SEL has been written with the unit and the
generation, and the access to UNIT_CMD is in its last core tick (spec/02_host_access.md R42, spec/03_units_events.md R83,
R109). -/
def State.commanding (s : State) (p : PortId) (u : Src) (gen : Byte) : State :=
  State.advance 15 (((s.advance 15).modSel 0 (fun x => { x with
    unitSel := BitVec.ofNat 16 (u.code + 256 * gen.toNat) })).ended p 0x40 .ok none)

/-- The owner's command row of unit `u` on a port that serves it, with no generation check or one that holds
(spec/03_units_events.md R83, R87). -/
def State.ownerRow (s : State) (p : PortId) (u : Src) (gen : Byte) (check : Bool) : Bool :=
  s.serves p 32 && s.acting p == 0 && (!check || (s.mirror u).gen == gen)

/-- What every reset of the device leaves: the phase and the cause, time from 0, every unit, event source, view and entry at
its value after reset but PW_EMBER and the lap count, and the Sinter array with at most the word under way unwritten
(spec/16_power_start_sinter.md R579, R584, R597, R611; notes/assumptions/35.md). -/
def State.restarted (s t : State) (phase : Phase) (cause : Nat) : Prop :=
  t.dev.phase = phase ∧ t.dev.cause = cause ∧ t.dev.ready = false ∧ t.dev.step = 0 ∧ t.tick = 0 ∧
    t.units = State.reset.units ∧ t.src = State.reset.src ∧ t.views = State.reset.views ∧ t.sn.running = none ∧
    (∀ T e, e < 4096 → T ≠ 0x06 → T ≠ 0x07 → t.rd T e = State.reset.rd T e) ∧
    t.g F.SN_STAT_LAPS 0 = s.g F.SN_STAT_LAPS 0 ∧ (s.sn.running = none → t.nv = s.nv) ∧ t.pending = s.pending

/-- The retained words of Ember stand, no commit to them being on its way (spec/16_power_start_sinter.md R584). -/
def State.emberKept (s t : State) : Prop :=
  s.pw.emberNew = [] → ∀ e, 2 ≤ e → e < 6 → t.rd 0x06 e = s.rd 0x06 e

/-! What a command may change. -/

/-- A part of the state beside the queue, the time and the count of free values drawn. -/
inductive Part where
  | port0 | port1 | tux | tsel | views | granted | dev | gy | ln | ll | cj
  | ob | rng | ms | rc | op1 | op2 | sf | lp | pw | sn | nv
  deriving DecidableEq, Repr

/-- The part is the same in two states; of Geyser, everything but the stamp, which time alone moves. -/
def Part.same (x : Part) (s t : State) : Prop :=
  match x with
  | .port0 => t.port0 = s.port0
  | .port1 => t.port1 = s.port1
  | .tux => t.tux = s.tux
  | .tsel => t.tsel = s.tsel
  | .views => t.views = s.views
  | .granted => t.granted = s.granted
  | .dev => t.dev = s.dev
  | .gy => { t.gy with stamp := 0 } = { s.gy with stamp := 0 }
  | .ln => t.ln = s.ln
  | .ll => t.ll = s.ll
  | .cj => t.cj = s.cj
  | .ob => t.ob = s.ob
  | .rng => t.rng = s.rng
  | .ms => t.ms = s.ms
  | .rc => t.rc = s.rc
  | .op1 => t.op1 = s.op1
  | .op2 => t.op2 = s.op2
  | .sf => t.sf = s.sf
  | .lp => t.lp = s.lp
  | .pw => t.pw = s.pw
  | .sn => t.sn = s.sn
  | .nv => t.nv = s.nv

/-- What a command may change: parts of the state, window tables by their number, state mirrors of units, and the waiting
events of sources. -/
structure Touch where
  parts : List Part
  tables : List Nat
  mirrors : List Src
  events : List Src
  deriving DecidableEq, Repr

/-- Every part, table, mirror and source. -/
def Touch.all : Touch where
  parts := [.port0, .port1, .tux, .tsel, .views, .granted, .dev, .gy, .ln, .ll, .cj, .ob, .rng, .ms, .rc, .op1, .op2, .sf, .lp, .pw, .sn, .nv]
  tables := List.range 64
  mirrors := Src.all
  events := Src.all

/-- From `s` to `t` nothing changes but time and what `x` names: every other part, every entry of every other table, every
other mirror and the events of every other source stay as they are. -/
def State.changesOnly (s t : State) (x : Touch) : Prop :=
  (∀ p : Part, p ∉ x.parts → p.same s t) ∧ (∀ n e, n < 64 → n ∉ x.tables → t.rd n e = s.rd n e) ∧
    (∀ u : Src, u ∉ x.mirrors → t.mirror u = s.mirror u) ∧
    (∀ u : Src, u ∉ x.events → vget t.src u.idx = vget s.src u.idx)

/-- What each command may change. A port's access may carry any command of its register or table, and a reset reaches
everything, so these name all; an engine's own command names its unit, its tables and the units it serves. -/
def touches : Instr → Touch
  | .registerWrite .. => .all
  | .undefinedAddressAccess .. => .all
  | .hostFrameNop .. => .all
  | .hostFrameRead .. => .all
  | .hostFrameWrite .. => .all
  | .hostFrameReplay .. => .all
  | .badFrame .. => .all
  | .earlyFrame .. => ⟨[.tux], [], [], Src.units⟩
  | .winSelWrite .. => .all
  | .winIdxWrite .. => .all
  | .winDataRead .. => .all
  | .winDataWrite .. => .all
  | .winCommit .. => .all
  | .tenantEnable .. => .all
  | .tenantDisable .. => .all
  | .hpBindWrite .. => .all
  | .hpCfgWrite .. => .all
  | .hostWdogKick .. => .all
  | .hostLost .. => ⟨[.dev, .rc], [], [.line, .radio], [.line, .radio, .host]⟩
  | .unitStart .. => .all
  | .unitStop .. => .all
  | .unitReset .. => .all
  | .unitForce .. => .all
  | .forceBoundary .. =>
    ⟨[.gy, .ln, .cj, .ms, .rc, .op1, .op2, .sf],
      [0x02, 0x0A, 0x0B, 0x1B, 0x20, 0x22, 0x25, 0x27, 0x39, 0x3D, 0x3F],
      [.gy, .line, .cald, .obs, .radio, .opt1, .opt2, .sens, .loop, .msp], [.gy, .line, .cald, .obs, .radio, .opt1,
       .opt2, .sens, .loop, .msp]⟩
  | .startStepsDone .. =>
    ⟨[.gy, .ln, .ll, .cj, .ob, .rng, .ms, .rc, .op1, .op2, .sf, .lp, .sn],
      [0x02, 0x07, 0x0A, 0x0B, 0x10, 0x12, 0x13, 0x16, 0x17, 0x1B, 0x1C, 0x1D, 0x1E, 0x1F, 0x22, 0x25, 0x29, 0x2B,
       0x2C, 0x2D, 0x35, 0x39, 0x3A, 0x3B, 0x3C, 0x3D, 0x3E, 0x3F],
      Src.all, Src.all⟩
  | .stopStepsDone .. =>
    ⟨[.dev, .gy, .ln, .ll, .cj, .ob, .rng, .ms, .rc, .op1, .op2, .sf, .lp, .pw, .sn],
      [0x02, 0x06, 0x07, 0x0A, 0x0B, 0x10, 0x16, 0x17, 0x1B, 0x1F, 0x22, 0x25, 0x29, 0x2B, 0x2C, 0x2D, 0x35, 0x39,
       0x3A, 0x3B, 0x3C, 0x3D, 0x3E, 0x3F],
      Src.all, Src.all⟩
  | .startStepFail .. =>
    ⟨[.gy, .ln, .ll, .cj, .ob, .ms, .rc, .op1, .op2, .sf, .lp, .sn],
      [0x02, 0x07, 0x0A, 0x0B, 0x10, 0x16, 0x17, 0x1B, 0x1F, 0x22, 0x25, 0x29, 0x2B, 0x2C, 0x2D, 0x35, 0x39, 0x3A,
       0x3B, 0x3C, 0x3D, 0x3E, 0x3F],
      Src.all, Src.all⟩
  | .unitStateRead .. => .all
  | .eventGrant .. => ⟨[.views, .granted, .ln, .rc, .op1, .op2], [], [], Src.all⟩
  | .evtDataRead .. => .all
  | .evtPop .. => .all
  | .evtLostRead .. => .all
  | .irqClr .. => .all
  | .claim .. => .all
  | .release .. => .all
  | .zcEdge .. => ⟨[.gy], [0x09], [.gy], [.gy]⟩
  | .zcMissedTimeout .. => ⟨[.gy], [0x09], [.gy], [.gy]⟩
  | .acqMaxExpire .. => ⟨[.gy], [], [.gy], [.gy]⟩
  | .holdMaxExpire .. => ⟨[.gy], [], [.gy], [.gy]⟩
  | .netTimeTimeout .. => ⟨[.gy], [], [], [.gy]⟩
  | .halfCycleBoundary .. =>
    ⟨[.gy, .ln, .ll, .cj, .ms, .rc, .op1, .op2, .sf],
      [0x02, 0x08, 0x09, 0x0A, 0x0B, 0x10, 0x12, 0x14, 0x16, 0x17, 0x1A, 0x1B, 0x1C, 0x1D, 0x1E, 0x1F, 0x20, 0x22,
       0x23, 0x25, 0x27, 0x39, 0x3D, 0x3F],
      [.gy, .line, .cald, .obs, .radio, .opt1, .opt2, .sens, .loop, .msp], [.gy, .line, .cald, .obs, .radio, .opt1,
       .opt2, .sens, .loop, .msp]⟩
  | .gyRealign .. => .all
  | .gyRelearn .. => .all
  | .gySnapRead .. => .all
  | .cmp .. => ⟨[.gy], [0x0B], [], [.gy]⟩
  | .cmpPulseEnd .. => ⟨[.gy], [], [], Src.units⟩
  | .agcStep .. => ⟨[.ln], [0x13], [], [.line]⟩
  | .commonMapApply .. => ⟨[.ln], [0x10, 0x12], [], [.line]⟩
  | .lineTxSubmit .. => .all
  | .lineGrant .. => ⟨[.ln], [0x16, 0x17, 0x18], [], [.line]⟩
  | .lineStageCheck .. => ⟨[.ln], [0x16, 0x17], [], [.line]⟩
  | .lineTxAbort .. => .all
  | .lineContend .. => ⟨[.gy, .ln, .ll, .rng, .sn], [0x09, 0x16, 0x17, 0x1A, 0x1F], [.gy], [.gy, .line]⟩
  | .lineOriginHalfCycle .. => ⟨[.ln], [], [], Src.units⟩
  | .lineAttemptEnd .. => ⟨[.ln, .rng], [0x16, 0x17, 0x1A, 0x1B], [.line], [.line]⟩
  | .lineHeaderRx .. => ⟨[.ln, .ll], [0x15, 0x16, 0x17, 0x1A, 0x1F], [.line], [.line]⟩
  | .lineFrameRx .. => ⟨[.ln], [0x15, 0x19], [], [.line]⟩
  | .lineAckTx .. => ⟨[.ln], [], [], Src.units⟩
  | .lineRelayCopy .. => ⟨[.ln], [], [], Src.units⟩
  | .lineRxRelease .. => .all
  | .beaconQueue .. => ⟨[.ln], [], [], Src.units⟩
  | .beaconRx .. => ⟨[.gy, .ln], [0x09, 0x1B], [.gy, .line], [.gy, .line]⟩
  | .laCfgApply .. => ⟨[.gy, .ln], [0x0A], [.line], [.gy, .line]⟩
  | .bucketRefill .. => ⟨[], [0x16], [], Src.units⟩
  | .resume .. => .all
  | .alarmCredit .. => ⟨[.ln], [], [], Src.units⟩
  | .dormant .. => .all
  | .wake .. => .all
  | .dormantProposeRx .. => ⟨[.ln], [0x1B], [.line], [.line]⟩
  | .cancelRx .. => ⟨[.ln], [0x1B], [.line], [.line]⟩
  | .dormantCommit .. => ⟨[.ln], [0x1B], [.line], [.line]⟩
  | .wakeDetect .. => ⟨[.ln], [0x1B], [.line], [.line]⟩
  | .learnReady .. => ⟨[], [0x1F], [], [.line]⟩
  | .proposal .. => ⟨[.ln, .ll], [0x10, 0x1F], [], [.line]⟩
  | .llApprove .. => .all
  | .ownMapCommit .. => .all
  | .llClear .. => .all
  | .ownMapApply .. => ⟨[.ll], [0x10, 0x12, 0x1F], [], [.line]⟩
  | .mapRepeat .. => ⟨[.ln, .ll], [], [], Src.units⟩
  | .nbrMap .. => ⟨[.ln, .ll], [0x15, 0x1F], [], [.line]⟩
  | .nbrMapStale .. => ⟨[], [0x1F], [], [.line]⟩
  | .cjSubmit .. => .all
  | .cjJobChoose .. => ⟨[.cj], [0x22], [], Src.units⟩
  | .cjJobDone .. => ⟨[.cj], [0x20, 0x22, 0x25], [.cald], [.cald]⟩
  | .cjPreempt .. => ⟨[.cj], [0x22, 0x25, 0x27], [.cald], [.cald]⟩
  | .cjBudgetCap .. => ⟨[.cj], [0x22, 0x25, 0x27], [.cald], [.cald]⟩
  | .cjAbort .. => .all
  | .cjRelease .. => .all
  | .cjPageCommit .. => .all
  | .kernelWindowOpen .. =>
    ⟨[.ll, .cj, .op1, .op2, .sf],
      [0x20, 0x22, 0x25, 0x26, 0x27, 0x3A, 0x3C],
      [.cald], [.cald, .opt1, .opt2]⟩
  | .kernelWindowEnd .. => ⟨[.ll, .cj, .sf], [0x26], [], Src.units⟩
  | .kernelDone .. =>
    ⟨[.ll, .cj, .rng, .op1, .op2, .sf],
      [0x1C, 0x1D, 0x1E, 0x26, 0x3A, 0x3D],
      [], [.opt1, .opt2, .sens]⟩
  | .ecc .. =>
    ⟨[.gy, .ln, .ll, .cj, .ob, .ms, .rc, .op1, .op2, .sf, .lp, .sn],
      [0x02, 0x07, 0x0A, 0x0B, 0x10, 0x16, 0x17, 0x1B, 0x1F, 0x20, 0x22, 0x25, 0x29, 0x2B, 0x2C, 0x2D, 0x35, 0x39,
       0x3A, 0x3B, 0x3C, 0x3D, 0x3E, 0x3F],
      Src.all, Src.all⟩
  | .scrub .. => ⟨[.cj], [0x20], [], [.cald]⟩
  | .obLoad .. => .all
  | .obUnwrap .. => .all
  | .obGenerate .. => .all
  | .obErase .. => .all
  | .obRestrict .. => .all
  | .slotCmdDone .. => ⟨[.ob], [0x29], [], [.obs]⟩
  | .obPlace .. => .all
  | .obGo .. => .all
  | .obJobChoose .. => ⟨[.ob, .rng], [0x2B], [], Src.units⟩
  | .obInlineJob .. => ⟨[.ob, .rng], [0x2B], [], Src.units⟩
  | .obPreempt .. => ⟨[.ob], [0x2B], [], Src.units⟩
  | .obJobDone .. => ⟨[.gy, .ob, .rng, .sn], [0x02, 0x0A, 0x0B, 0x28, 0x29, 0x2B, 0x2C, 0x2D, 0x2E], [.obs], [.obs]⟩
  | .obAbort .. => .all
  | .obRelease .. => .all
  | .provClose .. => .all
  | .zeroize .. => .all
  | .reseed .. => .all
  | .rngSample .. => ⟨[.gy, .rng], [0x02, 0x0A, 0x0B], [.rng], [.rng]⟩
  | .rngReady .. => ⟨[.gy, .rng, .pw], [0x02, 0x0A, 0x0B, 0x2E], [.rng], [.rng]⟩
  | .rngPoolAdd .. => ⟨[.rng], [0x2E], [], Src.units⟩
  | .drbgReseed .. => ⟨[.rng, .pw], [0x2E], [], Src.units⟩
  | .rngDataRead .. => .all
  | .msSubmit .. => .all
  | .msEntryStart .. => ⟨[.gy, .cj, .ms, .rc], [0x02, 0x0A, 0x0B, 0x25, 0x35, 0x3F], [.radio], [.radio, .msp]⟩
  | .msReadyPoint .. => ⟨[.cj, .ms], [0x20, 0x25, 0x3F], [], [.cald]⟩
  | .rdyTimeout .. => ⟨[.gy, .cj, .ms, .rc], [0x02, 0x0A, 0x0B, 0x25, 0x35, 0x3F], [.radio], [.radio, .msp]⟩
  | .msEntryDone .. => ⟨[.gy, .cj, .ms, .rc], [0x02, 0x0A, 0x0B, 0x25, 0x35, 0x3F], [.radio], [.radio, .msp]⟩
  | .msAbort .. => .all
  | .msRelease .. => .all
  | .rfIrq .. => ⟨[.cj, .ms, .rc], [0x25, 0x3F], [], [.msp]⟩
  | .rfSfd .. => ⟨[.rc], [], [], Src.units⟩
  | .rfFault .. => ⟨[.gy, .cj, .ms, .rc], [0x02, 0x0A, 0x0B, 0x25, 0x35, 0x3F], [.radio], [.radio, .msp]⟩
  | .hopSlotStart .. => ⟨[.cj, .ms, .rc], [0x25, 0x3F], [.radio], [.radio, .msp]⟩
  | .beaconTx .. => ⟨[.cj, .ms, .rc], [0x25, 0x30, 0x3F], [], [.msp]⟩
  | .radioFrameRx .. => ⟨[.cj, .ms, .rc], [0x25, 0x30, 0x34, 0x35, 0x36, 0x3F], [], [.radio, .msp]⟩
  | .radioAckTx .. => ⟨[.cj, .ms, .rc], [0x25, 0x30, 0x3F], [], [.msp]⟩
  | .joinRspTx .. => ⟨[.cj, .ms, .rc], [0x25, 0x30, 0x3F], [], [.msp]⟩
  | .tagAllow .. => .all
  | .tagFree .. => .all
  | .joinOpen .. => .all
  | .joinOpenExpire .. => ⟨[.rc], [], [.radio], [.radio]⟩
  | .rfReset .. => .all
  | .radioTxSubmit .. => .all
  | .radioGrant .. => ⟨[.rc], [0x35, 0x36], [], [.radio]⟩
  | .radioDeadline .. => ⟨[.rc], [0x35], [], [.radio]⟩
  | .radioAnswerTx .. => ⟨[.cj, .ms, .rc, .sn], [0x25, 0x34, 0x35, 0x3F], [], [.radio, .msp]⟩
  | .emptyAnswer .. => ⟨[.cj, .ms, .rc], [0x25, 0x30, 0x35, 0x3F], [], [.msp]⟩
  | .radioAnswerAckTimeout .. => ⟨[.cj, .ms, .rc], [0x25, 0x35, 0x3F], [], [.radio, .msp]⟩
  | .wakeUpCall .. => ⟨[.cj, .ms, .rc], [0x25, 0x35, 0x3F], [], [.radio, .msp]⟩
  | .radioTxEnd .. => ⟨[.cj, .ms, .rc], List.range 64, [], [.radio, .msp]⟩
  | .budgetBinTurn .. => ⟨[.rc], List.range 64, [], Src.units⟩
  | .radioTxAbort .. => .all
  | .radioTxRelease .. => .all
  | .radioRxRelease .. => .all
  | .radioDormant .. => ⟨[.cj, .ms, .rc], [0x25, 0x3F], [.radio], [.radio, .msp]⟩
  | .optCellTx .. => ⟨[.op1, .op2], [0x0A, 0x39, 0x3B], [], Src.units⟩
  | .timeCellDue .. => ⟨[.op1, .op2], [], [], Src.units⟩
  | .optCellRx .. => ⟨[.gy, .op1, .op2], [0x09, 0x3A, 0x3B], [.gy, .opt1, .opt2], [.gy, .opt1, .opt2]⟩
  | .optSubmit .. => .all
  | .optPayloadCommit .. => .all
  | .optCellAbort .. => .all
  | .optRxRelease .. => .all
  | .laserFail .. => ⟨[.op1, .op2], [0x39, 0x3A, 0x3B], [.opt1, .opt2], [.opt1, .opt2]⟩
  | .calWindowStart .. => ⟨[.op1, .op2], [0x39, 0x3A], [.opt1, .opt2], [.opt1, .opt2]⟩
  | .calDone .. => ⟨[.op1, .op2], [0x39, 0x3A], [.opt1, .opt2], [.opt1, .opt2]⟩
  | .los .. => ⟨[.op1, .op2], [0x39], [.opt1, .opt2], [.opt1, .opt2]⟩
  | .alsPulse .. => ⟨[.op1, .op2], [], [.opt1, .opt2], [.opt1, .opt2]⟩
  | .alsPulseEnd .. => ⟨[.op1, .op2], [], [.opt1, .opt2], [.opt1, .opt2]⟩
  | .optRestart .. => .all
  | .optTest .. => .all
  | .calibrate .. => .all
  | .clear .. => .all
  | .pwrAvgUpdate .. => ⟨[], [0x3A], [], Src.units⟩
  | .sinc3Output .. => ⟨[.sf], [0x3C, 0x3D], [], Src.units⟩
  | .cycleWindowEnd .. => ⟨[.sf], [0x3C, 0x3D], [], Src.units⟩
  | .auxConversion .. => ⟨[.sf], [0x3D], [], Src.units⟩
  | .sfChangeApply .. => ⟨[.sf], [0x0A, 0x3C], [], [.sens]⟩
  | .excTrip .. => ⟨[.gy, .sf], [0x02, 0x0A, 0x0B, 0x3C, 0x3D], [.sens], [.sens]⟩
  | .excRestore .. => ⟨[.sf], [0x3C], [], [.sens]⟩
  | .sfLoad .. => .all
  | .impCheckDue .. => ⟨[.sf], [], [], Src.units⟩
  | .impCheckStart .. => ⟨[.sf], [0x02, 0x3D], [.sens], [.sens]⟩
  | .impResult .. => ⟨[.gy, .sf], [0x02, 0x0A, 0x0B, 0x3D], [.sens], [.sens]⟩
  | .impCheck .. => .all
  | .lowRate .. => ⟨[.gy, .sf], [0x02, 0x0A, 0x0B, 0x3D], [.sens], [.sens]⟩
  | .loopUpdate .. => ⟨[.gy, .lp], [0x02, 0x0A, 0x0B, 0x3E], [.loop], [.loop]⟩
  | .loopSrc .. => ⟨[], [0x3E], [.loop], [.loop]⟩
  | .powerOnReset .. => .all
  | .resetN .. => .all
  | .clockFail .. => .all
  | .x32Fail .. => ⟨[.pw], [0x06], [], Src.units⟩
  | .startUp .. => .all
  | .rail .. => ⟨[.dev], [], [], [.gov]⟩
  | .govSample .. => ⟨[.pw], [0x05], [.sinter], [.gov, .sinter]⟩
  | .pfailN .. => ⟨[.pw], [0x05], [.sinter], [.gov, .sinter]⟩
  | .govLevelFall .. =>
    ⟨[.gy, .ln, .ll, .cj, .ob, .rng, .ms, .rc, .op1, .op2, .sf, .lp, .pw, .sn],
      [0x02, 0x07, 0x0A, 0x0B, 0x16, 0x17, 0x1F, 0x20, 0x22, 0x25, 0x27, 0x29, 0x2B, 0x2C, 0x2D, 0x35, 0x39, 0x3A,
       0x3B, 0x3D, 0x3F],
      Src.all, Src.all⟩
  | .govLevelRise .. =>
    ⟨[.gy, .ln, .ll, .cj, .ob, .rng, .ms, .rc, .op1, .op2, .sf, .lp, .pw, .sn],
      [0x02, 0x07, 0x0A, 0x0B, 0x16, 0x17, 0x1F, 0x20, 0x22, 0x25, 0x27, 0x29, 0x2B, 0x2C, 0x2D, 0x35, 0x39, 0x3A,
       0x3B, 0x3D, 0x3F],
      Src.all, Src.all⟩
  | .black .. => .all
  | .thermal .. => ⟨[.cj, .pw], [0x05], [.cald, .sinter], [.cald, .gov, .sinter]⟩
  | .hibernate .. => .all
  | .hibernateTimeout .. => .all
  | .floor .. => .all
  | .blackHoldExpire .. => .all
  | .wakeSource .. => ⟨[.pw], [0x06], [], Src.units⟩
  | .door .. => ⟨[.pw], [], [], [.gov]⟩
  | .rtcAlarm .. => ⟨[.pw], [0x06], [], [.gov]⟩
  | .pwEmberCommit .. => ⟨[.pw], [0x06], [], Src.units⟩
  | .sinterSubmit .. => .all
  | .sinterTxnStart .. => ⟨[.sn], [0x07, 0x20], [.sinter], [.cald, .sinter]⟩
  | .sinterTxnDone .. =>
    ⟨[.dev, .gy, .ln, .cj, .ob, .ms, .rc, .op1, .op2, .lp, .pw, .sn, .nv],
      [0x02, 0x06, 0x07, 0x0A, 0x0B, 0x16, 0x17, 0x22, 0x25, 0x29, 0x2B, 0x2C, 0x2D, 0x35, 0x3B, 0x3F],
      Src.all, Src.all⟩
  | .sinterAbort .. => .all
  | .sinterRelease .. => .all
  | .counterRaise .. => ⟨[.sn], [], [], Src.units⟩
  | .compaction .. => ⟨[.sn], [], [.sinter], [.sinter]⟩
  | .compact .. => .all
  | .tapInstruction .. => ⟨[.dev, .op1, .op2], [], [], Src.units⟩
  | .cycleBoundary .. =>
    ⟨[.gy, .ln, .ll, .cj, .sf],
      [0x08, 0x0A, 0x0B, 0x10, 0x12, 0x1C, 0x1D, 0x1E, 0x1F],
      [], [.gy, .line, .cald]⟩
  | .hostReservationWindow .. => ⟨[.cj], [0x20, 0x22, 0x25, 0x27], [.cald], [.cald]⟩
  | .scriptDelay .. => ⟨[.cj, .ms, .rc], [0x25, 0x3F], [], [.msp]⟩
  | .txEndTimeout .. => ⟨[.gy, .rc], List.range 64, [.radio], [.radio]⟩
  | .railBadPersist .. =>
    ⟨[.gy, .ln, .ll, .cj, .ob, .ms, .rc, .op1, .op2, .sf, .lp, .sn],
      [0x02, 0x07, 0x0A, 0x0B, 0x10, 0x16, 0x17, 0x1B, 0x1F, 0x22, 0x25, 0x29, 0x2B, 0x2C, 0x2D, 0x35, 0x39, 0x3A,
       0x3B, 0x3C, 0x3D, 0x3E, 0x3F],
      Src.all, Src.all⟩

end Sys2Proof.Machine
end

