-- ==== Sys2Proof/Certificates/Slice0/Obligations.lean ====
section
/-! DEFINITION. The statements for the provers: what the steps, the commands and the state of the block do, by the rules
of spec/. A statement's docstring names the rules it rests on, and where a clause is the model's choice it names the log
entry. -/

open Sys2Proof Sys2Proof.Machine

/-- One step takes the command at the front of the queue and is `exec` of it on the state with the queue's rest. With
nothing waiting it is one core tick: the count of core ticks advances by one, and every window table, port, view,
mirror and source of events stands. That the idle step is a core tick is the model's choice (notes/assumptions/1.md). -/
def Obligations.StepTakesTheFrontCommandOrOneTick : Prop :=
  (∀ (c : Instr) (l : List Instr) (s : State),
    step { s with pending := c :: l } = exec c { s with pending := l }) ∧
  (∀ (s : State), s.pending = [] →
    ∃ t, step s = .next t ∧ t.tick = s.tick + 1 ∧ t.pending = [] ∧ t.cells = s.cells ∧ t.nv = s.nv ∧ t.port0 = s.port0 ∧
      t.port1 = s.port1 ∧ t.views = s.views ∧ t.units = s.units ∧ t.src = s.src ∧ t.dev = s.dev ∧
      t.gy.stamp = s.gy.stamp + BitVec.ofNat 80 s.gy.rate.toNat)

/-- The state after reset is well-formed: nothing waits, no window entry differs from its reset value, the logs are
empty, every unit is OFF with no claim held, no tenant but the owner is enabled, the owner acts on both ports, the
device is not READY and the watchdog stands (spec/02_host_access.md R63, R68, R74, spec/03_units_events.md R82, R92,
spec/16_power_start_sinter.md R579, R581). That reset is the release of power-on reset is the model's choice
(notes/assumptions/6.md). -/
def Obligations.ResetIsWellFormed : Prop :=
  State.reset.wf ∧ State.reset.pending = [] ∧ State.reset.dev.ready = false ∧ State.reset.dev.wdogEnd = none ∧
    (∀ u : Src, State.reset.st u = .off) ∧ (∀ t, t < 64 → State.reset.enabled t = decide (t = 0)) ∧
    (∀ t, (vget State.reset.views t).log = []) ∧ (∀ r, r < 64 → State.reset.claimed r = false) ∧
    State.reset.acting .p0 = 0 ∧ State.reset.acting .p1 = 0 ∧ (∀ u : Src, (vget State.reset.src u.idx).q = [])

/-- Every command completes in every state, leaves the queue as it is and draws no free value twice: the count of the
values drawn never falls. -/
def Obligations.EveryCommandCompletesAndLeavesTheQueue : Prop :=
  ∀ (c : Instr) (s : State), ∃ t, exec c s = .next t ∧ t.pending = s.pending ∧ s.free ≤ t.free

/-- Every step from a well-formed state answers a well-formed state: the window entries stay in canonical form
(positions rising, none listed at its reset value and never changed), the Sinter array stays in canonical form within
its 16,384 words, and no event log holds more than 64 records (spec/02_host_access.md R58, spec/03_units_events.md
R92, spec/16_power_start_sinter.md R596). -/
def Obligations.EveryStepKeepsTheStateWellFormed : Prop :=
  ∀ (s : State), s.wf → ∃ t, step s = .next t ∧ t.wf

/-- The frame of every command: what an engine's command changes is named by `touches`, and every other part of the
state, every entry of every other window table, every other unit's mirror and every other source's events stay as they
are (spec/03_units_events.md R82, R85). -/
def Obligations.CommandsChangeOnlyWhatTheyTouch : Prop :=
  ∀ (c : Instr) (s t : State), s.wf → exec c s = .next t → s.changesOnly t (touches c)

/-- A write of SCRATCH or IRQ_EN, a write of a read-only register, which is ignored, and a read of a register
(spec/02_host_access.md R42, R44, R78, spec/00_scope.md R16). A port 0 access to 0x60 to 0x7E is refused with
NOT_AVAILABLE in the short profile (spec/18_register_index.md R651). Nothing but the port, the named register and time
changes. -/
def Obligations.RegisterAccessesTakeEffectInTheirLastTick : Prop :=
  ∀ (s : State) (p : PortId), s.serves p 16 = true →
    (∀ d, exec (.registerWrite p 0x0A (some d)) s =
      .next (((s.advance 15).modPort p (fun q => { q with scratch := d })).ended p 0x0A .ok none)) ∧
    (∀ d, exec (.registerWrite p 0x38 (some d)) s =
      .next ({ s.advance 15 with views := vmod s.views (s.acting p) (fun (v : View) => { v with en := d.setWidth 5 }) }.ended
        p 0x38 .ok none)) ∧
    (∀ d a, a ∈ [0x00, 0x02, 0x0E, 0x30, 0x32, 0x34, 0x36, 0x3C, 0x44, 0x46, 0x4C, 0x4E, 0x50, 0x52, 0x5A, 0x5C, 0x5E] →
      exec (.registerWrite p a (some d)) s = .next ((s.advance 15).ended p a .ok none)) ∧
    (∀ a v, (a, v) ∈ [(0x00, 0x6408), (0x02, 0x00A1), (0x04, BitVec.ofNat 16 (s.acting p)), (0x06, (s.port p).accStat),
        (0x0A, (s.port p).scratch), (0x0C, s.hpCfg), (0x0E, s.devStat), (0x36, (vget s.views (s.acting p)).pend.setWidth 16),
        (0x38, (vget s.views (s.acting p)).en.setWidth 16), (0x40, (vget s.tsel (s.acting p)).unitSel),
        (0x48, (vget s.tsel (s.acting p)).claimSel), (0x4C, (vget s.tsel (s.acting p)).claimStat), (0x4E, s.govStat),
        (0x5A, s.gy.freq), (0x5C, s.rngStat)] →
      exec (.registerWrite p a none) s = .next ((s.advance 15).ended p a .ok (some v))) ∧
    (p = .p0 → ∀ a w, exec (.undefinedAddressAccess a w) s =
      .next ((s.advance 15).ended .p0 (0x60 + a / 2 % 16 * 2) .notAvailable (if w then none else some 0)))

/-- A write of WINn_SEL or WINn_IDX by the holder (spec/02_host_access.md R56, R61, R65). A read of WINn_DATA at
halfword 0 takes a snapshot of the entry and answers its halfword 0; at a later halfword it answers the snapshot's. A
write of halfwords 0 to 6 stages the halfword, over the entry's content when nothing is staged yet. The window then
moves to the next halfword. No table changes but for a field that the read clears (spec/02_host_access.md R57, R59,
R60). -/
def Obligations.WindowSelectionAndDataAccess : Prop :=
  (∀ (s : State) (p : PortId) (n : Fin 4) (d : Half), s.serves p 16 = true →
    exec (.winSelWrite p n d) s =
      .next (((s.advance 15).modWin p n (fun w => { w.drop with
        sel := d.toNat % 64, entry := 0, hw := 0, holder := s.acting p })).ended p (0x10 + 8 * n.val) .ok none) ∧
    ((s.winOf p n).holder = s.acting p → exec (.winIdxWrite p n d) s =
      .next (((s.advance 15).modWin p n (fun w =>
        { (if d.toNat % 4096 = w.entry then w else w.drop) with
          entry := d.toNat % 4096, hw := d.toNat / 4096 % 8, ainc := bitOf d.toNat 15 })).ended p (0x12 + 8 * n.val) .ok none))) ∧
  (∀ (s : State) (p : PortId) (n : Fin 4) (k : Nat), s.serves p 48 = true →
    (s.winOf p n).holder = s.acting p →
    (s.reach (s.winOf p n).sel (s.winOf p n).entry (s.acting p) false = some k → (s.winOf p n).hw = 0 →
      s.winBad (s.winOf p n).sel k = false →
      ∃ t, exec (.winDataRead p n) s = .next t ∧
        (t.port p).hd = (State.content (s.advance 47) (s.winOf p n).sel k (s.acting p)).half 0 ∧
        (t.winOf p n).snap.map WinSnap.word = some (State.content (s.advance 47) (s.winOf p n).sel k (s.acting p)) ∧
        (t.winOf p n).hw = (if (s.winOf p n).ainc then 1 else 0) ∧ (t.port p).outcome = Oc.ok.code ∧ t.tick = s.tick + 48 ∧
        (readClears (s.winOf p n).sel k = false → t.cells = s.cells)) ∧
    (∀ x, s.reach (s.winOf p n).sel (s.winOf p n).entry (s.acting p) false = some k → (s.winOf p n).hw ∈ [1, 2, 3, 4, 5, 6, 7] →
      s.closed (s.winOf p n).sel k = false → (s.winOf p n).snap = some x → x.tenant = s.acting p →
      ∃ t, exec (.winDataRead p n) s = .next t ∧ (t.port p).hd = x.word.half (s.winOf p n).hw ∧
        (t.port p).outcome = Oc.ok.code ∧ t.tick = s.tick + 16 ∧ t.cells = s.cells) ∧
    (∀ d, s.reach (s.winOf p n).sel (s.winOf p n).entry (s.acting p) true = some k → (s.winOf p n).hw ∈ [0, 1, 2, 3, 4, 5, 6] →
      ∃ t, exec (.winDataWrite p n d) s = .next t ∧
        (t.winOf p n).staging = some (((s.winOf p n).staging.getD
          (State.content (s.advance 15) (s.winOf p n).sel k (s.acting p))).setHalf (s.winOf p n).hw d) ∧
        (t.winOf p n).hw = (if (s.winOf p n).ainc then (s.winOf p n).hw + 1 else (s.winOf p n).hw) ∧
        (t.port p).outcome = Oc.ok.code ∧ t.tick = s.tick + 16 ∧ t.cells = s.cells))

/-- A write of halfword 7 through WINn_DATA by the holder commits the staging word, with that halfword in it, to the
entry in one step, in the last core tick of the long profile; the staging word is gone, the outcome stands in
WINn_STAT and ACC_STAT, and the window moves on (spec/02_host_access.md R42, R59, R60). Through a window that names
table 0x01, a commit that leaves ENABLE of an enabled tenant at 1 is OK and the entry then holds the committed word. -/
def Obligations.WindowCommitWritesTheStagedWordInOneStep : Prop :=
  ∀ (s : State) (p : PortId) (n : Fin 4) (k : Nat) (d : Half), s.serves p 48 = true →
    (s.winOf p n).holder = s.acting p → (s.winOf p n).hw = 7 →
    s.reach (s.winOf p n).sel (s.winOf p n).entry (s.acting p) true = some k →
    let v := ((s.winOf p n).staging.getD (State.content (s.advance 47) (s.winOf p n).sel k (s.acting p))).setHalf 7 d
    let y := (s.advance 47).modWin p n (fun x => { x with staging := none })
    exec (.winCommit p n d) s =
        .next ((y.commit (s.winOf p n).sel k (s.acting p) v).2.committed p n (y.commit (s.winOf p n).sel k (s.acting p) v).1) ∧
      ((s.winOf p n).sel = 0x01 → s.enabled k = true → F.TENANTS_ENABLE.of (s.merged 0x01 k v) = 1 →
        ∃ t, exec (.winCommit p n d) s = .next t ∧ (t.port p).outcome = Oc.ok.code ∧ t.rd 0x01 k = s.merged 0x01 k v ∧
          (t.winOf p n).staging = none)

/-- A commit of ENABLE = 1 to the TENANTS entry of a disabled tenant by the owner enables it, advances its generation
by one and starts its view empty with SEQ 0 next; a commit of ENABLE = 0 disables a tenant other than the owner,
empties its view and drops the staging words and the snapshots of the windows it holds (spec/01_cabinet_system.md R37,
spec/02_host_access.md R59, R74, R81, spec/03_units_events.md R93). -/
def Obligations.TenantEnableAndDisableRestartTheView : Prop :=
  ∀ (s : State) (p : PortId) (n : Fin 4) (k : Nat) (label : BitVec 64), s.wf → s.serves p 48 = true → s.acting p = 0 →
    0 < k → k < 64 →
    (s.enabled k = false →
      ∃ t, exec (.tenantEnable p n k label) s = .next t ∧ (t.port p).outcome = Oc.ok.code ∧ t.enabled k = true ∧
        t.g F.TENANTS_LABEL k = label.toNat ∧ t.g F.TENANTS_GEN k = (s.g F.TENANTS_GEN k + 1) % 2 ^ F.TENANTS_GEN.w ∧
        (vget t.views k).log = [] ∧ (vget t.views k).seq = 0 ∧ (vget t.views k).lost = 0 ∧ (vget t.views k).pend = 0 ∧
        (vget t.views k).en = 0 ∧ t.tick = s.tick + 48 ∧
        t.units = s.units ∧ t.src = s.src) ∧
    (s.enabled k = true →
      ∃ t, exec (.tenantDisable p n k label) s = .next t ∧ (t.port p).outcome = Oc.ok.code ∧ t.enabled k = false ∧
        (vget t.views k).log = [] ∧ (vget t.views k).seq = 0 ∧ (vget t.views k).pend = 0 ∧
        (∀ q m, m < 4 → (t.winOf q m).holder = k → (t.winOf q m).staging = none ∧ (t.winOf q m).snap = none))

/-- The owner's write of HP_BIND with APPLY = 1 sets the bindings of the tenant it names; its write of HP_CFG sets the
port and interrupt options and restarts the watchdog; a write of 0x5A5A to HOST_WDOG restarts the count, which ends
the host-absence posture (spec/02_host_access.md R64, R68, R70, R75, R78). When the watchdog count runs out HOST_LOST
is set, the count stops and HOST raises HOST_LOST at severity 3 (spec/02_host_access.md R69). -/
def Obligations.PortConfigurationAndTheHostWatchdog : Prop :=
  (∀ (s : State) (p : PortId) (d : Half), s.wf → s.serves p 16 = true →
    (s.acting p = 0 → bitOf d.toNat 15 = true → (d.toNat % 64 ≠ 0 ∨ bitOf d.toNat 8 = true) →
      ∃ t, exec (.hpBindWrite p d) s = .next t ∧ (t.port p).outcome = Oc.ok.code ∧
        t.b F.TENANTS_BIND_P0 (d.toNat % 64) = bitOf d.toNat 8 ∧ t.b F.TENANTS_BIND_P1 (d.toNat % 64) = bitOf d.toNat 9 ∧
        t.dev.bindTenant = d.toNat % 64 ∧ t.tick = s.tick + 16 ∧ t.src = s.src ∧ t.units = s.units ∧
        (∀ n e, n < 64 → e < 4096 → n ≠ 0x01 → t.rd n e = s.rd n e)) ∧
    (s.acting p = 0 → 256 ≤ d.toNat → (p = .p0 ∨ bitOf d.toNat 0 = true) → s.dev.hostLost = false →
      ∃ t, exec (.hpCfgWrite p d) s = .next t ∧ (t.port p).outcome = Oc.ok.code ∧ t.dev.p1En = bitOf d.toNat 0 ∧
        t.dev.hirqOd = bitOf d.toNat 1 ∧ t.dev.hsirqOd = bitOf d.toNat 2 ∧ t.dev.wdogPer = d.toNat / 256 ∧
        t.dev.wdogEnd = some (s.tick + 15 + d.toNat / 256 * 100 * msTicks) ∧ t.cells = s.cells ∧ t.src = s.src) ∧
    ((p = .p0 ∨ s.acting p = 0) →
      ∃ t, exec (.hostWdogKick p 0x5A5A) s = .next t ∧ (t.port p).outcome = Oc.ok.code ∧ t.dev.hostLost = false ∧
        t.dev.wdogEnd = some (s.tick + 15 + s.dev.wdogPer * 100 * msTicks) ∧ t.tick = s.tick + 16 ∧ t.cells = s.cells ∧
        (s.dev.hostLost = true → ∃ e ∈ (vget t.src Src.host.idx).q, e.common = true ∧ e.code = 0x11))) ∧
  (∀ (s : State) (w : Nat), s.dev.wdogEnd = some w → s.tick ≤ w →
    ∃ t, exec .hostLost s = .next t ∧ t.tick = w ∧ t.dev.hostLost = true ∧ t.dev.wdogEnd = none ∧ t.cells = s.cells ∧
      (vget t.src Src.host.idx).q =
        (vget s.src Src.host.idx).q ++ [{ common := true, tenant := 0, sev := 3, code := 0x10, arg := 0, ref := 0 }] ∧
      (s.isOn .line = true → bitOf (t.mirror .line).sub 4 = true))

/-- EVENT_GRANT: when at least one source presents an event, the arbiter grants one of the presented events, of a
source `u` that none older than 48 core ticks precedes and no earlier grantee outranks; the event leaves its source,
the source's next event is presented in the next core tick, and the core tick ends. A view that neither subscribes to
the source nor belongs to the event's tenant keeps its log (spec/03_units_events.md R89 to R92, R102). A record
admitted to a view takes the view's next SEQ. With room it is stored with that SEQ, AFTER_LOSS when a record was lost
since the last stored one, and sets the pending bit of its severity; on a full log of 64 it is lost: EVT_LOST counts
it, stopping at 0xFFFF, and the loss bit is set (spec/03_units_events.md R92, R97, R111). -/
def Obligations.EventsAreGrantedAdmittedOrCountedLost : Prop :=
  (∀ (s : State) (u : Src) (e : Ev) (rest : List Ev), s.wf → s.arbPick = some u → s.nextPresented = some s.tick →
    (vget s.src u.idx).q = e :: rest →
    ∃ t, exec .eventGrant s = .next t ∧ (vget t.src u.idx).q = rest ∧ (vget t.src u.idx).since = s.tick + 1 ∧
      t.tick = s.tick + 1 ∧ t.cells = s.cells ∧ t.units = s.units ∧
      (∀ v : Src, v ≠ u → vget t.src v.idx = vget s.src v.idx) ∧
      (∀ k, k < 64 → k ∉ s.admits u e → vget t.views k = vget s.views k) ∧
      (∀ k, s.admits u e = [k] → k < 64 → vget t.views k = (vget s.views k).enter (s.record u e) (e.sev % 4))) ∧
  (∀ (v : View) (w : Word) (sev : Nat), sev < 4 → w.extractLsb' 112 16 = 0 → w.getLsbD 33 = false →
    (v.enter w sev).seq = v.seq + 1 ∧
    (v.log.length < 64 → ∃ r, (v.enter w sev).log = v.log ++ [r] ∧ r.extractLsb' 112 16 = v.seq ∧ r.getLsbD 33 = v.afterLoss ∧
      r.extractLsb' 0 33 = w.extractLsb' 0 33 ∧ r.extractLsb' 34 78 = w.extractLsb' 34 78 ∧
      (v.enter w sev).pend.getLsbD sev = true ∧ (v.enter w sev).afterLoss = false ∧ (v.enter w sev).lost = v.lost) ∧
    (64 ≤ v.log.length → (v.enter w sev).log = v.log ∧ (v.enter w sev).afterLoss = true ∧ (v.enter w sev).pend.getLsbD 4 = true ∧
      (v.enter w sev).lost.toNat = min 0xFFFF (v.lost.toNat + 1)))

/-- Reads of EVT_DATA at POS 0 with a record in the view and of EVT_POP with a record in the view, a read of EVT_LOST,
and a write of IRQ_CLR: the oldest record is shown or removed, the loss count read and cleared, the named pending bits
cleared. Each leaves the other views alone (spec/03_units_events.md R92, R94, R95, R97, R109). Reads of UNIT_STATE,
GY_SNAP and RNG_DATA: the whole mirror of the selected unit, or the whole stamp, is latched into the port's snapshot
in the long profile; RNG_DATA gives the next halfword of the tenant's block (spec/03_units_events.md R86,
spec/04_geyser_time_base.md R135, spec/10_obsidian_cipher.md R380). -/
def Obligations.EventRegistersAndTopLevelSnapshots : Prop :=
  (∀ (s : State) (p : PortId) (r : Word) (rest : List Word) (d : Half), s.serves p 48 = true → s.acting p < 64 →
    ((vget s.views (s.acting p)).log = r :: rest → vget (s.port p).pos (s.acting p) = 0 →
      ∃ t, exec (.evtDataRead p) s = .next t ∧ (t.port p).hd = r.half 0 ∧ (t.port p).outcome = Oc.ok.code ∧
        vget (t.port p).pos (s.acting p) = 1 ∧ t.views = s.views ∧ t.tick = s.tick + 48 ∧ t.cells = s.cells) ∧
    ((vget s.views (s.acting p)).log = r :: rest →
      ∃ t, exec (.evtPop p) s = .next t ∧ (t.port p).hd = r.half 7 ∧ (t.port p).outcome = Oc.ok.code ∧
        vget (t.port p).pos (s.acting p) = 0 ∧ (vget t.views (s.acting p)).log = rest ∧
        (∀ k, k ≠ s.acting p → vget t.views k = vget s.views k) ∧ t.tick = s.tick + 16 ∧ t.cells = s.cells) ∧
    (∃ t, exec (.evtLostRead p) s = .next t ∧ (t.port p).hd = (vget s.views (s.acting p)).lost ∧
      (t.port p).outcome = Oc.ok.code ∧ (vget t.views (s.acting p)).lost = 0 ∧
      (vget t.views (s.acting p)).log = (vget s.views (s.acting p)).log ∧
      (∀ k, k ≠ s.acting p → vget t.views k = vget s.views k) ∧ t.tick = s.tick + 16 ∧ t.cells = s.cells) ∧
    (∃ t, exec (.irqClr p d) s = .next t ∧ (t.port p).outcome = Oc.ok.code ∧
      (vget t.views (s.acting p)).pend = (vget s.views (s.acting p)).pend &&& ~~~(d.setWidth 5) ∧
      (vget t.views (s.acting p)).log = (vget s.views (s.acting p)).log ∧
      (∀ k, k ≠ s.acting p → vget t.views k = vget s.views k) ∧ t.tick = s.tick + 16 ∧ t.cells = s.cells)) ∧
  (∀ (s : State) (p : PortId) (u : Src) (b : RngBlk), s.serves p 48 = true →
    (Src.unitOf ((vget s.tsel (s.acting p)).unitSel.toNat % 256) = some u →
      ∃ t, exec (.unitStateRead p) s = .next t ∧ (t.port p).hd = (s.mirror u).stateHalf ∧ (t.port p).outcome = Oc.ok.code ∧
        (t.port p).snap = some { data := .unit u (s.mirror u).stateHalf (s.mirror u).infoHalf, ver := (s.mirror u).chg,
                                 tenant := s.acting p } ∧
        t.tick = s.tick + 48 ∧ t.cells = s.cells ∧ t.units = s.units) ∧
    (∃ t, exec (.gySnapRead p) s = .next t ∧ (t.port p).hd = (State.advance 47 s).gy.stamp.extractLsb' 16 16 ∧
        (t.port p).outcome = Oc.ok.code ∧
        (t.port p).snap = some { data := .geyser (State.advance 47 s).gy.stamp, ver := s.gy.steps, tenant := s.acting p } ∧
        t.tick = s.tick + 48 ∧ t.cells = s.cells ∧ t.units = s.units) ∧
    (s.rngReady = true → s.rngFailed = false → (s.port p).rngBlk = some b → b.tenant = s.acting p → 0 < b.left →
      ∃ t, exec (.rngDataRead p) s = .next t ∧ (t.port p).hd = b.word.half (b.left - 1) ∧ (t.port p).outcome = Oc.ok.code ∧
        (t.port p).rngBlk = some { b with left := b.left - 1 } ∧ t.tick = s.tick + 16 ∧ t.cells = s.cells ∧ t.rng = s.rng))

/-- CLAIM by a tenant of a free resource that it may claim and that nothing forbids gives it the resource; RELEASE by
its holder frees it, and both leave OK in CLAIM_STAT (spec/03_units_events.md R99, R100, R109, R110). -/
def Obligations.ClaimTakesAndReleaseFreesAResource : Prop :=
  ∀ (s : State) (p : PortId), s.wf → s.serves p 16 = true → s.acting p < 64 →
    let r := (vget s.tsel (s.acting p)).claimSel.toNat % 64
    (s.claimJudge (s.acting p) r ((vget s.tsel (s.acting p)).claimSel.toNat / 256) = .ok →
      ∃ t, exec (.claim p) s = .next t ∧ (t.port p).outcome = Oc.ok.code ∧ t.tenantHolds (s.acting p) r = true ∧
        (vget t.tsel (s.acting p)).claimStat = 0 ∧ t.tick = s.tick + 16 ∧ t.units = s.units ∧ t.src = s.src ∧
        (∀ n e, n < 64 → e < 4096 → (n, e) ≠ (0x02, r) → t.rd n e = s.rd n e)) ∧
    (s.releaseJudge (s.acting p) r = .ok →
      ∃ t, exec (.release p) s = .next t ∧ (t.port p).outcome = Oc.ok.code ∧ t.claimed r = false ∧
        (vget t.tsel (s.acting p)).claimStat = 0 ∧ t.tick = s.tick + 16 ∧ t.units = s.units ∧ t.src = s.src ∧
        (0x10 ≤ r → r ≤ 0x1F → t.g F.GY_CMP_MODE (r - 0x10) = 0) ∧ (0x28 ≤ r → r ≤ 0x2F → t.b F.ASCHED_VALID (r + 16) = false))

/-- A good Tuichex frame on a live port 1 that is no duplicate is executed at the rise of HSSEL_N in the name of its
tenant, moves the ALIVE tracking on, and its reply is held: NOP and REPLAY access nothing, REPLAY's reply copies the
reply shifted out during the frame before it, and a READ or a WRITE of SCRATCH by a bound and enabled tenant performs
one access and answers OK and 1, a READ the halfword too (spec/02_host_access.md R47, R49, R50, R51, R54, R55). A bad
frame performs no access and is answered BAD_FRAME with the last good frame's ALIVE; an early frame is discarded with
zeros on HSDO, and the reply held stays held. Neither touches a register (spec/02_host_access.md R48, R52, R53). -/
def Obligations.FramesAreExecutedAnsweredOrDropped : Prop :=
  (∀ (s : State) (f : Frame), s.outOfReset = true → s.coreRuns = true → s.dev.ready = true → s.dev.p1En = true →
    f.h0bit0 = false → s.tux.alive ≠ some f.alive.toNat →
    let gap := match s.tux.alive with | none => false | some a => decide (f.alive.toNat ≠ (a + 1) % 16)
    (f.data.length ≤ 8 →
      ∃ t, exec (.hostFrameNop f) s = .next t ∧ t.tux.alive = some f.alive.toNat ∧ t.port1.ctx = f.tenant.toNat ∧
        t.tux.held = some { status := statusHalf .ok f.alive.toNat gap false false, body := [] } ∧
        t.cells = s.cells ∧ t.tick = s.tick ∧ t.port0 = s.port0 ∧ t.units = s.units ∧ t.src = s.src) ∧
    (∀ r, f.data.length ≤ 8 → s.tux.shifted = some r →
      ∃ t, exec (.hostFrameReplay f) s = .next t ∧ t.tux.alive = some f.alive.toNat ∧
        t.tux.held = some { status := (r.status &&& 0xFF00) ||| statusHalf .ok f.alive.toNat gap false true, body := r.body } ∧
        t.cells = s.cells ∧ t.tick = s.tick ∧ t.port0 = s.port0 ∧ t.units = s.units ∧ t.src = s.src) ∧
    (f.h1top = 0 → f.rcnt = 0 → f.addr = 0x0A → s.enabled f.tenant.toNat = true → s.b F.TENANTS_BIND_P1 f.tenant.toNat = true →
      (∀ w, s.dev.wdogEnd = some w → s.tick + 16 ≤ w) →
      (f.data = [] →
        ∃ t, exec (.hostFrameRead f) s = .next t ∧ t.port1.ctx = f.tenant.toNat ∧
          t.tux.held = some { status := statusHalf .ok f.alive.toNat gap false false, body := [1, s.port1.scratch] } ∧
          t.cells = s.cells ∧ t.tick = s.tick + 16 ∧ t.tux.busyUntil = t.tick ∧ t.port0 = s.port0) ∧
      (∀ d, f.data = [d] →
        ∃ t, exec (.hostFrameWrite f) s = .next t ∧ t.port1.scratch = d ∧ t.port1.ctx = f.tenant.toNat ∧
          t.tux.held = some { status := statusHalf .ok f.alive.toNat gap false false, body := [1] } ∧
          t.cells = s.cells ∧ t.tick = s.tick + 16 ∧ t.tux.busyUntil = t.tick ∧ t.port0 = s.port0))) ∧
  (∀ (s : State) (hws : List Half) (fraction : Bool) (n : Nat), s.outOfReset = true → s.coreRuns = true → s.dev.ready = true →
    s.dev.p1En = true →
    (frameBad hws fraction = true →
      exec (.badFrame hws fraction) s = .next { s with tux := { s.tux with
        hsdo := hsdoOver hws.length s.tux.held, shifted := s.tux.held, busyUntil := s.tick,
        held := some { status := statusHalf .badFrame (s.tux.alive.getD 0) false false false, body := [] } } }) ∧
    exec (.earlyFrame n) s = .next { s with tux := { s.tux with hsdo := List.replicate n 0, shifted := none } })

/-- START of a unit in OFF that nothing holds, STOP of a unit in ON, RESET of a unit in FAULT and FORCE of a unit in
ON with an argument of its chapter's table (the optical ports apart, whose chapters judge it further): each is
accepted and moves the unit of UNIT_SEL as Table UE-2 says, with cause 0, and leaves every other unit but the
consumers that a stopped CALD takes with it (spec/03_units_events.md R83, R84, R87, R88, spec/09_caldera_jobs.md
R332). -/
def Obligations.UnitCommandsDriveTheStateMachine : Prop :=
  ∀ (s : State) (p : PortId) (check : Bool) (u : Src), s.serves p 16 = true → s.acting p = 0 →
    Src.unitOf ((vget s.tsel 0).unitSel.toNat % 256) = some u →
    (check = true → (s.mirror u).gen.toNat = (vget s.tsel 0).unitSel.toNat / 256) →
    (s.st u = .off → (s.mirror u).govHeld = false → s.forbids u = false →
      ∃ t, exec (.unitStart p check) s = .next t ∧ (t.port p).outcome = Oc.ok.code ∧ t.st u = .starting ∧
        (t.mirror u).cause = 0 ∧ (t.mirror u).sub = (s.mirror u).sub ∧ (∀ v : Src, v ≠ u → t.mirror v = s.mirror v) ∧
        t.cells = s.cells ∧ t.tick = s.tick + 16) ∧
    (s.st u = .on →
      ∃ t, exec (.unitStop p check) s = .next t ∧ (t.port p).outcome = Oc.ok.code ∧ t.st u = .stopping ∧
        (t.mirror u).cause = 0 ∧ (t.mirror u).forced = false ∧ (t.mirror u).pend = none ∧
        (u ≠ .cald → ∀ v : Src, v ≠ u → t.mirror v = s.mirror v)) ∧
    (s.st u = .fault →
      ∃ t, exec (.unitReset p check) s = .next t ∧ (t.port p).outcome = Oc.ok.code ∧ t.st u = .off ∧
        (t.mirror u).cause = 0 ∧ (t.mirror u).rearm = false ∧ (∀ v : Src, v ≠ u → t.mirror v = s.mirror v) ∧
        t.cells = s.cells ∧ t.tick = s.tick + 16) ∧
    (∀ arg : Byte, s.st u = .on → arg.toNat ∈ forceArgs u → u ≠ .opt1 → u ≠ .opt2 →
      ∃ t, exec (.unitForce p check arg) s = .next t ∧ (t.port p).outcome = Oc.ok.code ∧ t.st u = .on ∧
        (t.mirror u).forced = true ∧ (t.mirror u).pend = some arg.toNat ∧ (t.mirror u).sub = (s.mirror u).sub ∧
        (∀ v : Src, v ≠ u → t.mirror v = s.mirror v) ∧ t.cells = s.cells ∧ t.tick = s.tick + 16)

/-- A command with CHECK whose UNIT_SEL.GEN is not the unit's GEN is refused with STATE_MISMATCH, one to an identifier
that names no unit, or of code 0 or 5 to 7, with PARAM, and one of a tenant other than the owner with NOT_AVAILABLE;
nothing else changes but time (spec/03_units_events.md R83, R87, spec/00_scope.md R659). At a unit's safe boundary a
pending forced substate takes effect: FORCED clears, nothing is pending, and the unit stays in service. A master
serial port with no entry begun and a cipher engine with no job have their boundary at once, and SUB shows HOST_HOLD;
LOOP's is the grid half-cycle boundary (spec/03_units_events.md R88, Table UE-3). -/
def Obligations.UnitCommandRefusalsAndForcedSubstates : Prop :=
  (∀ (s : State) (p : PortId) (d : Half), s.serves p 16 = true →
    (s.acting p ≠ 0 → exec (.registerWrite p 0x42 (some d)) s = .next ((s.advance 15).ended p 0x42 .notAvailable none)) ∧
    (s.acting p = 0 → (Src.unitOf ((vget s.tsel 0).unitSel.toNat % 256) = none ∨ d.toNat % 16 ∈ [0, 5, 6, 7]) →
      exec (.registerWrite p 0x42 (some d)) s = .next ((s.advance 15).ended p 0x42 .param none)) ∧
    (∀ u, s.acting p = 0 → Src.unitOf ((vget s.tsel 0).unitSel.toNat % 256) = some u → d.toNat % 16 ∈ [1, 2, 3] →
      bitOf d.toNat 4 = true → (s.mirror u).gen.toNat ≠ (vget s.tsel 0).unitSel.toNat / 256 →
      exec (.registerWrite p 0x42 (some d)) s = .next ((s.advance 15).ended p 0x42 .stateMismatch none))) ∧
  (∀ (s : State) (u : Src) (a : Nat), s.isOn u = true → (s.mirror u).forced = true → (s.mirror u).pend = some a →
    (u = .obs → s.ob.running = none →
      ∃ t, exec (.forceBoundary u) s = .next t ∧ t.st u = .on ∧ (t.mirror u).forced = false ∧ (t.mirror u).pend = none ∧
        (t.mirror u).sub = (s.mirror u).sub % 2 + 2 * a ∧ t.tick = s.tick ∧ t.cells = s.cells ∧
        (∀ v : Src, v ≠ u → t.mirror v = s.mirror v)) ∧
    (u = .loop →
      ∃ t, exec (.forceBoundary u) s = .next t ∧ t.st u = .on ∧ (t.mirror u).forced = false ∧ (t.mirror u).pend = none ∧
        (t.mirror u).held = a ∧ t.tick = s.toHalf.tick ∧ t.cells = s.cells ∧ (∀ v : Src, v ≠ u → t.mirror v = s.mirror v)) ∧
    (u = .msp → s.ms.chain = [] →
      ∃ t, exec (.forceBoundary u) s = .next t ∧ t.st u = .on ∧ (t.mirror u).forced = false ∧ (t.mirror u).pend = none ∧
        (t.mirror u).sub = (s.mirror u).sub / 2 * 2 + a % 2 ∧ t.tick = s.tick ∧ t.cells = s.cells ∧
        (∀ v : Src, v ≠ u → t.mirror v = s.mirror v)))

/-- The last start step takes a unit from STARTING to ON (here GY, and MSP without a claimed select to decode), the
last stop step from STOPPING to OFF with every claim released, or, with REARM and leave of the governor, to STARTING;
a failed start step stops the unit with RESOURCE_HELD or faults it, releasing its claims (spec/03_units_events.md
R84). -/
def Obligations.StartAndStopStepsCompleteOrFail : Prop :=
  ∀ (s : State) (u : Src), s.wf → u.idx < 13 →
    (s.st u = .starting → u = .gy ∨ u = .msp ∧ s.msDecoded = false →
      ∃ t, exec (.startStepsDone u) s = .next t ∧ t.st u = .on ∧ (t.mirror u).cause = 0 ∧
        (∀ v : Src, v ≠ u → t.mirror v = s.mirror v)) ∧
    (s.st u = .stopping → s.stopReady u = true → s.dev.hibReq = false → (s.mirror u).rearm = false →
      ∃ t, exec (.stopStepsDone u) s = .next t ∧ t.st u = .off ∧ (t.mirror u).cause = (s.mirror u).cause ∧
        (∀ v : Src, v ≠ u → t.mirror v = s.mirror v) ∧ (∀ r, r < 64 → t.unitHolds u r = false)) ∧
    (s.st u = .stopping → s.stopReady u = true → s.dev.hibReq = false → (s.mirror u).rearm = true → s.forbids u = false →
      ∃ t, exec (.stopStepsDone u) s = .next t ∧ t.st u = .starting ∧ (t.mirror u).cause = 0 ∧ (t.mirror u).rearm = false ∧
        (∀ v : Src, v ≠ u → t.mirror v = s.mirror v) ∧ (∀ r, r < 64 → t.unitHolds u r = false)) ∧
    (s.st u = .starting →
      ∃ t, exec (.startStepFail u true) s = .next t ∧ t.st u = .stopping ∧ (t.mirror u).cause = Oc.resourceHeld.code) ∧
    (s.st u = .starting →
      ∃ t, exec (.startStepFail u false) s = .next t ∧ t.st u = .fault ∧ (t.mirror u).cause = Oc.fault.code ∧
        (t.mirror u).rearm = false ∧ (∀ r, r < 64 → t.unitHolds u r = false))

/-- An edge of an input with no edge before it starts the measurement and judges nothing. On an input not yet
qualified, an edge one expected period after the last, within 5 % and within 45.0 to 66.0 Hz, counts one good period
more, clears the bad ones and qualifies the input at the 25th (spec/04_geyser_time_base.md R113, R114, R115). When no
edge has come by 3.05 expected periods, three periods count as missed: the input is disqualified, with REF_LOST when
it was qualified, and its next edge starts the measurement afresh (spec/04_geyser_time_base.md R114, R115). -/
def Obligations.MainsEdgesQualifyAndDisqualifyInputs : Prop :=
  (∀ (s : State) (i : Fin 3) (ago : Nat),
    ((vget s.gy.zc i.val).last = none →
      ∃ t, exec (.zcEdge i ago) s = .next t ∧ (vget t.gy.zc i.val).last = some (s.tick - ago) ∧ t.cells = s.cells ∧
        t.src = s.src ∧ t.units = s.units ∧ t.gy.rate = s.gy.rate ∧ t.tick = s.tick ∧
        (∀ k, k ≠ i.val → vget t.gy.zc k = vget s.gy.zc k)) ∧
    (∀ t0 d, (vget s.gy.zc i.val).last = some t0 → s.gyQual (i.val + 1) = false → d = s.tick - ago - t0 →
      0 < (vget s.gy.zc i.val).prev →
      20 * (max d (vget s.gy.zc i.val).prev - min d (vget s.gy.zc i.val).prev) ≤ (vget s.gy.zc i.val).prev →
      45 * d ≤ 196608000 → 196608000 ≤ 66 * d →
      ∃ t, exec (.zcEdge i ago) s = .next t ∧ (vget t.gy.zc i.val).last = some (s.tick - ago) ∧
        t.g F.GY_REFS_GOOD i.val = min 255 (s.g F.GY_REFS_GOOD i.val + 1) ∧ t.g F.GY_REFS_BAD i.val = 0 ∧
        t.g F.GY_REFS_SPUR i.val = s.g F.GY_REFS_SPUR i.val ∧
        t.g F.GY_REFS_QSTATE i.val = (if 25 ≤ s.g F.GY_REFS_GOOD i.val + 1 then 2 else 1) ∧ t.tick = s.tick ∧
        (∀ n e, n < 64 → e < 4096 → (n, e) ≠ (0x09, i.val) → t.rd n e = s.rd n e))) ∧
  (∀ (s : State) (i : Fin 3) (t0 : Nat), (vget s.gy.zc i.val).last = some t0 →
    let sum := if s.gyQual (i.val + 1) then (vget s.gy.zc i.val).periods.sum else (vget s.gy.zc i.val).prev
    let n := if s.gyQual (i.val + 1) then (vget s.gy.zc i.val).periods.length else 1
    0 < sum → 0 < n →
      ∃ t, exec (.zcMissedTimeout i) s = .next t ∧ (vget t.gy.zc i.val).last = none ∧ t.g F.GY_REFS_GOOD i.val = 0 ∧
        t.g F.GY_REFS_BAD i.val = 3 ∧ t.g F.GY_REFS_QSTATE i.val = 0 ∧ s.tick ≤ t.tick ∧ t0 * (100 * n) + 305 * sum ≤ t.tick * (100 * n) ∧
        (s.gyQual (i.val + 1) = true → ∃ e ∈ (vget t.src Src.gy.idx).q, e.common = true ∧ e.code = 0x13 ∧ e.arg = 256 + (i.val + 1)) ∧
        (∀ n e, n < 64 → e < 4096 → (n, e) ≠ (0x09, i.val) → t.rd n e = s.rd n e))

/-- After ACQ_MAX cycles in ACQUIRE with no usable reference Geyser enters HOLDOVER with a valid held rate and FREERUN
without; after HOLD_MAX cycles of HOLDOVER it enters FREERUN; a member that has heard no BEACON for 512 cycles sets
NET_TIME to 0 and raises it (spec/04_geyser_time_base.md R126, R128, R129, R150). REALIGN makes a REALIGN pending;
RELEARN invalidates every learned offset and phase identity but the MASTER's own input's (spec/04_geyser_time_base.md
R123, R131, R142). -/
def Obligations.GeyserLockTimersAndUnitCommands : Prop :=
  (∀ (s : State),
    (s.isOn .gy = true → s.sub .gy = 0 → s.gyBest = none → (s.mirror .gy).held = 0 → s.gyc F.GY_CFG_ACQ_MAX ≤ s.gy.since →
      ∃ t, exec .acqMaxExpire s = .next t ∧ t.isOn .gy = true ∧ t.tick = s.tick ∧ t.cells = s.cells ∧
        (s.gyHeldOk = true → t.sub .gy = 2 ∧ t.gy.ref = 7 ∧ t.gy.rate = s.gyHeld) ∧
        (s.gyHeldOk = false → t.sub .gy = 3 ∧ t.gy.ref = 0 ∧ t.gy.rate = s.gyNominal) ∧
        (∀ u : Src, u ≠ .gy → t.mirror u = s.mirror u)) ∧
    (s.isOn .gy = true → s.sub .gy = 2 → (s.mirror .gy).held = 0 → s.gyc F.GY_CFG_HOLD_MAX ≠ 0 →
      s.gyc F.GY_CFG_HOLD_MAX ≤ s.gy.since →
      ∃ t, exec .holdMaxExpire s = .next t ∧ t.isOn .gy = true ∧ t.sub .gy = 3 ∧ t.gy.ref = 0 ∧ t.gy.rate = s.gyNominal ∧
        t.tick = s.tick ∧ t.cells = s.cells ∧ (∀ u : Src, u ≠ .gy → t.mirror u = s.mirror u)) ∧
    (∀ c, s.gy.beaconAt = some c → s.isMaster = false → 512 ≤ (s.cycle + 2 ^ 32 - c.toNat) % 2 ^ 32 →
      ∃ t, exec .netTimeTimeout s = .next t ∧ t.gy.netTime = false ∧ t.cells = s.cells ∧ t.units = s.units ∧ t.tick = s.tick ∧
        t.gy.rate = s.gy.rate ∧
        (s.gy.netTime = true → (vget t.src Src.gy.idx).q =
          (vget s.src Src.gy.idx).q ++ [{ common := true, tenant := 0, sev := 1, code := 0x18, arg := 0, ref := 0 }]) ∧
        (s.gy.netTime = false → t.src = s.src))) ∧
  (∀ (s : State) (p : PortId) (gen : Byte) (check : Bool), s.ownerRow p .gy gen check = true → s.isOn .gy = true →
    (s.gyc F.GY_CFG_REALIGN_EN ≠ 0 → s.gy.ref ≠ 0 → s.gy.ref ≠ 7 →
      ∃ t, exec (.gyRealign p gen check) s = .next t ∧ (t.port p).outcome = Oc.ok.code ∧ t.gy.realign = true ∧
        t.gy.realignCmd = true ∧ t.gy.rate = s.gy.rate ∧ t.cells = s.cells ∧ t.units = s.units ∧ t.src = s.src ∧
        (vget t.tsel 0).unitSel = BitVec.ofNat 16 (1 + 256 * gen.toNat) ∧ t.tick = s.tick + 32) ∧
    (s.gyc F.GY_CFG_OFS_MODE = 0 →
      ∃ t, exec (.gyRelearn p gen check) s = .next t ∧ (t.port p).outcome = Oc.ok.code ∧ t.tick = s.tick + 32 ∧
        (∀ i, i < 3 → (s.isMaster = true → s.gyc F.GY_CFG_OWN_IN ≠ i + 1) →
          t.b F.GY_REFS_OFS_VALID i = false ∧ t.g F.GY_REFS_PHASE_ID i = 0) ∧
        (∀ i, i < 3 → t.g F.GY_REFS_OFFSET i = s.g F.GY_REFS_OFFSET i) ∧
        (∀ n e, n < 64 → e < 4096 → ¬(n = 0x09 ∧ e < 3) → t.rd n e = s.rd n e)))

/-- A comparator armed for one firing fires when the stamp reaches its target, one armed for every cycle or half-cycle
at its angle: COUNT goes up by one modulo 2^16, STEPPED reads 0, a pulse starts where PIN asks for it, and the tenant
that holds the comparator gets CMP where EVT asks for it. A pulse ends by itself (spec/04_geyser_time_base.md R139,
R140, R141). -/
def Obligations.ComparatorsFireAndTheirPulsesEnd : Prop :=
  ∀ (s : State) (i : Fin 16),
    (s.g F.GY_CMP_MODE i.val ≠ 0 →
      let m := s.g F.GY_CMP_MODE i.val
      let y := if m = 1 then s.advanceFrac (s.fracUntil (s.cmpTarget i.val))
        else s.advanceFrac (s.fracTo (s.g F.GY_CMP_ANGLE i.val) (if m = 3 then 32768 else 65536))
      (m = 1 → s.b F.GY_CMP_FIRED i.val = false) →
      (m ≠ 1 → vget s.gy.cmpDone i.val ≠ cmpSlot m (s.g F.GY_CMP_ANGLE i.val) y.stamp48 + 1) →
      ∃ t, exec (.cmp i) s = .next t ∧ t.tick = y.tick ∧ t.gy.stamp = y.gy.stamp ∧
        t.g F.GY_CMP_COUNT i.val = (s.g F.GY_CMP_COUNT i.val + 1) % 65536 ∧ t.b F.GY_CMP_STEPPED i.val = false ∧
        (m = 1 → t.b F.GY_CMP_FIRED i.val = true) ∧
        (s.b F.GY_CMP_PIN i.val = true → vget t.gy.pulse i.val = some (y.stamp48 + 16 * s.g F.GY_CMP_PW i.val)) ∧
        (s.b F.GY_CMP_EVT i.val = true → s.claimed (0x10 + i.val) = true → s.g F.CLAIMS_HOLDER (0x10 + i.val) = 0x0E →
          (vget t.src Src.gy.idx).q = (vget s.src Src.gy.idx).q ++
            [{ common := false, tenant := s.g F.CLAIMS_TENANT (0x10 + i.val), sev := 0, code := 0x1A, ref := 0,
               arg := ((s.g F.GY_CMP_COUNT i.val + 1) % 65536 * 65536 + i.val) % 2 ^ 32 }]) ∧
        (∀ n e, n < 64 → e < 4096 → (n, e) ≠ (0x0B, i.val) → t.rd n e = s.rd n e) ∧ t.units = s.units) ∧
    (∀ x, vget s.gy.pulse i.val = some x →
      ∃ t, exec (.cmpPulseEnd i) s = .next t ∧ vget t.gy.pulse i.val = none ∧ t.tick = (s.advanceFrac (s.fracUntil x)).tick ∧
        (∀ k, k ≠ i.val → vget t.gy.pulse k = vget s.gy.pulse k) ∧ t.cells = s.cells ∧ t.units = s.units ∧ t.src = s.src)

/-- At a cycle boundary a GRID_OFFSET change announced at least 2 cycles before takes force where CYCLE mod 256 is 0,
and a CYCLE load takes effect with no line frame in progress, each with its event; at every one the cycles spent in
the lock state count one more and, in LOCK, the held rate takes in one more RATE (spec/04_geyser_time_base.md R121,
R127, R128, R129). At a grid half-cycle boundary, with no cycle boundary in the same core tick, what waits for it
takes effect: a forced substate of LOOP, and, with no line frame in progress, a GY_CFG commit and a REALIGN, which
steps the stamp to the boundary plus the phase error and raises REALIGNED (spec/03_units_events.md R88,
spec/04_geyser_time_base.md R120, R131, R151). -/
def Obligations.CycleAndHalfCycleBoundariesApplyChanges : Prop :=
  (∀ (s : State) (y : State), y = s.nextCycle →
    (s.gy.gridNew = none → s.gy.cycleLoad = none →
      ∃ t, exec .cycleBoundary s = .next t ∧ t.gy.since = s.gy.since + 1 ∧ t.gy.cycDone = BitVec.ofNat 32 y.cycle ∧
        t.gy.stamp = y.gy.stamp ∧ t.gy.grid = s.gy.grid ∧
        t.gy.lockRates = (if s.isOn .gy && s.sub .gy == 1 then (s.gy.rate :: s.gy.lockRates).take 64 else s.gy.lockRates) ∧
        (s.wf → ∀ e, t.rd 0x08 e = s.rd 0x08 e)) ∧
    (∀ v c, s.gy.gridNew = some v → s.gy.gridHeard = some c → s.gy.cycleLoad = none → y.cycle % 256 = 0 →
      2 ≤ (y.cycle + 2 ^ 32 - c % 2 ^ 32) % 2 ^ 32 →
      ∃ t, exec .cycleBoundary s = .next t ∧ t.gy.grid = v ∧ t.gy.gridNew = none ∧ t.gy.stamp = y.gy.stamp ∧
        (∃ e ∈ (vget t.src Src.gy.idx).q, e.common = true ∧ e.code = 0x19 ∧ e.arg = v % 2 ^ 32) ∧
        (s.wf → t.g F.GY_CFG_GRID_OFFSET 0 = v % 2048)) ∧
    (∀ d, s.gy.gridNew = none → s.gy.cycleLoad = some d → s.ln.frame = none →
      ∃ t, exec .cycleBoundary s = .next t ∧ t.gy.cycleLoad = none ∧
        t.gy.stamp = BitVec.ofInt 80 ((y.gy.stamp.toNat : Int) + d * 2 ^ 48) ∧
        (∃ e ∈ (vget t.src Src.gy.idx).q, e.common = true ∧ e.code = 0x15 ∧ e.arg = t.cycle % 2 ^ 32))) ∧
  (∀ (s : State) (y : State), y = s.nextHalfCycle → y.cycle % 2 ^ 32 = y.gy.cycDone.toNat →
    (∀ a, s.isOn .loop = true → (s.mirror .loop).pend = some a →
      ∃ t, exec .halfCycleBoundary s = .next t ∧ (t.mirror .loop).pend = none ∧ (t.mirror .loop).forced = false ∧
        (t.mirror .loop).held = a ∧ t.st .loop = .on) ∧
    (s.ln.frame = none → s.gy.cfgOld.isSome = true → s.gy.realign = false → (s.mirror .gy).pend = none →
      ∃ t, exec .halfCycleBoundary s = .next t ∧ t.gy.cfgOld = none ∧ t.gy.hcDone = y.hcIndex ∧ t.gy.stamp = y.gy.stamp) ∧
    (s.ln.frame = none → s.gy.cfgOld = none → s.gy.realign = true → (s.mirror .gy).pend = none →
      ∃ t, exec .halfCycleBoundary s = .next t ∧ t.gy.realign = false ∧
        t.gy.stamp = BitVec.ofInt 80 (((y.hcIndex * 32768 + s.gy.grid) % 2 ^ 48 : Nat) * 4294967296 + s.gy.err) ∧
        (∃ e ∈ (vget t.src Src.gy.idx).q, e.common = true ∧ e.code = 0x14)))

/-- The automatic gain of a receive channel, at a slot start: one step down after a slot that clipped above gain 0,
one step up after the eighth quiet slot in a row outside a reception, the fixed gain of LS_CFG with AGC_EN = 0; a slot
in which the station transmits is blanked and leaves the gain (spec/05_line_signal.md R175, R176, R177). A pending
common map takes effect at the first grid half-cycle boundary with no frame in progress, and MAP_APPLIED is raised;
with a frame in progress it goes on waiting. A pending LA_CFG commit follows the same rule (spec/05_line_signal.md
R182, spec/06_line_access.md R213). -/
def Obligations.LineGainMapsAndSettings : Prop :=
  (∀ (s : State) (ch : Fin 3) (peak : Nat), s.isOn .line = true → bitOf (s.g F.LS_CFG_PH_EN 0) ch.val = true → peak < 2 ^ 14 →
    let y := s.toMark s.gy.grid 2048
    (s.ln.ltxen ≠ 0 →
      ∃ t, exec (.agcStep ch peak) s = .next t ∧ t.tick = y.tick ∧ t.ln = s.ln ∧ t.src = s.src ∧ t.units = s.units ∧
        t.g F.LS_RXSTAT_BLANKED ch.val = (s.g F.LS_RXSTAT_BLANKED ch.val + 1) % 65536 ∧
        t.g F.LS_RXSTAT_GAIN ch.val = s.g F.LS_RXSTAT_GAIN ch.val) ∧
    (s.ln.ltxen = 0 → s.b F.LS_CFG_AGC_EN 0 = false →
      ∃ t, exec (.agcStep ch peak) s = .next t ∧ t.tick = y.tick ∧ t.g F.LS_RXSTAT_GAIN ch.val = s.lsGain ch.val ∧
        t.g F.LS_RXSTAT_PEAK ch.val = peak ∧ t.src = s.src ∧ t.units = s.units) ∧
    (s.ln.ltxen = 0 → s.b F.LS_CFG_AGC_EN 0 = true → 5799 < peak → 0 < s.g F.LS_RXSTAT_GAIN ch.val →
      ∃ t, exec (.agcStep ch peak) s = .next t ∧ t.tick = y.tick ∧
        t.g F.LS_RXSTAT_GAIN ch.val = s.g F.LS_RXSTAT_GAIN ch.val - 1 ∧ t.b F.LS_RXSTAT_CLIPPING ch.val = true ∧
        t.g F.LS_RXSTAT_CLIPS ch.val = (s.g F.LS_RXSTAT_CLIPS ch.val + 1) % 65536 ∧
        t.g F.LS_RXSTAT_STEPS ch.val = (s.g F.LS_RXSTAT_STEPS ch.val + 1) % 65536 ∧ t.src = s.src ∧ t.units = s.units) ∧
    (s.ln.ltxen = 0 → s.b F.LS_CFG_AGC_EN 0 = true → peak < 730 → 7 ≤ (vget s.ln.agc ch.val).quiet →
      s.g F.LS_RXSTAT_GAIN ch.val < 7 → s.ln.frame = none →
      ∃ t, exec (.agcStep ch peak) s = .next t ∧ t.tick = y.tick ∧
        t.g F.LS_RXSTAT_GAIN ch.val = s.g F.LS_RXSTAT_GAIN ch.val + 1 ∧ t.b F.LS_RXSTAT_CLIPPING ch.val = false ∧
        (vget t.ln.agc ch.val).quiet = 0 ∧ t.src = s.src ∧ t.units = s.units)) ∧
  (∀ (s : State),
    (∀ m0 m1, s.ln.cmapNew = some (m0, m1) → s.ln.frame = none →
      ∃ t, exec .commonMapApply s = .next t ∧ t.tick = s.toHalf.tick ∧ t.ln.cmapNew = none ∧ t.rd 0x12 0 = m0 ∧ t.rd 0x12 1 = m1 ∧
        (s.ll.ownCommon = true → t.rd 0x12 2 = m0 ∧ t.rd 0x12 3 = m1) ∧
        (s.ll.ownCommon = false → t.rd 0x12 2 = s.rd 0x12 2 ∧ t.rd 0x12 3 = s.rd 0x12 3) ∧
        t.b F.LS_CFG_COMMON_PEND 0 = false ∧ t.units = s.units ∧
        (vget t.src Src.line.idx).q = (vget s.src Src.line.idx).q ++
          [{ common := true, tenant := 0, sev := 0, code := 0x10, arg := 0, ref := 0 }]) ∧
    (s.ln.frame.isSome = true →
      exec .commonMapApply s = .next s.toHalf ∧ exec .laCfgApply s = .next s.toHalf) ∧
    (s.ln.cfgOld.isSome = true → s.ln.frame = none →
      ∃ t, exec .laCfgApply s = .next t ∧ t.tick = s.toHalf.tick ∧ t.ln.cfgOld = none ∧
        t.lac F.LA_CFG_ADDR = s.g F.LA_CFG_ADDR 0 ∧ t.lac F.LA_CFG_ROLE = s.g F.LA_CFG_ROLE 0 ∧
        (s.wf → ∀ n e, n < 64 → n ≠ 0x0A → t.rd n e = s.rd n e)))

/-- A commit to LA_TXQ entry 16 that nothing refuses takes the first free entry: with the staging frame held by
another request it is DEFERRED and waits in state 1; with nothing before it and nothing to charge it is granted at
once, OK in state 2, with GRANT for its tenant. A refused submission changes nothing but what entry 16 shows its
tenant (spec/06_line_access.md R218, R219, R220, spec/00_scope.md R659). -/
def Obligations.LineSubmissionQueuesOrRefuses : Prop :=
  ∀ (s : State) (p : PortId) (win : Fin 4) (w : Word), s.serves p 48 = true →
    (∀ q g, s.lnJudge (s.acting p) w = .ok → (List.range 16).find? (fun k => !s.lnLive k) = some q → s.ln.granted = some g →
      (F.LA_TXQ_CLASS.of w = 3 → s.lnDorm = 0) →
      ∃ t, exec (.lineTxSubmit p win w) s = .next t ∧ (t.port p).outcome = Oc.deferred.code ∧ t.tick = s.tick + 48 ∧
        t.g F.LA_TXQ_STATE q = 1 ∧ t.g F.LA_TXQ_DST q = F.LA_TXQ_DST.of w ∧ t.g F.LA_TXQ_CLASS q = F.LA_TXQ_CLASS.of w ∧
        t.g F.LA_TXQ_TAG q = F.LA_TXQ_TAG.of w ∧ t.ln.order = s.ln.order ++ [q] ∧ t.lnOwner q = s.acting p ∧
        t.ln.granted = some g ∧ t.units = s.units ∧ t.src = s.src) ∧
    (∀ q, s.lnJudge (s.acting p) w = .ok → (List.range 16).find? (fun k => !s.lnLive k) = some q → s.ln.granted = none →
      s.ln.order = [] → s.lnDorm = 0 → s.g F.LA_TENANT_BKT_MAX (s.acting p) = 0 → s.acting p < 64 →
      ∃ t, exec (.lineTxSubmit p win w) s = .next t ∧ (t.port p).outcome = Oc.ok.code ∧ t.tick = s.tick + 48 ∧
        t.g F.LA_TXQ_STATE q = 2 ∧ t.g F.LA_TXQ_DST q = F.LA_TXQ_DST.of w ∧ t.ln.order = [] ∧ t.lnOwner q = s.acting p ∧
        t.ln.granted = some q ∧ t.ln.filled = 0 ∧ t.units = s.units ∧
        (∃ e ∈ (vget t.src Src.line.idx).q, e.common = false ∧ e.tenant = s.acting p ∧ e.code = 0x20)) ∧
    (∀ o, s.lnJudge (s.acting p) w = o → o ≠ .ok →
      ∃ t, exec (.lineTxSubmit p win w) s = .next t ∧ (t.port p).outcome = o.code ∧ t.tick = s.tick + 48 ∧ t.ln = s.ln ∧
        t.src = s.src ∧ t.units = s.units ∧ (∀ q, q < 16 → t.rd 0x17 q = s.rd 0x17 q))

/-- LINE_GRANT gives the free staging frame to the one waiting request that its class and bucket allow: state 2, its
span charged, the staging words cleared, the half-cycle h0 GRANT_LEAD after the next boundary, and GRANT for its
tenant; a request that a full staging frame keeps waiting is not granted (spec/06_line_access.md R219, R220). One
half-cycle before the granted request would contend, a staging frame without every word of the request ends it
UNDERRUN, with DONE and DEADLINE, and becomes free; a filled one stays (spec/06_line_access.md R220). -/
def Obligations.LineGrantsFillOrUnderrun : Prop :=
  (∀ (s : State) (q : Nat), s.isOn .line = true → s.lnDorm ≠ 2 → q < 16 →
    (s.ln.granted.isSome = true → exec .lineGrant s = .next s) ∧
    (s.ln.granted = none → s.ln.order = [q] → s.lnGrantable q = true →
      ∃ t, exec .lineGrant s = .next t ∧ t.tick = s.tick ∧ t.ln.granted = some q ∧ t.ln.order = [] ∧ t.ln.filled = 0 ∧
        t.ln.locked = false ∧ t.ln.h0 = s.nextHalf + s.lac F.LA_CFG_GRANT_LEAD ∧ t.g F.LA_TXQ_STATE q = 2 ∧
        (∀ i, i < 8 → t.rd 0x18 i = 0) ∧
        (s.lnCharged (s.lnOwner q) (s.g F.LA_TXQ_CLASS q) = true →
          t.g F.LA_TENANT_LEVEL (s.lnOwner q) = s.g F.LA_TENANT_LEVEL (s.lnOwner q) - s.lnReqSpan q) ∧
        (vget t.src Src.line.idx).q = (vget s.src Src.line.idx).q ++
          [{ common := false, tenant := s.lnOwner q, sev := 0, code := 0x20, ref := 0,
             arg := (s.g F.LA_TXQ_TAG q * 256 + (s.nextHalf + s.lac F.LA_CFG_GRANT_LEAD - s.hcIndex) % 256) % 2 ^ 32 }] ∧
        t.units = s.units)) ∧
  (∀ (s : State) (q : Nat), s.ln.granted = some q → q < 16 →
    (s.lnMaySend = true → s.toHalf.lnFreeNext = true → s.ln.unknown = false → s.ln.locked = false → s.lnFilled q = false →
      s.ln.h0 ≤ s.toHalf.hcIndex + 1 →
      ∃ t, exec .lineStageCheck s = .next t ∧ t.tick = s.toHalf.tick ∧ t.ln.granted = none ∧ t.g F.LA_TXQ_STATE q = 4 ∧
        t.g F.LA_TXQ_OUTCOME q = Oc.underrun.code ∧ t.units = s.units ∧
        (∃ e ∈ (vget t.src Src.line.idx).q, e.code = 0x02 ∧ e.ref = q + 1 ∧ e.arg % 256 = Oc.underrun.code) ∧
        (∃ e ∈ (vget t.src Src.line.idx).q, e.code = 0x03 ∧ e.arg % 256 = Oc.underrun.code)) ∧
    (s.lnFilled q = true → exec .lineStageCheck s = .next s.toHalf))

/-- An abort of a queued or granted request by its submitter frees the entry with OK and DONE; one after the first
priority burst is TOO_LATE and changes nothing of the request. RELEASE of a receive buffer whose reception has been
arbitrated empties it (spec/06_line_access.md R221, R223, spec/03_units_events.md R102). -/
def Obligations.LineAbortAndRelease : Prop :=
  ∀ (s : State) (p : PortId) (win : Fin 4) (q : Nat), s.serves p 48 = true →
    (q < 16 → s.lnOwner q = s.acting p → s.g F.LA_TXQ_STATE q = 1 ∨ s.g F.LA_TXQ_STATE q = 2 →
      ∃ t, exec (.lineTxAbort p win q) s = .next t ∧ (t.port p).outcome = Oc.ok.code ∧ t.rd 0x17 q = 0 ∧ t.tick = s.tick + 48 ∧
        q ∉ t.ln.order ∧ t.ln.granted ≠ some q ∧ t.units = s.units ∧
        (∃ e ∈ (vget t.src Src.line.idx).q, e.code = 0x02 ∧ e.ref = q + 1 ∧ e.arg % 256 = Oc.aborted.code)) ∧
    (q < 16 → s.lnOwner q = s.acting p → s.g F.LA_TXQ_STATE q = 3 →
      ∃ t, exec (.lineTxAbort p win q) s = .next t ∧ (t.port p).outcome = Oc.tooLate.code ∧ t.tick = s.tick + 48 ∧
        t.cells = s.cells ∧ t.ln = s.ln ∧ t.src = s.src ∧ t.units = s.units) ∧
    (∀ b, b < 2 → (vget s.ln.bufs b).full = true → (vget s.ln.bufs b).seen = true → (vget s.ln.bufs b).tenant = s.acting p →
      ∃ t, exec (.lineRxRelease p win b) s = .next t ∧ (t.port p).outcome = Oc.ok.code ∧ t.tick = s.tick + 48 ∧
        vget t.ln.bufs b = {} ∧ (∀ i, i < 9 → t.rd 0x19 (9 * b + i) = 0) ∧ vget t.ln.bufs (1 - b) = vget s.ln.bufs (1 - b) ∧
        t.src = s.src ∧ t.units = s.units)

/-- A half-cycle in which the station has a frame to send: after an idle half-cycle, with the line quiet, the granted
request whose priority burst nobody outdoes and whose contention burst nobody precedes locks the staging frame and
starts its header; a burst of higher priority makes it lose, untouched; a backoff counts one down. Without an idle
half-cycle before it nothing is sent (spec/06_line_access.md R203, R204, R214, R220). In its next origin half-cycle an
own frame in progress sends the carriers of that half-cycle; a station that owes an acknowledgement sends it in
half-cycle A, once (spec/06_line_access.md R205, R207). -/
def Obligations.ContentionOriginAndAcknowledgementHalfCycles : Prop :=
  (∀ (s : State) (pw cw : Option (Fin 4)),
    let y := s.toHalf
    let z := y.modLn (fun l => { l with idleSeen := true, unknown := false })
    (∃ t, exec (.lineContend false pw cw) s = .next t ∧ t.tick = y.tick ∧ t.ln.idleSeen = false ∧ t.ln.frame = s.ln.frame ∧
      t.ln.txQuarters = s.ln.txQuarters ∧ t.ln.ltxen = s.ln.ltxen ∧ t.cells = s.cells ∧ t.src = s.src) ∧
    (∀ q, s.lnMaySend = true → s.ln.frame = none → z.lnContender y.hcIndex = some (.req q) → s.b F.LA_TXQ_SECURE q = false →
      s.b F.LA_TXQ_MAPSEL q = false → q < 16 →
      (s.ln.backoff ≠ 0 →
        ∃ t, exec (.lineContend true pw cw) s = .next t ∧ t.ln.backoff = s.ln.backoff - 1 ∧ t.ln.frame = none ∧
          t.cells = s.cells ∧ t.src = s.src) ∧
      (∀ k, s.ln.backoff = 0 → pw = some k → k.val < 3 - s.g F.LA_TXQ_CLASS q →
        ∃ t, exec (.lineContend true pw cw) s = .next t ∧ t.ln.frame = none ∧ t.ln.unknown = true ∧ t.ln.locked = s.ln.locked ∧
          t.cells = s.cells ∧ t.src = s.src) ∧
      (s.ln.backoff = 0 → pw = none → cw = none →
        ∃ t f, exec (.lineContend true pw cw) s = .next t ∧ t.tick = y.tick ∧ t.ln.frame = some f ∧ f.own = true ∧
          f.device = false ∧ f.entry = q ∧ f.h = y.hcIndex ∧ f.done = 0 ∧ t.ln.locked = true ∧ t.g F.LA_TXQ_STATE q = 3 ∧
          t.g F.LA_TXQ_ATTEMPTS q = (s.g F.LA_TXQ_ATTEMPTS q + 1) % 16 ∧
          f.payload = clearSection 0 ((List.range (s.g F.LA_TXQ_LEN q + 1)).map (fun i => s.rd 0x18 i)) ∧
          t.ln.txQuarters.head? = some (3 - s.g F.LA_TXQ_CLASS q, s.accTone (s.g F.LA_TXQ_TIERS q)) ∧
          t.ln.txQuarters.length = 2 ∧ t.src = s.src ∧ t.units = s.units))) ∧
  (∀ (s : State) (f : LineFrame), s.ln.frame = some f →
    (f.own = true → f.done < f.k → (s.toHalfIndex (f.h + f.done * (hdrTiers f.header + 1))).hcIndex = f.h + f.done * (hdrTiers f.header + 1) →
      ∃ t, exec .lineOriginHalfCycle s = .next t ∧ t.ln.frame = some { f with done := f.done + 1 } ∧
        t.ln.ltxen = s.ln.ltxen ||| f.phases ∧
        t.ln.txSlots = ((s.frameSymbols f).filter (fun y => y.1 / 16 == f.done)).map
          (fun y => { slot := y.1 % 16, tones := y.2, dither := 0 }) ∧
        t.tick = (s.toHalfIndex (f.h + f.done * (hdrTiers f.header + 1))).tick ∧ t.cells = s.cells ∧ t.src = s.src ∧
        t.units = s.units) ∧
    (f.own = false → f.acked = true → (s.toHalfIndex f.ackAt).hcIndex = f.ackAt →
      ∃ t, exec .lineAckTx s = .next t ∧ t.ln.frame = some { f with acked := false } ∧ t.ln.ltxen = s.ln.ltxen ||| f.phases ∧
        t.ln.txSlots = s.ackSymbols f.cmap0 f.cmap1 f.ackAt (ackBits (hdrSeq f.header) f.ackCode) ∧
        t.tick = (s.toHalfIndex f.ackAt).tick ∧ t.cells = s.cells ∧ t.src = s.src ∧ t.units = s.units))

/-- The attempt of a live request ends: acknowledged ACK, the request ends OK with DONE and TEC falls by one, not
below 0; asked for no acknowledgement, it ends OK and TEC stays; unacknowledged with retries left and nothing to
charge, it stays granted and TEC rises by 8 (spec/06_line_access.md R207, R214, R215). -/
def Obligations.AttemptsEndByTheirAcknowledgement : Prop :=
  ∀ (s : State) (f : LineFrame) (ack : Option (BitVec 9)), s.ln.frame = some f → f.own = true → f.dev = none →
    s.lnLive f.entry = true → f.entry < 16 → f.muted = false → s.g F.LA_STAT_TEC 0 < 88 → s.g F.LA_STAT_REC 0 < 96 →
    s.lnConf = 0 →
    (hdrAckreq f.header = true → ack.bind (ackCode (hdrSeq f.header)) = some 0 →
      ∃ t, exec (.lineAttemptEnd ack) s = .next t ∧ t.ln.frame = none ∧ t.g F.LA_TXQ_STATE f.entry = 4 ∧
        t.g F.LA_TXQ_OUTCOME f.entry = Oc.ok.code ∧ t.g F.LA_STAT_TEC 0 = s.g F.LA_STAT_TEC 0 - 1 ∧
        t.tick = (s.toHalfIndex f.over).tick ∧ t.units = s.units ∧
        (∃ e ∈ (vget t.src Src.line.idx).q, e.code = 0x02 ∧ e.ref = f.entry + 1 ∧ e.arg % 256 = Oc.ok.code)) ∧
    (hdrAckreq f.header = false →
      ∃ t, exec (.lineAttemptEnd ack) s = .next t ∧ t.ln.frame = none ∧ t.g F.LA_TXQ_STATE f.entry = 4 ∧
        t.g F.LA_TXQ_OUTCOME f.entry = Oc.ok.code ∧ t.g F.LA_STAT_TEC 0 = s.g F.LA_STAT_TEC 0 ∧ t.units = s.units) ∧
    (hdrAckreq f.header = true → ack = none → s.g F.LA_TXQ_ATTEMPTS f.entry < s.lac F.LA_CFG_RETRY_MAX →
      s.g F.LA_TENANT_BKT_MAX (s.lnOwner f.entry) = 0 →
      ∃ t, exec (.lineAttemptEnd ack) s = .next t ∧ t.ln.frame = none ∧
        t.g F.LA_TXQ_STATE f.entry = s.g F.LA_TXQ_STATE f.entry ∧ t.g F.LA_STAT_TEC 0 = s.g F.LA_STAT_TEC 0 + 8 ∧
        t.g F.LA_STAT_UNACKED 0 = (s.g F.LA_STAT_UNACKED 0 + 1) % 65536 ∧ t.ln.granted = s.ln.granted ∧ t.src = s.src ∧
        t.units = s.units)

/-- A decoded header, with no frame in progress: a wrong header CRC counts in HDR_BAD, another domain's in TAG_MISS,
and neither begins a frame; a good one of the domain is a frame in progress from the half-cycle it began in, and REC
falls by one, not below 0 (spec/06_line_access.md R195, R206, R215). The payload section of the frame in progress,
addressed to this station and not SECURE, for an enabled tenant: a good DATA section that is no duplicate goes to a
free receive buffer with RX_FRAME for its tenant and chooses ACK; one that fails its PCRC is not stored and chooses
NACK (spec/06_line_access.md R196, R207, R208, R223). -/
def Obligations.HeadersAndFramesAreReceived : Prop :=
  (∀ (s : State) (hd : BitVec 48) (burst : Bool) (back ago : Nat) (copy : Fin 4) (lq : Byte), s.lnHears = true →
    s.ln.frame = none → s.g F.LA_STAT_TEC 0 < 96 → s.g F.LA_STAT_REC 0 < 95 → s.lnConf = 0 →
    (hdrCrcOk hd = false →
      ∃ t, exec (.lineHeaderRx hd burst back ago copy lq) s = .next t ∧ t.ln.frame = none ∧ t.tick = s.tick ∧
        t.g F.LA_STAT_HDR_BAD 0 = (s.g F.LA_STAT_HDR_BAD 0 + 1) % 65536 ∧
        t.g F.LA_STAT_REC 0 = s.g F.LA_STAT_REC 0 + b2n burst ∧ t.ln.unknown = (s.ln.unknown || burst) ∧ t.units = s.units ∧
        t.src = s.src) ∧
    (hdrCrcOk hd = true → hdrTag hd ≠ domTag (s.lac F.LA_CFG_DOMAIN_ID) →
      ∃ t, exec (.lineHeaderRx hd burst back ago copy lq) s = .next t ∧ t.ln.frame = none ∧ t.tick = s.tick ∧
        t.g F.LA_STAT_TAG_MISS 0 = (s.g F.LA_STAT_TAG_MISS 0 + 1) % 65536 ∧ t.g F.LA_STAT_REC 0 = s.g F.LA_STAT_REC 0 ∧
        t.units = s.units ∧ t.src = s.src) ∧
    (hdrCrcOk hd = true → hdrTag hd = domTag (s.lac F.LA_CFG_DOMAIN_ID) → hdrIllegal hd = false →
      ∃ t f, exec (.lineHeaderRx hd burst back ago copy lq) s = .next t ∧ t.ln.frame = some f ∧ f.own = false ∧ f.header = hd ∧
        f.h = s.hcIndex - back ∧ f.done = 0 ∧ f.acked = false ∧ t.ln.unknown = false ∧ t.tick = s.tick ∧
        t.g F.LA_STAT_REC 0 = s.g F.LA_STAT_REC 0 - 1 ∧ t.units = s.units)) ∧
  (∀ (s : State) (f : LineFrame) (bits : List Bool), s.lnDue = some f → s.enabled (hdrTenant f.header) = true →
    hdrSecure f.header = false → s.lnHostGone = false →
    (∀ b, sectionOk f.header bits = true → sectionType bits = 0 → s.lnBuffer = some b → b < 2 →
      (s.toHalfIndex f.ackAt).lnDup (s.nbrOf (hdrSrc f.header)) (hdrSeq f.header) = false →
      ∃ t g, exec (.lineFrameRx bits) s = .next t ∧ t.tick = (s.toHalfIndex f.ackAt).tick ∧ (vget t.ln.bufs b).full = true ∧
        (vget t.ln.bufs b).seen = false ∧ (vget t.ln.bufs b).tenant = hdrTenant f.header ∧
        (∀ i, i < 8 → t.rd 0x19 (9 * b + 1 + i) = (sectionWords bits).getD i 0) ∧ t.g F.LA_RX_HEADER (9 * b) = f.header.toNat ∧
        t.ln.frame = some g ∧ g.done = f.k ∧ g.ackCode = 0 ∧ g.acked = (hdrAckreq f.header && hdrDst f.header != 255) ∧
        (∃ e ∈ (vget t.src Src.line.idx).q, e.common = false ∧ e.tenant = hdrTenant f.header ∧ e.code = 0x21 ∧ e.ref = 64 + b) ∧
        t.units = s.units) ∧
    (sectionOk f.header bits = false →
      ∃ t g, exec (.lineFrameRx bits) s = .next t ∧ t.tick = (s.toHalfIndex f.ackAt).tick ∧ t.cells = s.cells ∧
        t.ln.bufs = s.ln.bufs ∧ t.src = s.src ∧ t.ln.frame = some g ∧ g.done = f.k ∧ g.ackCode = 2 ∧
        g.acked = (hdrAckreq f.header && hdrDst f.header != 255) ∧ t.units = s.units))

/-- A repeater within the frame's tiers that knows of no frame sends again, in the half-cycle it begins, what it
decided in the one before, slot for slot with its dither, on the couplers of a broadcast (spec/06_line_access.md R209,
R210, spec/05_line_signal.md R181). At a beacon boundary the MASTER in service queues a BEACON for DOM_TIERS in place
of one not yet sent, another station none, and every tenant's bucket takes in REFILL half-cycles up to BKT_MAX. A
member takes a BEACON of its domain: its sender is the master, its age starts anew (spec/06_line_access.md R212, R219,
spec/04_geyser_time_base.md R126, R150). -/
def Obligations.RepeatersAndBeacons : Prop :=
  (∀ (s : State) (tiers : Fin 4) (slots : List (Fin 16 × Fin 8)), s.lnHears = true → s.lac F.LA_CFG_ROLE = 2 →
    s.lac F.LA_CFG_TIER ≤ tiers.val → s.ln.frame = none → slots ≠ [] →
    ∃ t, exec (.lineRelayCopy tiers none slots) s = .next t ∧ t.tick = s.toHalf.tick ∧
      t.ln.txSlots.map TxSlot.slot = slots.map (fun x => x.1.val) ∧ (∀ x ∈ t.ln.txSlots, x.dither = s.lsDither) ∧
      t.ln.ltxen = s.ln.ltxen ||| s.couplers 255 ∧ t.ln.unknown = true ∧ t.ln.frame = none ∧ t.cells = s.cells ∧ t.src = s.src ∧
      t.units = s.units) ∧
  (∀ (s : State),
    (s.lnHears = true → s.isMaster = true → s.lnAlarmOnly = false →
      ∃ t, exec .beaconQueue s = .next t ∧ t.tick = s.toBeacon.tick ∧ t.ln.queue = s.ln.queue.filter (fun f => f.ftype != 1) ++
          [{ ftype := 1, cls := 2, tiers := s.lac F.LA_CFG_DOM_TIERS }] ∧
        t.ln.frame = s.ln.frame ∧ t.cells = s.cells ∧ t.src = s.src ∧ t.units = s.units) ∧
    (s.isMaster = false →
      ∃ t, exec .beaconQueue s = .next t ∧ t.ln.queue = s.ln.queue.filter (fun f => f.ftype != 1) ∧ t.cells = s.cells) ∧
    (∃ t, exec .bucketRefill s = .next t ∧ t.tick = s.toBeacon.tick ∧ t.ln = s.ln ∧ t.src = s.src ∧ t.units = s.units ∧
      (∀ k, k < 64 → t.g F.LA_TENANT_LEVEL k =
        min (s.g F.LA_TENANT_BKT_MAX k) (s.g F.LA_TENANT_LEVEL k + s.g F.LA_TENANT_REFILL k) ∧
        t.g F.LA_TENANT_BKT_MAX k = s.g F.LA_TENANT_BKT_MAX k ∧ t.g F.LA_TENANT_QLIM k = s.g F.LA_TENANT_QLIM k) ∧
      (s.wf → ∀ n e, n < 64 → n ≠ 0x16 → t.rd n e = s.rd n e)) ∧
    (∀ bits f ws (k : Fin 4) ago, s.lnInternal 1 bits = some (f, ws) → (ws.headD 0).bits 112 16 = s.lac F.LA_CFG_DOMAIN_ID →
      s.isMaster = false → s.gy.master = 0 ∨ s.gy.master = hdrSrc f.header → (ws.headD 0).bits 52 1 = 0 →
      ∃ t g, exec (.beaconRx bits k ago) s = .next t ∧ t.gy.master = hdrSrc f.header ∧
        t.gy.beaconAt = some (BitVec.ofNat 32 s.cycle) ∧ t.ln.frame = some g ∧ g.done = f.k ∧ g.acked = false ∧ t.tick = s.tick ∧
        t.ln.commit = s.ln.commit))

/-- RESUME waits for the next half-cycle boundary once the station has been MUTED for 60 s, and is refused with
NOT_READY before and with STATE_MISMATCH outside MUTED; each ALARM_CREDIT period in MUTED opens one credit
(spec/06_line_access.md R216, R217). -/
def Obligations.MutedStationsResumeAndGetCredits : Prop :=
  ∀ (s : State),
    (∀ p gen check, s.ownerRow p .line gen check = true → s.isOn .line = true → s.lnConf = 3 →
      (s.ln.mutedAt + 60 * secTicks ≤ s.tick + 31 →
        ∃ t, exec (.resume p gen check) s = .next t ∧ (t.port p).outcome = Oc.ok.code ∧ t.ln.resume = true ∧ t.cells = s.cells ∧
          t.units = s.units ∧ t.src = s.src ∧ t.tick = s.tick + 32) ∧
      (s.tick + 31 < s.ln.mutedAt + 60 * secTicks →
        ∃ t, exec (.resume p gen check) s = .next t ∧ (t.port p).outcome = Oc.notReady.code ∧ t.ln = s.ln ∧ t.cells = s.cells ∧
          t.units = s.units ∧ t.src = s.src)) ∧
    (s.lnConf = 3 → 0 < s.lac F.LA_CFG_ALARM_CREDIT → s.ln.mutedAt ≤ s.tick →
      ∃ t, exec .alarmCredit s = .next t ∧ t.ln.credit = true ∧ s.tick ≤ t.tick ∧
        t.tick < s.tick + s.lac F.LA_CFG_ALARM_CREDIT * secTicks ∧
        (t.tick - s.ln.mutedAt) % (s.lac F.LA_CFG_ALARM_CREDIT * secTicks) = 0 ∧ t.cells = s.cells ∧ t.src = s.src ∧
        t.units = s.units)

/-- The MASTER's DORMANT with an argument of 13 or more queues a DORMANT_PROPOSE and makes the commit half-cycle
pending; a member makes it pending on the proposal; WAKE of a station with nothing pending sends the wake tone for 6
half-cycles from the next; a CANCEL for the pending commit drops it (spec/06_line_access.md R217, R224, R226, R234).
At the start of the commit half-cycle a station with a pending commit that no CANCEL and no wake tone of its own
stands against enters WATCH: it sends nothing more, and DORMANT is raised. In WATCH a half-cycle with the wake tone in
8 slots or more counts one wake and the station wakes; fewer slots change nothing (spec/06_line_access.md R225, R226).
-/
def Obligations.DormancyIsProposedBegunAndEnded : Prop :=
  (∀ (s : State),
    (∀ p gen check (arg : Byte), s.ownerRow p .line gen check = true → s.isOn .line = true → s.isMaster = true → 13 ≤ arg.toNat →
      s.ln.commit = none → s.lnDorm ≠ 2 →
      s.ln.cancelled ≠ some ((s.commanding p .line gen).hcIndex + 16 * arg.toNat) →
      ∃ t, exec (.dormant p gen check arg) s = .next t ∧ (t.port p).outcome = Oc.ok.code ∧
        t.ln.commit = some ((s.commanding p .line gen).hcIndex + 16 * arg.toNat) ∧ t.lnDorm = 1 ∧
        t.ln.queue.map DevFrame.ftype = s.ln.queue.map DevFrame.ftype ++ [3] ∧ t.tick = s.tick + 32 ∧
        (∀ u : Src, u ≠ .line → t.mirror u = s.mirror u)) ∧
    (∀ p gen check, s.ownerRow p .line gen check = true → s.isOn .line = true → s.ln.commit = none →
      ∃ t, exec (.wake p gen check) s = .next t ∧ (t.port p).outcome = Oc.ok.code ∧ t.ln.wakeLeft = 6 ∧
        t.ln.wakeAt = (s.commanding p .line gen).nextHalf ∧ t.cells = s.cells ∧ t.units = s.units ∧ t.src = s.src) ∧
    (∀ bits f ws, s.lnInternal 3 bits = some (f, ws) → (ws.headD 0).bits 112 16 = s.lac F.LA_CFG_DOMAIN_ID →
      s.ln.cancelled ≠ some (commitOf (ws.headD 0)) → s.ln.commit = none → s.lnDorm ≠ 2 →
      ∃ t, exec (.dormantProposeRx bits) s = .next t ∧ t.tick = s.tick ∧ t.ln.commit = some (commitOf (ws.headD 0)) ∧
        t.lnDorm = 1 ∧ t.g F.LA_DORM_PROPOSER 0 = hdrSrc f.header % 256 ∧
        t.g F.LA_DORM_COMMIT_CYCLE 0 = commitOf (ws.headD 0) / 2 % 2 ^ 32 ∧ t.b F.LA_DORM_COMMIT_HALF 0 = decide (commitOf (ws.headD 0) % 2 = 1) ∧
        (∀ u : Src, u ≠ .line → t.mirror u = s.mirror u)) ∧
    (∀ bits f ws, s.lnInternal 4 bits = some (f, ws) → (ws.headD 0).bits 112 16 = s.lac F.LA_CFG_DOMAIN_ID →
      s.hcIndex < commitOf (ws.headD 0) → s.ln.commit = some (commitOf (ws.headD 0)) → s.lnDorm = 1 →
      ∃ t, exec (.cancelRx bits) s = .next t ∧ t.tick = s.tick ∧ t.ln.commit = none ∧ t.lnDorm = 0 ∧
        t.ln.cancelled = some (commitOf (ws.headD 0)) ∧ t.ln.wakeLeft = 6 ∧ t.ln.wakeAt = commitOf (ws.headD 0) ∧
        (∀ u : Src, u ≠ .line → t.mirror u = s.mirror u))) ∧
  (∀ (s : State),
    (∀ c, s.ln.commit = some c → c ≤ (s.toHalfIndex c).hcIndex → s.lnDorm = 1 → s.ln.queue.any (fun f => f.ftype == 4) = false →
      s.ln.wakeLeft = 0 →
      ∃ t, exec .dormantCommit s = .next t ∧ t.tick = (s.toHalfIndex c).tick ∧ t.lnDorm = 2 ∧ t.ln.commit = none ∧
        t.ln.frame = none ∧ t.ln.ltxen = 0 ∧ t.ln.txSlots = [] ∧ (∀ u : Src, u ≠ .line → t.mirror u = s.mirror u) ∧
        (∃ e ∈ (vget t.src Src.line.idx).q, e.common = true ∧ e.code = 0x26 ∧ e.arg % 256 = 1)) ∧
    (∀ n, 8 ≤ n → s.isOn .line = true → s.lnDorm = 2 →
      ∃ t, exec (.wakeDetect n) s = .next t ∧ t.tick = s.toHalf.tick ∧ t.lnDorm = 0 ∧
        t.g F.LA_DORM_WAKES 0 = (s.g F.LA_DORM_WAKES 0 + 1) % 65536 ∧ (∀ u : Src, u ≠ .line → t.mirror u = s.mirror u) ∧
        (∃ e ∈ (vget t.src Src.line.idx).q, e.common = true ∧ e.code = 0x26 ∧ e.arg % 256 = 3)) ∧
    (∀ n, n < 8 → exec (.wakeDetect n) s = .next s))

/-- The learner becomes READY once OBS has counted 3,000 cycles. At a beacon boundary while READY it evaluates a
proposal: access slots and the slots of FBLANK are BLANK in it, PVER goes up by one when it differs from the last, and
without AUTO nothing is published (spec/07_line_learning.md R250, R253, R255, R267). -/
def Obligations.LearnerBecomesReadyAndProposes : Prop :=
  ∀ (s : State),
    (s.llState = 0 → 3000 ≤ s.g F.LL_MAPS_OBS 2 →
      ∃ t, exec .learnReady s = .next t ∧ t.llState = (if s.ll.paused then 2 else 1) ∧ t.ll = s.ll ∧ t.tick = s.tick ∧
        t.g F.LL_MAPS_OBS 2 = s.g F.LL_MAPS_OBS 2 ∧ t.units = s.units ∧
        (vget t.src Src.line.idx).q = (vget s.src Src.line.idx).q ++
          [{ common := true, tenant := 0, sev := 0, code := 0x35, arg := s.g F.LL_MAPS_OBS 2 % 2 ^ 32, ref := 0 }]) ∧
    (s.g F.LL_MAPS_OBS 2 < 3000 → exec .learnReady s = .next s) ∧
    (s.isOn .line = true → s.llState = 1 → s.ll.shed = false → s.b F.LL_CFG_AUTO 0 = false →
      ∃ t, exec .proposal s = .next t ∧ t.tick = s.toBeacon.tick ∧ t.ll = s.ll ∧ t.ln = s.ln ∧ t.units = s.units ∧
        (∀ i, i < 32 → i % 16 < 2 ∨ bitOf (s.g F.LL_CFG1_FBLANK 1) i = true → mapAt (t.rd 0x1F 0) (t.rd 0x1F 1) i = 0) ∧
        t.g F.LL_MAPS_PVER 2 = (if t.rd 0x1F 0 = s.rd 0x1F 0 ∧ t.rd 0x1F 1 = s.rd 0x1F 1 then s.g F.LL_MAPS_PVER 2
          else (s.g F.LL_MAPS_PVER 2 + 1) % 256) ∧
        t.rd 0x12 2 = s.rd 0x12 2 ∧ t.rd 0x12 3 = s.rd 0x12 3) ∧
    (s.llState ≠ 1 → exec .proposal s = .next s.toBeacon)

/-- The owner's approval of the proposal's version without AUTO publishes the proposal; a commit of both own-map words
publishes that map; CLEAR clears OBS and publishes the common map. Each makes OWN_PEND read 1; the map in force stays
(spec/07_line_learning.md R255, R257, R264). A pending own map takes effect at the first grid half-cycle boundary with
no frame in progress from ACT_CYCLE on, and MAPVER goes up by one; a MAP frame that is due is queued once; a MAP frame
received from a station of the domain with the same tone sets is in use at once when its cycle has come; a neighbour's
map in use older than MAP_TTL becomes STALE (spec/07_line_learning.md R257, R258, R259, R260). -/
def Obligations.OwnAndNeighbourMapsArePublishedAndTakeEffect : Prop :=
  (∀ (s : State) (p : PortId) (win : Fin 4) (w : Word), s.serves p 48 = true → s.acting p = 0 →
    (F.LL_MAPS_APPROVE.of w = 1 → F.LL_MAPS_APPROVE_VER.of w = s.g F.LL_MAPS_PVER 2 → s.b F.LL_CFG_AUTO 0 = false →
      s.llState ≠ 0 → (s.rd 0x1F 0, s.rd 0x1F 1) ≠ s.ownMap →
      ∃ t, exec (.llApprove p win w) s = .next t ∧ (t.port p).outcome = Oc.ok.code ∧ t.tick = s.tick + 48 ∧
        t.ll.pub = some (s.rd 0x1F 0, s.rd 0x1F 1, false) ∧ t.b F.LL_MAPS_PUB_PEND 2 = true ∧ t.b F.LS_CFG_OWN_PEND 0 = true ∧
        t.ln.queue.any (fun f => f.publish) = true ∧ t.ownMap = s.ownMap ∧ t.src = s.src ∧
        t.units = s.units) ∧
    (s.mapWordOk false w = true → s.b F.LL_CFG_AUTO 0 = false → s.llState ≠ 0 →
      (∃ t, exec (.ownMapCommit p win 0 w) s = .next t ∧ (t.port p).outcome = Oc.ok.code ∧ t.ll.stage0 = some w ∧
        t.ll.pub = s.ll.pub ∧ t.cells = s.cells ∧ t.tick = s.tick + 48 ∧ t.src = s.src) ∧
      (∃ t, exec (.ownMapCommit p win 1 w) s = .next t ∧ (t.port p).outcome = Oc.ok.code ∧ t.ll.stage0 = none ∧
        t.ll.pub = some (s.ll.stage0.getD (s.rd 0x12 2), w, false) ∧ t.b F.LS_CFG_OWN_PEND 0 = true ∧ t.ownMap = s.ownMap ∧
        t.tick = s.tick + 48 ∧ t.src = s.src)) ∧
    (2 ≤ s.g F.LL_CFG_ALPHA_SH 0 → s.g F.LL_CFG_ALPHA_SH 0 ≤ 12 → s.g F.LL_CFG_PUB_GAP 0 ≠ 0 → s.g F.LL_CFG_REPEAT 0 ≠ 0 →
      s.g F.LL_CFG_REPEAT 0 < s.g F.LL_CFG_MAP_TTL 0 → 3 ≤ s.g F.LL_CFG_IMP_DB 0 → s.g F.LL_CFG_IMP_LO 0 ≤ s.g F.LL_CFG_IMP_HI 0 →
      s.g F.LL_CFG_THR_R6 0 ≤ s.g F.LL_CFG_THR_R4 0 → s.g F.LL_CFG_THR_R4 0 ≤ s.g F.LL_CFG_THR_F4 0 →
      s.g F.LL_CFG_THR_F4 0 ≤ s.g F.LL_CFG_THR_F8 0 → s.g F.LL_CFG_THR_F8 0 ≤ s.g F.LL_CFG_THR_F16 0 →
      s.g F.LL_CFG_THR_F16 0 ≤ s.g F.LL_CFG_THR_T8 0 →
      ∃ t, exec (.llClear p win (s.rd 0x1C 0)) s = .next t ∧ (t.port p).outcome = Oc.ok.code ∧ t.tick = s.tick + 48 ∧
        t.g F.LL_MAPS_OBS 2 = 0 ∧ t.llState = 0 ∧ t.ll.pub = some (s.rd 0x12 0, s.rd 0x12 1, true) ∧
        t.b F.LS_CFG_OWN_PEND 0 = true ∧ t.b F.LL_CFG_CLEAR 0 = false ∧ t.ownMap = s.ownMap ∧ t.src = s.src ∧ t.units = s.units)) ∧
  (∀ (s : State),
    (∀ m0 m1 c, s.ll.own = some (m0, m1, c) → s.ln.frame = none →
      ∃ t, exec .ownMapApply s = .next t ∧ t.ll.own = none ∧ t.ownMap = (m0, m1) ∧ t.ll.ownCommon = c ∧
        t.g F.LL_MAPS_MAPVER 2 = (s.g F.LL_MAPS_MAPVER 2 + 1) % 256 ∧ t.b F.LS_CFG_OWN_PEND 0 = s.ll.pub.isSome ∧
        t.tick = (s.advanceFrac (s.fracUntil (s.ll.actCycle.toNat * 65536))).toHalf.tick ∧ t.units = s.units ∧
        (vget t.src Src.line.idx).q = (vget s.src Src.line.idx).q ++
          [{ common := true, tenant := 0, sev := 0, code := 0x10, arg := 1, ref := 0 }]) ∧
    (s.isOn .line = true → s.ll.firstMap = false → s.ll.repeatIn = 0 → s.ln.queue.any (fun f => f.ftype == 2) = false →
      ∃ t, exec .mapRepeat s = .next t ∧ t.tick = s.toBeacon.tick ∧ t.ln.queue = s.ln.queue ++ [{ ftype := 2, cls := 2 }] ∧
        t.ll.repeatIn = s.g F.LL_CFG_REPEAT 0 ∧ t.cells = s.cells ∧ t.src = s.src ∧ t.units = s.units) ∧
    (∀ bits f ws n, s.lnInternal 2 bits = some (f, ws) → (ws.getD 0 0).bits 112 16 = s.lac F.LA_CFG_DOMAIN_ID →
      (ws.getD 0 0).bits 96 16 = s.setsCrc → s.nbrOf (hdrSrc f.header) = some n → n < 32 →
      stampLater ((ws.getD 0 0).bits 64 32 * 65536) s.stamp48 = false →
      ∃ t, exec (.nbrMap bits) s = .next t ∧ t.tick = s.tick ∧ t.g F.LL_NBR_NSTATE (nbrEnt n) = 1 ∧
        t.b F.LL_NBR_PENDING (nbrEnt n) = false ∧ t.rd 0x1F (nbrEnt n + 1) = ws.getD 1 0 ∧ t.rd 0x1F (nbrEnt n + 2) = ws.getD 2 0 ∧
        t.g F.LL_NBR_MAPVER (nbrEnt n) = (ws.getD 0 0).bits 56 8 ∧ t.g F.LL_NBR_AGE (nbrEnt n) = 0 ∧ t.units = s.units) ∧
    (∀ n : Fin 32, s.g F.LL_CFG_MAP_TTL 0 < s.g F.LL_NBR_AGE (nbrEnt n.val) → s.g F.LL_NBR_NSTATE (nbrEnt n.val) = 1 →
      ∃ t, exec (.nbrMapStale n) s = .next t ∧ t.tick = s.tick ∧ t.g F.LL_NBR_NSTATE (nbrEnt n.val) = 2 ∧
        (∀ m, m < 32 → m ≠ n.val → t.g F.LL_NBR_NSTATE (nbrEnt m) = s.g F.LL_NBR_NSTATE (nbrEnt m)) ∧ t.units = s.units ∧
        (∃ e ∈ (vget t.src Src.line.idx).q, e.common = true ∧ e.code = 0x33 ∧ e.arg % 2 ^ 24 = 1)))

/-- A commit to CJ_Q entry 8 that nothing refuses takes the free entry: with another job on the engine it is DEFERRED
and waits QUEUED; an unbound job that finds the engine free and nothing queued runs at once, OK. A refused submission
changes no job. An abort of a QUEUED or PREEMPTED job ends it ABORTED with DONE, one of a RUNNING job waits for its
pre-emption point; a release frees an ended entry. A page commit by the owner writes the entry and clears the page's
64 words; a job that names the page ends ABORTED (spec/09_caldera_jobs.md R309, R319, R320, R321, R325, R337, R344). -/
def Obligations.CalderaHostCommandsMoveJobsAndPages : Prop :=
  ∀ (s : State) (p : PortId) (win : Fin 4) (q : Nat), s.serves p 48 = true → q < 8 →
    (∀ w r, s.cjJudge (s.acting p) w = .ok → s.cjFreeEntry = some q → s.cj.running = some r → r ≠ q →
      ∃ t, exec (.cjSubmit p win w) s = .next t ∧ (t.port p).outcome = Oc.deferred.code ∧ t.tick = s.tick + 48 ∧
        t.g F.CJ_QSTAT_STATE q = 1 ∧ t.g F.CJ_QSTAT_TAG q = F.CJ_Q_TAG.of w ∧ t.rd 0x21 q = w ∧
        t.cj.order = s.cj.order ++ [q] ∧ t.cj.running = some r ∧ (t.cjob q).tenant = s.acting p ∧
        (∀ a, t.rd 0x25 a = s.rd 0x25 a) ∧ t.src = s.src ∧ t.units = s.units) ∧
    (∀ w, s.cjJudge (s.acting p) w = .ok → s.cjFreeEntry = some q → s.cjIdle = true → s.cj.order = [] →
      F.CJ_Q_BOUND.of w = 0 → vget s.cj.capped (s.acting p) = false →
      ∃ t, exec (.cjSubmit p win w) s = .next t ∧ (t.port p).outcome = Oc.ok.code ∧ t.tick = s.tick + 48 ∧
        t.g F.CJ_QSTAT_STATE q = 2 ∧ t.g F.CJ_QSTAT_TAG q = F.CJ_Q_TAG.of w ∧ t.rd 0x21 q = w ∧ t.cj.order = [q] ∧
        t.cj.running = some q ∧ (t.cjob q).tenant = s.acting p ∧ (t.cjob q).start = s.tick + 47 ∧
        (∀ a, t.rd 0x25 a = s.rd 0x25 a) ∧ t.src = s.src ∧ t.units = s.units) ∧
    (∀ w o, s.cjJudge (s.acting p) w = o → o ≠ .ok →
      ∃ t, exec (.cjSubmit p win w) s = .next t ∧ (t.port p).outcome = o.code ∧ t.tick = s.tick + 48 ∧ t.cj = s.cj ∧
        (∀ e, e < 8 → t.rd 0x21 e = s.rd 0x21 e ∧ t.rd 0x22 e = s.rd 0x22 e) ∧ t.src = s.src ∧ t.units = s.units) ∧
    ((s.cjob q).tenant = s.acting p → s.g F.CJ_QSTAT_STATE q = 1 ∨ s.g F.CJ_QSTAT_STATE q = 3 →
      ∃ t, exec (.cjAbort p win q) s = .next t ∧ (t.port p).outcome = Oc.ok.code ∧ t.tick = s.tick + 48 ∧
        t.g F.CJ_QSTAT_STATE q = 4 ∧ t.g F.CJ_QSTAT_OUTCOME q = Oc.aborted.code ∧ q ∉ t.cj.order ∧
        (vget t.src Src.cald.idx).q = (vget s.src Src.cald.idx).q ++
          [{ common := false, tenant := s.acting p, sev := 2, code := 0x02, ref := q + 1,
             arg := F.CJ_Q_TAG.of (s.rd 0x21 q) % 2 ^ 24 * 256 + Oc.aborted.code }] ∧ t.units = s.units) ∧
    ((s.cjob q).tenant = s.acting p → s.g F.CJ_QSTAT_STATE q = 2 →
      ∃ t, exec (.cjAbort p win q) s = .next t ∧ (t.port p).outcome = Oc.ok.code ∧ t.tick = s.tick + 48 ∧
        (t.cjob q).abort = true ∧ t.cj.running = s.cj.running ∧ t.cells = s.cells ∧ t.src = s.src ∧ t.units = s.units) ∧
    ((s.cjob q).tenant = s.acting p → s.g F.CJ_QSTAT_STATE q = 4 →
      ∃ t, exec (.cjRelease p win q) s = .next t ∧ (t.port p).outcome = Oc.ok.code ∧ t.tick = s.tick + 48 ∧
        t.rd 0x21 q = 0 ∧ t.rd 0x22 q = 0 ∧ t.cjob q = {} ∧ t.src = s.src ∧ t.units = s.units) ∧
    (∀ page w, s.acting p = 0 → page < 40 → s.merged 0x24 page w ≠ s.rd 0x24 page →
      (s.b F.CJ_PAGE_ASSIGNED page = false ∨ s.cjNaming (s.g F.CJ_PAGE_TENANT page) page = []) →
      ∃ t, exec (.cjPageCommit p win page w) s = .next t ∧ (t.port p).outcome = Oc.ok.code ∧ t.tick = s.tick + 48 ∧
        t.rd 0x24 page = s.merged 0x24 page w ∧ (∀ i, i < 64 → t.rd 0x25 (0x600 + 64 * page + i) = 0) ∧
        (∀ a, a < 4096 → a < 0x600 + 64 * page ∨ 0x600 + 64 * page + 64 ≤ a → t.rd 0x25 a = s.rd 0x25 a) ∧
        t.src = s.src ∧ t.units = s.units) ∧
    (∀ page w, s.acting p = 0 → page < 40 → s.merged 0x24 page w ≠ s.rd 0x24 page → s.b F.CJ_PAGE_ASSIGNED page = true →
      s.cjNaming (s.g F.CJ_PAGE_TENANT page) page = [q] →
      ∃ t, exec (.cjPageCommit p win page w) s = .next t ∧ (t.port p).outcome = Oc.ok.code ∧
        t.rd 0x24 page = s.merged 0x24 page w ∧ (∀ i, i < 64 → t.rd 0x25 (0x600 + 64 * page + i) = 0) ∧
        t.g F.CJ_QSTAT_STATE q = 4 ∧ t.g F.CJ_QSTAT_OUTCOME q = Oc.aborted.code ∧ q ∉ t.cj.order ∧ t.units = s.units)

/-- Caldera's engine and its host jobs: the idle engine takes the one waiting job, checked when it is first chosen; a
job that reaches its end writes its result and ends OK with DONE, one on the refusal path ends NOT_AVAILABLE without
it, an aborted one ABORTED; a kernel, a HOST_OFF or a spent deficit holds the running job, and so does its tenant's
cap; a reservation opens and closes at its mark and holds its BOUND job as it closes (spec/09_caldera_jobs.md R320,
R321, R322, R323, R324, R325, R328, R330, R333, R350). A result written whole as its job ends is the model's choice
(notes/assumptions/15.md). -/
def Obligations.CalderaEngineServesHostJobs : Prop :=
  ∀ (s : State) (q : Nat), q < 8 →
    (s.cjIdle = false → exec .cjJobChoose s = .next s) ∧
    (s.cjIdle = true → s.cj.order = [q] → s.g F.CJ_QSTAT_STATE q ≠ 2 → s.cjUnbound q = true →
      vget s.cj.capped (s.cjob q).tenant = false →
      ∃ t, exec .cjJobChoose s = .next t ∧ t.tick = s.tick ∧ t.cj.running = some q ∧ t.g F.CJ_QSTAT_STATE q = 2 ∧
        t.g F.CJ_QSTAT_AHEAD q = 0 ∧ (t.cjob q).start = s.tick ∧
        ((s.cjob q).phase = 0 → s.cjAllowed q = true → (t.cjob q).phase = 1 ∧ (t.cjob q).left = (s.cjd q).cost) ∧
        ((s.cjob q).phase = 0 → s.cjAllowed q = false → (t.cjob q).phase = 2 ∧ (t.cjob q).left = 48) ∧
        ((s.cjob q).phase ≠ 0 → (t.cjob q).phase = (s.cjob q).phase ∧ (t.cjob q).left = (s.cjob q).left) ∧
        (∀ a, t.rd 0x25 a = s.rd 0x25 a) ∧ t.src = s.src ∧ t.units = s.units) ∧
    (s.cj.running = some q → s.cj.capNew = none → (s.cjob q).abort = false → (s.cjob q).left ≤ s.cjAllow q →
      let r := (s.cjd q).run s.cjMem
      ((s.cjob q).phase ≠ 2 → s.cj.bad = [] →
        ∃ t, exec .cjJobDone s = .next t ∧ t.tick = max s.tick (s.cjTickOf q (s.cjob q).left) ∧ t.cj.running = none ∧
          q ∉ t.cj.order ∧ t.g F.CJ_QSTAT_STATE q = 4 ∧ t.g F.CJ_QSTAT_OUTCOME q = Oc.ok.code ∧
          t.g F.CJ_QSTAT_FLAGS q = r.1 % 2 ^ F.CJ_QSTAT_FLAGS.w ∧
          (∀ y ∈ r.2, (∀ z ∈ r.2, z.1 % 4096 = y.1 % 4096 → z = y) → t.rd 0x25 y.1 = y.2) ∧
          (∀ a, a < 4096 → (∀ y ∈ r.2, y.1 % 4096 ≠ a) → t.rd 0x25 a = s.rd 0x25 a) ∧
          (vget t.src Src.cald.idx).q = (vget s.src Src.cald.idx).q ++
            [{ common := false, tenant := (s.cjob q).tenant, sev := 0, code := 0x02, ref := q + 1,
               arg := F.CJ_Q_TAG.of (s.rd 0x21 q) % 2 ^ 24 * 256 }] ∧ t.units = s.units) ∧
      ((s.cjob q).phase = 2 →
        ∃ t, exec .cjJobDone s = .next t ∧ t.tick = max s.tick (s.cjTickOf q (s.cjob q).left) ∧ t.cj.running = none ∧
          t.g F.CJ_QSTAT_STATE q = 4 ∧ t.g F.CJ_QSTAT_OUTCOME q = Oc.notAvailable.code ∧ t.src = s.src ∧
          (∀ a, t.rd 0x25 a = s.rd 0x25 a) ∧ t.units = s.units)) ∧
    (s.cj.running = some q → s.cj.capNew = none → (s.cjob q).abort = true →
      ∃ t, exec .cjJobDone s = .next t ∧ t.tick = s.tick ∧ t.cj.running = none ∧ t.g F.CJ_QSTAT_STATE q = 4 ∧
        t.g F.CJ_QSTAT_OUTCOME q = Oc.aborted.code ∧ t.units = s.units) ∧
    (s.cj.running = some q → s.cj.capNew = none → (s.cjob q).abort = false →
      (s.cjHostOff = true ∨ s.cj.kernels ≠ [] →
        ∃ t, exec .cjPreempt s = .next t ∧ t.tick = s.tick ∧ t.cj.running = none ∧ t.cj.order = s.cj.order ∧
          t.g F.CJ_QSTAT_STATE q = 3 ∧ t.g F.CJ_STAT_PREEMPTS 0 = (s.g F.CJ_STAT_PREEMPTS 0 + 1) % 2 ^ F.CJ_STAT_PREEMPTS.w ∧
          (∀ a, t.rd 0x25 a = s.rd 0x25 a) ∧ t.src = s.src ∧ t.units = s.units) ∧
      (s.cjHostOff = false → s.cj.kernels = [] → (s.cjd q).bound = false → (∀ i ∈ s.cj.order, s.cjBoundReady i = false) →
        s.g F.CJ_TENANT_WEIGHT (s.cjob q).tenant ≠ 0 → (vget s.cj.deficit (s.cjob q).tenant).toNat < (s.cjob q).left →
        ∃ t, exec .cjPreempt s = .next t ∧
          t.tick = max s.tick (s.cjTickOf q (vget s.cj.deficit (s.cjob q).tenant).toNat) ∧ t.cj.running = none ∧
          t.cj.order = s.cj.order ∧ t.g F.CJ_QSTAT_STATE q = 3 ∧ t.src = s.src ∧ t.units = s.units) ∧
      (let n := (s.cjob q).tenant
       let cap := s.g F.CJ_TENANT_HC_BUDGET n * 256
       n < 64 → cap ≠ 0 → s.cjBoundReady q = false → (s.cjob q).phase ≠ 2 → cap - vget s.cj.hcUsed n ≤ (s.cjob q).left →
        ∃ t, exec .cjBudgetCap s = .next t ∧ t.tick = max s.tick (s.cjTickOf q (cap - vget s.cj.hcUsed n)) ∧
          vget t.cj.capped n = true ∧ t.cj.running = none ∧ t.cj.order = s.cj.order ∧ t.g F.CJ_QSTAT_STATE q = 3 ∧
          (∀ a, t.rd 0x25 a = s.rd 0x25 a) ∧ t.src = s.src ∧ t.units = s.units)) ∧
    (∀ (r : Fin 8) (opens : Bool), s.b F.ASCHED_VALID (56 + r.val) = false →
      exec (.hostReservationWindow r opens) s = .next s) ∧
    (∀ (r : Fin 8) (opens : Bool), s.b F.ASCHED_VALID (56 + r.val) = true → s.g F.ASCHED_PERIOD (56 + r.val) = 0 →
      let y := if bitOf s.cj.openMask r.val = opens then s else s.advanceFrac (s.fracTo
        (s.g F.ASCHED_START (56 + r.val) + (if opens then 0 else s.g F.ASCHED_LEN (56 + r.val))) 32768)
      (s.cj.running = none →
        ∃ t, exec (.hostReservationWindow r opens) s = .next t ∧ t.tick = y.tick ∧ t.gy.stamp = y.gy.stamp ∧
          bitOf t.cj.openMask r.val = opens ∧ (∀ k, k < 8 → k ≠ r.val → bitOf t.cj.openMask k = bitOf s.cj.openMask k) ∧
          t.cells = s.cells ∧ t.src = s.src ∧ t.units = s.units) ∧
      (s.cj.running = some q → opens = false → (s.cjd q).bound = true → (s.cjd q).rsv = r.val → (s.cjob q).phase ≠ 2 →
        (s.cjob q).abort = false → s.cj.capNew = none → y.cjElapsed q = false →
        ∃ t, exec (.hostReservationWindow r opens) s = .next t ∧ t.tick = y.tick ∧ bitOf t.cj.openMask r.val = false ∧
          t.cj.running = none ∧ t.g F.CJ_QSTAT_STATE q = 3 ∧ t.src = s.src ∧ t.units = s.units))

/-- A kernel's window opens at its mark and its invocation takes the idle engine, with the cycles Table CJ-5 gives it;
one of K1 holds the host job that runs; under KONLY an invocation of K2 or K3 is skipped and counted. At the window's
end an update not begun, or an evaluation, is skipped and another invocation counts as late; an invocation that has
run its cycles leaves the engine, is counted, and hands its result to its consumer. The cost of an evaluation is a
free value (spec/09_caldera_jobs.md R326, R327, R328, R330, R349, spec/13_optical_ports.md R499). A memory error of
local memory: corrected, it is counted and raised once in a beacon period; uncorrectable in the internal region it is
counted, raised and takes CALD to FAULT; in the host region it stays until a reader meets it. With nothing on the
engine the scrubber reads one word in 1,024 CALD cycles and reports one it cannot correct (spec/09_caldera_jobs.md
R333, R342). -/
def Obligations.KernelWindowsAndMemoryErrors : Prop :=
  (∀ (s : State) (e : Fin 56),
    (s.isOn .cald = true → s.kernWin e.val = true →
      let y := s.toMark (s.winMark e.val false).1 (s.winMark e.val false).2
      let r := kernRow e.val
      let k : Kinv := { row := r.1, kern := r.2, idx := e.val, begun := true, left := (y.kernCost e.val).1,
                        cost := (y.kernCost e.val).1, start := y.tick, openAt := y.tick }
      (s.cj.kernels = [] → s.cj.running = none → (r.2 = 5 → s.sf.check.isSome = true) → (s.cjKonly = true → r.2 = 1 ∨ r.2 = 4) →
        ∃ t, exec (.kernelWindowOpen e) s = .next t ∧ t.tick = y.tick ∧ t.gy.stamp = y.gy.stamp ∧ t.cj.kernels = [k] ∧
          t.src = s.src ∧ t.units = s.units ∧ (r.2 ≠ 4 → t.cells = s.cells) ∧
          (r.2 = 4 → t.sf.batch = [] ∧ t.sf.inK4.length = s.sf.batch.length)) ∧
      (∀ q, r.2 = 1 → s.cj.kernels = [] → s.cj.running = some q → q < 8 → (s.cjob q).abort = false → s.cj.capNew = none →
        y.cjElapsed q = false →
        ∃ t, exec (.kernelWindowOpen e) s = .next t ∧ t.tick = y.tick ∧ t.cj.kernels = [k] ∧ t.cj.running = none ∧
          t.g F.CJ_QSTAT_STATE q = 3 ∧ t.src = s.src ∧ t.units = s.units) ∧
      (s.cj.kernels = [] → s.cjKonly = true → r.2 = 2 ∨ r.2 = 3 →
        ∃ t, exec (.kernelWindowOpen e) s = .next t ∧ t.tick = y.tick ∧ t.cj.kernels = [] ∧
          t.g F.CJ_KERN_SHED (r.2 - 1) = (s.g F.CJ_KERN_SHED (r.2 - 1) + 1) % 2 ^ F.CJ_KERN_SHED.w ∧
          (r.2 = 2 → t.ll.shed = true) ∧ (r.2 = 3 → t.g F.OP_STAT_PILOT_STALE (2 * (e.val - 37)) = 1) ∧
          t.src = s.src ∧ t.units = s.units)) ∧
    (∀ k, s.kernWin e.val = true → s.cj.kernels = [k] → k.idx = e.val → k.late = false →
      let y := s.toMark (s.winMark e.val true).1 (s.winMark e.val true).2
      ((k.row = 6 ∧ k.begun = false) ∨ k.row = 7 →
        ∃ t, exec (.kernelWindowEnd e) s = .next t ∧ t.tick = y.tick ∧ t.cj.kernels = [] ∧ t.ll.shed = true ∧
          t.g F.CJ_KERN_SHED 1 = (s.g F.CJ_KERN_SHED 1 + 1) % 2 ^ F.CJ_KERN_SHED.w ∧ t.src = s.src ∧ t.units = s.units) ∧
      (¬((k.row = 6 ∧ k.begun = false) ∨ k.row = 7) →
        ∃ t, exec (.kernelWindowEnd e) s = .next t ∧ t.tick = y.tick ∧ t.cj.kernels = [{ k with late := true }] ∧
          t.g F.CJ_KERN_LATE (k.kern - 1) = (s.g F.CJ_KERN_LATE (k.kern - 1) + 1) % 2 ^ F.CJ_KERN_LATE.w ∧
          t.src = s.src ∧ t.units = s.units)) ∧
    (∀ k d, s.cj.kernels = [k] → (k.row = 6 → d.samples = []) →
      ∃ t, exec (.kernelDone d) s = .next t ∧ t.tick = max s.tick (k.start + ceilDiv k.left s.cjRate) ∧ t.cj.kernels = [] ∧
        t.g F.CJ_KERN_INVOC (k.kern - 1) = (s.g F.CJ_KERN_INVOC (k.kern - 1) + 1) % 2 ^ F.CJ_KERN_INVOC.w ∧
        t.g F.CJ_KERN_LAST (k.kern - 1) = k.cost % 2 ^ F.CJ_KERN_LAST.w ∧
        t.g F.CJ_KERN_MAX (k.kern - 1) = max k.cost (s.g F.CJ_KERN_MAX (k.kern - 1)) % 2 ^ F.CJ_KERN_MAX.w ∧
        t.units = s.units ∧
        (s.kernWin k.idx = true → k.row ≠ 6 → k.kern = 3 → (s.op (k.idx - 37)).rxCal = false →
          s.opBit (k.idx - 37) 4 = true → k.idx < 39 →
          t.g F.OP_STAT_PWR_PILOT (2 * (k.idx - 37)) = min (2 ^ 24 - 1) d.i.natAbs ∧
          t.g F.OP_STAT_PILOT_STALE (2 * (k.idx - 37)) = 0) ∧
        (s.kernWin k.idx = true → k.row ≠ 6 → k.kern = 4 → t.g F.SF_ST_BATCH 13 = s.sf.inK4.length % 2 ^ F.SF_ST_BATCH.w) ∧
        (s.kernWin k.idx = true → k.row ≠ 6 → k.kern = 5 → s.sf.check.isSome = true → t.sf.half = s.sf.half + 1))) ∧
  (∀ (s : State) (word w : Nat), w = word % 4096 →
    (∃ t, exec (.ecc word false) s = .next t ∧ t.tick = s.tick ∧ t.cj.eccRaised = true ∧
      t.g F.CJ_CFG_ECC_CORR 0 = (s.g F.CJ_CFG_ECC_CORR 0 + 1) % 2 ^ F.CJ_CFG_ECC_CORR.w ∧ t.units = s.units ∧
      (∀ a, t.rd 0x25 a = s.rd 0x25 a) ∧ (s.cj.eccRaised = true → t.src = s.src) ∧
      (s.cj.eccRaised = false → (vget t.src Src.cald.idx).q = (vget s.src Src.cald.idx).q ++
        [{ common := true, tenant := 0, sev := 2, code := 0x13, arg := w, ref := 0 }])) ∧
    (w < 0x600 → s.st .cald ≠ .fault →
      ∃ t, exec (.ecc word true) s = .next t ∧ t.tick = s.tick ∧ t.st .cald = .fault ∧
        t.g F.CJ_CFG_ECC_UNCORR 0 = (s.g F.CJ_CFG_ECC_UNCORR 0 + 1) % 2 ^ F.CJ_CFG_ECC_UNCORR.w ∧
        (∃ e ∈ (vget t.src Src.cald.idx).q, e.common = true ∧ e.sev = 2 ∧ e.code = 0x13 ∧ e.arg = 65536 + w)) ∧
    (0x600 ≤ w →
      ∃ t, exec (.ecc word true) s = .next t ∧ t.tick = s.tick ∧ w ∈ t.cj.bad ∧ t.cells = s.cells ∧ t.src = s.src ∧
        t.units = s.units) ∧
    (s.isOn .cald = true → s.b F.CJ_CFG_SCRUB 0 = true → s.cj.running = none → s.cj.kernels = [] →
      (s.cj.scrubAt ∉ s.cj.bad →
        ∃ t, exec .scrub s = .next t ∧ t.tick = s.tick + 1024 / s.cjRate ∧ t.cj.scrubAt = (s.cj.scrubAt + 1) % 4096 ∧
          t.cells = s.cells ∧ t.src = s.src ∧ t.units = s.units) ∧
      (s.cj.scrubAt ∈ s.cj.bad →
        ∃ t, exec .scrub s = .next t ∧ t.tick = s.tick + 1024 / s.cjRate ∧ t.cj.scrubAt = (s.cj.scrubAt + 1) % 4096 ∧
          t.g F.CJ_CFG_ECC_UNCORR 0 = (s.g F.CJ_CFG_ECC_UNCORR 0 + 1) % 2 ^ F.CJ_CFG_ECC_UNCORR.w ∧
          (vget t.src Src.cald.idx).q = (vget s.src Src.cald.idx).q ++
            [{ common := true, tenant := 0, sev := 2, code := 0x13, arg := (65536 + s.cj.scrubAt) % 2 ^ 32, ref := 0 }] ∧
          t.units = s.units)) ∧
    (s.b F.CJ_CFG_SCRUB 0 = false → exec .scrub s = .next s))

/-- A slot command of another tenant is refused NOT_AVAILABLE and one that a cause of Table OB-3 refuses with that
outcome; a refused command of the owner clears OB_KEYIN and changes nothing else of the cipher engine. LOAD into a
slot without a record gives it the key of OB_KEYIN, ERASE empties one and RESTRICT removes usage bits, each at once
with KGEN advanced and KEY_CHANGE for the slot's tenant, unless a job that names the slot runs; UNWRAP, GENERATE, a
persisted LOAD and every command to a slot with a record are DEFERRED with PENDING set. A deferred command whose parts
are done completes with DONE, changing the slot only when it succeeded (spec/10_obsidian_cipher.md R353, R356, R357,
R359, R383). -/
def Obligations.SlotCommandsChangeTheSlotOrAreRefused : Prop :=
  (∀ (s : State) (p : PortId) (win : Fin 4) (slot cmd klen kek : Nat) (usage : Byte) (pers : Bool) (c : Instr),
    s.serves p 48 = true → klen < 3 → kek < 512 →
    (cmd, c) ∈ [(1, Instr.obLoad p win slot usage pers klen), (2, .obUnwrap p win slot usage pers klen kek),
      (3, .obGenerate p win slot usage pers klen), (4, .obErase p win slot), (5, .obRestrict p win slot usage)] →
    let w := if cmd = 4 then slotWord 4 0 false 0 0 else if cmd = 5 then slotWord 5 usage false 0 0
      else slotWord cmd usage pers klen (if cmd = 2 then kek else 0)
    let had := s.b F.OB_SLOT_PERSIST slot
    (s.acting p ≠ 0 →
      ∃ t, exec c s = .next t ∧ (t.port p).outcome = Oc.notAvailable.code ∧ t.tick = s.tick + 48 ∧ t.ob = s.ob ∧
        t.cells = s.cells ∧ t.src = s.src ∧ t.units = s.units) ∧
    (∀ o, s.acting p = 0 → slot < 272 → s.slotJudge 0 slot w = o → o ≠ .ok →
      ∃ t, exec c s = .next t ∧ (t.port p).outcome = o.code ∧ t.tick = s.tick + 48 ∧ t.ob = s.ob ∧
        t.rd 0x2A 0 = 0 ∧ t.rd 0x2A 1 = 0 ∧ t.rd 0x2A 2 = 0 ∧ (∀ k, k < 272 → t.rd 0x29 k = s.rd 0x29 k) ∧
        t.src = s.src ∧ t.units = s.units) ∧
    (s.acting p = 0 → slot < 272 → s.slotJudge 0 slot w = .ok →
      (had = true ∨ cmd = 2 ∨ cmd = 3 ∨ (cmd = 1 ∧ pers = true) →
        ∃ t, exec c s = .next t ∧ (t.port p).outcome = Oc.deferred.code ∧ t.tick = s.tick + 48 ∧
          t.b F.OB_SLOT_PENDING slot = true ∧ t.g F.OB_SLOT_OUTCOME slot = Oc.deferred.code ∧
          t.g F.OB_SLOT_KGEN slot = s.g F.OB_SLOT_KGEN slot ∧ t.ob.keys = s.ob.keys ∧
          (∃ x, t.ob.cmds = s.ob.cmds ++ [x] ∧ x.slot = slot ∧ x.cmd = cmd) ∧ t.rd 0x2A 0 = 0 ∧ t.src = s.src ∧
          t.units = s.units) ∧
      (had = false → s.slotBusy slot = true → cmd = 4 ∨ cmd = 5 ∨ (cmd = 1 ∧ pers = false) →
        ∃ t, exec c s = .next t ∧ (t.port p).outcome = Oc.ok.code ∧ t.tick = s.tick + 48 ∧
          t.b F.OB_SLOT_PENDING slot = true ∧ t.ob.keys = s.ob.keys ∧ t.src = s.src ∧ t.units = s.units) ∧
      (had = false → s.slotBusy slot = false → cmd = 4 ∨ cmd = 5 ∨ (cmd = 1 ∧ pers = false) → s.isOn .obs = true →
        ∃ t, exec c s = .next t ∧ (t.port p).outcome = Oc.ok.code ∧ t.tick = s.tick + 48 ∧
          t.rd 0x2A 0 = 0 ∧ t.rd 0x2A 1 = 0 ∧ t.rd 0x2A 2 = 0 ∧
          t.g F.OB_SLOT_KGEN slot = (s.g F.OB_SLOT_KGEN slot + 1) % 256 ∧ t.g F.OB_SLOT_OUTCOME slot = 0 ∧
          (vget t.src Src.obs.idx).q = (vget s.src Src.obs.idx).q ++
            [{ common := false, tenant := slotTenant slot, sev := 1, code := 0x12, ref := 0,
               arg := slot + cmd * 4096 + (s.g F.OB_SLOT_KGEN slot + 1) % 256 * 65536 }] ∧
          (cmd = 4 → t.b F.OB_SLOT_PRESENT slot = false ∧ t.ob.keys.find? (fun x => x.slot == slot) = none) ∧
          (cmd = 5 → t.g F.OB_SLOT_USAGE slot = s.g F.OB_SLOT_USAGE slot &&& usage.toNat ∧ t.ob.keys = s.ob.keys) ∧
          (cmd = 1 → t.b F.OB_SLOT_PRESENT slot = true ∧ t.g F.OB_SLOT_KLEN slot = klen ∧
            t.g F.OB_SLOT_USAGE slot = usage.toNat ∧ (t.ob.keys.find? (fun x => x.slot == slot)).map (·.key) =
              some (ofNatBytes ((Aes.ofWords [s.rd 0x2A 0, s.rd 0x2A 1, s.rd 0x2A 2]).take (klenBytes klen)))) ∧
          (∀ k, k < 272 → k ≠ slot → t.rd 0x29 k = s.rd 0x29 k) ∧ t.units = s.units))) ∧
  (∀ (s : State) (x : SlotCmd), s.ob.cmds = [x] → x.slot < 272 → x.engine = false → x.store = false → x.quiet = false →
    (x.result = 0 → s.isOn .obs = true →
      ∃ t, exec (.slotCmdDone x.slot) s = .next t ∧ t.tick = s.tick ∧ t.ob.cmds = [] ∧ t.b F.OB_SLOT_PENDING x.slot = false ∧
        t.g F.OB_SLOT_OUTCOME x.slot = 0 ∧ t.g F.OB_SLOT_KGEN x.slot = (s.g F.OB_SLOT_KGEN x.slot + 1) % 256 ∧
        (vget t.src Src.obs.idx).q.length = (vget s.src Src.obs.idx).q.length + 2 ∧
        (∃ e ∈ (vget t.src Src.obs.idx).q, e.code = 0x02 ∧ e.sev = 0 ∧ e.tenant = 0 ∧ e.arg = (0x800000 + x.slot) * 256) ∧
        (x.cmd = 4 → t.b F.OB_SLOT_PRESENT x.slot = false) ∧
        (x.cmd = 5 → t.g F.OB_SLOT_USAGE x.slot = s.g F.OB_SLOT_USAGE x.slot &&& x.usage) ∧
        (1 ≤ x.cmd ∧ x.cmd ≤ 3 → t.b F.OB_SLOT_PRESENT x.slot = true ∧
          (t.ob.keys.find? (fun k => k.slot == x.slot)).map (·.key) = some x.key) ∧ t.units = s.units) ∧
    (x.result = Oc.badFrame.code →
      ∃ t, exec (.slotCmdDone x.slot) s = .next t ∧ t.tick = s.tick ∧ t.ob.cmds = [] ∧ t.b F.OB_SLOT_PENDING x.slot = false ∧
        t.g F.OB_SLOT_OUTCOME x.slot = Oc.badFrame.code ∧ t.g F.OB_SLOT_KGEN x.slot = s.g F.OB_SLOT_KGEN x.slot ∧
        t.ob.keys = s.ob.keys ∧ t.units = s.units ∧
        (vget t.src Src.obs.idx).q = (vget s.src Src.obs.idx).q ++
          [{ common := false, tenant := 0, sev := 2, code := 0x02, ref := 0,
             arg := (0x800000 + x.slot) * 256 + Oc.badFrame.code }]))

/-- PROV_CLOSE closes provisioning, queues its record and raises PROV; ZEROIZE ends every job ABORTED, erases every
key and opens provisioning again (spec/10_obsidian_cipher.md R356, R374, R386, R387, R393). RESEED makes a reseed due,
and the DRBG takes it at once when a seed is ready (R374, R378). -/
def Obligations.CipherAndRngUnitCommands : Prop :=
  ∀ (s : State) (p : PortId) (gen : Byte) (check : Bool),
    (s.ownerRow p .obs gen check = true → s.isOn .obs = true → s.b F.OB_CFG_PROV_OPEN 0 = true → s.snAccepts = true →
      ∃ t, exec (.provClose p gen check) s = .next t ∧ (t.port p).outcome = Oc.ok.code ∧ t.tick = s.tick + 32 ∧
        t.b F.OB_CFG_PROV_OPEN 0 = false ∧ t.sub .obs = s.sub .obs / 2 * 2 % 256 ∧
        (∃ x, t.sn.device = s.sn.device ++ [x] ∧ x.kind = 1 ∧ x.rtype = 6) ∧
        (∃ e ∈ (vget t.src Src.obs.idx).q, e.common = true ∧ e.sev = 2 ∧ e.code = 0x14 ∧ e.arg = 1) ∧
        t.ob = s.ob ∧ (∀ v : Src, v ≠ .obs → t.mirror v = s.mirror v)) ∧
    (s.ownerRow p .obs gen check = true → s.snAccepts = true →
      ∃ t, exec (.zeroize p gen check 0xA5) s = .next t ∧ (t.port p).outcome = Oc.ok.code ∧ t.tick = s.tick + 32 ∧
        t.ob.keys = [] ∧ t.ob.running = none ∧ t.ob.ready = [] ∧ t.b F.OB_CFG_PROV_OPEN 0 = true ∧
        (∀ k, k < 272 → k ≠ 256 → t.b F.OB_SLOT_PRESENT k = false) ∧
        (∀ q, 4 ≤ q → q < 16 → 1 ≤ s.g F.OB_Q_STATE q → s.g F.OB_Q_STATE q ≤ 4 → s.enabled (vget s.ob.owner q) = true →
          t.g F.OB_Q_STATE q = 5 ∧ t.g F.OB_Q_OUTCOME q = Oc.aborted.code) ∧
        (∀ v : Src, v ≠ .obs → t.mirror v = s.mirror v)) ∧
    (∀ arg : Byte, s.ownerRow p .obs gen check = true → arg ≠ 0xA5 →
      exec (.zeroize p gen check arg) s = .next ((s.commanding p .obs gen).ended p 0x42 .param none)) ∧
    (s.ownerRow p .rng gen check = true → s.rngReady = true → s.rng.blocks.length < 3 →
      ∃ t, exec (.reseed p gen check) s = .next t ∧ (t.port p).outcome = Oc.ok.code ∧ t.tick = s.tick + 32 ∧
        t.rng = { s.rng with due := true } ∧ t.cells = s.cells ∧ t.units = s.units ∧ t.src = s.src)

/-- A placing commit that nothing refuses takes the free entry in FILLING for its submitter, a refused one changes
nothing; GO on it queues the job, DEFERRED, or hands it to the free engine, OK. An abort ends a job that does not run
ABORTED and marks one that runs; a release frees an ended entry and zeroes its data area (spec/10_obsidian_cipher.md
R360, R362, R364, R372, R385). -/
def Obligations.CipherJobsArePlacedStartedAbortedAndReleased : Prop :=
  ∀ (s : State) (p : PortId) (win : Fin 4) (q : Nat), s.serves p 48 = true → 4 ≤ q → q < 16 →
    (∀ w, s.obPlaceJudge (s.acting p) w = .ok → s.obFreeEntry = some q →
      ∃ t, exec (.obPlace p win w) s = .next t ∧ (t.port p).outcome = Oc.ok.code ∧ t.tick = s.tick + 48 ∧
        t.g F.OB_Q_STATE q = 1 ∧ t.g F.OB_Q_MODE q = F.OB_Q_MODE.of w ∧ t.g F.OB_Q_DIR q = F.OB_Q_DIR.of w ∧
        t.g F.OB_Q_SLOT q = F.OB_Q_SLOT.of w ∧ t.g F.OB_Q_LEN q = F.OB_Q_LEN.of w ∧ vget t.ob.owner q = s.acting p ∧
        t.ob.ready = s.ob.ready ∧ t.ob.running = s.ob.running ∧ t.src = s.src ∧ t.units = s.units) ∧
    (∀ w o, s.obPlaceJudge (s.acting p) w = o → o ≠ .ok →
      ∃ t, exec (.obPlace p win w) s = .next t ∧ (t.port p).outcome = o.code ∧ t.tick = s.tick + 48 ∧ t.ob = s.ob ∧
        t.cells = s.cells ∧ t.src = s.src ∧ t.units = s.units) ∧
    (vget s.ob.owner q = s.acting p → s.g F.OB_Q_STATE q = 1 → s.isOn .obs = true →
      (s.ob.running ≠ none ∨ s.ob.ready ≠ [] →
        ∃ t, exec (.obGo p win q) s = .next t ∧ (t.port p).outcome = Oc.deferred.code ∧ t.tick = s.tick + 48 ∧
          t.g F.OB_Q_STATE q = 2 ∧ t.g F.OB_Q_OUTCOME q = Oc.deferred.code ∧ t.ob.ready = s.ob.ready ++ [q] ∧
          t.ob.running = s.ob.running ∧ t.src = s.src ∧ t.units = s.units) ∧
      (s.ob.running = none → s.ob.held = none → s.ob.ready = [] → s.hostHold = false →
        ∃ t, exec (.obGo p win q) s = .next t ∧ (t.port p).outcome = Oc.ok.code ∧ t.tick = s.tick + 48 ∧
          t.g F.OB_Q_STATE q = 3 ∧ t.ob.ready = [] ∧ t.ob.running = some q ∧ (t.job q).start = s.tick + 47 ∧
          t.src = s.src ∧ t.units = s.units)) ∧
    (vget s.ob.owner q = s.acting p → s.g F.OB_Q_STATE q = 1 ∨ s.g F.OB_Q_STATE q = 2 ∨ s.g F.OB_Q_STATE q = 4 →
      ∃ t, exec (.obAbort p win q) s = .next t ∧ (t.port p).outcome = Oc.ok.code ∧ t.tick = s.tick + 48 ∧
        t.g F.OB_Q_STATE q = 5 ∧ t.g F.OB_Q_OUTCOME q = Oc.aborted.code ∧ q ∉ t.ob.ready ∧
        (∀ i, 1 ≤ i → i < 10 → t.rd 0x2C (obWord q i) = 0) ∧
        (vget t.src Src.obs.idx).q = (vget s.src Src.obs.idx).q ++
          [{ common := false, tenant := s.acting p, sev := 2, code := 0x02, ref := q + 1,
             arg := s.g F.OB_Q_TAG q % 2 ^ 24 * 256 + Oc.aborted.code }] ∧ t.units = s.units) ∧
    (vget s.ob.owner q = s.acting p → s.g F.OB_Q_STATE q = 3 →
      ∃ t, exec (.obAbort p win q) s = .next t ∧ (t.port p).outcome = Oc.ok.code ∧ t.tick = s.tick + 48 ∧
        (t.job q).abort = true ∧ t.ob.running = s.ob.running ∧ t.cells = s.cells ∧ t.src = s.src ∧ t.units = s.units) ∧
    (vget s.ob.owner q = s.acting p → s.g F.OB_Q_STATE q = 5 →
      ∃ t, exec (.obRelease p win q) s = .next t ∧ (t.port p).outcome = Oc.ok.code ∧ t.tick = s.tick + 48 ∧
        t.rd 0x2B q = 0 ∧ (∀ i, i < 10 → t.rd 0x2C (obWord q i) = 0) ∧ t.ob = s.ob ∧ t.src = s.src ∧ t.units = s.units)

/-- The cipher engine: in-line jobs before host jobs, LINE first; the check of a job first chosen decides between its
fixed time and the refusal path of T_REF; a waiting in-line job or HOST_HOLD stops a host job at its next block
boundary. A job that runs out ends OK with its result in its data area, BAD_FRAME when its check fails, NOT_AVAILABLE
without a record on the refusal path, FAULT with INTEGRITY when an integrity check failed; a port's in-line job gives
its port the result (spec/10_obsidian_cipher.md R354, R361, R363, R364, R366, R369, R371, R372, R374, R660). -/
def Obligations.CipherEngineServesJobs : Prop :=
  ∀ (s : State) (j : Nat), s.isOn .obs = true →
    (s.ob.running = none → 0 ∈ s.ob.ready →
      ∃ t, exec .obJobChoose s = .next t ∧ t.tick = s.tick ∧ t.ob.running = some 0 ∧ t.g F.OB_Q_STATE 0 = 3 ∧
        t.src = s.src ∧ t.units = s.units) ∧
    (4 ≤ j → j < 16 → s.ob.running = none → s.ob.held = none → s.ob.ready = [j] → s.hostHold = false →
      let key := ((s.ob.keys.find? (fun x => x.slot == s.g F.OB_Q_SLOT j)).map (fun x => x.key.length)).getD 0
      let ok := slotNamable (vget s.ob.owner j) (s.g F.OB_Q_SLOT j) &&
        s.slotAllows (s.g F.OB_Q_SLOT j) (8 + opUsage (s.g F.OB_Q_MODE j) (s.g F.OB_Q_DIR j))
      ∃ t, exec .obJobChoose s = .next t ∧ t.tick = s.tick ∧ t.ob.running = some j ∧ t.ob.ready = [] ∧
        t.g F.OB_Q_STATE j = 3 ∧ (t.job j).start = s.tick ∧ t.ob.rr = vget s.ob.owner j ∧
        (ok = true → (t.job j).phase = 1 ∧ (t.job j).left = 64 + obBlocks (s.g F.OB_Q_MODE j) (s.g F.OB_Q_DIR j)
          (s.g F.OB_Q_LEN j) (s.g F.OB_Q_ALEN j) * s.obBlock key) ∧
        (ok = false → (t.job j).phase = 2 ∧ (t.job j).left = s.obTRef) ∧ t.src = s.src ∧ t.units = s.units) ∧
    (s.ob.running = none → s.hostHold = true → (∀ i ∈ s.ob.ready, 4 ≤ i) → exec .obJobChoose s = .next s) ∧
    (∀ (i : Fin 4) x, s.ob.running = none → s.ob.held = none → s.ob.ready = [] →
      ∃ t, exec (.obInlineJob i x) s = .next t ∧ t.tick = s.tick ∧ t.ob.running = some i.val ∧ t.g F.OB_Q_STATE i.val = 3 ∧
        vget t.ob.inl i.val = x ∧
        (s.slotAllows x.slot (inlineBit i.val + opUsage x.mode x.dir) = false → (t.job i.val).phase = 2) ∧
        (s.slotAllows x.slot (inlineBit i.val + opUsage x.mode x.dir) = true → (t.job i.val).phase = 1) ∧
        t.src = s.src ∧ t.units = s.units) ∧
    (∀ b, s.ob.running = some j → 4 ≤ j → j < 16 → s.hostHold = true ∨ 0 ∈ s.ob.ready → s.obBoundary j = some b →
      ∃ t, exec .obPreempt s = .next t ∧ t.tick = max s.tick b ∧ t.ob.running = none ∧ t.ob.held = some j ∧
        t.g F.OB_Q_STATE j = 4 ∧ t.ob.ready = s.ob.ready ∧ t.src = s.src ∧ t.units = s.units) ∧
    (s.ob.running = some j → 4 ≤ j → j < 16 → s.ob.cmds = [] → s.enabled (vget s.ob.owner j) = true →
      let e := max s.tick ((s.job j).start + (s.job j).left)
      let done (o : Oc) : Ev := { common := false, tenant := vget s.ob.owner j, sev := if o = .ok then 0 else 2, code := 0x02,
                                  ref := j + 1, arg := s.g F.OB_Q_TAG j % 2 ^ 24 * 256 + o.code }
      (∀ r, (s.job j).abort = false → (s.job j).phase ≠ 2 → s.obCompute j = some r →
        ∃ t, exec (.obJobDone 0) s = .next t ∧ t.tick = e ∧ t.ob.running = none ∧ t.g F.OB_Q_STATE j = 5 ∧
          t.g F.OB_Q_OUTCOME j = Oc.ok.code ∧ (vget t.src Src.obs.idx).q = (vget s.src Src.obs.idx).q ++ [done .ok] ∧
          (s.g F.OB_Q_MODE j ∉ [3, 4] → ∀ i, i < 7 →
            t.rd 0x2C (obWord j (i + 2)) = Aes.toWord ((r.1.drop (16 * i)).take 16)) ∧
          (s.g F.OB_Q_MODE j ∈ [3, 4] ∨ (s.g F.OB_Q_MODE j = 5 ∧ s.g F.OB_Q_DIR j = 0) →
            t.rd 0x2C (obWord j 9) = Aes.toWord r.2) ∧
          t.rd 0x2C (obWord j 0) = s.rd 0x2C (obWord j 0) ∧ t.units = s.units) ∧
      ((s.job j).abort = false → (s.job j).phase ≠ 2 → s.obCompute j = none →
        ∃ t, exec (.obJobDone 0) s = .next t ∧ t.tick = e ∧ t.ob.running = none ∧ t.g F.OB_Q_STATE j = 5 ∧
          t.g F.OB_Q_OUTCOME j = Oc.badFrame.code ∧ (∀ i, 1 ≤ i → i < 10 → t.rd 0x2C (obWord j i) = 0) ∧
          (vget t.src Src.obs.idx).q = (vget s.src Src.obs.idx).q ++ [done .badFrame] ∧ t.units = s.units) ∧
      ((s.job j).abort = false → (s.job j).phase = 2 →
        ∃ t, exec (.obJobDone 0) s = .next t ∧ t.tick = e ∧ t.ob.running = none ∧ t.g F.OB_Q_STATE j = 5 ∧
          t.g F.OB_Q_OUTCOME j = Oc.notAvailable.code ∧ t.src = s.src ∧ t.units = s.units) ∧
      (∀ f : Fin 4, f ≠ 0 → (s.job j).abort = false → (s.job j).phase ≠ 2 →
        ∃ t, exec (.obJobDone f) s = .next t ∧ t.tick = e ∧ t.ob.running = none ∧ t.g F.OB_Q_STATE j = 5 ∧
          t.g F.OB_Q_OUTCOME j = Oc.fault.code ∧ (∀ i, 1 ≤ i → i < 10 → t.rd 0x2C (obWord j i) = 0) ∧
          t.g F.OB_CFG_FAULTS 0 = (s.g F.OB_CFG_FAULTS 0 + 1) % 2 ^ F.OB_CFG_FAULTS.w ∧
          (∃ x ∈ (vget t.src Src.obs.idx).q, x.common = true ∧ x.code = 0x10 ∧ x.arg % 4 = f.val))) ∧
    (s.ob.running = some j → j < 4 → s.ob.cmds = [] → (s.job j).abort = false → (s.job j).phase ≠ 2 →
      ∃ t, exec (.obJobDone 0) s = .next t ∧ t.tick = max s.tick ((s.job j).start + (s.job j).left) ∧ t.ob.running = none ∧
        t.g F.OB_Q_STATE j = 5 ∧ vget t.ob.inlineRes j = (s.obInline j (vget s.ob.inl j)).1.code ∧
        vget t.ob.inlineOut j = ofNatBytes (s.obInline j (vget s.ob.inl j)).2 ∧ t.src = s.src ∧ t.units = s.units)

/-- A sample advances the health tests: a run of equal bits that reaches the cutoff of the repetition count test, or a
bit counted to the cutoff of the adaptive proportion test, faults the RNG and raises FAILED with its cause, 3 within
the first 1,024 samples; after those a healthy sample is gathered, 512 of them into a conditioned block. With 2,560
samples and three blocks the RNG becomes READY, or FAILED with cause 4 when the generator's test fails; while READY it
adds generated blocks to a pool of at most 8, and a due reseed takes three blocks (spec/10_obsidian_cipher.md R375,
R376, R377, R378, R379, R380, R382). -/
def Obligations.RngSamplesSeedTheGenerator : Prop :=
  ∀ (s : State),
    (∀ bit line, s.st .rng ≠ .starting → s.st .rng ≠ .on → exec (.rngSample bit line) s = .next s) ∧
    (∀ bit line, s.isOn .rng = true →
      let rep := if s.rng.samples ≠ 0 ∧ bit = s.rng.lastBit then s.rng.repRun + 1 else 1
      let apt := if s.rng.aptPos = 0 then 1 else s.rng.aptCount + b2n (bit == s.rng.aptBit)
      (s.g F.RNG_CFG_RCT_C 0 ≤ rep →
        ∃ t, exec (.rngSample bit line) s = .next t ∧ t.tick = s.tick ∧ t.st .rng = .fault ∧ t.rng.pool = [] ∧ t.rng.bits = [] ∧
          (∃ e ∈ (vget t.src Src.rng.idx).q, e.common = true ∧ e.sev = 3 ∧ e.code = 0x11 ∧
            e.arg = (if s.rng.samples < 1024 then 3 else 1)) ∧ (∀ v : Src, v ≠ .rng → t.mirror v = s.mirror v)) ∧
      (rep < s.g F.RNG_CFG_RCT_C 0 → s.g F.RNG_CFG_APT_C 0 ≤ apt →
        ∃ t, exec (.rngSample bit line) s = .next t ∧ t.tick = s.tick ∧ t.st .rng = .fault ∧
          (∃ e ∈ (vget t.src Src.rng.idx).q, e.common = true ∧ e.sev = 3 ∧ e.code = 0x11 ∧
            e.arg = (if s.rng.samples < 1024 then 3 else 2)) ∧ (∀ v : Src, v ≠ .rng → t.mirror v = s.mirror v)) ∧
      (rep < s.g F.RNG_CFG_RCT_C 0 → apt < s.g F.RNG_CFG_APT_C 0 →
        ∃ t, exec (.rngSample bit line) s = .next t ∧ t.tick = s.tick ∧ t.rng.samples = s.rng.samples + 1 ∧ t.rng.repRun = rep ∧
          t.rng.lastBit = bit ∧ t.rng.aptCount = apt ∧ t.rng.aptPos = (s.rng.aptPos + 1) % 1024 ∧
          (s.rng.samples < 1024 → t.rng.bits = s.rng.bits ∧ t.rng.blocks = s.rng.blocks) ∧
          (1024 ≤ s.rng.samples → s.rng.bits.length < 511 → t.rng.bits = bit :: s.rng.bits ∧ t.rng.blocks = s.rng.blocks) ∧
          (1024 ≤ s.rng.samples → s.rng.bits.length = 511 → s.rng.blocks.length < 3 → t.rng.bits = [] ∧
            t.rng.blocks = s.rng.blocks ++ [conditioned (bit :: s.rng.bits).reverse
              (if s.b F.RNG_CFG_LINE_MIX 0 && s.isOn .line then some line else none)]) ∧
          t.cells = s.cells ∧ t.src = s.src ∧ t.units = s.units)) ∧
    (s.isOn .rng = true → s.sub .rng = 0 → 2560 ≤ s.rng.samples → 3 ≤ s.rng.blocks.length →
      (∃ t, exec (.rngReady true) s = .next t ∧ t.tick = s.tick ∧ t.isOn .rng = true ∧ t.sub .rng = 1 ∧ t.rng.blocks = [] ∧
        t.rng.saved = true ∧ t.rng.due = false ∧
        (∃ e ∈ (vget t.src Src.rng.idx).q, e.common = true ∧ e.sev = 0 ∧ e.code = 0x10 ∧ e.arg = 0) ∧
        (∀ v : Src, v ≠ .rng → t.mirror v = s.mirror v)) ∧
      (∃ t, exec (.rngReady false) s = .next t ∧ t.tick = s.tick ∧ t.st .rng = .fault ∧
        (∃ e ∈ (vget t.src Src.rng.idx).q, e.common = true ∧ e.sev = 3 ∧ e.code = 0x11 ∧ e.arg = 4))) ∧
    (s.rngReady = true → s.rng.due = false →
      (s.rng.pool.length < 8 →
        ∃ t, exec .rngPoolAdd s = .next t ∧ t.tick = s.tick ∧
          t.rng.pool = s.rng.pool ++ [Aes.toWord (Aes.drbgBlock (natBytes s.rng.key) (Aes.ofWord s.rng.v)).1] ∧
          t.g F.RNG_CFG_REQS 0 = (s.g F.RNG_CFG_REQS 0 + 1) % 2 ^ F.RNG_CFG_REQS.w ∧
          t.rng.due = decide (65536 ≤ s.g F.RNG_CFG_REQS 0 + 1) ∧ t.src = s.src ∧ t.units = s.units) ∧
      (8 ≤ s.rng.pool.length → exec .rngPoolAdd s = .next s) ∧ exec .drbgReseed s = .next s) ∧
    (s.rngReady = true → s.rng.due = true → 3 ≤ s.rng.blocks.length →
      ∃ t, exec .drbgReseed s = .next t ∧ t.tick = s.tick ∧ t.rng.due = false ∧ t.rng.blocks = [] ∧ t.rng.saved = true ∧
        t.g F.RNG_CFG_RESEEDS 0 = (s.g F.RNG_CFG_RESEEDS 0 + 1) % 2 ^ F.RNG_CFG_RESEEDS.w ∧ t.g F.RNG_CFG_REQS 0 = 1 ∧
        t.rng.pool = s.rng.pool ∧ t.src = s.src ∧ t.units = s.units)

/-- A master serial submission that nothing refuses takes the first free entry: behind a running chain it is DEFERRED,
and a single entry that finds the port free begins at once, OK, with its select low; a refused one changes no entry.
The port begins a waiting entry when it is free, exchanges a chunk at a ready point, ends an entry whose bits are all
exchanged with the bits received, and one whose stretch passes RDY_TO with NOT_READY. An abort ends a waiting entry
ABORTED, is too late for a word entry that runs, and stops a long one at its chunk boundary; a release frees an ended
entry (spec/11_master_serial.md R402, R404, R407, R408, R409, R415, R416, R417, R420, R421, R422). -/
def Obligations.MasterSerialEntriesRunToTheirEnd : Prop :=
  (∀ (s : State) (p : PortId) (win : Fin 4) (q : Nat), s.serves p 48 = true → s.acting p = 0 → 4 ≤ q → q < 16 →
    (∀ w, s.msJudge w = .ok → ((List.range 12).map (4 + ·)).find? (fun k => s.g F.MS_E_STATE (msEnt k) == 0) = some q →
      (s.ms.chain ≠ [] →
        ∃ t, exec (.msSubmit p win w) s = .next t ∧ (t.port p).outcome = Oc.deferred.code ∧ t.tick = s.tick + 48 ∧
          t.g F.MS_E_STATE (msEnt q) = 1 ∧ t.g F.MS_E_SEL (msEnt q) = F.MS_E_SEL.of w ∧
          t.g F.MS_E_TXD (msEnt q) = F.MS_E_TXD.of w ∧ t.g F.MS_E_TAG (msEnt q) = F.MS_E_TAG.of w ∧
          t.ms.order = s.ms.order ++ [q] ∧ t.ms.chain = s.ms.chain ∧ t.g F.MS_S_QIDX 48 = q ∧ t.src = s.src ∧
          t.units = s.units) ∧
      (s.ms.chain = [] → s.ms.order = [] → s.ms.readyAt ≤ s.tick + 47 → F.MS_E_CONT.of w = 0 → F.MS_E_LONG.of w = 0 →
        ∃ t, exec (.msSubmit p win w) s = .next t ∧ (t.port p).outcome = Oc.ok.code ∧ t.tick = s.tick + 48 ∧
          t.g F.MS_E_STATE (msEnt q) = 2 ∧ t.ms.chain = [q] ∧ t.ms.order = [] ∧ t.ms.selLow = true ∧
          t.ms.sel = F.MS_E_SEL.of w ∧ t.ms.prof = s.rd 0x3F (1 + F.MS_E_PROF.of w) ∧ t.ms.chunk = 0 ∧
          t.ms.readyAt = s.tick + 47 + F.MS_PROF_LEAD.of t.ms.prof * t.msH ∧ t.src = s.src ∧ t.units = s.units)) ∧
    (∀ w o, s.msJudge w = o → o ≠ .ok →
      ∃ t, exec (.msSubmit p win w) s = .next t ∧ (t.port p).outcome = o.code ∧ t.tick = s.tick + 48 ∧ t.ms = s.ms ∧
        (∀ k, 4 ≤ k → k < 16 → t.rd 0x3F (msEnt k) = s.rd 0x3F (msEnt k)) ∧ t.g F.MS_E_OUTCOME 24 = o.code ∧
        t.src = s.src ∧ t.units = s.units) ∧
    (s.ms.order = [q] → s.g F.MS_E_STATE (msEnt q) = 1 →
      ∃ t, exec (.msAbort p win q) s = .next t ∧ (t.port p).outcome = Oc.ok.code ∧ t.tick = s.tick + 48 ∧ t.ms.order = [] ∧
        t.g F.MS_E_STATE (msEnt q) = 3 ∧ t.g F.MS_E_OUTCOME (msEnt q) = Oc.aborted.code ∧
        (vget t.src Src.msp.idx).q = (vget s.src Src.msp.idx).q ++
          [{ common := false, tenant := 0, sev := 2, code := 0x02, ref := q + 1,
             arg := s.g F.MS_E_TAG (msEnt q) % 2 ^ 24 * 256 + Oc.aborted.code }] ∧ t.units = s.units) ∧
    (s.g F.MS_E_STATE (msEnt q) = 2 → s.b F.MS_E_LONG (msEnt q) = false →
      ∃ t, exec (.msAbort p win q) s = .next t ∧ (t.port p).outcome = Oc.tooLate.code ∧ t.tick = s.tick + 48 ∧ t.ms = s.ms ∧
        t.cells = s.cells ∧ t.src = s.src ∧ t.units = s.units) ∧
    (s.g F.MS_E_STATE (msEnt q) = 2 → s.b F.MS_E_LONG (msEnt q) = true → s.ms.chunk < s.msChunks q →
      ∃ t, exec (.msAbort p win q) s = .next t ∧ (t.port p).outcome = Oc.ok.code ∧ t.ms = { s.ms with abort := true } ∧
        t.cells = s.cells ∧ t.src = s.src ∧ t.units = s.units) ∧
    (s.g F.MS_E_STATE (msEnt q) = 3 →
      ∃ t, exec (.msRelease p win q) s = .next t ∧ (t.port p).outcome = Oc.ok.code ∧ t.tick = s.tick + 48 ∧
        t.rd 0x3F (msEnt q) = 0 ∧ t.rd 0x3F (msSt q) = 0 ∧ t.ms = s.ms ∧ t.src = s.src ∧ t.units = s.units)) ∧
  (∀ (s : State) (q : Nat), 4 ≤ q → q < 16 → s.rc.waiting ≠ 1 →
    (s.isOn .msp = true → s.ms.chain = [] → s.ms.order = [q] → s.msHold = false → s.b F.MS_E_CONT (msEnt q) = false →
      (s.msAllowed q = true →
        ∃ t, exec .msEntryStart s = .next t ∧ t.tick = max s.tick s.ms.readyAt ∧ t.ms.chain = [q] ∧ t.ms.order = [] ∧
          t.ms.selLow = true ∧ t.ms.sel = s.g F.MS_E_SEL (msEnt q) ∧ t.g F.MS_E_STATE (msEnt q) = 2 ∧
          t.ms.readyAt = t.tick + F.MS_PROF_LEAD.of t.ms.prof * t.msH ∧ t.src = s.src ∧ t.units = s.units) ∧
      (s.msAllowed q = false →
        ∃ t, exec .msEntryStart s = .next t ∧ t.tick = max s.tick s.ms.readyAt ∧ t.ms.chain = [] ∧ t.ms.order = [] ∧
          t.g F.MS_E_STATE (msEnt q) = 3 ∧ t.g F.MS_E_OUTCOME (msEnt q) = Oc.notAvailable.code ∧ t.units = s.units)) ∧
    (∀ wait miso, s.ms.chain = [q] → s.ms.abort = false → s.ms.stopping = false → s.ms.fault = false → s.cj.bad = [] →
      s.ms.chunk < s.msChunks q → wait ≤ s.msTo →
      let n := s.msChunkLen q s.ms.chunk
      let d := if F.MS_PROF_RDY_EN.of s.ms.prof = 1 then wait else 0
      ∃ t, exec (.msReadyPoint wait miso) s = .next t ∧
        t.tick = max s.tick (s.ms.readyAt + d) + (2 * n - 1) * s.msH ∧ t.ms.readyAt = t.tick + s.msH ∧
        t.ms.chunk = s.ms.chunk + 1 ∧ t.ms.rx = s.ms.rx ++ (miso ++ List.replicate n false).take n ∧
        t.ms.sent = s.ms.sent ++ s.msOut q (32 * s.ms.chunk) n ∧ t.ms.chain = [q] ∧ t.src = s.src ∧ t.units = s.units) ∧
    (s.ms.chain = [q] → s.msChunks q ≤ s.ms.chunk → s.ms.fault = false → s.b F.MS_E_LONG (msEnt q) = false →
      s.ms.freeClaim = none →
      ∃ t, exec .msEntryDone s = .next t ∧ t.tick = s.tick + F.MS_PROF_LAG.of s.ms.prof * s.msH ∧ t.ms.chain = [] ∧
        t.ms.selLow = false ∧ s.tick ≤ t.ms.readyAt ∧ t.g F.MS_E_STATE (msEnt q) = 3 ∧
        t.g F.MS_E_OUTCOME (msEnt q) = Oc.ok.code ∧
        t.g F.MS_E_RXD (msEnt q) = (if s.msLsb then ofBitsLE s.ms.rx else ofBitsBE s.ms.rx) % 2 ^ F.MS_E_RXD.w ∧
        (vget t.src Src.msp.idx).q = (vget s.src Src.msp.idx).q ++
          [{ common := false, tenant := 0, sev := 0, code := 0x02, ref := q + 1,
             arg := s.g F.MS_E_TAG (msEnt q) % 2 ^ 24 * 256 }] ∧ t.units = s.units) ∧
    (s.ms.chain = [q] → F.MS_PROF_RDY_EN.of s.ms.prof = 1 → s.ms.chunk < s.msChunks q → s.ms.abort = false →
      s.ms.stopping = false → s.ms.fault = false →
      ∃ t, exec .rdyTimeout s = .next t ∧ max s.tick (s.ms.readyAt + s.msTo + 1) ≤ t.tick ∧ t.ms.chain = [] ∧
        t.ms.selLow = false ∧ t.g F.MS_E_STATE (msEnt q) = 3 ∧ t.g F.MS_E_OUTCOME (msEnt q) = Oc.notReady.code ∧
        t.g F.MS_CFG_TIMEOUTS 0 = (s.g F.MS_CFG_TIMEOUTS 0 + 1) % 2 ^ F.MS_CFG_TIMEOUTS.w ∧
        (∃ e ∈ (vget t.src Src.msp.idx).q, e.common = true ∧ e.sev = 2 ∧ e.code = 0x10 ∧
          e.arg = (s.g F.MS_E_TAG (msEnt q) * 256 + s.ms.sel) % 2 ^ 32) ∧ t.units = s.units))

/-- The radio's host commands: allow and free of a tag pair, JOIN_OPEN and its expiry, RF_RESET; a downlink request
that nothing refuses is DEFERRED while no poll of its tag is open, a refused one changes no request; an abort ends one
that does not run ABORTED and is too late for one that runs; a release frees an ended entry, or a receive buffer whose
reception has been arbitrated (spec/12_radio_coordinator.md R437, R445, R446, R449, R451, R454, R462, R466, R476). -/
def Obligations.RadioHostCommands : Prop :=
  ∀ (s : State) (p : PortId) (win : Fin 4),
    (∀ i w, s.serves p 48 = true → s.acting p = 0 → i < 128 →
      ∃ t, exec (.tagAllow p win i w) s = .next t ∧ (t.port p).outcome = Oc.ok.code ∧ t.tick = s.tick + 48 ∧
        t.tagState i = (if s.tagState i = 3 then 3 else 2) ∧
        t.g F.RC_TAG_EUI (2 * i) = F.RC_TAG_EUI.of (s.merged 0x34 (2 * i) w) ∧
        t.g F.RC_TAG_TENANT (2 * i) = F.RC_TAG_TENANT.of (s.merged 0x34 (2 * i) w) ∧
        (∀ e, e < 256 → e ≠ 2 * i → t.rd 0x34 e = s.rd 0x34 e) ∧ t.rc = s.rc ∧ t.src = s.src ∧ t.units = s.units) ∧
    (∀ i, s.serves p 48 = true → s.acting p = 0 → i < 128 →
      ∃ t, exec (.tagFree p win i) s = .next t ∧ (t.port p).outcome = Oc.ok.code ∧ t.tick = s.tick + 48 ∧
        t.tagState i = 0 ∧ t.g F.RC_TAG_TX_FC (2 * i + 1) = s.g F.RC_TAG_TX_FC (2 * i + 1) ∧
        (∀ x ∈ t.rc.polls, x.addr ≠ i + 1) ∧ t.rc.joinDue ≠ some i ∧
        (∀ q, q < 8 → s.g F.RC_TXQ_STATE q = 1 ∨ s.g F.RC_TXQ_STATE q = 2 → s.g F.RC_TXQ_DST q = i + 1 →
          t.g F.RC_TXQ_STATE q = 4 ∧ t.g F.RC_TXQ_OUTCOME q = Oc.aborted.code ∧ q ∉ t.rc.order ∧ t.rc.granted ≠ some q) ∧
        (∀ e, e < 256 → e / 2 ≠ i → t.rd 0x34 e = s.rd 0x34 e) ∧ t.units = s.units) ∧
    (∀ gen check arg, s.ownerRow p .radio gen check = true → s.isOn .radio = true →
      ∃ t, exec (.joinOpen p gen check arg) s = .next t ∧ (t.port p).outcome = Oc.ok.code ∧ t.tick = s.tick + 32 ∧
        t.rcBit 3 = decide (arg ≠ 0) ∧
        t.rc.joinUntil = (if arg = 0 then none else some (s.tick + 31 + 60 * arg.toNat * secTicks)) ∧ t.cells = s.cells ∧
        (∀ v : Src, v ≠ .radio → t.mirror v = s.mirror v)) ∧
    (∀ u, s.rc.joinUntil = some u →
      ∃ t, exec .joinOpenExpire s = .next t ∧ t.tick = max s.tick u ∧ t.rc.joinUntil = none ∧ t.rcBit 3 = false ∧
        t.cells = s.cells ∧ (∀ v : Src, v ≠ .radio → t.mirror v = s.mirror v)) ∧
    (∀ gen check, s.ownerRow p .radio gen check = true → s.isOn .radio = true →
      ∃ t, exec (.rfReset p gen check) s = .next t ∧ (t.port p).outcome = Oc.ok.code ∧ t.tick = s.tick + 32 ∧
        t.rc.rst = 1 ∧ t.rc.rstN = false ∧ t.rc.script = none ∧ t.rc.plan = [] ∧ t.rc.exchange = false ∧
        t.rc.waitEnd = s.tick + 31 + usTicks (s.g F.RC_CFG_RST_US 0) ∧ t.cells = s.cells ∧ t.src = s.src ∧
        t.units = s.units) ∧
    (∀ w q, s.serves p 48 = true → s.rcJudge (s.acting p) w = .ok →
      (List.range 8).find? (fun k => s.g F.RC_TXQ_STATE k == 0) = some q → s.rc.polls = [] → s.rc.granted ≠ some q →
      ∃ t, exec (.radioTxSubmit p win w) s = .next t ∧ (t.port p).outcome = Oc.deferred.code ∧ t.tick = s.tick + 48 ∧
        t.g F.RC_TXQ_STATE q = 1 ∧ t.g F.RC_TXQ_DST q = F.RC_TXQ_DST.of w ∧ t.g F.RC_TXQ_BYTES q = F.RC_TXQ_BYTES.of w ∧
        t.rc.order = s.rc.order ++ [q] ∧ t.rcOwner q = s.acting p ∧
        t.g F.RC_TAG_TX_SEQ (2 * pairOf (F.RC_TXQ_DST.of w) + 1) =
          (s.g F.RC_TAG_TX_SEQ (2 * pairOf (F.RC_TXQ_DST.of w) + 1) + 1) % 256 ∧
        t.rc.callDue = (if F.RC_TXQ_WAKE.of w = 1 then s.rc.callDue ++ [q] else s.rc.callDue) ∧ t.src = s.src ∧
        t.units = s.units) ∧
    (∀ w o, s.serves p 48 = true → s.rcJudge (s.acting p) w = o → o ≠ .ok →
      ∃ t, exec (.radioTxSubmit p win w) s = .next t ∧ (t.port p).outcome = o.code ∧ t.tick = s.tick + 48 ∧ t.rc = s.rc ∧
        (∀ q, q < 8 → t.rd 0x35 q = s.rd 0x35 q) ∧ t.src = s.src ∧ t.units = s.units) ∧
    (∀ q, s.serves p 48 = true → q < 8 → s.rcOwner q = s.acting p → bitOf s.rc.toOwner q = false →
      (s.g F.RC_TXQ_STATE q = 1 ∨ s.g F.RC_TXQ_STATE q = 2 →
        ∃ t, exec (.radioTxAbort p win q) s = .next t ∧ (t.port p).outcome = Oc.ok.code ∧ t.tick = s.tick + 48 ∧
          t.g F.RC_TXQ_STATE q = 4 ∧ t.g F.RC_TXQ_OUTCOME q = Oc.aborted.code ∧ q ∉ t.rc.order ∧ t.rc.granted ≠ some q ∧
          (vget t.src Src.radio.idx).q = (vget s.src Src.radio.idx).q ++
            [{ common := false, tenant := s.acting p, sev := 2, code := 0x02, ref := q + 1,
               arg := s.g F.RC_TXQ_TAG q % 2 ^ 24 * 256 + Oc.aborted.code }] ∧ t.units = s.units) ∧
      (s.g F.RC_TXQ_STATE q = 3 →
        ∃ t, exec (.radioTxAbort p win q) s = .next t ∧ (t.port p).outcome = Oc.tooLate.code ∧ t.tick = s.tick + 48 ∧
          t.cells = s.cells ∧ t.rc = s.rc ∧ t.src = s.src ∧ t.units = s.units) ∧
      (s.g F.RC_TXQ_STATE q = 4 →
        ∃ t, exec (.radioTxRelease p win q) s = .next t ∧ (t.port p).outcome = Oc.ok.code ∧ t.tick = s.tick + 48 ∧
          t.rd 0x35 q = 0 ∧ t.rc.order = s.rc.order ∧ t.src = s.src ∧ t.units = s.units)) ∧
    (∀ b, s.serves p 48 = true → b < 2 → (vget s.rc.bufs b).full = true → (vget s.rc.bufs b).seen = true →
      (vget s.rc.bufs b).tenant = s.acting p →
      ∃ t, exec (.radioRxRelease p win b) s = .next t ∧ (t.port p).outcome = Oc.ok.code ∧ t.tick = s.tick + 48 ∧
        vget t.rc.bufs b = {} ∧ (∀ i, i < 9 → t.rd 0x36 (8 + 9 * b + i) = 0) ∧
        vget t.rc.bufs (1 - b) = vget s.rc.bufs (1 - b) ∧ t.src = s.src ∧ t.units = s.units)

/-- Downlinks of the radio: the one request of a tag with an open poll is granted the staging frame before its time D;
at D an incomplete one ends UNDERRUN with DONE and DEADLINE; a complete one is sent as the poll's answer, or ends
BUDGET with its WAIT; with no answer the poll gets an empty one and the request returns to the queue, as it does
without the tag's ACK until its fourth attempt, which ends BAD_FRAME; a wake-up call is sent at a slot start
(spec/12_radio_coordinator.md R451, R452, R453, R454, R455, R456, R458, R459). -/
def Obligations.RadioDownlinksAreAnsweredOrReturned : Prop :=
  ∀ (s : State) (q : Nat), q < 8 →
    (∀ x, s.rcMayGrant = true → s.rc.polls = [x] → x.answered = false → s.rc.order = [q] →
      s.g F.RC_TXQ_DST q = x.addr → s.tick < s.rcD x q → q ∉ s.rc.callDue →
      ∃ t, exec .radioGrant s = .next t ∧ t.tick = s.tick ∧ t.rc.granted = some q ∧ t.rc.order = [] ∧ t.rc.filled = 0 ∧
        t.rc.deadline = s.rcD x q ∧ t.g F.RC_TXQ_STATE q = 2 ∧ (∀ i, i < 8 → t.rd 0x36 i = 0) ∧
        (vget t.src Src.radio.idx).q = (vget s.src Src.radio.idx).q ++
          [{ common := false, tenant := s.rcOwner q, sev := 0, code := 0x12, ref := 0,
             arg := (s.g F.RC_TXQ_TAG q * 256 + (s.rcD x q - s.tick) / msTicks % 256) % 2 ^ 32 }] ∧ t.units = s.units) ∧
    (s.rc.polls = [] → exec .radioGrant s = .next s) ∧
    (s.rc.granted = some q → s.g F.RC_TXQ_STATE q = 2 →
      (s.rcFilled q = false →
        ∃ t, exec .radioDeadline s = .next t ∧ t.tick = max s.tick s.rc.deadline ∧ t.rc.granted = none ∧
          t.g F.RC_TXQ_STATE q = 4 ∧ t.g F.RC_TXQ_OUTCOME q = Oc.underrun.code ∧
          (∃ e ∈ (vget t.src Src.radio.idx).q, e.code = 0x02 ∧ e.ref = q + 1 ∧ e.arg % 256 = Oc.underrun.code) ∧
          (∃ e ∈ (vget t.src Src.radio.idx).q, e.code = 0x03 ∧ e.arg % 256 = Oc.underrun.code) ∧ t.units = s.units) ∧
      (s.rcFilled q = true → exec .radioDeadline s = .next (s.advanceTo s.rc.deadline))) ∧
    (∀ x, s.rc.granted = some q → s.rcPoll (s.g F.RC_TXQ_DST q) = some x → s.g F.RC_TXQ_STATE q = 2 → s.rcFilled q = true →
      s.rcWorks = true → s.rcBit 2 = false → s.rcIdle = true → s.rc.txBusy = false → s.tick ≤ s.rc.deadline →
      s.b F.RC_TXQ_SEC q = false →
      (s.rcBudget s.rc.hopEnt (s.rcEst (s.rcReqLen q)) (some (s.rcOwner q)) = none →
        ∃ t, exec .radioAnswerTx s = .next t ∧ t.tick = s.tick ∧ t.g F.RC_TXQ_STATE q = 3 ∧
          t.g F.RC_TXQ_ATTEMPTS q = (s.g F.RC_TXQ_ATTEMPTS q + 1) % 2 ^ F.RC_TXQ_ATTEMPTS.w ∧ t.rc.granted = some q ∧
          t.rc.txAt = x.tp + s.rcAckDly ∧ t.rc.loaded.map (fun f => (f.kind, f.tenant, f.entry)) = some (1, s.rcOwner q, q) ∧
          t.src = s.src ∧ t.units = s.units) ∧
      (∀ w, s.rcBudget s.rc.hopEnt (s.rcEst (s.rcReqLen q)) (some (s.rcOwner q)) = some w →
        ∃ t, exec .radioAnswerTx s = .next t ∧ t.tick = s.tick ∧ t.g F.RC_TXQ_STATE q = 4 ∧
          t.g F.RC_TXQ_OUTCOME q = Oc.budget.code ∧ t.g F.RC_TXQ_WAIT q = w % 2 ^ F.RC_TXQ_WAIT.w ∧ t.rc.granted = none ∧
          t.units = s.units)) ∧
    (∀ x, s.rc.polls = [x] → x.answered = false → s.rcIdle = true → s.rc.txBusy = false → s.rcBit 2 = false →
      s.rcWorks = true → s.rcBudget s.rc.hopEnt (s.rcEst 6) none = none →
      (s.rc.granted = none →
        ∃ t, exec .emptyAnswer s = .next t ∧ t.tick = max s.tick (s.rcEmptyAt x) ∧ t.rc.polls = [] ∧
          t.rc.loaded.map (fun f => (f.kind, f.bytes.length)) = some (0, 6) ∧ t.rc.txAt = t.tick ∧ t.src = s.src ∧
          t.units = s.units) ∧
      (s.rc.granted = some q → s.g F.RC_TXQ_STATE q = 2 → s.g F.RC_TXQ_DST q = x.addr →
        ∃ t, exec .emptyAnswer s = .next t ∧ t.tick = max s.tick (s.rcEmptyAt x) ∧ t.rc.polls = [] ∧ t.rc.granted = none ∧
          t.g F.RC_TXQ_STATE q = 1 ∧ t.rc.order = q :: s.rc.order ∧ t.src = s.src ∧ t.units = s.units)) ∧
    (s.rc.ackWait = some q →
      (s.g F.RC_TXQ_ATTEMPTS q < 4 →
        ∃ t, exec .radioAnswerAckTimeout s = .next t ∧ t.tick = max s.tick s.rc.ackEnd ∧ t.rc.ackWait = none ∧
          t.g F.RC_TXQ_STATE q = 1 ∧ t.rc.order = q :: s.rc.order ∧ t.rc.granted = none ∧ t.src = s.src ∧ t.units = s.units) ∧
      (4 ≤ s.g F.RC_TXQ_ATTEMPTS q →
        ∃ t, exec .radioAnswerAckTimeout s = .next t ∧ t.tick = max s.tick s.rc.ackEnd ∧ t.rc.ackWait = none ∧
          t.g F.RC_TXQ_STATE q = 4 ∧ t.g F.RC_TXQ_OUTCOME q = Oc.badFrame.code ∧ t.units = s.units)) ∧
    (∀ rest, s.rc.callDue = q :: rest → s.rcWorks = true → s.rcBit 2 = false → s.rc.exchange = false → s.rcIdle = true →
      s.rc.txBusy = false → s.tick = s.rc.slotTick →
      let e := s.g F.RC_TAG_WU_ENT (2 * pairOf (s.g F.RC_TXQ_DST q))
      let b := s.rcBudget e (1000 * s.g F.RC_CFG_WUC_MS 1) (some (s.rcOwner q))
      (b = none →
        ∃ t, exec .wakeUpCall s = .next t ∧ t.tick = s.tick ∧ t.rc.callDue = rest ∧ t.rc.callSent = q :: s.rc.callSent ∧
          t.rc.exchange = true ∧ t.rc.hopEnt = e ∧ t.rc.chan = s.g F.RC_HOP_CH e ∧ t.src = s.src ∧ t.units = s.units) ∧
      (∀ w, b = some w →
        ∃ t, exec .wakeUpCall s = .next t ∧ t.tick = s.tick ∧ t.g F.RC_TXQ_STATE q = 4 ∧
          t.g F.RC_TXQ_OUTCOME q = Oc.budget.code ∧ t.g F.RC_TXQ_WAIT q = w % 2 ^ F.RC_TXQ_WAIT.w ∧ q ∉ t.rc.callDue ∧
          t.units = s.units))

/-- The radio's transceiver: an assertion of RF_IRQ after RX_ON starts an exchange and reads the frame; an SFD edge is
stamped; a script that fails raises RF_FAULT and resets the transceiver, and the third failure of INIT in a row faults
RADIO; the waits of a script and of a reset run out; the end of a transmission charges its on-air time, or twice the
estimate when it does not come; budget bins turn over; RADIO follows LINE into dormancy and out of it at the end of a
hop slot (spec/12_radio_coordinator.md R433, R434, R436, R437, R438, R450, R454, R457, R458, R460). -/
def Obligations.RadioTransceiverAndScripts : Prop :=
  ∀ (s : State),
    (∀ a, s.rc.waiting ≠ 2 → (a = false ∨ s.rc.irq = true ∨ s.rcWorks = false ∨ s.rcIdle = false ∨ s.rc.lastScript ≠ 1) →
      exec (.rfIrq a) s =
        .next (s.modRc fun x => { x with irq := a, irqTick := if a && !x.irq then s.tick else x.irqTick })) ∧
    (s.rc.waiting ≠ 2 → s.rc.irq = false → s.rcWorks = true → s.rcIdle = true → s.rc.lastScript = 1 →
      ∃ t, exec (.rfIrq true) s = .next t ∧ t.tick = s.tick ∧ t.rc.exchange = true ∧ t.rc.irqTick = s.tick ∧
        t.rc.lastScript = 4 ∧ t.src = s.src ∧ t.units = s.units) ∧
    (∀ ago, ∃ t, exec (.rfSfd ago) s = .next t ∧ t.tick = s.tick ∧ t.rc.sfdTick = BitVec.ofNat 32 (s.tick - ago) ∧
      t.rc.irq = s.rc.irq ∧ t.cells = s.cells ∧ t.src = s.src ∧ t.units = s.units) ∧
    (s.rc.waiting = 2 ∨ (s.rc.waiting = 1 ∧ s.rc.xferOk = some false ∧ s.isOn .radio = true) →
      let c := s.rc.script.getD s.rc.lastScript
      let n := if s.rc.waiting = 2 then max s.tick s.rc.waitEnd else s.tick
      (c ≠ 0 ∨ s.rc.initFails < 2 →
        ∃ t, exec .rfFault s = .next t ∧ t.tick = n ∧ t.rc.rst = 1 ∧ t.rc.rstN = false ∧ t.rc.script = none ∧ t.rc.plan = [] ∧
          t.rc.polls = [] ∧ t.rc.exchange = false ∧ t.rc.waitEnd = n + usTicks (s.g F.RC_CFG_RST_US 0) ∧
          (∃ e ∈ (vget t.src Src.radio.idx).q, e.common = true ∧ e.sev = 2 ∧ e.code = 0x17 ∧
            e.arg = (s.rc.step % 256 * 256 + c) % 2 ^ 32) ∧ t.units = s.units) ∧
      (c = 0 → 2 ≤ s.rc.initFails →
        ∃ t, exec .rfFault s = .next t ∧ t.tick = n ∧ t.st .radio = .fault ∧ t.rc.script = none ∧ t.rc.rst = 0 ∧
          (∀ v : Src, v ≠ .radio → t.mirror v = s.mirror v))) ∧
    (s.rc.rst = 1 →
      ∃ t, exec .scriptDelay s = .next t ∧ t.tick = max s.tick s.rc.waitEnd ∧ t.rc.rst = 2 ∧ t.rc.rstN = true ∧
        t.rc.waitEnd = t.tick + usTicks (s.g F.RC_CFG_RST_US 0) ∧ t.cells = s.cells ∧ t.src = s.src ∧ t.units = s.units) ∧
    (s.rc.rst = 2 → s.rc.script = none → s.rc.plan = [] →
      ∃ t, exec .scriptDelay s = .next t ∧ t.tick = max s.tick s.rc.waitEnd ∧ t.rc.rst = 0 ∧ t.src = s.src ∧
        t.units = s.units) ∧
    (s.rc.rst = 0 → s.rc.waiting = 3 ∨ s.rc.waiting = 4 →
      ∃ t, exec .scriptDelay s = .next t ∧ t.tick = max s.tick s.rc.waitEnd ∧ t.src = s.src ∧ t.units = s.units) ∧
    (s.rc.txBusy = true → s.rc.irq = true → s.rc.txSince ≤ s.rc.irqTick → s.rc.hopEnt < 64 →
      let us := ceilDiv ((s.rc.irqTick - s.rc.txSince) * 1000) 196608
      ∃ t, exec .radioTxEnd s = .next t ∧ t.tick = s.tick ∧
        (vget t.rc.dwell s.rc.hopEnt).use = (vget s.rc.dwell s.rc.hopEnt).use + us ∧
        (vget t.rc.duty (s.g F.RC_HOP_BAND s.rc.hopEnt)).use = (vget s.rc.duty (s.g F.RC_HOP_BAND s.rc.hopEnt)).use + us ∧
        (∀ f, s.rc.loaded = some f → f.kind = 1 → f.entry < 8 → s.b F.RC_TXQ_ACKREQ f.entry = false →
          t.g F.RC_TXQ_STATE f.entry = 4 ∧ t.g F.RC_TXQ_OUTCOME f.entry = Oc.ok.code) ∧
        (∀ f, s.rc.loaded = some f → f.kind = 1 → s.b F.RC_TXQ_ACKREQ f.entry = true →
          t.rc.ackWait = some f.entry ∧ t.rc.ackEnd = s.tick + s.rcAckDly + usTicks (s.rcEst 6) + mst 1) ∧ t.units = s.units) ∧
    (s.rc.txBusy = true → s.rc.irq = false → s.rc.hopEnt < 64 → s.rc.script = none → s.rc.lastScript = 2 →
      ∃ t, exec .txEndTimeout s = .next t ∧ t.tick = max s.tick (s.rc.txSince + usTicks (2 * s.rc.txEst) + mst 1) ∧
        (vget t.rc.dwell s.rc.hopEnt).use = (vget s.rc.dwell s.rc.hopEnt).use + 2 * s.rc.txEst ∧ t.rc.txBusy = false ∧
        t.rc.rst = 1 ∧ (∃ e ∈ (vget t.src Src.radio.idx).q, e.common = true ∧ e.code = 0x17 ∧ e.arg % 256 = 2) ∧
        t.units = s.units) ∧
    (∀ b : Fin 4, s.isOn .radio = true →
      (s.rcBinTicks true b.val ≠ 0 →
        ∃ t, exec (.budgetBinTurn true b) s = .next t ∧ t.tick = max s.tick (s.rcNextTurn true b.val) ∧
          vget t.rc.duty b.val = (vget s.rc.duty b.val).turn ∧ t.rc.dwell = s.rc.dwell ∧
          (∀ n, n < 64 → vget t.rc.share (4 * n + b.val) = (vget s.rc.share (4 * n + b.val)).turn) ∧ t.src = s.src ∧
          t.units = s.units) ∧
      (s.rcBinTicks false b.val ≠ 0 →
        ∃ t, exec (.budgetBinTurn false b) s = .next t ∧ t.tick = max s.tick (s.rcNextTurn false b.val) ∧
          t.rc.duty = s.rc.duty ∧ (∀ e, e < 64 → vget t.rc.dwell e =
            if s.g F.RC_HOP_BAND e = b.val then (vget s.rc.dwell e).turn else vget s.rc.dwell e) ∧ t.src = s.src ∧
          t.units = s.units)) ∧
    (let y := s.toMark 0 (2 ^ s.g F.RC_CFG_SLOT_EXP 0)
     s.isOn .radio = true → s.rc.exchange = false →
      (s.lnDorm = 2 → s.b F.RC_CFG_FOLLOW_LINE 0 = true → s.rc.followed = false → s.rcBit 0 = false →
        ∃ t, exec .radioDormant s = .next t ∧ t.tick = y.tick ∧ t.rc.followed = true ∧ t.rcBit 0 = true ∧
          (∃ e ∈ (vget t.src Src.radio.idx).q, e.common = true ∧ e.code = 0x18 ∧ e.arg = 1)) ∧
      (s.lnDorm ≠ 2 → s.rc.followed = true → (s.mirror .radio).held ≠ 1 → s.rcBit 0 = true →
        ∃ t, exec .radioDormant s = .next t ∧ t.tick = y.tick ∧ t.rc.followed = false ∧ t.rcBit 0 = false ∧
          (∃ e ∈ (vget t.src Src.radio.idx).q, e.common = true ∧ e.code = 0x18 ∧ e.arg = 0)))

/-- What RADIO sends and receives by itself: at a hop slot start it takes up the slot and its channel; in the first
half of a beacon slot it sends its beacon, or counts a skip; a frame read that is not for this network is counted, a
JOIN_REQ of an allowed tag joins it, a first DATA frame of a joined tag is stored in a free buffer with RX for its
tenant; an ACK and a JOIN_RSP owed go out ACK_DLY after the reception, within the budgets
(spec/12_radio_coordinator.md R438, R439, R441, R443, R445, R447, R448, R449, R450, R458). -/
def Obligations.RadioBeaconsReceptionsAndAcks : Prop :=
  ∀ (s : State),
    (let y := s.toMark 0 (2 ^ s.g F.RC_CFG_SLOT_EXP 0)
     (s.isOn .radio = false → exec .hopSlotStart s = .next y) ∧
     (s.isOn .radio = true → s.rc.exchange = false → s.rc.noackOff = false →
      ∃ t, exec .hopSlotStart s = .next t ∧ t.tick = y.tick ∧ t.gy.stamp = y.gy.stamp ∧ t.rc.slotTick = y.tick ∧
        t.rc.slot = BitVec.ofNat 32 y.rcSlot ∧ t.rc.beaconDue = decide (y.rcSlot % 2 ^ s.g F.RC_CFG_BCN_EXP 0 = 0) ∧
        (s.rcBit 0 = false → s.rcIdle = true → s.rc.txBusy = false → s.rc.callDue = [] →
          t.rc.hopEnt = s.rcHopOf (BitVec.ofNat 32 y.rcSlot).toNat) ∧ t.src = s.src ∧ t.units = s.units)) ∧
    (s.rcWorks = true → s.rc.beaconDue = true → s.rcIdle = true → s.rc.txBusy = false →
      (2 ^ (s.g F.RC_CFG_SLOT_EXP 0 - 1) ≤ s.stamp48 % 2 ^ s.g F.RC_CFG_SLOT_EXP 0 →
        exec .beaconTx s = .next (s.modRc fun x => { x with beaconDue := false })) ∧
      (s.stamp48 % 2 ^ s.g F.RC_CFG_SLOT_EXP 0 < 2 ^ (s.g F.RC_CFG_SLOT_EXP 0 - 1) → s.rc.exchange = false →
        (s.rcBudget s.rc.hopEnt (s.rcEst s.rcBeacon.length) none = none →
          ∃ t, exec .beaconTx s = .next t ∧ t.tick = s.tick ∧ t.rc.bcnSeq = s.rc.bcnSeq + 1 ∧ t.rc.beaconDue = false ∧
            t.rc.loaded.map (fun f => (f.bytes, f.kind)) = some (ofNatBytes s.rcBeacon, 0) ∧
            t.rc.txAt = s.rc.slotTick + usTicks (100 * s.g F.RC_CFG_TX_LEAD 0) ∧ t.src = s.src ∧ t.units = s.units) ∧
        ((s.rcBudget s.rc.hopEnt (s.rcEst s.rcBeacon.length) none).isSome = true →
          ∃ t, exec .beaconTx s = .next t ∧ t.tick = s.tick ∧ t.rc.bcnSeq = s.rc.bcnSeq ∧ t.rc.beaconDue = false ∧
            t.g F.RC_CFG_SKIPS 1 = (s.g F.RC_CFG_SKIPS 1 + 1) % 2 ^ F.RC_CFG_SKIPS.w ∧ t.src = s.src ∧
            t.units = s.units))) ∧
    (∀ l, s.rc.rxDue = true → s.rcWorks = true → l = natBytes s.rc.rxBytes → s.tick ≤ s.rc.irqTick + s.rcAckDly →
      (l.length < 6 ∨ beNat ((l.drop 2).take 2) ≠ s.g F.RC_CFG_NET_ID 0 →
        ∃ t, exec .radioFrameRx s = .next t ∧ t.tick = s.tick ∧ t.rc.rxDue = false ∧
          t.g F.RC_CFG_FILTERED 1 = (s.g F.RC_CFG_FILTERED 1 + 1) % 2 ^ F.RC_CFG_FILTERED.w ∧ t.src = s.src ∧
          t.units = s.units) ∧
      (∀ i, i < 128 → l.length = 16 → beNat ((l.drop 2).take 2) = s.g F.RC_CFG_NET_ID 0 → rxByte l 0 / 32 = 3 →
        rxByte l 4 = 0 → rxByte l 5 = 0xFE → s.rcBit 1 = false →
        (List.range 128).find? (fun k => decide (2 ≤ s.tagState k) && s.g F.RC_TAG_EUI (2 * k) == beNat ((l.drop 6).take 8)) = some i →
        ∃ t, exec .radioFrameRx s = .next t ∧ t.tick = s.tick ∧ t.rc.rxDue = false ∧ t.tagState i = 3 ∧
          t.g F.RC_TAG_WAKE_CODE (2 * i) = beNat ((l.drop 14).take 2) % 2 ^ F.RC_TAG_WAKE_CODE.w ∧
          t.rc.joinDue = some i ∧ (vget t.src Src.radio.idx).q = (vget s.src Src.radio.idx).q ++
            [{ common := false, tenant := s.tagTenant i, sev := 0, code := 0x11, arg := i + 1, ref := 0 }] ∧
          t.units = s.units) ∧
      (∀ i, i < 128 → 6 ≤ l.length → l.length ≤ 134 → beNat ((l.drop 2).take 2) = s.g F.RC_CFG_NET_ID 0 →
        rxByte l 0 / 32 = 1 → bitOf (rxByte l 0) 4 = false → rxByte l 4 = 0 → rxByte l 5 = i + 1 → s.tagState i = 3 →
        s.b F.RC_TAG_SEQ_VALID (2 * i + 1) = false → s.rc.nextBuf < 2 → (vget s.rc.bufs s.rc.nextBuf).full = false →
        ∃ t, exec .radioFrameRx s = .next t ∧ t.tick = s.tick ∧ t.rc.rxDue = false ∧
          vget t.rc.bufs s.rc.nextBuf = { full := true, seen := false, tenant := s.tagTenant i } ∧
          t.rc.nextBuf = 1 - s.rc.nextBuf ∧ t.g F.RC_RX_SRC (8 + 9 * s.rc.nextBuf) = i + 1 ∧
          t.g F.RC_RX_BYTES (8 + 9 * s.rc.nextBuf) = (l.length - 6) % 2 ^ F.RC_RX_BYTES.w ∧
          t.b F.RC_TAG_SEQ_VALID (2 * i + 1) = true ∧
          (bitOf (rxByte l 0) 3 = true → s.rcBit 1 = false → t.rc.ackDue = some (rxByte l 5, rxByte l 1)) ∧
          (∃ e ∈ (vget t.src Src.radio.idx).q, e.common = false ∧ e.tenant = s.tagTenant i ∧ e.code = 0x13 ∧
            e.ref = 64 + s.rc.nextBuf) ∧ t.units = s.units)) ∧
    (∀ a n, s.rc.ackDue = some (a, n) → s.rcIdle = true → s.rc.txBusy = false →
      (s.rcBudget s.rc.hopEnt (s.rcEst 6) none = none →
        ∃ t, exec .radioAckTx s = .next t ∧ t.tick = s.tick ∧ t.rc.ackDue = none ∧ t.rc.txAt = s.rc.irqTick + s.rcAckDly ∧
          t.rc.loaded.map (fun f => (f.bytes, f.kind)) =
            some (ofNatBytes (s.rcHeader 2 false false (s.rcPend a) n a 0), 0) ∧ t.src = s.src ∧ t.units = s.units) ∧
      ((s.rcBudget s.rc.hopEnt (s.rcEst 6) none).isSome = true →
        ∃ t, exec .radioAckTx s = .next t ∧ t.tick = s.tick ∧ t.rc.ackDue = none ∧
          t.g F.RC_CFG_SKIPS 1 = (s.g F.RC_CFG_SKIPS 1 + 1) % 2 ^ F.RC_CFG_SKIPS.w ∧ t.src = s.src ∧ t.units = s.units)) ∧
    (∀ i, s.rc.joinDue = some i → s.rcIdle = true → s.rc.txBusy = false → s.rcBudget s.rc.hopEnt (s.rcEst 15) none = none →
      ∃ t, exec .joinRspTx s = .next t ∧ t.tick = s.tick ∧ t.rc.joinDue = none ∧ t.rc.txAt = s.rc.irqTick + s.rcAckDly ∧
        t.rc.loaded.map (fun f => (f.bytes, f.kind)) = some (ofNatBytes (s.rcHeader 4 false false false 0 0xFE 0 ++
          Aes.beBytes 8 (s.g F.RC_TAG_EUI (2 * i)) ++ [i + 1]), 0) ∧ t.src = s.src ∧ t.units = s.units)

/-- An optical port's lasers: RESTART and TEST pulse a port that automatic shut-down holds dark, CALIBRATE and CLEAR
ask for a calibration window; loss of signal shuts the port down and its end restores it; pulses begin PERIOD_S apart
and end; a failure of the live laser marks it FAILED and its partner takes over at the next cell boundary, or the port
is TX_DEAD; a calibration window begins at a cycle boundary or is skipped, and its result is taken, or fails the laser
(spec/13_optical_ports.md R494, R495, R496, R497, R500, R501, R503, R513). That a window ends at the next cell
boundary is the model's choice. -/
def Obligations.OpticalLasersFailCalibrateAndShutDown : Prop :=
  ∀ (s : State) (n : Fin 2) (u : Src), u = opU n.val →
    (∀ p gen check, s.ownerRow p u gen check = true → s.isOn u = true → s.opAls n.val = 1 →
      s.opc n.val F.OP_CFG_ALS_EN = 1 →
      (∃ t, exec (.optRestart p n gen check) s = .next t ∧ (t.port p).outcome = Oc.ok.code ∧ t.tick = s.tick + 32 ∧
        t.opAls n.val = 2 ∧ (t.op n.val).alsAt = s.tick + 31 ∧
        (t.op n.val).pulseEnd = s.tick + 31 + s.opc n.val F.OP_CFG_PULSE_MS * msTicks ∧ t.cells = s.cells ∧
        (∃ e ∈ (vget t.src u.idx).q, e.common = true ∧ e.code = 0x11 ∧ e.arg = 2)) ∧
      (∃ t, exec (.optTest p n gen check 0x5A) s = .next t ∧ (t.port p).outcome = Oc.ok.code ∧ t.tick = s.tick + 32 ∧
        t.opAls n.val = 3 ∧ (t.op n.val).pulseEnd = s.tick + 31 + s.opc n.val F.OP_CFG_TEST_S * secTicks ∧
        t.cells = s.cells ∧ (∃ e ∈ (vget t.src u.idx).q, e.common = true ∧ e.code = 0x11 ∧ e.arg = 3))) ∧
    (∀ p gen check (l : Byte), s.ownerRow p u gen check = true → s.isOn u = true → l.toNat < 2 →
      (s.b F.OP_LASER_FAILED (2 * n.val + l.toNat) = false → (s.op n.val).calLaser = none → s.opAls n.val = 0 →
        s.opShed n.val = false → (s.opBit n.val 6 = true ∨ s.opUsable n.val (1 - s.opLive n.val) = true) →
        ∃ t, exec (.calibrate p n gen check l) s = .next t ∧ (t.port p).outcome = Oc.ok.code ∧ t.tick = s.tick + 32 ∧
          (t.op n.val).calReq = (s.op n.val).calReq ++ [l.toNat] ∧ t.cells = s.cells ∧ t.src = s.src ∧ t.units = s.units) ∧
      (s.b F.OP_LASER_FAILED (2 * n.val + l.toNat) = true →
        ∃ t, exec (.clear p n gen check l) s = .next t ∧ (t.port p).outcome = Oc.ok.code ∧ t.tick = s.tick + 32 ∧
          t.b F.OP_LASER_FAILED (2 * n.val + l.toNat) = false ∧ t.g F.OP_LASER_FCAUSE (2 * n.val + l.toNat) = 0 ∧
          vget (t.op n.val).clearing l.toNat = true ∧ (t.op n.val).calReq = (s.op n.val).calReq ++ [l.toNat] ∧
          t.src = s.src ∧ t.units = s.units)) ∧
    (∀ set, s.isOn u = true → s.opBit n.val 5 ≠ set →
      (set = true → s.opc n.val F.OP_CFG_ALS_EN = 1 → s.opAls n.val = 0 → (s.op n.val).calLaser = none →
        ∃ t, exec (.los n set) s = .next t ∧ t.tick = s.tick ∧ t.opBit n.val 5 = true ∧ t.opAls n.val = 1 ∧
          (t.op n.val).alsAt = s.tick ∧ t.cells = s.cells ∧
          (∃ e ∈ (vget t.src u.idx).q, e.common = true ∧ e.sev = 2 ∧ e.code = 0x10 ∧ e.arg = 1)) ∧
      (set = false →
        ∃ t, exec (.los n set) s = .next t ∧ t.tick = s.tick ∧ t.opBit n.val 5 = false ∧ t.opAls n.val = 0 ∧
          t.cells = s.cells ∧ (∃ e ∈ (vget t.src u.idx).q, e.common = true ∧ e.code = 0x10 ∧ e.arg = 0))) ∧
    (s.isOn u = true → s.opAls n.val = 1 → (s.mirror u).held ≠ 3 →
      ∃ t, exec (.alsPulse n) s = .next t ∧
        t.tick = max s.tick ((s.op n.val).alsAt + s.opc n.val F.OP_CFG_PERIOD_S * secTicks) ∧ t.opAls n.val = 2 ∧
        (t.op n.val).alsAt = t.tick ∧ (t.op n.val).pulseEnd = t.tick + s.opc n.val F.OP_CFG_PULSE_MS * msTicks ∧
        t.cells = s.cells) ∧
    (s.isOn u = true → s.opAls n.val = 2 ∨ s.opAls n.val = 3 →
      ∃ t, exec (.alsPulseEnd n) s = .next t ∧ t.tick = max s.tick (s.op n.val).pulseEnd ∧ t.opAls n.val = 1 ∧
        (s.opAls n.val = 3 → (t.op n.val).alsAt = t.tick) ∧ (s.opAls n.val = 2 → (t.op n.val).alsAt = (s.op n.val).alsAt) ∧
        t.cells = s.cells) ∧
    (∀ cause l, l = s.opLive n.val → s.isOn u = true → (s.op n.val).lit = true → (s.op n.val).calLaser = none →
      (cause = 1 ∧ s.g F.OP_LASER_BIAS (2 * n.val + l) = s.opl n.val l F.OP_LASER_BIAS_MAX) ∨
        (cause = 2 ∧ s.opl n.val l F.OP_LASER_BIAS_EOL < s.g F.OP_LASER_BIAS (2 * n.val + l)) →
      (s.opUsable n.val (1 - l) = true → s.opShed n.val = false →
        ∃ t, exec (.laserFail n cause) s = .next t ∧ t.tick = max s.tick (s.opNext n.val) ∧
          t.b F.OP_LASER_FAILED (2 * n.val + l) = true ∧ t.g F.OP_LASER_FCAUSE (2 * n.val + l) = cause ∧
          t.opLive n.val = 1 - l ∧ t.g F.OP_LASER_BIAS (2 * n.val + l) = 0 ∧
          t.g F.OP_CNT_TAKEOVERS (2 * n.val + 1) = (s.g F.OP_CNT_TAKEOVERS (2 * n.val + 1) + 1) % 2 ^ F.OP_CNT_TAKEOVERS.w ∧
          (∃ e ∈ (vget t.src u.idx).q, e.common = true ∧ e.sev = 2 ∧ e.code = 0x13 ∧ e.arg = l + 2 * cause) ∧
          (∃ e ∈ (vget t.src u.idx).q, e.common = true ∧ e.sev = 2 ∧ e.code = 0x12 ∧ e.arg = 1 - l + 2 * cause)) ∧
      (s.opUsable n.val (1 - l) = false →
        ∃ t, exec (.laserFail n cause) s = .next t ∧ t.tick = s.tick ∧ t.b F.OP_LASER_FAILED (2 * n.val + l) = true ∧
          t.opBit n.val 6 = true ∧ (t.op n.val).lit = false ∧
          (∀ i, i < 4 → s.opTxState n.val i ≠ 0 →
            t.opTxState n.val i = 0 ∧ t.g F.OP_CELL_OUTCOME (opTx n.val i) = Oc.fault.code) ∧
          (∃ e ∈ (vget t.src u.idx).q, e.common = true ∧ e.sev = 3 ∧ e.code = 0x13 ∧ e.arg = l + 2 * cause))) ∧
    (∀ l rest, s.isOn u = true → (s.op n.val).calLaser = none → (s.op n.val).calReq = l :: rest → l < 2 →
      let y := s.toCycle
      ((s.op (1 - n.val)).calLaser ≠ none → exec (.calWindowStart n) s = .next s) ∧
      ((s.op (1 - n.val)).calLaser = none → s.opAls n.val ≠ 0 →
        ∃ t, exec (.calWindowStart n) s = .next t ∧ t.tick = y.tick ∧ (t.op n.val).calReq = rest ∧
          (t.op n.val).calLaser = none ∧ t.cells = s.cells ∧ t.units = s.units ∧
          (vget t.src u.idx).q = (vget s.src u.idx).q ++
            [{ common := true, tenant := 0, sev := 2, code := 0x14, arg := l + 6, ref := 0 }]) ∧
      ((s.op (1 - n.val)).calLaser = none → s.opAls n.val = 0 → s.opShed n.val = false → s.opLive n.val ≠ l →
        ∃ t, exec (.calWindowStart n) s = .next t ∧ t.tick = y.tick ∧ (t.op n.val).calReq = rest ∧
          (t.op n.val).calLaser = some l ∧ (t.op n.val).calStart = y.stamp48 ∧ t.opBit n.val 3 = true ∧
          t.opLive n.val = s.opLive n.val ∧ t.cells = s.cells) ∧
      ((s.op (1 - n.val)).calLaser = none → s.opAls n.val = 0 → s.opShed n.val = false → s.opLive n.val = l →
        s.opBit n.val 6 = false → s.opUsable n.val (1 - l) = true →
        ∃ t, exec (.calWindowStart n) s = .next t ∧ t.tick = max y.tick (y.opNext n.val) ∧ (t.op n.val).calReq = rest ∧
          (t.op n.val).calLaser = some l ∧ (t.op n.val).calReturn = l ∧ t.opBit n.val 3 = true ∧ t.opLive n.val = 1 - l)) ∧
    (∀ l mpd, (s.op n.val).calLaser = some l → l < 2 → (s.op n.val).calOff = false →
      let y := s.advanceFrac (s.fracUntil ((s.op n.val).calStart + 655360))
      ((s.opFit n.val l mpd).1 = none →
        ∃ t, exec (.calDone n mpd) s = .next t ∧ t.tick = max y.tick (y.opNext n.val) ∧ (t.op n.val).calLaser = none ∧
          t.opBit n.val 3 = false ∧ t.b F.OP_LASER_FAILED (2 * n.val + l) = true ∧ t.g F.OP_LASER_FCAUSE (2 * n.val + l) = 3 ∧
          (∃ e ∈ (vget t.src u.idx).q, e.common = true ∧ e.sev = 2 ∧ e.code = 0x14 ∧ e.arg = l + 2)) ∧
      (∀ ith slope bias, (s.opFit n.val l mpd).1 = some (ith, slope, bias) → bias ≤ s.opl n.val l F.OP_LASER_BIAS_EOL →
        ∃ t, exec (.calDone n mpd) s = .next t ∧ t.tick = max y.tick (y.opNext n.val) ∧ (t.op n.val).calLaser = none ∧
          t.opBit n.val 3 = false ∧ t.g F.OP_LASER_ITH (2 * n.val + l) = ith % 2 ^ F.OP_LASER_ITH.w ∧
          t.g F.OP_LASER_SLOPE (2 * n.val + l) = slope % 2 ^ F.OP_LASER_SLOPE.w ∧ vget (t.op n.val).calBias l = some bias ∧
          t.g F.OP_LASER_CALS (2 * n.val + l) = (s.g F.OP_LASER_CALS (2 * n.val + l) + 1) % 2 ^ F.OP_LASER_CALS.w ∧
          (∃ e ∈ (vget t.src u.idx).q, e.common = true ∧ e.sev = 0 ∧ e.code = 0x14 ∧ e.arg = l))) ∧
    (∀ i per, s.isOn u = true → per = 2 ^ s.opc n.val F.OP_CFG_PINT * msTicks →
      ∃ t, exec (.pwrAvgUpdate n i) s = .next t ∧ t.tick = (s.tick / per + 1) * per ∧
        t.g F.OP_STAT_PWR_AVG (2 * n.val) = min (2 ^ 24 - 1) i ∧ t.src = s.src ∧ t.units = s.units)

/-- Cells: a submission that nothing refuses takes a free transmit buffer, its payload makes it READY, an abort frees
it, and a cell slot sends the first that is READY, an IDLE cell without one, a TIME cell when one is due; the receiver
finds delineation in three good cells and loses it in seven bad ones; a good host cell of an enabled tenant is stored,
the first with RX; with AUTH the group before is judged as the group that carries its tag ends
(spec/13_optical_ports.md R481, R483, R486, R489, R490, R491, R492, R508). -/
def Obligations.OpticalCellsAreSentReceivedAndJudged : Prop :=
  (∀ (s : State) (p : PortId) (win : Fin 4) (n : Fin 2) (i : Fin 4), s.serves p 48 = true →
    (∀ w, s.opJudge n.val (s.acting p) w = .ok → (List.range 4).find? (fun k => s.opTxState n.val k == 0) = some i.val →
      ∃ t, exec (.optSubmit p win n w) s = .next t ∧ (t.port p).outcome = Oc.ok.code ∧ t.tick = s.tick + 48 ∧
        t.opTxState n.val i.val = 1 ∧ t.g F.OP_CELL_TENANT (opTx n.val i.val) = s.acting p ∧
        t.g F.OP_CELL_TYPE (opTx n.val i.val) = F.OP_CELL_TYPE.of w ∧
        t.g F.OP_CELL_HOP (opTx n.val i.val) = F.OP_CELL_HOP.of w ∧ t.op n.val = s.op n.val ∧ t.src = s.src ∧
        t.units = s.units) ∧
    (∀ w o, s.opJudge n.val (s.acting p) w = o → o ≠ .ok →
      ∃ t, exec (.optSubmit p win n w) s = .next t ∧ (t.port p).outcome = o.code ∧ t.tick = s.tick + 48 ∧
        (∀ e, e < 64 → e % 32 < 16 → t.rd 0x3B e = s.rd 0x3B e) ∧ t.op n.val = s.op n.val ∧ t.src = s.src ∧
        t.units = s.units) ∧
    (∀ w, s.g F.OP_CELL_TENANT (opTx n.val i.val) = s.acting p → s.opTxState n.val i.val = 1 →
      ∃ t, exec (.optPayloadCommit p win n i w) s = .next t ∧ (t.port p).outcome = Oc.ok.code ∧ t.tick = s.tick + 48 ∧
        t.opTxState n.val i.val = 2 ∧ t.rd 0x3B (opTx n.val i.val + 1) = w ∧
        (t.op n.val).txOrder = (s.op n.val).txOrder ++ [i.val] ∧ t.src = s.src ∧ t.units = s.units) ∧
    (∀ w, s.g F.OP_CELL_TENANT (opTx n.val i.val) = s.acting p → s.opTxState n.val i.val = 2 →
      ∃ t, exec (.optPayloadCommit p win n i w) s = .next t ∧ (t.port p).outcome = Oc.stateMismatch.code ∧
        t.cells = s.cells ∧ t.op n.val = s.op n.val) ∧
    (s.g F.OP_CELL_TENANT (opTx n.val i.val) = s.acting p → s.opTxState n.val i.val ≠ 0 →
      ∃ t, exec (.optCellAbort p win n i) s = .next t ∧ (t.port p).outcome = Oc.ok.code ∧ t.tick = s.tick + 48 ∧
        t.opTxState n.val i.val = 0 ∧ t.g F.OP_CELL_OUTCOME (opTx n.val i.val) = Oc.aborted.code ∧
        i.val ∉ (t.op n.val).txOrder ∧ t.src = s.src ∧ t.units = s.units) ∧
    ((vget (s.op n.val).bufs i.val).full = true → (vget (s.op n.val).bufs i.val).seen = true →
      (vget (s.op n.val).bufs i.val).tenant = s.acting p →
      ∃ t, exec (.optRxRelease p win n i) s = .next t ∧ (t.port p).outcome = Oc.ok.code ∧ t.tick = s.tick + 48 ∧
        vget (t.op n.val).bufs i.val = {} ∧ t.rd 0x3B (opRx n.val i.val) = 0 ∧ t.rd 0x3B (opRx n.val i.val + 1) = 0 ∧
        t.src = s.src ∧ t.units = s.units)) ∧
  (∀ (s : State) (n : Fin 2) (u : Src), u = opU n.val → s.isOn u = true →
    (∀ mpd, (s.op n.val).lit = false → s.opMayLight n.val = false → (s.op n.val).cfgOld = none →
      ∃ t, exec (.optCellTx n mpd) s = .next t ∧ t.tick = max s.tick (s.opNext n.val) ∧ (t.op n.val).out = (s.op n.val).out ∧
        (t.op n.val).lastSlot = some (t.tick / cellTicks) ∧ t.cells = s.cells ∧ t.src = s.src ∧ t.units = s.units) ∧
    (∀ mpd, (s.op n.val).lit = true → s.opMayLight n.val = true → (s.op n.val).transit = none → (s.op n.val).cfgOld = none →
      let q := (s.op n.val).txSeq
      (∀ i rest, i < 4 → (s.op n.val).timeDue = false → (s.op n.val).txOrder = i :: rest →
        s.g F.OP_CELL_TYPE (opTx n.val i) ≠ 4 →
        ∃ t flags auth, exec (.optCellTx n mpd) s = .next t ∧ t.tick = max s.tick (s.opNext n.val) ∧
          (t.op n.val).out = cellOf (cellBody (s.g F.OP_CELL_TYPE (opTx n.val i)) (s.g F.OP_CELL_HOP (opTx n.val i))
            (s.g F.OP_CELL_TENANT (opTx n.val i)) q.toNat flags (s.rd 0x3B (opTx n.val i + 1)).toNat) auth ∧
          (t.op n.val).txSeq = q + 1 ∧ t.opTxState n.val i = 0 ∧ t.g F.OP_CELL_OUTCOME (opTx n.val i) = Oc.ok.code ∧
          t.src = s.src ∧ t.units = s.units) ∧
      ((s.op n.val).timeDue = false → (s.op n.val).txOrder = [] →
        ∃ t flags auth, exec (.optCellTx n mpd) s = .next t ∧ t.tick = max s.tick (s.opNext n.val) ∧
          (t.op n.val).out = cellOf (cellBody 0 0 0 q.toNat flags 0) auth ∧ (t.op n.val).txSeq = q + 1 ∧ t.src = s.src ∧
          t.units = s.units) ∧
      ((s.op n.val).timeDue = true → s.opTimeMay n.val = true →
        ∃ t flags auth time, exec (.optCellTx n mpd) s = .next t ∧ (t.op n.val).timeDue = false ∧
          (t.op n.val).out = cellOf (cellBody 3 0 0 q.toNat flags time) auth ∧ (t.op n.val).txSeq = q + 1 ∧
          (t.op n.val).txOrder = (s.op n.val).txOrder ∧ t.src = s.src ∧ t.units = s.units)) ∧
    (s.opTimeMay n.val = true → s.cycle % 2 ^ s.opc n.val F.OP_CFG_TIME_EXP = 0 →
      exec (.timeCellDue n) s = .next (s.modOp n.val fun x => { x with timeDue := true })) ∧
    (s.opTimeMay n.val = false → exec (.timeCellDue n) s = .next s) ∧
    (∀ c ago,
      ((s.op n.val).rxLock = 0 → cellGood c = false → exec (.optCellRx n c ago) s = .next s) ∧
      ((s.op n.val).rxLock = 0 → cellGood c = true →
        exec (.optCellRx n c ago) s = .next (s.modOp n.val fun x => { x with rxLock := 1, good := 0 })) ∧
      ((s.op n.val).rxLock = 1 → cellGood c = false →
        exec (.optCellRx n c ago) s = .next (s.modOp n.val fun x => { x with rxLock := 0, good := 0 })) ∧
      ((s.op n.val).rxLock = 1 → cellGood c = true → (s.op n.val).good = 0 →
        exec (.optCellRx n c ago) s = .next (s.modOp n.val fun x => { x with good := 1 })) ∧
      ((s.op n.val).rxLock = 1 → cellGood c = true → (s.op n.val).good ≠ 0 →
        ∃ t, exec (.optCellRx n c ago) s = .next t ∧ t.tick = s.tick ∧ (t.op n.val).rxLock = 2 ∧ t.opBit n.val 4 = true ∧
          (t.op n.val).rxNext = (cellField c 164 8 + 1) % 256 ∧ t.cells = s.cells ∧
          (∃ e ∈ (vget t.src u.idx).q, e.common = true ∧ e.code = 0x15 ∧ e.arg = 1)) ∧
      ((s.op n.val).rxLock = 2 → cellGood c = false →
        ∃ t, exec (.optCellRx n c ago) s = .next t ∧ t.tick = s.tick ∧
          t.g F.OP_CNT_CRC_BAD (2 * n.val + 1) = (s.g F.OP_CNT_CRC_BAD (2 * n.val + 1) + 1) % 2 ^ F.OP_CNT_CRC_BAD.w ∧
          ((s.op n.val).badRun < 6 → (t.op n.val).rxLock = 2 ∧ (t.op n.val).badRun = (s.op n.val).badRun + 1) ∧
          (6 ≤ (s.op n.val).badRun → (t.op n.val).rxLock = 0 ∧ t.opBit n.val 4 = false ∧
            t.g F.OP_CNT_SYNC_LOSS (2 * n.val + 1) =
              (s.g F.OP_CNT_SYNC_LOSS (2 * n.val + 1) + 1) % 2 ^ F.OP_CNT_SYNC_LOSS.w ∧
            (∃ e ∈ (vget t.src u.idx).q, e.common = true ∧ e.code = 0x15 ∧ e.arg = 0))) ∧
      (∀ b, (s.op n.val).rxLock = 2 → cellGood c = true → (s.op n.val).rxTrack = false →
        (s.op n.val).rxNext = cellField c 164 8 → cellField c 164 8 % 8 ≠ 0 → cellField c 181 3 = 1 →
        s.enabled (cellField c 172 6) = true → 1 ≤ s.opc n.val F.OP_CFG_RX_TLIM →
        (List.range 4).find? (fun b => !(vget (s.op n.val).bufs b).full) = some b →
        (∀ k, k < 4 → (vget (s.op n.val).bufs k).full = true → (vget (s.op n.val).bufs k).tenant ≠ cellField c 172 6) →
        ∃ t, exec (.optCellRx n c ago) s = .next t ∧ t.tick = s.tick ∧
          vget (t.op n.val).bufs b = { full := true, seen := false, tenant := cellField c 172 6 } ∧
          t.rd 0x3B (opRx n.val b + 1) = BitVec.ofNat 128 (cellField c 32 128) ∧
          t.g F.OP_CELL_STATE (opRx n.val b) = 3 ∧ t.g F.OP_CELL_TENANT (opRx n.val b) = cellField c 172 6 ∧
          (t.op n.val).rxNext = (cellField c 164 8 + 1) % 256 ∧
          (∃ e ∈ (vget t.src u.idx).q, e.common = false ∧ e.tenant = cellField c 172 6 ∧ e.code = 0x18 ∧ e.arg = b) ∧
          t.units = s.units) ∧
      (∀ cause, (s.op n.val).rxLock = 2 → cellGood c = true → (s.op n.val).rxTrack = true → (s.op n.val).prevOn = true →
        (s.op n.val).rxAuth = true → (s.op n.val).rxNext = cellField c 164 8 → cellField c 164 8 % 8 = 7 →
        cellField c 181 3 = 0 → s.enabled (cellField c 172 6) = true →
        cause = s.opCause n.val ((s.op n.val).rxGroup ++
          [⟨BitVec.ofNat 152 (cellField c 32 152), BitVec.ofNat 16 (cellField c 0 16), bitOf (cellField c 160 4) 3⟩]) →
        ∃ t, exec (.optCellRx n c ago) s = .next t ∧
          t.g F.OP_STAT_LAST_GSEQ (2 * n.val) = ((s.op n.val).rxGseq.toNat + 248) % 256 ∧
          (cause = 0 → t.g F.OP_CNT_GRP_OK (2 * n.val + 1) =
            (s.g F.OP_CNT_GRP_OK (2 * n.val + 1) + 1) % 2 ^ F.OP_CNT_GRP_OK.w) ∧
          (cause ≠ 0 → t.g F.OP_CNT_GRP_FAIL (2 * n.val + 1) =
            (s.g F.OP_CNT_GRP_FAIL (2 * n.val + 1) + 1) % 2 ^ F.OP_CNT_GRP_FAIL.w) ∧
          (t.op n.val).rxGroup = [] ∧ (t.op n.val).prevOn = true)))

/-- Sensor conversions and their control: a SINC3 channel delivers at the next millisecond and a CYCLE channel at the
boundary that closes its window, each adding one conversion to the batch with RAW saturated, its reason, its stamp and
the tenant in force; a step of the stamp spoils a window; the auxiliary converter publishes a source at a cycle
boundary and takes the next enabled one; a channel change takes effect at the next millisecond boundary; a trip takes
the excitation off and counts, a restore puts it back; LOAD waits for K4 (spec/14_sensor_front_end.md R519, R520,
R522, R523, R524, R527, R530, R546, R548). Millisecond boundaries counted from the core tick count are the model's
choice (notes/assumptions/1.md). -/
def Obligations.SensorConversionsChangesAndExcitation : Prop :=
  ∀ (s : State) (n : Fin 4),
    (∀ x ovl iexc, s.sfRuns n.val = true → s.sfNormal n.val = true →
      let raw := (sfRaw x ovl).1
      (ovl = false → -(2 ^ 23) < x → x < 2 ^ 23 → raw.toInt = x) ∧
      (ovl = true ∨ x ≤ -(2 ^ 23) ∨ 2 ^ 23 ≤ x → raw.toInt = if x < 0 then -(2 ^ 23 - 1) else 2 ^ 23 - 1) ∧
      (s.sfCur n.val F.SF_CH_FILTER ≠ 1 →
        let k := if (s.sfc n.val).lastOut = some (ceilDiv s.tick msTicks) then ceilDiv s.tick msTicks + 1
          else ceilDiv s.tick msTicks
        ∃ t c, exec (.sinc3Output n x ovl iexc) s = .next t ∧ t.tick = k * msTicks ∧ t.sf.batch = s.sf.batch ++ [c] ∧
          c.ch = n.val ∧ c.raw = raw ∧ c.reason = s.sfReason n.val (sfRaw x ovl).2 ∧ c.stamp = t.stamp48 ∧
          c.tenant = s.sfCur n.val F.SF_CH_TENANT ∧ (t.sfc n.val).lastOut = some k ∧
          t.g F.SF_CH_IEXC (2 + n.val) = iexc % 2 ^ F.SF_CH_IEXC.w ∧ t.src = s.src ∧ t.units = s.units) ∧
      (s.sfCur n.val F.SF_CH_FILTER = 1 →
        let y := s.toCycle
        ((s.sfc n.val).jumps = s.gy.jumps → y.cycle % 2 ^ s.sfCur n.val F.SF_CH_NEXP = 0 → (s.sfc n.val).lastOut ≠ some y.cycle →
          ∃ t c, exec (.cycleWindowEnd n x ovl iexc) s = .next t ∧ t.tick = y.tick ∧ t.sf.batch = s.sf.batch ++ [c] ∧
            c.ch = n.val ∧ c.raw = raw ∧ c.reason = s.sfReason n.val (sfRaw x ovl).2 ∧ c.stamp = y.stamp48 ∧
            c.tenant = s.sfCur n.val F.SF_CH_TENANT ∧ (t.sfc n.val).lastOut = some y.cycle ∧ t.src = s.src ∧
            t.units = s.units) ∧
        ((s.sfc n.val).jumps = s.gy.jumps → y.cycle % 2 ^ s.sfCur n.val F.SF_CH_NEXP ≠ 0 →
          exec (.cycleWindowEnd n x ovl iexc) s = .next s) ∧
        ((s.sfc n.val).jumps ≠ s.gy.jumps →
          ∃ t c, exec (.cycleWindowEnd n x ovl iexc) s = .next t ∧ t.tick = s.tick ∧ t.sf.batch = s.sf.batch ++ [c] ∧
            c.ch = n.val ∧ c.reason ≠ 0 ∧ c.reason ≠ 5 ∧ (t.sfc n.val).jumps = s.gy.jumps))) ∧
    (∀ x ovl, s.isOn .sens = true →
      (s.sf.auxAt = none →
        ∃ t, exec (.auxConversion x ovl) s = .next t ∧ t.tick = s.toCycle.tick ∧ t.sf.auxAt = s.sfNextSrc 4 ∧
          t.cells = s.cells ∧ t.src = s.src ∧ t.units = s.units) ∧
      (∀ k, s.sf.auxAt = some k → k < 5 →
        let e := if k = 0 then 8 else 3 + k
        let raw := (sfRaw x ovl).1
        (s.sf.auxJumps = s.gy.jumps →
          ∃ t, exec (.auxConversion x ovl) s = .next t ∧ t.tick = s.toCycle.tick ∧ t.sf.auxAt = s.sfNextSrc k ∧
            t.g F.SF_RES_RAW e = raw.toNat ∧ t.g F.SF_RES_VALUE e = auxValue k raw % 2 ^ F.SF_RES_VALUE.w ∧
            t.g F.SF_RES_REASON e = (if s.sf.auxStep then 4 else if (sfRaw x ovl).2 then 5 else 0) ∧
            t.g F.SF_RES_SEQ e = (s.g F.SF_RES_SEQ e + 1) % 2 ^ F.SF_RES_SEQ.w ∧ t.src = s.src ∧ t.units = s.units) ∧
        (s.sf.auxJumps ≠ s.gy.jumps →
          ∃ t, exec (.auxConversion x ovl) s = .next t ∧ t.tick = s.tick ∧ t.sf.auxAt = some k ∧ t.g F.SF_RES_REASON e = 4 ∧
            t.b F.SF_RES_VALID e = false ∧ t.src = s.src ∧ t.units = s.units))) ∧
    (∀ x ovl, s.isOn .sens = true → (s.sfc n.val).pend = true →
      let k := ceilDiv s.tick msTicks
      let new := s.rd 0x3C (2 + n.val)
      ∃ t, exec (.sfChangeApply n x ovl) s = .next t ∧
        t.tick = (if k * msTicks = (s.sfc n.val).pendAt then k + 1 else k) * msTicks ∧
        (t.sfc n.val).cur = new ∧ (t.sfc n.val).pend = false ∧ t.b F.SF_CH_TRIPPED (2 + n.val) = false ∧ t.units = s.units ∧
        (F.SF_CH_FILTER.of new = s.sfCur n.val F.SF_CH_FILTER → t.sf.batch = s.sf.batch) ∧
        (F.SF_CH_FILTER.of new = 0 → s.sfCur n.val F.SF_CH_FILTER = 1 → s.sfCur n.val F.SF_CH_EN = 1 →
          s.sfNormal n.val = true → ∃ c, t.sf.batch = s.sf.batch ++ [c] ∧ c.ch = n.val ∧ c.reason ≠ 0 ∧
            c.tenant = s.sfCur n.val F.SF_CH_TENANT)) ∧
    (∀ cause, s.sfExcited n.val = true →
      cause = 1 ∨ cause = 2 ∧ (∀ k : Fin 4, n < k → s.sfExcited k.val = false) →
      ∃ t, exec (.excTrip n cause) s = .next t ∧ t.tick = s.tick ∧ t.b F.SF_CH_TRIPPED (2 + n.val) = true ∧
        t.g F.SF_CH_TRIPS (2 + n.val) = (s.g F.SF_CH_TRIPS (2 + n.val) + 1) % 2 ^ F.SF_CH_TRIPS.w ∧
        (t.sfc n.val).excOn = false ∧
        (t.sfc n.val).retryAt = (if s.g F.SF_CFG_EXC_RETRY_S 0 = 0 then none
          else some (s.tick + s.g F.SF_CFG_EXC_RETRY_S 0 * secTicks)) ∧
        (∀ k, k < 4 → k ≠ n.val → (t.sfc k).excOn = (s.sfc k).excOn) ∧
        (∃ e ∈ (vget t.src Src.sens.idx).q, e.common = true ∧ e.sev = 2 ∧ e.code = 0x11 ∧ e.arg = cause * 4 + n.val)) ∧
    (∃ t, exec (.excTrip n 3) s = .next t ∧ t.tick = s.tick ∧
      (∀ k, k < 4 → s.sfExcited k = true → s.sfCur k F.SF_CH_EXC = 2 →
        t.b F.SF_CH_TRIPPED (2 + k) = true ∧ (t.sfc k).excOn = false) ∧
      (∀ k, k < 4 → s.sfExcited k = false ∨ s.sfCur k F.SF_CH_EXC ≠ 2 → (t.sfc k).excOn = (s.sfc k).excOn)) ∧
    (∀ at_, (s.sfc n.val).retryAt = some at_ → s.isOn .sens = true → s.b F.SF_CH_TRIPPED (2 + n.val) = true →
      ∃ t, exec (.excRestore n) s = .next t ∧ t.tick = max s.tick at_ ∧ t.b F.SF_CH_TRIPPED (2 + n.val) = false ∧
        (t.sfc n.val).excOn = (s.sfCur n.val F.SF_CH_EXC != 0) ∧ (t.sfc n.val).retryAt = none ∧
        (vget t.src Src.sens.idx).q = (vget s.src Src.sens.idx).q ++
          [{ common := true, tenant := 0, sev := 1, code := 0x12, arg := n.val, ref := 0 }] ∧ t.units = s.units) ∧
    (∀ p win w, s.serves p 48 = true → s.sfMayCommit (s.acting p) (6 + n.val) = true →
      ∃ t, exec (.sfLoad p win n w) s = .next t ∧ (t.port p).outcome = Oc.ok.code ∧ t.tick = s.tick + 48 ∧
        t.b F.SF_CTL_LOAD_PEND (6 + n.val) = true ∧ (t.sfc n.val).loadAt = s.tick + 47 ∧ (t.sfc n.val).evtCnt = 0 ∧
        (t.sfc n.val).coef = (s.sfc n.val).coef ∧ t.src = s.src ∧ t.units = s.units)

/-- Impedance checks and LOW_RATE: a channel's check falls due every IMP_PERIOD; at a cycle boundary the next check
takes claim 0x20 and runs, or is skipped for power or a held claim with its record; 96 cycles after its start it ends
with its result, its record and the claim free; the owner's IMP_CHECK asks for one, or is refused POWER or
RESOURCE_HELD; LOW_RATE is entered and left with its record, the running check abandoned (spec/14_sensor_front_end.md
R533, R535, R536, R537, R538, R540, R543, R548). -/
def Obligations.ImpedanceChecksAndLowRate : Prop :=
  ∀ (s : State), s.isOn .sens = true →
    (∀ (n : Fin 4) at_, (s.sfc n.val).due = some at_ →
      ∃ t, exec (.impCheckDue n) s = .next t ∧ t.tick = max s.tick at_ ∧
        (t.sfc n.val).due = some (at_ + s.g F.SF_CFG_IMP_PERIOD 0 * 60 * secTicks) ∧
        (t.sfc n.val).dueNow = ((s.sfc n.val).dueNow ||
          (s.g F.SF_CFG_IMP_EN 0 == 1 && (s.sfCur n.val F.SF_CH_EN == 1 && s.sfCur n.val F.SF_CH_EXC != 0))) ∧
        t.cells = s.cells ∧ t.src = s.src ∧ t.units = s.units) ∧
    (∀ n, n < 4 → s.sf.check = none → s.sfNextCheck = some n →
      ∃ t, exec .impCheckStart s = .next t ∧ t.tick = s.toCycle.tick ∧ t.sf.checkReq = none ∧
        (s.sf.checkReq = none → (t.sfc n).dueNow = false) ∧
        (s.sfNoPower = true →
          t.sf.check = none ∧ t.g F.SF_IMP_RESULT (9 + n) = 4 ∧
          (∃ e ∈ (vget t.src Src.sens.idx).q, e.common = false ∧ e.tenant = s.sfTenant n ∧ e.sev = 2 ∧ e.code = 0x13 ∧
            e.arg = 64 + n)) ∧
        (s.sfNoPower = false → s.claimed 0x20 = true →
          t.sf.check = none ∧ t.g F.SF_IMP_RESULT (9 + n) = 3 ∧
          (∃ e ∈ (vget t.src Src.sens.idx).q, e.common = false ∧ e.tenant = s.sfTenant n ∧ e.sev = 2 ∧ e.code = 0x13 ∧
            e.arg = 48 + n)) ∧
        (s.sfNoPower = false → s.claimed 0x20 = false →
          t.sf.check = some n ∧ t.sf.checkAt = t.stamp48 ∧ t.sf.half = 0 ∧ t.unitHolds .sens 0x20 = true ∧
          bitOf (t.sub .sens) 1 = true ∧ t.g F.SF_ST_CHK_CH 13 = n)) ∧
    (∀ n vsn iexc ad, n < 4 → s.sf.check = some n →
      ∃ t, exec (.impResult vsn iexc ad) s = .next t ∧
        t.tick = (s.advanceFrac (s.fracUntil (s.sf.checkAt + 96 * 65536))).tick ∧ t.sf.check = none ∧
        t.g F.SF_IMP_RESULT (9 + n) = 1 ∧
        t.g F.SF_IMP_CHECKS (9 + n) = (s.g F.SF_IMP_CHECKS (9 + n) + 1) % 2 ^ F.SF_IMP_CHECKS.w ∧
        t.unitHolds .sens 0x20 = false ∧ bitOf (t.sub .sens) 1 = false ∧
        (iexc ≠ 0 → (roundQ (vsn * 10000 : Nat) iexc).toNat < 65536 →
          t.g F.SF_IMP_RB (9 + n) = (roundQ (vsn * 10000 : Nat) iexc).toNat) ∧
        (iexc ≠ 0 → (bitOf (t.g F.SF_IMP_FAULTS (9 + n)) 1 = decide (vsn * 1000 < s.g F.SF_CFG_R_MIN 0 * iexc))) ∧
        (∃ e ∈ (vget t.src Src.sens.idx).q, e.common = false ∧ e.tenant = s.sfTenant n ∧ e.code = 0x13 ∧
          e.sev = (if t.g F.SF_IMP_FAULTS (9 + n) = 0 then 0 else 2) ∧
          e.arg = t.g F.SF_IMP_FAULTS (9 + n) * 256 + 16 + n)) ∧
    (∀ p gen check (arg : Byte), s.ownerRow p .sens gen check = true → arg.toNat < 4 → s.sf.check = none →
      s.sfCheckable arg.toNat = true →
      (s.sfNoPower = true → exec (.impCheck p gen check arg) s = .next ((s.commanding p .sens gen).ended p 0x42 .power none)) ∧
      (s.sfNoPower = false → s.claimed 0x20 = true →
        exec (.impCheck p gen check arg) s = .next ((s.commanding p .sens gen).ended p 0x42 .resourceHeld none)) ∧
      (s.sfNoPower = false → s.claimed 0x20 = false →
        ∃ t, exec (.impCheck p gen check arg) s = .next t ∧ (t.port p).outcome = Oc.ok.code ∧ t.tick = s.tick + 32 ∧
          t.sf.checkReq = some arg.toNat ∧ t.sf.check = none ∧ t.cells = s.cells ∧ t.src = s.src ∧ t.units = s.units)) ∧
    (let want := decide (4 ≤ s.pw.steps) || (s.mirror .sens).held == 1
     (s.sfLow = want → exec .lowRate s = .next s) ∧
     (s.sfLow ≠ want →
      ∃ t, exec .lowRate s = .next t ∧ t.tick = s.tick ∧ t.sfLow = want ∧ (want = true → t.sf.check = none) ∧
        t.sf.lrOn = false ∧
        (∀ k, k < 4 → (t.sfc k).excOn = (!want && s.sfCur k F.SF_CH_EXC != 0 && !s.b F.SF_CH_TRIPPED (2 + k))) ∧
        (∃ e ∈ (vget t.src Src.sens.idx).q, e.common = true ∧ e.sev = 1 ∧ e.code = 0x14 ∧ e.arg = b2n want) ∧
        (∀ v : Src, v ≠ .sens → t.st v = s.st v)))

/-- The current loop: at the next grid half-cycle the means are stored; an overcurrent faults LOOP and takes the drive
off; after a start the first update drives FAIL_LO, stopping holds FAIL_LO for one update and then takes the drive
off; in FAIL_LO and FAIL_HI modes the output is that level at once, in CODE mode it approaches the level by at most
SLEW, and a source failure in VALUE mode gives the failure level; forced substates override; out of service nothing is
driven or stored. A source that has delivered no valid sample for HOLD_MS, or SENS out of service, sets SRC_FAIL with
its record (spec/15_loop_output.md R553, R554, R555, R562, R563, R564, R566, R571). -/
def Obligations.LoopOutputFollowsItsTarget : Prop :=
  ∀ (s : State),
    (∀ imeas vh, s.lp.lastUpd ≠ some s.hcIndex ∨ s.onMark s.gy.grid 32768 = false →
      let lo := s.g F.LP_CTL_FAIL_LO 0
      let hi := s.g F.LP_CTL_FAIL_HI 0
      let fits := imeas < 65536 ∧ vh < 65536 ∧ 240 * imeas ≤ 245 * 65536
      let mode := s.g F.LP_CTL_MODE 0
      (s.isOn .loop = false → s.st .loop ≠ .stopping →
        ∃ t, exec (.loopUpdate imeas vh) s = .next t ∧ t.tick = s.toHalf.tick ∧ t.cells = s.cells ∧ t.units = s.units ∧
          t.src = s.src ∧ t.lp.drive = s.lp.drive) ∧
      (s.isOn .loop = true → 245 * 65536 < 240 * imeas →
        ∃ t, exec (.loopUpdate imeas vh) s = .next t ∧ t.tick = s.toHalf.tick ∧ t.st .loop = .fault ∧ t.lp.drive = false ∧
          t.g F.LP_STAT_OUTPUT 3 = 0 ∧ (∀ v : Src, v ≠ .loop → t.mirror v = s.mirror v)) ∧
      (fits → s.isOn .loop = true → s.lp.phase = 1 →
        ∃ t, exec (.loopUpdate imeas vh) s = .next t ∧ t.tick = s.toHalf.tick ∧ t.g F.LP_STAT_OUTPUT 3 = lo ∧
          t.lp.drive = true ∧ t.lp.phase = 0 ∧ t.g F.LP_STAT_I_MEAS 3 = imeas ∧ t.g F.LP_STAT_V_H 3 = vh ∧
          t.units = s.units ∧ t.src = s.src) ∧
      (fits → s.st .loop = .stopping →
        ∃ t, exec (.loopUpdate imeas vh) s = .next t ∧ t.tick = s.toHalf.tick ∧ t.units = s.units ∧ t.src = s.src ∧
          (s.lp.phase = 2 → t.g F.LP_STAT_OUTPUT 3 = lo ∧ t.lp.phase = 1 ∧ t.lp.drive = s.lp.drive) ∧
          (s.lp.phase ≠ 2 → t.g F.LP_STAT_OUTPUT 3 = 0 ∧ t.lp.phase = 0 ∧ t.lp.drive = false)) ∧
      (fits → s.isOn .loop = true → s.lp.phase ≠ 1 → (s.mirror .loop).pend = none →
        ∃ t, exec (.loopUpdate imeas vh) s = .next t ∧ t.tick = s.toHalf.tick ∧ t.st .loop = .on ∧
          t.g F.LP_STAT_I_MEAS 3 = imeas ∧ t.g F.LP_STAT_V_H 3 = vh ∧ t.sub .loop % 4 = mode ∧
          t.lpBit 3 = (mode == 0 && (!s.isOn .sens || decide (s.lpHoldEnd ≤ s.toHalf.tick))) ∧
          (mode = 2 → t.g F.LP_STAT_TARGET 3 = lo) ∧ (mode = 3 → t.g F.LP_STAT_TARGET 3 = hi) ∧
          (mode = 1 → t.g F.LP_STAT_TARGET 3 = s.lpLvl) ∧
          (t.lpBit 3 = true → t.g F.LP_STAT_TARGET 3 = s.lpFail) ∧
          ((s.mirror .loop).held = 1 → t.g F.LP_STAT_OUTPUT 3 = lo) ∧
          ((s.mirror .loop).held = 2 → t.g F.LP_STAT_OUTPUT 3 = hi) ∧
          ((s.mirror .loop).held = 0 → s.b F.LP_CTL_HR_POL 0 = false → s.dev.hostLost = true →
            s.b F.LP_CTL_HOSTFAIL_EN 0 = true → t.g F.LP_STAT_OUTPUT 3 = s.lpFail) ∧
          ((s.mirror .loop).held = 0 → s.b F.LP_CTL_HR_POL 0 = false → s.dev.hostLost = false →
            (mode = 2 ∨ mode = 3 ∨ t.lpBit 3 = true → t.g F.LP_STAT_OUTPUT 3 = t.g F.LP_STAT_TARGET 3) ∧
            (mode = 0 ∨ mode = 1 → t.lpBit 3 = false →
              t.g F.LP_STAT_OUTPUT 3 = slewTo (s.g F.LP_STAT_OUTPUT 3) (t.g F.LP_STAT_TARGET 3) (s.g F.LP_CTL_SLEW 0))) ∧
          (∀ v : Src, v ≠ .loop → t.mirror v = s.mirror v))) ∧
    (s.isOn .loop = true → s.sub .loop % 4 = 0 → s.lpBit 3 = false →
      ∃ t, exec .loopSrc s = .next t ∧ t.tick = (if s.isOn .sens then max s.tick s.lpHoldEnd else s.tick) ∧
        t.lpBit 3 = true ∧ t.st .loop = .on ∧
        (∃ e ∈ (vget t.src Src.loop.idx).q, e.common = true ∧ e.sev = 2 ∧ e.code = 0x11 ∧ e.arg = 1) ∧
        (∀ v : Src, v ≠ .loop → t.mirror v = s.mirror v))

/-- Power and resets: a main rail out of range holds the device at power-on reset with cause 2, or 6 out of
hibernation; all rails in range release it into its start, or into reset while TEST is held, with cause 1 when Ember
lost its power; RESET_N low holds it in reset and high starts it, cause 3; the end of a black hold restarts it, cause
5, and a hibernation whose rails were not removed within 1 s, cause 7, both raising EMB_PWREN. Each leaves what every
reset leaves, and Ember's words stand unless its power was lost (spec/16_power_start_sinter.md R574, R579, R584, R587,
R588). The operands kept, test and aon are what the sender saw of Ember's power, of TEST and of the time without
rails. -/
def Obligations.ResetsRestartTheDeviceWithTheirCause : Prop :=
  ∀ (s : State) (kept test : Bool) (aon : Nat),
    (s.dev.phase = .por →
      ∃ t, exec (.powerOnReset true kept test aon) s = .next t ∧
        s.restarted t (if test then .reset else .starting)
          (if kept = false ∨ s.dev.emberLost = true then 1 else if s.dev.cause = 6 ∧ s.pw.woke = true then 6 else 2) ∧
        (kept = true → s.emberKept t) ∧ (kept = false → ∀ e, 2 ≤ e → e < 6 → t.rd 0x06 e = 0)) ∧
    (s.dev.phase ≠ .por → exec (.powerOnReset true kept test aon) s = .next s) ∧
    (∃ t, exec (.powerOnReset false kept test aon) s = .next t ∧
      s.restarted t .por (if s.dev.phase = .hib ∨ s.dev.phase = .por ∧ s.dev.cause = 6 then 6 else 2) ∧
      (kept = true → s.emberKept t) ∧ (kept = false → ∀ e, 2 ≤ e → e < 6 → t.rd 0x06 e = 0)) ∧
    (s.dev.phase ≠ .por → s.dev.phase ≠ .black → s.dev.testHeld = false →
      (∃ t, exec (.resetN true) s = .next t ∧ s.restarted t .reset 3 ∧ s.emberKept t) ∧
      (s.dev.phase = .reset → ∃ t, exec (.resetN false) s = .next t ∧ s.restarted t .starting 3 ∧ s.emberKept t) ∧
      (s.dev.phase ≠ .reset → exec (.resetN false) s = .next s)) ∧
    (s.dev.phase = .black →
      ∃ t, exec .blackHoldExpire s = .next t ∧ s.restarted t .starting 5 ∧ s.emberKept t ∧ t.pw.pwren = true) ∧
    (s.dev.phase ≠ .black → exec .blackHoldExpire s = .next s) ∧
    (s.dev.phase = .hib →
      ∃ t, exec .hibernateTimeout s = .next t ∧ s.restarted t .starting 7 ∧ s.emberKept t ∧ t.pw.pwren = true) ∧
    (s.dev.phase ≠ .hib → exec .hibernateTimeout s = .next s)

/-- The start after reset takes its eight steps in order, each at its time, waiting for GOV before the fourth and for
SINTER before the sixth: Ember is read and counted, GOV, GY with RNG, and SINTER begin, and the last step makes the
device READY with the watchdog set (spec/16_power_start_sinter.md R580, R584, spec/02_host_access.md R68). -/
def Obligations.StartUpTakesItsStepsInOrder : Prop :=
  ∀ (s : State), s.dev.phase = .starting →
    ((s.dev.step = 3 ∧ s.st .gov = .starting) ∨ (s.dev.step = 5 ∧ s.st .sinter = .starting) → exec .startUp s = .next s) ∧
    (¬ (s.dev.step = 3 ∧ s.st .gov = .starting) → ¬ (s.dev.step = 5 ∧ s.st .sinter = .starting) →
      ∃ t, exec .startUp s = .next t ∧ t.dev.step = s.dev.step + 1 ∧ (s.dev.step < 7 → t.dev.phase = .starting ∧
        t.dev.ready = s.dev.ready) ∧
      (s.dev.step = 0 → t.tick = max s.tick (s.dev.released + 5 * msTicks) ∧ t.cells = s.cells ∧ t.units = s.units) ∧
      (s.dev.step = 1 → t.tick = s.tick ∧ t.g F.PW_EMBER_LAST_RESET 1 = s.dev.cause % 8 ∧
        t.b F.PW_EMBER_EMB_VALID 1 = !s.dev.emberLost ∧ t.dev.emberLost = false ∧
        t.g F.PW_EMBER_PUC 1 = (if s.dev.emberLost then s.g F.PW_EMBER_PUC 1 else (s.g F.PW_EMBER_PUC 1 + 1) % 2 ^ 32) ∧
        t.units = s.units) ∧
      (s.dev.step = 2 → t.tick = s.tick ∧ t.st .gov = .starting ∧ t.cells = s.cells) ∧
      (s.dev.step = 3 → t.tick = max s.tick (s.dev.released + 6 * msTicks) ∧ t.st .gy = .starting ∧ t.st .rng = .starting) ∧
      (s.dev.step = 4 → t.tick = s.tick ∧ t.st .sinter = .starting ∧ t.cells = s.cells) ∧
      (s.dev.step = 5 → t.tick = max s.tick (s.dev.released + 9100 * msTicks / 1000)) ∧
      (s.dev.step = 6 → s.bootWords = none → s.images = [] →
        t.tick = max s.tick (s.dev.released + 11 * msTicks) ∧ t.cells = s.cells ∧ t.units = s.units) ∧
      (s.dev.step = 7 → t.dev.phase = .ready ∧ t.dev.ready = true ∧
        t.dev.wdogEnd = some (s.tick + s.dev.wdogPer * 100 * msTicks)))

/-- Ember and hibernation: a commit to PW_EMBER lands within three ticks of the AON domain, setting SECONDS and
clearing the fraction; a debounced change of the door is raised while the core runs; the alarm is raised as SECONDS
comes to ALARM; the owner's HIBERNATE stops the running units one after another and, with none running and no
transaction, hibernates; an enabled wake source raises EMB_PWREN with its WAKE_CAUSE (spec/16_power_start_sinter.md
R585, R586, R587, R613, R616). That a commit lands at the end of its three ticks and that such a tick is 6,000 core
ticks are the model's choices (notes/assumptions/34.md). -/
def Obligations.EmberHibernationAndWaking : Prop :=
  ∀ (s : State),
    (s.pw.emberNew = [] → exec .pwEmberCommit s = .next s) ∧
    (∀ x rest, s.pw.emberNew = x :: rest → x.2.1 < 6 →
      ∃ t, exec .pwEmberCommit s = .next t ∧ t.tick = max s.tick ((x.1 / aonTicks + 3) * aonTicks) ∧ t.pw.emberNew = rest ∧
        (x.2.1 = 0 → t.g F.PW_EMBER_SECONDS 0 = F.PW_EMBER_SECONDS.of x.2.2 ∧ t.g F.PW_EMBER_FRAC 0 = 0 ∧
          t.g F.PW_EMBER_ALARM 0 = F.PW_EMBER_ALARM.of x.2.2 ∧ t.pw.rtcAt = t.tick ∧ t.pw.alarmDone = false) ∧
        (x.2.1 ≠ 0 → t.rd 0x06 x.2.1 = x.2.2) ∧ t.src = s.src ∧ t.units = s.units) ∧
    (∀ level, level ≠ s.pw.doorRaw → s.b F.PW_EMBER_X32_FAIL 1 = false →
      ∃ t, exec (.door level) s = .next t ∧ t.tick = s.tick ∧ t.pw.doorRaw = level ∧ t.cells = s.cells ∧ t.units = s.units ∧
        (s.coreRuns = true → (vget t.src Src.gov.idx).q = (vget s.src Src.gov.idx).q ++
          [{ common := true, tenant := 0, sev := 1, code := 0x14, arg := b2n (level != s.b F.PW_EMBER_DOOR_POL 0), ref := 0 }]) ∧
        (s.coreRuns = false → t.src = s.src)) ∧
    (s.b F.PW_EMBER_ALARM_EN 0 = true → s.b F.PW_EMBER_X32_FAIL 1 = false →
      ¬ (s.rtcNow / 32768 = s.g F.PW_EMBER_ALARM 0 ∧ s.pw.alarmDone = true) →
      ∃ t, exec .rtcAlarm s = .next t ∧ t.g F.PW_EMBER_SECONDS 0 = s.g F.PW_EMBER_ALARM 0 ∧ t.pw.alarmDone = true ∧
        t.units = s.units ∧ (s.rtcNow / 32768 = s.g F.PW_EMBER_ALARM 0 → t.tick = s.tick) ∧
        (s.coreRuns = true → (vget t.src Src.gov.idx).q = (vget s.src Src.gov.idx).q ++
          [{ common := true, tenant := 0, sev := 1, code := 0x15, arg := 0, ref := 0 }]) ∧
        (s.coreRuns = false → t.src = s.src)) ∧
    (∀ p gen check, s.ownerRow p .gov gen check = true → s.b F.PW_EMBER_PWREN_USED 0 = true → s.isOn .gov = true →
      (s.b F.PW_EMBER_WAKE_N_EN 0 || s.b F.PW_EMBER_DOOR_EN 0 || s.b F.PW_EMBER_ALARM_EN 0) = true → s.pw.level < 2 →
      (∀ u ∈ hibOrder, s.st u ≠ .stopping) →
      ((∀ u ∈ hibOrder, s.running u = false) → s.sn.order = [] → s.sn.running = none →
        ∃ t, exec (.hibernate p gen check 0xA5) s = .next t ∧ (t.port p).outcome = Oc.ok.code ∧ t.tick = s.tick + 32 ∧
          t.dev.phase = .hib ∧ t.pw.pwren = false ∧ t.pw.woke = false ∧ t.dev.hibAt = s.tick + 31 ∧
          t.g F.PW_EMBER_LAST_LEVEL 1 = s.pw.level ∧ t.units = s.units) ∧
      (∀ u, hibOrder.find? (fun u => s.running u) = some u →
        ∃ t, exec (.hibernate p gen check 0xA5) s = .next t ∧ (t.port p).outcome = Oc.ok.code ∧ t.dev.hibReq = true ∧
          t.dev.phase = s.dev.phase ∧ t.pw.pwren = s.pw.pwren ∧ t.st u = .stopping)) ∧
    (∀ p gen check arg, s.ownerRow p .gov gen check = true → arg ≠ 0xA5 ∨ s.b F.PW_EMBER_PWREN_USED 0 = false →
      exec (.hibernate p gen check arg) s = .next ((s.commanding p .gov gen).ended p 0x42 .param none)) ∧
    (∀ w : Fin 3,
      let asleep := s.dev.phase = .hib ∨ s.dev.phase = .por ∧ s.dev.cause = 6
      let on := if w.val = 0 then s.b F.PW_EMBER_WAKE_N_EN 0
        else if w.val = 1 then s.b F.PW_EMBER_DOOR_EN 0 && !s.b F.PW_EMBER_X32_FAIL 1
        else s.b F.PW_EMBER_ALARM_EN 0 && !s.b F.PW_EMBER_X32_FAIL 1
      (asleep → on = true → s.pw.pwren = false →
        ∃ t, exec (.wakeSource w) s = .next t ∧ t.tick = s.tick ∧ t.pw.pwren = true ∧ t.pw.woke = true ∧
          t.g F.PW_EMBER_WAKE_CAUSE 1 = w.val + 1 ∧ t.dev = s.dev ∧ t.units = s.units ∧ t.src = s.src) ∧
      (¬ asleep → exec (.wakeSource w) s = .next s))

/-- When the main crystal stops or the PLL loses lock the device resets with cause CLOCK (4), without a last-gasp
record: the Sinter array holds what the transaction under way had written and nothing more. When the 32.768 kHz
crystal stops, X32_FAIL is set; from then on SECONDS stands still, WAKE_N still wakes the device, and neither a change
of DOOR nor the RTC alarm acts (spec/16_power_start_sinter.md R578). -/
def Obligations.ClockFailuresResetTheDeviceOrStopTheRtc : Prop :=
  ∀ (s : State),
    (s.dev.phase ≠ .por → s.dev.phase ≠ .black → s.dev.phase ≠ .reset →
      ∃ t, exec .clockFail s = .next t ∧ s.restarted t .starting 4 ∧ s.emberKept t ∧ t.nv = s.snCollapse.nv) ∧
    (∃ t, exec .x32Fail s = .next t ∧ t.tick = s.tick ∧ t.b F.PW_EMBER_X32_FAIL 1 = true ∧ t.rtcNow = s.rtcNow ∧
      t.src = s.src ∧ t.units = s.units ∧ (∀ e, 2 ≤ e → e < 6 → t.rd 0x06 e = s.rd 0x06 e)) ∧
    (s.b F.PW_EMBER_X32_FAIL 1 = true →
      (∀ n, (s.advance n).rtcNow = s.rtcNow) ∧ (∀ level, exec (.door level) s = .next s) ∧ exec .rtcAlarm s = .next s ∧
      (s.dev.phase = .hib ∨ s.dev.phase = .por ∧ s.dev.cause = 6 → s.b F.PW_EMBER_WAKE_N_EN 0 = true → s.pw.pwren = false →
        ∃ t, exec (.wakeSource 0) s = .next t ∧ t.pw.pwren = true ∧ t.pw.woke = true ∧
          t.g F.PW_EMBER_WAKE_CAUSE 1 = 1))

/-- The governor judges its monitors: a mean is stored; FEED_V below F_RED, or HOLD_V below H_OK, is RED; AMBER_MS
means below F_AMBER are AMBER; a mean with nothing to fall for keeps the level and starts or clears the rise count;
two samples of HOLD_V below H_BLACK in a row are BLACK; PFAIL_N low is RED; a fall is counted and raised with its
cause. The die temperature moves CAPPED and HOT with 5 degrees of hysteresis, and HOT takes GREEN to AMBER; FLOOR
bounds the level from below (spec/16_power_start_sinter.md R589, R590, R591, R592, R594, R616). -/
def Obligations.MonitorsMoveTheGovernorsLevel : Prop :=
  ∀ (s : State),
    (s.pw.firstLevel = true → s.pw.level < 3 →
      (∀ feed hold,
        let fe := s.gov F.PW_GOV_FEED_EN = 1
        let low := s.gov F.PW_GOV_HOLD_EN = 1 ∧ capAt 4095 hold < s.gov F.PW_GOV_H_OK
        let red := fe ∧ capAt 4095 feed < s.gov F.PW_GOV_F_RED
        let amber := fe ∧ capAt 4095 feed < s.gov F.PW_GOV_F_AMBER
        ∃ t, exec (.govSample true feed hold) s = .next t ∧ t.tick = s.tick ∧ t.g F.PW_GOV_FEED_MV 1 = capAt 4095 feed ∧
          t.g F.PW_GOV_HOLD_MV 1 = capAt 4095 hold ∧
          t.g F.PW_GOV_FEED_MIN 1 = min (capAt 4095 feed) (s.g F.PW_GOV_FEED_MIN 1) ∧
          t.pw.amberRun = (if amber then s.pw.amberRun + 1 else 0) ∧
          (∀ c, (red ∧ c = 1) ∨ (¬ red ∧ low ∧ c = 3) → s.pw.level < 2 →
            t.pw.level = 2 ∧ t.pw.redAt = s.tick ∧ t.pw.redCause = c ∧ t.pw.riseAt = none ∧
            t.g F.PW_GOV_FALLS 1 = (s.g F.PW_GOV_FALLS 1 + 1) % 2 ^ F.PW_GOV_FALLS.w ∧
            (∃ e ∈ (vget t.src Src.gov.idx).q, e.common = true ∧ e.sev = 3 ∧ e.code = 0x10 ∧
              e.arg = c * 65536 + 512 + s.pw.level)) ∧
          (¬ red → ¬ low → amber → s.gov F.PW_GOV_AMBER_MS ≤ s.pw.amberRun + 1 → s.pw.level = 0 →
            t.pw.level = 1 ∧ (∃ e ∈ (vget t.src Src.gov.idx).q, e.common = true ∧ e.sev = 2 ∧ e.code = 0x10 ∧
              e.arg = 65536 + 256)) ∧
          (¬ red → ¬ low → (¬ amber ∧ 0 < s.gov F.PW_GOV_AMBER_MS ∨ s.pw.level = 2) →
            t.pw.level = s.pw.level ∧ t.src = s.src ∧
            t.pw.riseAt = (if (s.pw.level = 1 ∨ s.pw.level = 2) ∧ s.govRiseOk (capAt 4095 feed) (capAt 4095 hold) = true then
              some (s.pw.riseAt.getD s.tick) else none))) ∧
      (∀ feed hold, s.gov F.PW_GOV_HOLD_EN = 1 → hold < s.gov F.PW_GOV_H_BLACK →
        ∃ t, exec (.govSample false feed hold) s = .next t ∧ t.tick = s.tick ∧ t.pw.blackRun = s.pw.blackRun + 1 ∧
          t.pw.level = (if s.pw.blackRun = 0 then s.pw.level else 3) ∧ (s.pw.blackRun = 0 → t.src = s.src)) ∧
      (∀ feed hold, ¬ (s.gov F.PW_GOV_HOLD_EN = 1 ∧ hold < s.gov F.PW_GOV_H_BLACK) →
        exec (.govSample false feed hold) s = .next (s.modPw fun x => { x with blackRun := 0 }))) ∧
    (s.pw.firstLevel = false → s.st .gov ≠ .starting → ∀ m feed hold, exec (.govSample m feed hold) s = .next s) ∧
    (∀ low, ∃ t, exec (.pfailN low) s = .next t ∧ t.tick = s.tick ∧ t.pw.pfail = low ∧ t.pw.riseAt = none ∧
      (low = true → s.gov F.PW_GOV_PFAIL_EN = 1 → s.pw.firstLevel = true → s.pw.level < 2 →
        t.pw.level = 2 ∧ (∃ e ∈ (vget t.src Src.gov.idx).q, e.common = true ∧ e.sev = 3 ∧ e.code = 0x10 ∧
          e.arg = 131072 + 512 + s.pw.level)) ∧
      (low = false ∨ s.gov F.PW_GOV_PFAIL_EN ≠ 1 ∨ 2 ≤ s.pw.level → t.pw.level = s.pw.level ∧ t.src = s.src)) ∧
    (∀ d : Int, s.pw.firstLevel = true →
      let cap := if d ≤ 16 * ((s.gov F.PW_GOV_T_CAP : Int) - 5) then false
        else if 16 * (s.gov F.PW_GOV_T_CAP : Int) ≤ d then true else s.pw.capped
      let hot := if d ≤ 16 * ((s.gov F.PW_GOV_T_HOT : Int) - 5) then false
        else if 16 * (s.gov F.PW_GOV_T_HOT : Int) ≤ d then true else s.pw.hot
      ∃ t, exec (.thermal d) s = .next t ∧ t.tick = s.tick ∧ t.pw.capped = cap ∧ t.pw.hot = hot ∧
        t.g F.PW_GOV_TDIE 1 = unsignedN 16 d % 2 ^ 16 ∧
        (cap = s.pw.capped → hot = s.pw.hot → t.src = s.src ∧ t.pw.level = s.pw.level) ∧
        (cap ≠ s.pw.capped ∨ hot ≠ s.pw.hot → (∃ e ∈ (vget t.src Src.gov.idx).q, e.common = true ∧ e.sev = 2 ∧ e.code = 0x11 ∧
          e.arg = if hot then 2 else b2n cap)) ∧
        (hot = true → s.pw.hot = false → s.pw.level = 0 → t.pw.level = 1)) ∧
    (∀ p gen check (arg : Byte), s.ownerRow p .gov gen check = true →
      (3 ≤ arg.toNat → exec (.floor p gen check arg) s = .next ((s.commanding p .gov gen).ended p 0x42 .param none)) ∧
      (s.isOn .gov = true → arg.toNat < 3 →
        ∃ t, exec (.floor p gen check arg) s = .next t ∧ (t.port p).outcome = Oc.ok.code ∧ t.tick = s.tick + 32 ∧
          t.pw.floor = arg.toNat ∧ t.pw.level = max s.pw.level arg.toNat ∧ t.pw.steps = s.pw.steps ∧
          (arg.toNat ≤ s.pw.level → t.cells = s.cells ∧ t.src = s.src ∧ t.units = s.units) ∧
          (s.pw.level < arg.toNat → (∃ e ∈ (vget t.src Src.gov.idx).q, e.common = true ∧ e.sev = arg.toNat + 1 ∧
            e.code = 0x10 ∧ e.arg = 5 * 65536 + arg.toNat * 256 + s.pw.level))))

/-- The steps of the level: as it falls they are taken in order, as it rises by one after RISE_MS they are undone in
reverse order, one in each core tick; a rise is raised; step 3 stops OPT2 and holds it, step 4 puts SENS into
LOW_RATE. At BLACK the last gasp is written, every output, unit and table goes to reset but Ember, and the device
holds itself in reset with EMB_PWREN low (spec/16_power_start_sinter.md R588, R591, R593, R595, R603, R616). That
steps are taken by one command, in consecutive core ticks, is the model's choice (notes/assumptions/36.md), as is
BLACK as one command (notes/assumptions/37.md). -/
def Obligations.LevelStepsAndTheLastGasp : Prop :=
  ∀ (s : State),
    (s.isOn .gov = true → s.pw.steps ≤ 6 →
      let target := if s.pw.level = 0 then 0 else if s.pw.level = 1 then 4 else 6
      (target ≤ s.pw.steps → exec .govLevelFall s = .next s) ∧
      (s.pw.steps < target →
        ∃ t, exec .govLevelFall s = .next t ∧ t.pw.steps = target ∧ t.pw.level = s.pw.level ∧
          (s.isOn .opt1 = false → t.tick = s.tick + (target - s.pw.steps)) ∧
          (s.pw.steps < 3 → s.st .opt2 = .on → t.st .opt2 = .stopping ∧ (t.mirror .opt2).govHeld = true) ∧
          (s.pw.steps < 4 → s.isOn .sens = true → t.sfLow = true)) ∧
      (∀ at_, s.pw.riseAt = some at_ → s.pw.level = 1 ∨ s.pw.level = 2 → s.govCap ≤ s.pw.level - 1 →
        let keep := min s.pw.steps (if s.pw.level = 1 then 0 else 4)
        ∃ t, exec .govLevelRise s = .next t ∧
          (s.isOn .opt1 = false → t.tick = max s.tick (at_ + s.gov F.PW_GOV_RISE_MS * msTicks) + (s.pw.steps - keep)) ∧
          t.pw.level = s.pw.level - 1 ∧ t.pw.riseAt = none ∧ t.pw.steps = keep ∧
          (∃ e ∈ (vget t.src Src.gov.idx).q, e.common = true ∧ e.sev = 1 ∧ e.code = 0x10 ∧
            e.arg = 6 * 65536 + (s.pw.level - 1) * 256 + s.pw.level))) ∧
    (s.pw.level = 3 → s.dev.phase ≠ .black →
      ∃ t, exec .black s = .next t ∧ t.dev.phase = .black ∧ t.dev.cause = 5 ∧ t.pw.pwren = false ∧ t.dev.ready = false ∧
        t.units = State.reset.units ∧ t.src = State.reset.src ∧ t.views = State.reset.views ∧
        (∀ T e, e < 4096 → T ≠ 0x06 → T ≠ 0x07 → t.rd T e = State.reset.rd T e) ∧
        (∀ e, 2 ≤ e → e < 6 → t.rd 0x06 e = s.rd 0x06 e) ∧ t.g F.PW_EMBER_LAST_LEVEL 1 = 3 ∧
        (s.sn.running = none →
          let h := snHeader 7 0 false 1 (s.g F.PW_EMBER_PUC 1) s.sn.nextSeq.toNat
          nvGet t.nv s.sn.head = some h ∧ nvGet t.nv (s.sn.head + 1) = some s.rtcSync.gaspWord ∧
            nvGet t.nv (s.sn.head + 2) = some (snCommit s.sn.nextSeq.toNat 0xC3 [h, s.rtcSync.gaspWord]))) ∧
    (s.pw.level ≠ 3 → exec .black s = .next s)

/-- The analogue rails: every change of RAIL_BAD raises RAIL, and GOV_STAT shows it; a unit whose rail is bad at its
first start step goes to FAULT with cause FAULT, and so does a unit in ON whose rail stays bad for 1 ms
(spec/16_power_start_sinter.md R575). Rail 0 is VDDA_LN and feeds LINE, 1 is VDDA_OP and feeds OPT1 and OPT2, 2 is
VDDA_SN and feeds SENS and LOOP, 3 is VEXC, which no unit's state depends on. -/
def Obligations.AnalogueRailsAreShownRaisedAndFaultTheirUnits : Prop :=
  ∀ (s : State),
    (∀ p, s.serves p 16 = true → s.pw.level < 4 → s.pw.floor < 4 →
      exec (.registerWrite p 0x4E none) s = .next ((s.advance 15).ended p 0x4E .ok (some s.govStat)) ∧
      s.govStat.toNat / 256 % 16 = s.dev.anaBad % 16) ∧
    (∀ (r : Fin 4) (bad : Bool), bitOf s.dev.anaBad r.val ≠ bad →
      ∃ t, exec (.rail r bad) s = .next t ∧ t.tick = s.tick ∧ bitOf t.dev.anaBad r.val = bad ∧
        (∀ k, k < 4 → k ≠ r.val → bitOf t.dev.anaBad k = bitOf s.dev.anaBad k) ∧ t.cells = s.cells ∧ t.units = s.units ∧
        (bad = true → vget t.dev.anaSince r.val = s.tick) ∧ (s.coreRuns = false → t.src = s.src) ∧
        (s.coreRuns = true → (vget t.src Src.gov.idx).q = (vget s.src Src.gov.idx).q ++
          [{ common := true, tenant := 0, sev := 2, code := 0x12, arg := t.dev.anaBad % 2 ^ 32, ref := 0 }])) ∧
    (∀ (r : Fin 4), bitOf s.dev.anaBad r.val = true →
      ∃ t, exec (.railBadPersist r) s = .next t ∧ t.tick = max s.tick (vget s.dev.anaSince r.val + msTicks) ∧
        (∀ u, (u, r.val) ∈ [(Src.line, 0), (.opt1, 1), (.opt2, 1), (.sens, 2), (.loop, 2)] → s.isOn u = true →
          t.st u = .fault ∧ (t.mirror u).cause = Oc.fault.code) ∧
        (∀ u, u ∉ [Src.line, .opt1, .opt2, .sens, .loop] → t.st u = s.st u)) ∧
    (∀ u (r : Nat), (u, r) ∈ [(Src.line, 0), (.opt1, 1), (.opt2, 1), (.sens, 2), (.loop, 2)] → s.st u = .starting →
      bitOf s.dev.anaBad r = true →
      ∃ t, exec (.startStepsDone u) s = .next t ∧ t.st u = .fault ∧ (t.mirror u).cause = Oc.fault.code)

/-- Host transactions of the Sinter store: a submission that nothing refuses takes a free queue entry, begins at once
when the store is idle and waits otherwise; a refused one changes nothing of the store; an abort ends a queued or an
early transaction ABORTED and is TOO_LATE past the point of no return; a release frees an ended entry. A transaction
that completes leaves its words in the array with the record it supersedes marked, SEQ in its entry and DONE; a READ
copies the record into the tenant's memory (spec/16_power_start_sinter.md R599, R601, R604). -/
def Obligations.SinterTransactionsAreQueuedRunAndEnded : Prop :=
  (∀ (s : State) (p : PortId) (win : Fin 4) (q : Nat), s.serves p 48 = true → 1 ≤ q → q < 5 →
    (∀ w o, s.snJudge (s.acting p) w = o → o ≠ .ok →
      ∃ t, exec (.sinterSubmit p win w) s = .next t ∧ (t.port p).outcome = o.code ∧ t.tick = s.tick + 48 ∧ t.sn = s.sn ∧
        t.nv = s.nv ∧ (∀ e, e < 5 → t.rd 0x07 e = s.rd 0x07 e) ∧ t.src = s.src ∧ t.units = s.units) ∧
    (∀ w, s.snJudge (s.acting p) w = .ok → s.snFreeEntry = some q → s.sn.running ≠ none →
      ∃ t, exec (.sinterSubmit p win w) s = .next t ∧ (t.port p).outcome = Oc.deferred.code ∧ t.tick = s.tick + 48 ∧
        t.g F.PW_SINTER_STATE q = 1 ∧ t.g F.PW_SINTER_TAG q = F.PW_SINTER_TAG.of w ∧
        t.g F.PW_SINTER_KEY q = F.PW_SINTER_KEY.of w ∧ t.sn.order = s.sn.order ++ [q] ∧ vget t.sn.owner q = s.acting p ∧
        t.sn.running = s.sn.running ∧ t.nv = s.nv ∧ t.src = s.src ∧ t.units = s.units) ∧
    (∀ w, s.snJudge (s.acting p) w = .ok → s.snFreeEntry = some q → s.sn.running = none → s.sn.device = [] →
      s.sn.order = [] → F.PW_SINTER_OP.of w ≠ 1 →
      ∃ t x, exec (.sinterSubmit p win w) s = .next t ∧ (t.port p).outcome = Oc.ok.code ∧ t.tick = s.tick + 48 ∧
        t.g F.PW_SINTER_STATE q = 2 ∧ t.g F.PW_SINTER_TAG q = F.PW_SINTER_TAG.of w ∧ t.sn.running = some x ∧ x.who = q ∧
        x.kind = F.PW_SINTER_OP.of w ∧ x.key = F.PW_SINTER_KEY.of w ∧ x.begun = s.tick + 47 ∧ x.pos = s.sn.head ∧
        t.sn.order = [] ∧ t.nv = s.nv ∧ t.src = s.src ∧ t.units = s.units) ∧
    (vget s.sn.owner q = s.acting p →
      (s.g F.PW_SINTER_STATE q = 1 ∨
          s.g F.PW_SINTER_STATE q = 2 ∧ ∃ x, s.sn.running = some x ∧ x.committing (s.tick + 47) = false →
        ∃ t, exec (.sinterAbort p win q) s = .next t ∧ (t.port p).outcome = Oc.ok.code ∧ t.tick = s.tick + 48 ∧
          t.g F.PW_SINTER_STATE q = 3 ∧ t.g F.PW_SINTER_OUTCOME q = Oc.aborted.code ∧
          (s.g F.PW_SINTER_STATE q = 1 → q ∉ t.sn.order ∧ t.nv = s.nv ∧ t.sn.running = s.sn.running) ∧
          (s.g F.PW_SINTER_STATE q = 2 → t.sn.running = none ∧ t.sn.order = s.sn.order ∧ t.sn.head = s.sn.head) ∧
          (vget t.src Src.sinter.idx).q = (vget s.src Src.sinter.idx).q ++
            [{ common := false, tenant := s.acting p, sev := 2, code := 0x02, ref := 0,
               arg := s.g F.PW_SINTER_TAG q % 2 ^ 24 * 256 + Oc.aborted.code }] ∧ t.units = s.units) ∧
      (∀ x, s.g F.PW_SINTER_STATE q = 2 → s.sn.running = some x → x.committing (s.tick + 47) = true →
        ∃ t, exec (.sinterAbort p win q) s = .next t ∧ (t.port p).outcome = Oc.tooLate.code ∧ t.tick = s.tick + 48 ∧
          t.sn = s.sn ∧ t.nv = s.nv ∧ t.cells = s.cells ∧ t.src = s.src ∧ t.units = s.units) ∧
      (s.g F.PW_SINTER_STATE q = 3 →
        ∃ t, exec (.sinterRelease p win q) s = .next t ∧ (t.port p).outcome = Oc.ok.code ∧ t.tick = s.tick + 48 ∧
          t.rd 0x07 q = 0 ∧ t.sn = s.sn ∧ t.nv = s.nv ∧ t.src = s.src ∧ t.units = s.units) ∧
      (s.g F.PW_SINTER_STATE q ≠ 3 →
        ∃ t, exec (.sinterRelease p win q) s = .next t ∧ (t.port p).outcome = Oc.stateMismatch.code ∧ t.tick = s.tick + 48 ∧
          t.sn = s.sn ∧ t.cells = s.cells ∧ t.src = s.src ∧ t.units = s.units))) ∧
  (∀ (s : State) (x : SnTxn), s.sn.running = some x → s.dev.hibReq = false →
    (x.kind = 1 ∨ x.kind = 3 → 1 ≤ x.who → x.who < 5 → s.enabled (vget s.sn.owner x.who) = true →
      ∃ t, exec .sinterTxnDone s = .next t ∧ t.tick = max s.tick (x.begun + snTicks (x.writes s.nv).length) ∧
        t.nv = nvWrites s.nv (x.writes s.nv) ∧ t.sn.running = none ∧ t.sn.head = (s.sn.head + x.words.length + 2) % nvSize ∧
        t.g F.PW_SINTER_STATE x.who = 3 ∧ t.g F.PW_SINTER_OUTCOME x.who = Oc.ok.code ∧
        t.g F.PW_SINTER_SEQ x.who = x.seq.toNat ∧
        (∃ e ∈ (vget t.src Src.sinter.idx).q, e.common = false ∧ e.tenant = vget s.sn.owner x.who ∧ e.sev = 0 ∧
          e.code = 0x02 ∧ e.arg = s.g F.PW_SINTER_TAG x.who % 2 ^ 24 * 256)) ∧
    (x.kind = 1 → x.who = 0 → x.slot = none →
      ∃ t, exec .sinterTxnDone s = .next t ∧ t.tick = max s.tick (x.begun + snTicks (x.writes s.nv).length) ∧
        t.nv = nvWrites s.nv (x.writes s.nv) ∧ t.sn.running = none ∧
        (x.rtype = 5 → t.fcMark x.key = (x.words.getD 0 0).bits 0 32)) ∧
    (∀ r, x.kind = 2 → 1 ≤ x.who → x.who < 5 → s.enabled (vget s.sn.owner x.who) = true →
      s.snTarget 2 x.rtype (vget s.sn.owner x.who) x.key = some r →
      s.g F.PW_SINTER_ADDR x.who + s.g F.PW_SINTER_LEN x.who ≤ 4096 →
      ∃ t, exec .sinterTxnDone s = .next t ∧ t.tick = s.tick ∧ t.nv = s.nv ∧ t.sn.running = none ∧
        t.g F.PW_SINTER_STATE x.who = 3 ∧ t.g F.PW_SINTER_OUTCOME x.who = Oc.ok.code ∧
        (∀ i, i < r.len → i < s.g F.PW_SINTER_LEN x.who →
          t.rd 0x25 (s.g F.PW_SINTER_ADDR x.who + i) = (nvGet s.nv (r.pos + 1 + i)).getD 0)))

/-- The device's own transactions and the TAP: the next transaction begins when the store accepts, device transactions
first; a counter within 16,384 of its mark queues the raise of the mark by 65,536, unless one waits; below 1,024 free
words, or at the command COMPACT, the live record at the tail is rewritten at the head until 2,048 words are free; a
new TAP instruction takes effect while power-on reset is released, an unnamed code as BYPASS
(spec/16_power_start_sinter.md R601, R602, R605, R606, spec/17_pins_electrical.md R641, R642). -/
def Obligations.DeviceTransactionsCountersAndTheTap : Prop :=
  ∀ (s : State),
    (s.snAccepts = false → ∃ t, exec .sinterTxnStart s = .next t ∧ t.tick = s.tick ∧ t.sn = s.sn ∧ t.nv = s.nv ∧
      t.cells = s.cells) ∧
    (s.snAccepts = true → s.sn.running = none →
      (∀ x rest, s.sn.device = x :: rest →
        ∃ t, exec .sinterTxnStart s = .next t ∧ t.tick = s.tick ∧
          t.sn.running = some { x with pos := s.sn.head, seq := s.sn.nextSeq, begun := s.tick } ∧ t.sn.device = rest ∧
          t.sn.order = s.sn.order ∧ t.sn.nextSeq = (if x.kind = 2 then s.sn.nextSeq else s.sn.nextSeq + 1) ∧ t.nv = s.nv) ∧
      (∀ e rest, s.sn.device = [] → s.sn.order = e :: rest → 1 ≤ e → e < 5 → s.g F.PW_SINTER_OP e ≠ 1 →
        ∃ t x, exec .sinterTxnStart s = .next t ∧ t.tick = s.tick ∧ t.sn.running = some x ∧ x.who = e ∧
          x.kind = s.g F.PW_SINTER_OP e ∧ x.key = s.g F.PW_SINTER_KEY e ∧ t.sn.order = rest ∧
          t.g F.PW_SINTER_STATE e = 2 ∧ t.nv = s.nv)) ∧
    (∀ key,
      let v := if key = 0 then s.g F.LA_STAT_TX_FC 0 else s.g F.RC_TAG_TX_FC (2 * (key - 1) + 1)
      let waits := fun (x : SnTxn) => x.rtype == 5 && x.key == key
      (v + 16384 < s.fcMark key → exec (.counterRaise key) s = .next s) ∧
      (s.fcMark key ≤ v + 16384 → (s.sn.device.any waits || s.sn.running.any waits) = true →
        exec (.counterRaise key) s = .next s) ∧
      (s.fcMark key ≤ v + 16384 → (s.sn.device.any waits || s.sn.running.any waits) = false →
        exec (.counterRaise key) s = .next (s.modSn fun x => { x with device := x.device ++
          [{ kind := 1, rtype := 5, key := key, words := [BitVec.ofNat 128 ((s.fcMark key + 65536) % 2 ^ 32)] }] }))) ∧
    (s.isOn .sinter = false → exec .compaction s = .next s) ∧
    (s.isOn .sinter = true → 1024 ≤ s.snFreeWords → s.sn.compacting = false →
      ∃ t, exec .compaction s = .next t ∧ t.tick = s.tick ∧ t.sn = s.sn ∧ t.nv = s.nv ∧ t.cells = s.cells) ∧
    (∀ r, s.isOn .sinter = true → s.sn.running = none → s.sn.device.any (fun x => x.kind == 4) = false →
      s.snTail = some r → s.snFreeWords < 2048 → r.len + 2 ≤ s.snFreeWords →
      let x : SnTxn := { kind := 4, rtype := r.rtype, tenant := r.tenant, key := r.key,
                         words := (snPayload s.nv r.pos r.len).getD [] }
      (s.snFreeWords < 1024 ∨ s.sn.compacting = true →
        ∃ t, exec .compaction s = .next t ∧ t.tick = s.tick ∧ t.sn.compacting = true ∧ t.sn.device = s.sn.device ++ [x] ∧
          t.nv = s.nv ∧ t.cells = s.cells ∧ bitOf (t.sub .sinter) 1 = true) ∧
      (∀ p gen check, s.ownerRow p .sinter gen check = true →
        ∃ t, exec (.compact p gen check) s = .next t ∧ (t.port p).outcome = Oc.ok.code ∧ t.tick = s.tick + 32 ∧
          t.sn.compacting = true ∧ t.sn.device = s.sn.device ++ [x] ∧ t.nv = s.nv ∧ bitOf (t.sub .sinter) 1 = true)) ∧
    (∀ p gen check, s.ownerRow p .sinter gen check = true → s.isOn .sinter = false →
      exec (.compact p gen check) s = .next ((s.commanding p .sinter gen).ended p 0x42 .stateMismatch none)) ∧
    (∀ code : Fin 32,
      (s.dev.phase = .por → exec (.tapInstruction code) s = .next s) ∧
      (s.dev.phase ≠ .por →
        ∃ t, exec (.tapInstruction code) s = .next t ∧
          t.dev.tapIr = (if code.val ∈ [0, 1, 2, 4, 5] then code.val else 31) ∧ t.tick = s.tick ∧ t.cells = s.cells ∧
          t.src = s.src ∧ t.units = s.units ∧
          (∀ n : Fin 2, (t.op n.val).calOff =
            ((s.op n.val).calOff || (t.pinsDetached && (s.op n.val).calLaser.isSome)))))
end

