-- ==== Sys2Proof/Laws/Store.lean ====
section
/-! SUPPORT. The sparse stores: a read after a write, and the canonical form that every write keeps. -/

namespace Sys2Proof.Machine

open Sys2Proof

/-! The shape of a store. -/

theorem Sparse.above_mono {α : Type} {l : List (Nat × α)} {a b : Option Nat}
    (hb : b = none ∨ ∃ x y, a = some x ∧ b = some y ∧ y ≤ x) (h : Sparse.above a l = true) : Sparse.above b l = true := by
  rcases l with _ | ⟨⟨k, v⟩, t⟩
  · cases b <;> rfl
  · rcases hb with rfl | ⟨x, y, rfl, rfl, hxy⟩
    · cases a with
      | none => exact h
      | some x => simp only [Sparse.above, Bool.and_eq_true] at h ⊢; exact h.2
    · simp only [Sparse.above, Bool.and_eq_true, decide_eq_true_eq] at h ⊢
      exact ⟨by omega, h.2⟩

theorem Sparse.above_put {α : Type} {l : List (Nat × α)} {a : Option Nat} {k : Nat} {x : α}
    (hk : ∀ lo, a = some lo → lo < k) (h : Sparse.above a l = true) : Sparse.above a (Sparse.put l k x) = true := by
  induction l generalizing a with
  | nil => cases a with
    | none => rfl
    | some lo => simp [Sparse.put, Sparse.above, hk lo rfl]
  | cons p t ih =>
    obtain ⟨k', v⟩ := p
    have ht : Sparse.above (some k') t = true := by
      cases a with
      | none => exact h
      | some lo => simp only [Sparse.above, Bool.and_eq_true] at h; exact h.2
    simp only [Sparse.put]
    split
    · next hlt => cases a with
      | none => simp [Sparse.above, hlt, ht]
      | some lo => simp [Sparse.above, hlt, ht, hk lo rfl]
    · split
      · next _ he =>
        subst he
        cases a with
        | none => exact ht
        | some lo => simp [Sparse.above, ht, hk lo rfl]
      · next hge hne =>
        have hi := ih (a := some k') (by intro lo e; cases e; omega) ht
        cases a with
        | none => exact hi
        | some lo =>
          simp only [Sparse.above, Bool.and_eq_true] at h ⊢
          exact ⟨h.1, hi⟩

theorem Sparse.above_del {α : Type} {l : List (Nat × α)} {a : Option Nat} {k : Nat}
    (h : Sparse.above a l = true) : Sparse.above a (Sparse.del l k) = true := by
  induction l generalizing a with
  | nil => exact h
  | cons p t ih =>
    obtain ⟨k', v⟩ := p
    have ht : Sparse.above (some k') t = true := by
      cases a with
      | none => exact h
      | some lo => simp only [Sparse.above, Bool.and_eq_true] at h; exact h.2
    simp only [Sparse.del]
    split
    · refine Sparse.above_mono ?_ ht
      cases a with
      | none => exact .inl rfl
      | some lo =>
        simp only [Sparse.above, Bool.and_eq_true, decide_eq_true_eq] at h
        exact .inr ⟨k', lo, rfl, rfl, by omega⟩
    · split
      · exact h
      · have hi := ih ht
        cases a with
        | none => exact hi
        | some lo => simp only [Sparse.above, Bool.and_eq_true] at h ⊢; exact ⟨h.1, hi⟩

theorem Sparse.above_filter {α : Type} {l : List (Nat × α)} {a : Option Nat} (p : Nat × α → Bool)
    (h : Sparse.above a l = true) : Sparse.above a (l.filter p) = true := by
  induction l generalizing a with
  | nil => exact h
  | cons q t ih =>
    obtain ⟨k, v⟩ := q
    have ht : Sparse.above (some k) t = true := by
      cases a with
      | none => exact h
      | some lo => simp only [Sparse.above, Bool.and_eq_true] at h; exact h.2
    rw [List.filter_cons]
    split
    · have hi := ih ht
      cases a with
      | none => exact hi
      | some lo => simp only [Sparse.above, Bool.and_eq_true] at h ⊢; exact ⟨h.1, hi⟩
    · refine ih (Sparse.above_mono ?_ ht)
      cases a with
      | none => exact .inl rfl
      | some lo =>
        simp only [Sparse.above, Bool.and_eq_true, decide_eq_true_eq] at h
        exact .inr ⟨k, lo, rfl, rfl, by omega⟩

theorem Sparse.above_map {α : Type} {l : List (Nat × α)} {a : Option Nat} (f : Nat × α → Nat × α)
    (hf : ∀ p, (f p).1 = p.1) (h : Sparse.above a l = true) : Sparse.above a (l.map f) = true := by
  induction l generalizing a with
  | nil => exact h
  | cons q t ih =>
    obtain ⟨k, v⟩ := q
    have hk : f (k, v) = (k, (f (k, v)).2) := Prod.ext (hf (k, v)) rfl
    rw [List.map_cons, hk]
    cases a with
    | none => exact ih h
    | some lo => simp only [Sparse.above, Bool.and_eq_true] at h ⊢; exact ⟨h.1, ih h.2⟩

/-! A read after a write. -/

/-- What a key holds after a value was put under it. -/
@[simp] theorem Sparse.get_put_same {α : Type} (l : List (Nat × α)) (k : Nat) (x : α) :
    Sparse.get (Sparse.put l k x) k = some x := by
  induction l with
  | nil => simp [Sparse.put, Sparse.get]
  | cons p t ih =>
    obtain ⟨k', v⟩ := p
    simp only [Sparse.put]
    split
    · simp [Sparse.get]
    · split
      · simp [Sparse.get]
      · simp only [Sparse.get]
        rw [if_neg (by omega), if_neg (by omega)]
        exact ih

theorem Sparse.get_none_of_above {α : Type} {l : List (Nat × α)} {k : Nat} (h : Sparse.above (some k) l = true) :
    Sparse.get l k = none := by
  rcases l with _ | ⟨⟨k', v⟩, t⟩
  · rfl
  · simp only [Sparse.above, Bool.and_eq_true, decide_eq_true_eq] at h
    simp only [Sparse.get]
    rw [if_neg (by omega), if_pos h.1]

theorem Sparse.get_put_ne_above {α : Type} (l : List (Nat × α)) (a : Option Nat) (k j : Nat) (x : α)
    (h : Sparse.above a l = true) (hj : j ≠ k) : Sparse.get (Sparse.put l k x) j = Sparse.get l j := by
  induction l generalizing a with
  | nil => simp only [Sparse.put, Sparse.get]; rw [if_neg (by omega)]; split <;> rfl
  | cons p t ih =>
    obtain ⟨k', v⟩ := p
    have ht : Sparse.above (some k') t = true := by
      cases a with
      | none => exact h
      | some lo => simp only [Sparse.above, Bool.and_eq_true] at h; exact h.2
    simp only [Sparse.put]
    split
    · next hlt =>
      simp only [Sparse.get]
      rw [if_neg (by omega)]
      split
      · split
        · omega
        · rw [if_pos (by omega)]
      · rfl
    · split
      · next _ he => subst he; simp only [Sparse.get, if_neg (show ¬k = j by omega)]
      · simp only [Sparse.get]; rw [ih _ ht]

/-- A write under one key leaves every other key alone. -/
theorem Sparse.get_put_ne {α : Type} {l : List (Nat × α)} {k j : Nat} (x : α) (h : Sparse.rising l = true) (hj : j ≠ k) :
    Sparse.get (Sparse.put l k x) j = Sparse.get l j := Sparse.get_put_ne_above l none k j x h hj

/-! The canonical forms. -/

theorem Sparse.mem_put {α : Type} {l : List (Nat × α)} {k : Nat} {x : α} {p : Nat × α} (h : p ∈ Sparse.put l k x) :
    p = (k, x) ∨ p ∈ l := by
  induction l with
  | nil => simpa [Sparse.put] using h
  | cons q t ih =>
    obtain ⟨k', v⟩ := q
    simp only [Sparse.put] at h
    split at h
    · simpa using h
    · split at h
      · rcases List.mem_cons.1 h with h | h
        · exact .inl h
        · exact .inr (List.mem_cons_of_mem _ h)
      · rcases List.mem_cons.1 h with h | h
        · exact .inr (h ▸ List.mem_cons_self)
        · exact (ih h).imp id (List.mem_cons_of_mem _)

theorem Sparse.mem_del {α : Type} {l : List (Nat × α)} {k : Nat} {p : Nat × α} (h : p ∈ Sparse.del l k) : p ∈ l := by
  induction l with
  | nil => exact h
  | cons q t ih =>
    obtain ⟨k', v⟩ := q
    simp only [Sparse.del] at h
    split at h
    · exact List.mem_cons_of_mem _ h
    · split at h
      · exact h
      · rcases List.mem_cons.1 h with h | h
        · exact h ▸ List.mem_cons_self
        · exact List.mem_cons_of_mem _ (ih h)

/-- A put of a changed cell keeps the canonical form. -/
theorem cellsWf_put {l : List (Nat × Cell)} (k : Nat) (c : Cell) (hc : c.ver ≠ 0) (h : cellsWf l = true) :
    cellsWf (Sparse.put l k c) = true := by
  simp only [cellsWf, Bool.and_eq_true, List.all_eq_true] at h ⊢
  refine ⟨Sparse.above_put (by simp) h.1, fun p hp => ?_⟩
  rcases Sparse.mem_put hp with rfl | hp
  · simpa using hc
  · exact h.2 p hp

theorem cellsWf_filter {l : List (Nat × Cell)} (p : Nat × Cell → Bool) (h : cellsWf l = true) :
    cellsWf (l.filter p) = true := by
  simp only [cellsWf, Bool.and_eq_true, List.all_eq_true] at h ⊢
  exact ⟨Sparse.above_filter p h.1, fun q hq => h.2 q (List.mem_of_mem_filter hq)⟩

theorem nvWf_put {l : List (Nat × Word)} (p : Nat) (w : Word) (h : nvWf l = true) : nvWf (nvPut l p w) = true := by
  simp only [nvWf, nvPut, Bool.and_eq_true, List.all_eq_true] at h ⊢
  refine ⟨Sparse.above_put (by simp) h.1, fun q hq => ?_⟩
  rcases Sparse.mem_put hq with rfl | hq
  · simpa using Nat.mod_lt p (by decide)
  · exact h.2 q hq

theorem nvWf_cut {l : List (Nat × Word)} (p : Nat) (h : nvWf l = true) : nvWf (nvCut l p) = true := by
  simp only [nvWf, nvCut, Bool.and_eq_true, List.all_eq_true] at h ⊢
  exact ⟨Sparse.above_del h.1, fun q hq => h.2 q (Sparse.mem_del hq)⟩

theorem nvWf_writes {l : List (Nat × Word)} (ws : List (Nat × Word)) (h : nvWf l = true) : nvWf (nvWrites l ws) = true := by
  unfold nvWrites
  induction ws generalizing l with
  | nil => exact h
  | cons a t ih => exact ih (nvWf_put _ _ h)

/-! Vectors. -/

@[simp] theorem vget_vset_same {α : Type} {n : Nat} [Inhabited α] (v : Vector α n) (i : Nat) (x : α) (h : i < n) :
    vget (vset v i x) i = x := by
  simp [vget, vset, h]

@[simp] theorem vget_vset_ne {α : Type} {n : Nat} [Inhabited α] (v : Vector α n) (i j : Nat) (x : α) (h : i ≠ j) :
    vget (vset v i x) j = vget v j := by
  simp [vget, vset, h]

/-- An entry of a changed vector is the changed entry or the old one. -/
theorem vget_vmod {α : Type} {n : Nat} [Inhabited α] (v : Vector α n) (i j : Nat) (f : α → α) :
    vget (vmod v i f) j = if i = j ∧ i < n then f (vget v i) else vget v j := by
  by_cases h : i = j
  · subst h
    by_cases hi : i < n
    · simp [vmod, hi]
    · simp [vmod, vget, vset, hi]
  · simp [vmod, h]

theorem logsWf_vmod {v : Vector View 64} (i : Nat) (f : View → View) (h : logsWf v)
    (hf : (f (vget v i)).log.length ≤ 64) : logsWf (vmod v i f) := by
  intro t
  rw [vget_vmod]
  split
  · exact hf
  · exact h t

end Sys2Proof.Machine
end

