-- ==== Sys2Proof/Laws/State.lean ====
section
/-! SUPPORT. One lemma per field of the state and per update: what the update leaves there. -/

namespace Sys2Proof.Machine

open Sys2Proof

@[simp] theorem State.modDev_pending (s : State) (f : Dev → Dev) : (s.modDev f).pending = s.pending := rfl
@[simp] theorem State.modDev_tick (s : State) (f : Dev → Dev) : (s.modDev f).tick = s.tick := rfl
@[simp] theorem State.modDev_free (s : State) (f : Dev → Dev) : (s.modDev f).free = s.free := rfl
@[simp] theorem State.modDev_cells (s : State) (f : Dev → Dev) : (s.modDev f).cells = s.cells := rfl
@[simp] theorem State.modDev_nv (s : State) (f : Dev → Dev) : (s.modDev f).nv = s.nv := rfl
@[simp] theorem State.modDev_port0 (s : State) (f : Dev → Dev) : (s.modDev f).port0 = s.port0 := rfl
@[simp] theorem State.modDev_port1 (s : State) (f : Dev → Dev) : (s.modDev f).port1 = s.port1 := rfl
@[simp] theorem State.modDev_tux (s : State) (f : Dev → Dev) : (s.modDev f).tux = s.tux := rfl
@[simp] theorem State.modDev_tsel (s : State) (f : Dev → Dev) : (s.modDev f).tsel = s.tsel := rfl
@[simp] theorem State.modDev_views (s : State) (f : Dev → Dev) : (s.modDev f).views = s.views := rfl
@[simp] theorem State.modDev_src (s : State) (f : Dev → Dev) : (s.modDev f).src = s.src := rfl
@[simp] theorem State.modDev_granted (s : State) (f : Dev → Dev) : (s.modDev f).granted = s.granted := rfl
@[simp] theorem State.modDev_units (s : State) (f : Dev → Dev) : (s.modDev f).units = s.units := rfl
@[simp] theorem State.modDev_dev (s : State) (f : Dev → Dev) : (s.modDev f).dev = f s.dev := rfl
@[simp] theorem State.modDev_gy (s : State) (f : Dev → Dev) : (s.modDev f).gy = s.gy := rfl
@[simp] theorem State.modDev_ln (s : State) (f : Dev → Dev) : (s.modDev f).ln = s.ln := rfl
@[simp] theorem State.modDev_ll (s : State) (f : Dev → Dev) : (s.modDev f).ll = s.ll := rfl
@[simp] theorem State.modDev_cj (s : State) (f : Dev → Dev) : (s.modDev f).cj = s.cj := rfl
@[simp] theorem State.modDev_ob (s : State) (f : Dev → Dev) : (s.modDev f).ob = s.ob := rfl
@[simp] theorem State.modDev_rng (s : State) (f : Dev → Dev) : (s.modDev f).rng = s.rng := rfl
@[simp] theorem State.modDev_ms (s : State) (f : Dev → Dev) : (s.modDev f).ms = s.ms := rfl
@[simp] theorem State.modDev_rc (s : State) (f : Dev → Dev) : (s.modDev f).rc = s.rc := rfl
@[simp] theorem State.modDev_op1 (s : State) (f : Dev → Dev) : (s.modDev f).op1 = s.op1 := rfl
@[simp] theorem State.modDev_op2 (s : State) (f : Dev → Dev) : (s.modDev f).op2 = s.op2 := rfl
@[simp] theorem State.modDev_sf (s : State) (f : Dev → Dev) : (s.modDev f).sf = s.sf := rfl
@[simp] theorem State.modDev_lp (s : State) (f : Dev → Dev) : (s.modDev f).lp = s.lp := rfl
@[simp] theorem State.modDev_pw (s : State) (f : Dev → Dev) : (s.modDev f).pw = s.pw := rfl
@[simp] theorem State.modDev_sn (s : State) (f : Dev → Dev) : (s.modDev f).sn = s.sn := rfl

@[simp] theorem State.modGy_pending (s : State) (f : Gy → Gy) : (s.modGy f).pending = s.pending := rfl
@[simp] theorem State.modGy_tick (s : State) (f : Gy → Gy) : (s.modGy f).tick = s.tick := rfl
@[simp] theorem State.modGy_free (s : State) (f : Gy → Gy) : (s.modGy f).free = s.free := rfl
@[simp] theorem State.modGy_cells (s : State) (f : Gy → Gy) : (s.modGy f).cells = s.cells := rfl
@[simp] theorem State.modGy_nv (s : State) (f : Gy → Gy) : (s.modGy f).nv = s.nv := rfl
@[simp] theorem State.modGy_port0 (s : State) (f : Gy → Gy) : (s.modGy f).port0 = s.port0 := rfl
@[simp] theorem State.modGy_port1 (s : State) (f : Gy → Gy) : (s.modGy f).port1 = s.port1 := rfl
@[simp] theorem State.modGy_tux (s : State) (f : Gy → Gy) : (s.modGy f).tux = s.tux := rfl
@[simp] theorem State.modGy_tsel (s : State) (f : Gy → Gy) : (s.modGy f).tsel = s.tsel := rfl
@[simp] theorem State.modGy_views (s : State) (f : Gy → Gy) : (s.modGy f).views = s.views := rfl
@[simp] theorem State.modGy_src (s : State) (f : Gy → Gy) : (s.modGy f).src = s.src := rfl
@[simp] theorem State.modGy_granted (s : State) (f : Gy → Gy) : (s.modGy f).granted = s.granted := rfl
@[simp] theorem State.modGy_units (s : State) (f : Gy → Gy) : (s.modGy f).units = s.units := rfl
@[simp] theorem State.modGy_dev (s : State) (f : Gy → Gy) : (s.modGy f).dev = s.dev := rfl
@[simp] theorem State.modGy_gy (s : State) (f : Gy → Gy) : (s.modGy f).gy = f s.gy := rfl
@[simp] theorem State.modGy_ln (s : State) (f : Gy → Gy) : (s.modGy f).ln = s.ln := rfl
@[simp] theorem State.modGy_ll (s : State) (f : Gy → Gy) : (s.modGy f).ll = s.ll := rfl
@[simp] theorem State.modGy_cj (s : State) (f : Gy → Gy) : (s.modGy f).cj = s.cj := rfl
@[simp] theorem State.modGy_ob (s : State) (f : Gy → Gy) : (s.modGy f).ob = s.ob := rfl
@[simp] theorem State.modGy_rng (s : State) (f : Gy → Gy) : (s.modGy f).rng = s.rng := rfl
@[simp] theorem State.modGy_ms (s : State) (f : Gy → Gy) : (s.modGy f).ms = s.ms := rfl
@[simp] theorem State.modGy_rc (s : State) (f : Gy → Gy) : (s.modGy f).rc = s.rc := rfl
@[simp] theorem State.modGy_op1 (s : State) (f : Gy → Gy) : (s.modGy f).op1 = s.op1 := rfl
@[simp] theorem State.modGy_op2 (s : State) (f : Gy → Gy) : (s.modGy f).op2 = s.op2 := rfl
@[simp] theorem State.modGy_sf (s : State) (f : Gy → Gy) : (s.modGy f).sf = s.sf := rfl
@[simp] theorem State.modGy_lp (s : State) (f : Gy → Gy) : (s.modGy f).lp = s.lp := rfl
@[simp] theorem State.modGy_pw (s : State) (f : Gy → Gy) : (s.modGy f).pw = s.pw := rfl
@[simp] theorem State.modGy_sn (s : State) (f : Gy → Gy) : (s.modGy f).sn = s.sn := rfl

@[simp] theorem State.modLn_pending (s : State) (f : Ln → Ln) : (s.modLn f).pending = s.pending := rfl
@[simp] theorem State.modLn_tick (s : State) (f : Ln → Ln) : (s.modLn f).tick = s.tick := rfl
@[simp] theorem State.modLn_free (s : State) (f : Ln → Ln) : (s.modLn f).free = s.free := rfl
@[simp] theorem State.modLn_cells (s : State) (f : Ln → Ln) : (s.modLn f).cells = s.cells := rfl
@[simp] theorem State.modLn_nv (s : State) (f : Ln → Ln) : (s.modLn f).nv = s.nv := rfl
@[simp] theorem State.modLn_port0 (s : State) (f : Ln → Ln) : (s.modLn f).port0 = s.port0 := rfl
@[simp] theorem State.modLn_port1 (s : State) (f : Ln → Ln) : (s.modLn f).port1 = s.port1 := rfl
@[simp] theorem State.modLn_tux (s : State) (f : Ln → Ln) : (s.modLn f).tux = s.tux := rfl
@[simp] theorem State.modLn_tsel (s : State) (f : Ln → Ln) : (s.modLn f).tsel = s.tsel := rfl
@[simp] theorem State.modLn_views (s : State) (f : Ln → Ln) : (s.modLn f).views = s.views := rfl
@[simp] theorem State.modLn_src (s : State) (f : Ln → Ln) : (s.modLn f).src = s.src := rfl
@[simp] theorem State.modLn_granted (s : State) (f : Ln → Ln) : (s.modLn f).granted = s.granted := rfl
@[simp] theorem State.modLn_units (s : State) (f : Ln → Ln) : (s.modLn f).units = s.units := rfl
@[simp] theorem State.modLn_dev (s : State) (f : Ln → Ln) : (s.modLn f).dev = s.dev := rfl
@[simp] theorem State.modLn_gy (s : State) (f : Ln → Ln) : (s.modLn f).gy = s.gy := rfl
@[simp] theorem State.modLn_ln (s : State) (f : Ln → Ln) : (s.modLn f).ln = f s.ln := rfl
@[simp] theorem State.modLn_ll (s : State) (f : Ln → Ln) : (s.modLn f).ll = s.ll := rfl
@[simp] theorem State.modLn_cj (s : State) (f : Ln → Ln) : (s.modLn f).cj = s.cj := rfl
@[simp] theorem State.modLn_ob (s : State) (f : Ln → Ln) : (s.modLn f).ob = s.ob := rfl
@[simp] theorem State.modLn_rng (s : State) (f : Ln → Ln) : (s.modLn f).rng = s.rng := rfl
@[simp] theorem State.modLn_ms (s : State) (f : Ln → Ln) : (s.modLn f).ms = s.ms := rfl
@[simp] theorem State.modLn_rc (s : State) (f : Ln → Ln) : (s.modLn f).rc = s.rc := rfl
@[simp] theorem State.modLn_op1 (s : State) (f : Ln → Ln) : (s.modLn f).op1 = s.op1 := rfl
@[simp] theorem State.modLn_op2 (s : State) (f : Ln → Ln) : (s.modLn f).op2 = s.op2 := rfl
@[simp] theorem State.modLn_sf (s : State) (f : Ln → Ln) : (s.modLn f).sf = s.sf := rfl
@[simp] theorem State.modLn_lp (s : State) (f : Ln → Ln) : (s.modLn f).lp = s.lp := rfl
@[simp] theorem State.modLn_pw (s : State) (f : Ln → Ln) : (s.modLn f).pw = s.pw := rfl
@[simp] theorem State.modLn_sn (s : State) (f : Ln → Ln) : (s.modLn f).sn = s.sn := rfl

@[simp] theorem State.modLl_pending (s : State) (f : Ll → Ll) : (s.modLl f).pending = s.pending := rfl
@[simp] theorem State.modLl_tick (s : State) (f : Ll → Ll) : (s.modLl f).tick = s.tick := rfl
@[simp] theorem State.modLl_free (s : State) (f : Ll → Ll) : (s.modLl f).free = s.free := rfl
@[simp] theorem State.modLl_cells (s : State) (f : Ll → Ll) : (s.modLl f).cells = s.cells := rfl
@[simp] theorem State.modLl_nv (s : State) (f : Ll → Ll) : (s.modLl f).nv = s.nv := rfl
@[simp] theorem State.modLl_port0 (s : State) (f : Ll → Ll) : (s.modLl f).port0 = s.port0 := rfl
@[simp] theorem State.modLl_port1 (s : State) (f : Ll → Ll) : (s.modLl f).port1 = s.port1 := rfl
@[simp] theorem State.modLl_tux (s : State) (f : Ll → Ll) : (s.modLl f).tux = s.tux := rfl
@[simp] theorem State.modLl_tsel (s : State) (f : Ll → Ll) : (s.modLl f).tsel = s.tsel := rfl
@[simp] theorem State.modLl_views (s : State) (f : Ll → Ll) : (s.modLl f).views = s.views := rfl
@[simp] theorem State.modLl_src (s : State) (f : Ll → Ll) : (s.modLl f).src = s.src := rfl
@[simp] theorem State.modLl_granted (s : State) (f : Ll → Ll) : (s.modLl f).granted = s.granted := rfl
@[simp] theorem State.modLl_units (s : State) (f : Ll → Ll) : (s.modLl f).units = s.units := rfl
@[simp] theorem State.modLl_dev (s : State) (f : Ll → Ll) : (s.modLl f).dev = s.dev := rfl
@[simp] theorem State.modLl_gy (s : State) (f : Ll → Ll) : (s.modLl f).gy = s.gy := rfl
@[simp] theorem State.modLl_ln (s : State) (f : Ll → Ll) : (s.modLl f).ln = s.ln := rfl
@[simp] theorem State.modLl_ll (s : State) (f : Ll → Ll) : (s.modLl f).ll = f s.ll := rfl
@[simp] theorem State.modLl_cj (s : State) (f : Ll → Ll) : (s.modLl f).cj = s.cj := rfl
@[simp] theorem State.modLl_ob (s : State) (f : Ll → Ll) : (s.modLl f).ob = s.ob := rfl
@[simp] theorem State.modLl_rng (s : State) (f : Ll → Ll) : (s.modLl f).rng = s.rng := rfl
@[simp] theorem State.modLl_ms (s : State) (f : Ll → Ll) : (s.modLl f).ms = s.ms := rfl
@[simp] theorem State.modLl_rc (s : State) (f : Ll → Ll) : (s.modLl f).rc = s.rc := rfl
@[simp] theorem State.modLl_op1 (s : State) (f : Ll → Ll) : (s.modLl f).op1 = s.op1 := rfl
@[simp] theorem State.modLl_op2 (s : State) (f : Ll → Ll) : (s.modLl f).op2 = s.op2 := rfl
@[simp] theorem State.modLl_sf (s : State) (f : Ll → Ll) : (s.modLl f).sf = s.sf := rfl
@[simp] theorem State.modLl_lp (s : State) (f : Ll → Ll) : (s.modLl f).lp = s.lp := rfl
@[simp] theorem State.modLl_pw (s : State) (f : Ll → Ll) : (s.modLl f).pw = s.pw := rfl
@[simp] theorem State.modLl_sn (s : State) (f : Ll → Ll) : (s.modLl f).sn = s.sn := rfl

@[simp] theorem State.modCj_pending (s : State) (f : Cj → Cj) : (s.modCj f).pending = s.pending := rfl
@[simp] theorem State.modCj_tick (s : State) (f : Cj → Cj) : (s.modCj f).tick = s.tick := rfl
@[simp] theorem State.modCj_free (s : State) (f : Cj → Cj) : (s.modCj f).free = s.free := rfl
@[simp] theorem State.modCj_cells (s : State) (f : Cj → Cj) : (s.modCj f).cells = s.cells := rfl
@[simp] theorem State.modCj_nv (s : State) (f : Cj → Cj) : (s.modCj f).nv = s.nv := rfl
@[simp] theorem State.modCj_port0 (s : State) (f : Cj → Cj) : (s.modCj f).port0 = s.port0 := rfl
@[simp] theorem State.modCj_port1 (s : State) (f : Cj → Cj) : (s.modCj f).port1 = s.port1 := rfl
@[simp] theorem State.modCj_tux (s : State) (f : Cj → Cj) : (s.modCj f).tux = s.tux := rfl
@[simp] theorem State.modCj_tsel (s : State) (f : Cj → Cj) : (s.modCj f).tsel = s.tsel := rfl
@[simp] theorem State.modCj_views (s : State) (f : Cj → Cj) : (s.modCj f).views = s.views := rfl
@[simp] theorem State.modCj_src (s : State) (f : Cj → Cj) : (s.modCj f).src = s.src := rfl
@[simp] theorem State.modCj_granted (s : State) (f : Cj → Cj) : (s.modCj f).granted = s.granted := rfl
@[simp] theorem State.modCj_units (s : State) (f : Cj → Cj) : (s.modCj f).units = s.units := rfl
@[simp] theorem State.modCj_dev (s : State) (f : Cj → Cj) : (s.modCj f).dev = s.dev := rfl
@[simp] theorem State.modCj_gy (s : State) (f : Cj → Cj) : (s.modCj f).gy = s.gy := rfl
@[simp] theorem State.modCj_ln (s : State) (f : Cj → Cj) : (s.modCj f).ln = s.ln := rfl
@[simp] theorem State.modCj_ll (s : State) (f : Cj → Cj) : (s.modCj f).ll = s.ll := rfl
@[simp] theorem State.modCj_cj (s : State) (f : Cj → Cj) : (s.modCj f).cj = f s.cj := rfl
@[simp] theorem State.modCj_ob (s : State) (f : Cj → Cj) : (s.modCj f).ob = s.ob := rfl
@[simp] theorem State.modCj_rng (s : State) (f : Cj → Cj) : (s.modCj f).rng = s.rng := rfl
@[simp] theorem State.modCj_ms (s : State) (f : Cj → Cj) : (s.modCj f).ms = s.ms := rfl
@[simp] theorem State.modCj_rc (s : State) (f : Cj → Cj) : (s.modCj f).rc = s.rc := rfl
@[simp] theorem State.modCj_op1 (s : State) (f : Cj → Cj) : (s.modCj f).op1 = s.op1 := rfl
@[simp] theorem State.modCj_op2 (s : State) (f : Cj → Cj) : (s.modCj f).op2 = s.op2 := rfl
@[simp] theorem State.modCj_sf (s : State) (f : Cj → Cj) : (s.modCj f).sf = s.sf := rfl
@[simp] theorem State.modCj_lp (s : State) (f : Cj → Cj) : (s.modCj f).lp = s.lp := rfl
@[simp] theorem State.modCj_pw (s : State) (f : Cj → Cj) : (s.modCj f).pw = s.pw := rfl
@[simp] theorem State.modCj_sn (s : State) (f : Cj → Cj) : (s.modCj f).sn = s.sn := rfl

@[simp] theorem State.modOb_pending (s : State) (f : Ob → Ob) : (s.modOb f).pending = s.pending := rfl
@[simp] theorem State.modOb_tick (s : State) (f : Ob → Ob) : (s.modOb f).tick = s.tick := rfl
@[simp] theorem State.modOb_free (s : State) (f : Ob → Ob) : (s.modOb f).free = s.free := rfl
@[simp] theorem State.modOb_cells (s : State) (f : Ob → Ob) : (s.modOb f).cells = s.cells := rfl
@[simp] theorem State.modOb_nv (s : State) (f : Ob → Ob) : (s.modOb f).nv = s.nv := rfl
@[simp] theorem State.modOb_port0 (s : State) (f : Ob → Ob) : (s.modOb f).port0 = s.port0 := rfl
@[simp] theorem State.modOb_port1 (s : State) (f : Ob → Ob) : (s.modOb f).port1 = s.port1 := rfl
@[simp] theorem State.modOb_tux (s : State) (f : Ob → Ob) : (s.modOb f).tux = s.tux := rfl
@[simp] theorem State.modOb_tsel (s : State) (f : Ob → Ob) : (s.modOb f).tsel = s.tsel := rfl
@[simp] theorem State.modOb_views (s : State) (f : Ob → Ob) : (s.modOb f).views = s.views := rfl
@[simp] theorem State.modOb_src (s : State) (f : Ob → Ob) : (s.modOb f).src = s.src := rfl
@[simp] theorem State.modOb_granted (s : State) (f : Ob → Ob) : (s.modOb f).granted = s.granted := rfl
@[simp] theorem State.modOb_units (s : State) (f : Ob → Ob) : (s.modOb f).units = s.units := rfl
@[simp] theorem State.modOb_dev (s : State) (f : Ob → Ob) : (s.modOb f).dev = s.dev := rfl
@[simp] theorem State.modOb_gy (s : State) (f : Ob → Ob) : (s.modOb f).gy = s.gy := rfl
@[simp] theorem State.modOb_ln (s : State) (f : Ob → Ob) : (s.modOb f).ln = s.ln := rfl
@[simp] theorem State.modOb_ll (s : State) (f : Ob → Ob) : (s.modOb f).ll = s.ll := rfl
@[simp] theorem State.modOb_cj (s : State) (f : Ob → Ob) : (s.modOb f).cj = s.cj := rfl
@[simp] theorem State.modOb_ob (s : State) (f : Ob → Ob) : (s.modOb f).ob = f s.ob := rfl
@[simp] theorem State.modOb_rng (s : State) (f : Ob → Ob) : (s.modOb f).rng = s.rng := rfl
@[simp] theorem State.modOb_ms (s : State) (f : Ob → Ob) : (s.modOb f).ms = s.ms := rfl
@[simp] theorem State.modOb_rc (s : State) (f : Ob → Ob) : (s.modOb f).rc = s.rc := rfl
@[simp] theorem State.modOb_op1 (s : State) (f : Ob → Ob) : (s.modOb f).op1 = s.op1 := rfl
@[simp] theorem State.modOb_op2 (s : State) (f : Ob → Ob) : (s.modOb f).op2 = s.op2 := rfl
@[simp] theorem State.modOb_sf (s : State) (f : Ob → Ob) : (s.modOb f).sf = s.sf := rfl
@[simp] theorem State.modOb_lp (s : State) (f : Ob → Ob) : (s.modOb f).lp = s.lp := rfl
@[simp] theorem State.modOb_pw (s : State) (f : Ob → Ob) : (s.modOb f).pw = s.pw := rfl
@[simp] theorem State.modOb_sn (s : State) (f : Ob → Ob) : (s.modOb f).sn = s.sn := rfl

@[simp] theorem State.modRng_pending (s : State) (f : Rng → Rng) : (s.modRng f).pending = s.pending := rfl
@[simp] theorem State.modRng_tick (s : State) (f : Rng → Rng) : (s.modRng f).tick = s.tick := rfl
@[simp] theorem State.modRng_free (s : State) (f : Rng → Rng) : (s.modRng f).free = s.free := rfl
@[simp] theorem State.modRng_cells (s : State) (f : Rng → Rng) : (s.modRng f).cells = s.cells := rfl
@[simp] theorem State.modRng_nv (s : State) (f : Rng → Rng) : (s.modRng f).nv = s.nv := rfl
@[simp] theorem State.modRng_port0 (s : State) (f : Rng → Rng) : (s.modRng f).port0 = s.port0 := rfl
@[simp] theorem State.modRng_port1 (s : State) (f : Rng → Rng) : (s.modRng f).port1 = s.port1 := rfl
@[simp] theorem State.modRng_tux (s : State) (f : Rng → Rng) : (s.modRng f).tux = s.tux := rfl
@[simp] theorem State.modRng_tsel (s : State) (f : Rng → Rng) : (s.modRng f).tsel = s.tsel := rfl
@[simp] theorem State.modRng_views (s : State) (f : Rng → Rng) : (s.modRng f).views = s.views := rfl
@[simp] theorem State.modRng_src (s : State) (f : Rng → Rng) : (s.modRng f).src = s.src := rfl
@[simp] theorem State.modRng_granted (s : State) (f : Rng → Rng) : (s.modRng f).granted = s.granted := rfl
@[simp] theorem State.modRng_units (s : State) (f : Rng → Rng) : (s.modRng f).units = s.units := rfl
@[simp] theorem State.modRng_dev (s : State) (f : Rng → Rng) : (s.modRng f).dev = s.dev := rfl
@[simp] theorem State.modRng_gy (s : State) (f : Rng → Rng) : (s.modRng f).gy = s.gy := rfl
@[simp] theorem State.modRng_ln (s : State) (f : Rng → Rng) : (s.modRng f).ln = s.ln := rfl
@[simp] theorem State.modRng_ll (s : State) (f : Rng → Rng) : (s.modRng f).ll = s.ll := rfl
@[simp] theorem State.modRng_cj (s : State) (f : Rng → Rng) : (s.modRng f).cj = s.cj := rfl
@[simp] theorem State.modRng_ob (s : State) (f : Rng → Rng) : (s.modRng f).ob = s.ob := rfl
@[simp] theorem State.modRng_rng (s : State) (f : Rng → Rng) : (s.modRng f).rng = f s.rng := rfl
@[simp] theorem State.modRng_ms (s : State) (f : Rng → Rng) : (s.modRng f).ms = s.ms := rfl
@[simp] theorem State.modRng_rc (s : State) (f : Rng → Rng) : (s.modRng f).rc = s.rc := rfl
@[simp] theorem State.modRng_op1 (s : State) (f : Rng → Rng) : (s.modRng f).op1 = s.op1 := rfl
@[simp] theorem State.modRng_op2 (s : State) (f : Rng → Rng) : (s.modRng f).op2 = s.op2 := rfl
@[simp] theorem State.modRng_sf (s : State) (f : Rng → Rng) : (s.modRng f).sf = s.sf := rfl
@[simp] theorem State.modRng_lp (s : State) (f : Rng → Rng) : (s.modRng f).lp = s.lp := rfl
@[simp] theorem State.modRng_pw (s : State) (f : Rng → Rng) : (s.modRng f).pw = s.pw := rfl
@[simp] theorem State.modRng_sn (s : State) (f : Rng → Rng) : (s.modRng f).sn = s.sn := rfl

@[simp] theorem State.modMs_pending (s : State) (f : Ms → Ms) : (s.modMs f).pending = s.pending := rfl
@[simp] theorem State.modMs_tick (s : State) (f : Ms → Ms) : (s.modMs f).tick = s.tick := rfl
@[simp] theorem State.modMs_free (s : State) (f : Ms → Ms) : (s.modMs f).free = s.free := rfl
@[simp] theorem State.modMs_cells (s : State) (f : Ms → Ms) : (s.modMs f).cells = s.cells := rfl
@[simp] theorem State.modMs_nv (s : State) (f : Ms → Ms) : (s.modMs f).nv = s.nv := rfl
@[simp] theorem State.modMs_port0 (s : State) (f : Ms → Ms) : (s.modMs f).port0 = s.port0 := rfl
@[simp] theorem State.modMs_port1 (s : State) (f : Ms → Ms) : (s.modMs f).port1 = s.port1 := rfl
@[simp] theorem State.modMs_tux (s : State) (f : Ms → Ms) : (s.modMs f).tux = s.tux := rfl
@[simp] theorem State.modMs_tsel (s : State) (f : Ms → Ms) : (s.modMs f).tsel = s.tsel := rfl
@[simp] theorem State.modMs_views (s : State) (f : Ms → Ms) : (s.modMs f).views = s.views := rfl
@[simp] theorem State.modMs_src (s : State) (f : Ms → Ms) : (s.modMs f).src = s.src := rfl
@[simp] theorem State.modMs_granted (s : State) (f : Ms → Ms) : (s.modMs f).granted = s.granted := rfl
@[simp] theorem State.modMs_units (s : State) (f : Ms → Ms) : (s.modMs f).units = s.units := rfl
@[simp] theorem State.modMs_dev (s : State) (f : Ms → Ms) : (s.modMs f).dev = s.dev := rfl
@[simp] theorem State.modMs_gy (s : State) (f : Ms → Ms) : (s.modMs f).gy = s.gy := rfl
@[simp] theorem State.modMs_ln (s : State) (f : Ms → Ms) : (s.modMs f).ln = s.ln := rfl
@[simp] theorem State.modMs_ll (s : State) (f : Ms → Ms) : (s.modMs f).ll = s.ll := rfl
@[simp] theorem State.modMs_cj (s : State) (f : Ms → Ms) : (s.modMs f).cj = s.cj := rfl
@[simp] theorem State.modMs_ob (s : State) (f : Ms → Ms) : (s.modMs f).ob = s.ob := rfl
@[simp] theorem State.modMs_rng (s : State) (f : Ms → Ms) : (s.modMs f).rng = s.rng := rfl
@[simp] theorem State.modMs_ms (s : State) (f : Ms → Ms) : (s.modMs f).ms = f s.ms := rfl
@[simp] theorem State.modMs_rc (s : State) (f : Ms → Ms) : (s.modMs f).rc = s.rc := rfl
@[simp] theorem State.modMs_op1 (s : State) (f : Ms → Ms) : (s.modMs f).op1 = s.op1 := rfl
@[simp] theorem State.modMs_op2 (s : State) (f : Ms → Ms) : (s.modMs f).op2 = s.op2 := rfl
@[simp] theorem State.modMs_sf (s : State) (f : Ms → Ms) : (s.modMs f).sf = s.sf := rfl
@[simp] theorem State.modMs_lp (s : State) (f : Ms → Ms) : (s.modMs f).lp = s.lp := rfl
@[simp] theorem State.modMs_pw (s : State) (f : Ms → Ms) : (s.modMs f).pw = s.pw := rfl
@[simp] theorem State.modMs_sn (s : State) (f : Ms → Ms) : (s.modMs f).sn = s.sn := rfl

@[simp] theorem State.modRc_pending (s : State) (f : Rc → Rc) : (s.modRc f).pending = s.pending := rfl
@[simp] theorem State.modRc_tick (s : State) (f : Rc → Rc) : (s.modRc f).tick = s.tick := rfl
@[simp] theorem State.modRc_free (s : State) (f : Rc → Rc) : (s.modRc f).free = s.free := rfl
@[simp] theorem State.modRc_cells (s : State) (f : Rc → Rc) : (s.modRc f).cells = s.cells := rfl
@[simp] theorem State.modRc_nv (s : State) (f : Rc → Rc) : (s.modRc f).nv = s.nv := rfl
@[simp] theorem State.modRc_port0 (s : State) (f : Rc → Rc) : (s.modRc f).port0 = s.port0 := rfl
@[simp] theorem State.modRc_port1 (s : State) (f : Rc → Rc) : (s.modRc f).port1 = s.port1 := rfl
@[simp] theorem State.modRc_tux (s : State) (f : Rc → Rc) : (s.modRc f).tux = s.tux := rfl
@[simp] theorem State.modRc_tsel (s : State) (f : Rc → Rc) : (s.modRc f).tsel = s.tsel := rfl
@[simp] theorem State.modRc_views (s : State) (f : Rc → Rc) : (s.modRc f).views = s.views := rfl
@[simp] theorem State.modRc_src (s : State) (f : Rc → Rc) : (s.modRc f).src = s.src := rfl
@[simp] theorem State.modRc_granted (s : State) (f : Rc → Rc) : (s.modRc f).granted = s.granted := rfl
@[simp] theorem State.modRc_units (s : State) (f : Rc → Rc) : (s.modRc f).units = s.units := rfl
@[simp] theorem State.modRc_dev (s : State) (f : Rc → Rc) : (s.modRc f).dev = s.dev := rfl
@[simp] theorem State.modRc_gy (s : State) (f : Rc → Rc) : (s.modRc f).gy = s.gy := rfl
@[simp] theorem State.modRc_ln (s : State) (f : Rc → Rc) : (s.modRc f).ln = s.ln := rfl
@[simp] theorem State.modRc_ll (s : State) (f : Rc → Rc) : (s.modRc f).ll = s.ll := rfl
@[simp] theorem State.modRc_cj (s : State) (f : Rc → Rc) : (s.modRc f).cj = s.cj := rfl
@[simp] theorem State.modRc_ob (s : State) (f : Rc → Rc) : (s.modRc f).ob = s.ob := rfl
@[simp] theorem State.modRc_rng (s : State) (f : Rc → Rc) : (s.modRc f).rng = s.rng := rfl
@[simp] theorem State.modRc_ms (s : State) (f : Rc → Rc) : (s.modRc f).ms = s.ms := rfl
@[simp] theorem State.modRc_rc (s : State) (f : Rc → Rc) : (s.modRc f).rc = f s.rc := rfl
@[simp] theorem State.modRc_op1 (s : State) (f : Rc → Rc) : (s.modRc f).op1 = s.op1 := rfl
@[simp] theorem State.modRc_op2 (s : State) (f : Rc → Rc) : (s.modRc f).op2 = s.op2 := rfl
@[simp] theorem State.modRc_sf (s : State) (f : Rc → Rc) : (s.modRc f).sf = s.sf := rfl
@[simp] theorem State.modRc_lp (s : State) (f : Rc → Rc) : (s.modRc f).lp = s.lp := rfl
@[simp] theorem State.modRc_pw (s : State) (f : Rc → Rc) : (s.modRc f).pw = s.pw := rfl
@[simp] theorem State.modRc_sn (s : State) (f : Rc → Rc) : (s.modRc f).sn = s.sn := rfl

@[simp] theorem State.modSf_pending (s : State) (f : Sf → Sf) : (s.modSf f).pending = s.pending := rfl
@[simp] theorem State.modSf_tick (s : State) (f : Sf → Sf) : (s.modSf f).tick = s.tick := rfl
@[simp] theorem State.modSf_free (s : State) (f : Sf → Sf) : (s.modSf f).free = s.free := rfl
@[simp] theorem State.modSf_cells (s : State) (f : Sf → Sf) : (s.modSf f).cells = s.cells := rfl
@[simp] theorem State.modSf_nv (s : State) (f : Sf → Sf) : (s.modSf f).nv = s.nv := rfl
@[simp] theorem State.modSf_port0 (s : State) (f : Sf → Sf) : (s.modSf f).port0 = s.port0 := rfl
@[simp] theorem State.modSf_port1 (s : State) (f : Sf → Sf) : (s.modSf f).port1 = s.port1 := rfl
@[simp] theorem State.modSf_tux (s : State) (f : Sf → Sf) : (s.modSf f).tux = s.tux := rfl
@[simp] theorem State.modSf_tsel (s : State) (f : Sf → Sf) : (s.modSf f).tsel = s.tsel := rfl
@[simp] theorem State.modSf_views (s : State) (f : Sf → Sf) : (s.modSf f).views = s.views := rfl
@[simp] theorem State.modSf_src (s : State) (f : Sf → Sf) : (s.modSf f).src = s.src := rfl
@[simp] theorem State.modSf_granted (s : State) (f : Sf → Sf) : (s.modSf f).granted = s.granted := rfl
@[simp] theorem State.modSf_units (s : State) (f : Sf → Sf) : (s.modSf f).units = s.units := rfl
@[simp] theorem State.modSf_dev (s : State) (f : Sf → Sf) : (s.modSf f).dev = s.dev := rfl
@[simp] theorem State.modSf_gy (s : State) (f : Sf → Sf) : (s.modSf f).gy = s.gy := rfl
@[simp] theorem State.modSf_ln (s : State) (f : Sf → Sf) : (s.modSf f).ln = s.ln := rfl
@[simp] theorem State.modSf_ll (s : State) (f : Sf → Sf) : (s.modSf f).ll = s.ll := rfl
@[simp] theorem State.modSf_cj (s : State) (f : Sf → Sf) : (s.modSf f).cj = s.cj := rfl
@[simp] theorem State.modSf_ob (s : State) (f : Sf → Sf) : (s.modSf f).ob = s.ob := rfl
@[simp] theorem State.modSf_rng (s : State) (f : Sf → Sf) : (s.modSf f).rng = s.rng := rfl
@[simp] theorem State.modSf_ms (s : State) (f : Sf → Sf) : (s.modSf f).ms = s.ms := rfl
@[simp] theorem State.modSf_rc (s : State) (f : Sf → Sf) : (s.modSf f).rc = s.rc := rfl
@[simp] theorem State.modSf_op1 (s : State) (f : Sf → Sf) : (s.modSf f).op1 = s.op1 := rfl
@[simp] theorem State.modSf_op2 (s : State) (f : Sf → Sf) : (s.modSf f).op2 = s.op2 := rfl
@[simp] theorem State.modSf_sf (s : State) (f : Sf → Sf) : (s.modSf f).sf = f s.sf := rfl
@[simp] theorem State.modSf_lp (s : State) (f : Sf → Sf) : (s.modSf f).lp = s.lp := rfl
@[simp] theorem State.modSf_pw (s : State) (f : Sf → Sf) : (s.modSf f).pw = s.pw := rfl
@[simp] theorem State.modSf_sn (s : State) (f : Sf → Sf) : (s.modSf f).sn = s.sn := rfl

@[simp] theorem State.modLp_pending (s : State) (f : Lp → Lp) : (s.modLp f).pending = s.pending := rfl
@[simp] theorem State.modLp_tick (s : State) (f : Lp → Lp) : (s.modLp f).tick = s.tick := rfl
@[simp] theorem State.modLp_free (s : State) (f : Lp → Lp) : (s.modLp f).free = s.free := rfl
@[simp] theorem State.modLp_cells (s : State) (f : Lp → Lp) : (s.modLp f).cells = s.cells := rfl
@[simp] theorem State.modLp_nv (s : State) (f : Lp → Lp) : (s.modLp f).nv = s.nv := rfl
@[simp] theorem State.modLp_port0 (s : State) (f : Lp → Lp) : (s.modLp f).port0 = s.port0 := rfl
@[simp] theorem State.modLp_port1 (s : State) (f : Lp → Lp) : (s.modLp f).port1 = s.port1 := rfl
@[simp] theorem State.modLp_tux (s : State) (f : Lp → Lp) : (s.modLp f).tux = s.tux := rfl
@[simp] theorem State.modLp_tsel (s : State) (f : Lp → Lp) : (s.modLp f).tsel = s.tsel := rfl
@[simp] theorem State.modLp_views (s : State) (f : Lp → Lp) : (s.modLp f).views = s.views := rfl
@[simp] theorem State.modLp_src (s : State) (f : Lp → Lp) : (s.modLp f).src = s.src := rfl
@[simp] theorem State.modLp_granted (s : State) (f : Lp → Lp) : (s.modLp f).granted = s.granted := rfl
@[simp] theorem State.modLp_units (s : State) (f : Lp → Lp) : (s.modLp f).units = s.units := rfl
@[simp] theorem State.modLp_dev (s : State) (f : Lp → Lp) : (s.modLp f).dev = s.dev := rfl
@[simp] theorem State.modLp_gy (s : State) (f : Lp → Lp) : (s.modLp f).gy = s.gy := rfl
@[simp] theorem State.modLp_ln (s : State) (f : Lp → Lp) : (s.modLp f).ln = s.ln := rfl
@[simp] theorem State.modLp_ll (s : State) (f : Lp → Lp) : (s.modLp f).ll = s.ll := rfl
@[simp] theorem State.modLp_cj (s : State) (f : Lp → Lp) : (s.modLp f).cj = s.cj := rfl
@[simp] theorem State.modLp_ob (s : State) (f : Lp → Lp) : (s.modLp f).ob = s.ob := rfl
@[simp] theorem State.modLp_rng (s : State) (f : Lp → Lp) : (s.modLp f).rng = s.rng := rfl
@[simp] theorem State.modLp_ms (s : State) (f : Lp → Lp) : (s.modLp f).ms = s.ms := rfl
@[simp] theorem State.modLp_rc (s : State) (f : Lp → Lp) : (s.modLp f).rc = s.rc := rfl
@[simp] theorem State.modLp_op1 (s : State) (f : Lp → Lp) : (s.modLp f).op1 = s.op1 := rfl
@[simp] theorem State.modLp_op2 (s : State) (f : Lp → Lp) : (s.modLp f).op2 = s.op2 := rfl
@[simp] theorem State.modLp_sf (s : State) (f : Lp → Lp) : (s.modLp f).sf = s.sf := rfl
@[simp] theorem State.modLp_lp (s : State) (f : Lp → Lp) : (s.modLp f).lp = f s.lp := rfl
@[simp] theorem State.modLp_pw (s : State) (f : Lp → Lp) : (s.modLp f).pw = s.pw := rfl
@[simp] theorem State.modLp_sn (s : State) (f : Lp → Lp) : (s.modLp f).sn = s.sn := rfl

@[simp] theorem State.modPw_pending (s : State) (f : Pw → Pw) : (s.modPw f).pending = s.pending := rfl
@[simp] theorem State.modPw_tick (s : State) (f : Pw → Pw) : (s.modPw f).tick = s.tick := rfl
@[simp] theorem State.modPw_free (s : State) (f : Pw → Pw) : (s.modPw f).free = s.free := rfl
@[simp] theorem State.modPw_cells (s : State) (f : Pw → Pw) : (s.modPw f).cells = s.cells := rfl
@[simp] theorem State.modPw_nv (s : State) (f : Pw → Pw) : (s.modPw f).nv = s.nv := rfl
@[simp] theorem State.modPw_port0 (s : State) (f : Pw → Pw) : (s.modPw f).port0 = s.port0 := rfl
@[simp] theorem State.modPw_port1 (s : State) (f : Pw → Pw) : (s.modPw f).port1 = s.port1 := rfl
@[simp] theorem State.modPw_tux (s : State) (f : Pw → Pw) : (s.modPw f).tux = s.tux := rfl
@[simp] theorem State.modPw_tsel (s : State) (f : Pw → Pw) : (s.modPw f).tsel = s.tsel := rfl
@[simp] theorem State.modPw_views (s : State) (f : Pw → Pw) : (s.modPw f).views = s.views := rfl
@[simp] theorem State.modPw_src (s : State) (f : Pw → Pw) : (s.modPw f).src = s.src := rfl
@[simp] theorem State.modPw_granted (s : State) (f : Pw → Pw) : (s.modPw f).granted = s.granted := rfl
@[simp] theorem State.modPw_units (s : State) (f : Pw → Pw) : (s.modPw f).units = s.units := rfl
@[simp] theorem State.modPw_dev (s : State) (f : Pw → Pw) : (s.modPw f).dev = s.dev := rfl
@[simp] theorem State.modPw_gy (s : State) (f : Pw → Pw) : (s.modPw f).gy = s.gy := rfl
@[simp] theorem State.modPw_ln (s : State) (f : Pw → Pw) : (s.modPw f).ln = s.ln := rfl
@[simp] theorem State.modPw_ll (s : State) (f : Pw → Pw) : (s.modPw f).ll = s.ll := rfl
@[simp] theorem State.modPw_cj (s : State) (f : Pw → Pw) : (s.modPw f).cj = s.cj := rfl
@[simp] theorem State.modPw_ob (s : State) (f : Pw → Pw) : (s.modPw f).ob = s.ob := rfl
@[simp] theorem State.modPw_rng (s : State) (f : Pw → Pw) : (s.modPw f).rng = s.rng := rfl
@[simp] theorem State.modPw_ms (s : State) (f : Pw → Pw) : (s.modPw f).ms = s.ms := rfl
@[simp] theorem State.modPw_rc (s : State) (f : Pw → Pw) : (s.modPw f).rc = s.rc := rfl
@[simp] theorem State.modPw_op1 (s : State) (f : Pw → Pw) : (s.modPw f).op1 = s.op1 := rfl
@[simp] theorem State.modPw_op2 (s : State) (f : Pw → Pw) : (s.modPw f).op2 = s.op2 := rfl
@[simp] theorem State.modPw_sf (s : State) (f : Pw → Pw) : (s.modPw f).sf = s.sf := rfl
@[simp] theorem State.modPw_lp (s : State) (f : Pw → Pw) : (s.modPw f).lp = s.lp := rfl
@[simp] theorem State.modPw_pw (s : State) (f : Pw → Pw) : (s.modPw f).pw = f s.pw := rfl
@[simp] theorem State.modPw_sn (s : State) (f : Pw → Pw) : (s.modPw f).sn = s.sn := rfl

@[simp] theorem State.modSn_pending (s : State) (f : Sn → Sn) : (s.modSn f).pending = s.pending := rfl
@[simp] theorem State.modSn_tick (s : State) (f : Sn → Sn) : (s.modSn f).tick = s.tick := rfl
@[simp] theorem State.modSn_free (s : State) (f : Sn → Sn) : (s.modSn f).free = s.free := rfl
@[simp] theorem State.modSn_cells (s : State) (f : Sn → Sn) : (s.modSn f).cells = s.cells := rfl
@[simp] theorem State.modSn_nv (s : State) (f : Sn → Sn) : (s.modSn f).nv = s.nv := rfl
@[simp] theorem State.modSn_port0 (s : State) (f : Sn → Sn) : (s.modSn f).port0 = s.port0 := rfl
@[simp] theorem State.modSn_port1 (s : State) (f : Sn → Sn) : (s.modSn f).port1 = s.port1 := rfl
@[simp] theorem State.modSn_tux (s : State) (f : Sn → Sn) : (s.modSn f).tux = s.tux := rfl
@[simp] theorem State.modSn_tsel (s : State) (f : Sn → Sn) : (s.modSn f).tsel = s.tsel := rfl
@[simp] theorem State.modSn_views (s : State) (f : Sn → Sn) : (s.modSn f).views = s.views := rfl
@[simp] theorem State.modSn_src (s : State) (f : Sn → Sn) : (s.modSn f).src = s.src := rfl
@[simp] theorem State.modSn_granted (s : State) (f : Sn → Sn) : (s.modSn f).granted = s.granted := rfl
@[simp] theorem State.modSn_units (s : State) (f : Sn → Sn) : (s.modSn f).units = s.units := rfl
@[simp] theorem State.modSn_dev (s : State) (f : Sn → Sn) : (s.modSn f).dev = s.dev := rfl
@[simp] theorem State.modSn_gy (s : State) (f : Sn → Sn) : (s.modSn f).gy = s.gy := rfl
@[simp] theorem State.modSn_ln (s : State) (f : Sn → Sn) : (s.modSn f).ln = s.ln := rfl
@[simp] theorem State.modSn_ll (s : State) (f : Sn → Sn) : (s.modSn f).ll = s.ll := rfl
@[simp] theorem State.modSn_cj (s : State) (f : Sn → Sn) : (s.modSn f).cj = s.cj := rfl
@[simp] theorem State.modSn_ob (s : State) (f : Sn → Sn) : (s.modSn f).ob = s.ob := rfl
@[simp] theorem State.modSn_rng (s : State) (f : Sn → Sn) : (s.modSn f).rng = s.rng := rfl
@[simp] theorem State.modSn_ms (s : State) (f : Sn → Sn) : (s.modSn f).ms = s.ms := rfl
@[simp] theorem State.modSn_rc (s : State) (f : Sn → Sn) : (s.modSn f).rc = s.rc := rfl
@[simp] theorem State.modSn_op1 (s : State) (f : Sn → Sn) : (s.modSn f).op1 = s.op1 := rfl
@[simp] theorem State.modSn_op2 (s : State) (f : Sn → Sn) : (s.modSn f).op2 = s.op2 := rfl
@[simp] theorem State.modSn_sf (s : State) (f : Sn → Sn) : (s.modSn f).sf = s.sf := rfl
@[simp] theorem State.modSn_lp (s : State) (f : Sn → Sn) : (s.modSn f).lp = s.lp := rfl
@[simp] theorem State.modSn_pw (s : State) (f : Sn → Sn) : (s.modSn f).pw = s.pw := rfl
@[simp] theorem State.modSn_sn (s : State) (f : Sn → Sn) : (s.modSn f).sn = f s.sn := rfl

@[simp] theorem State.modTux_pending (s : State) (f : Tuichex → Tuichex) : (s.modTux f).pending = s.pending := rfl
@[simp] theorem State.modTux_tick (s : State) (f : Tuichex → Tuichex) : (s.modTux f).tick = s.tick := rfl
@[simp] theorem State.modTux_free (s : State) (f : Tuichex → Tuichex) : (s.modTux f).free = s.free := rfl
@[simp] theorem State.modTux_cells (s : State) (f : Tuichex → Tuichex) : (s.modTux f).cells = s.cells := rfl
@[simp] theorem State.modTux_nv (s : State) (f : Tuichex → Tuichex) : (s.modTux f).nv = s.nv := rfl
@[simp] theorem State.modTux_port0 (s : State) (f : Tuichex → Tuichex) : (s.modTux f).port0 = s.port0 := rfl
@[simp] theorem State.modTux_port1 (s : State) (f : Tuichex → Tuichex) : (s.modTux f).port1 = s.port1 := rfl
@[simp] theorem State.modTux_tux (s : State) (f : Tuichex → Tuichex) : (s.modTux f).tux = f s.tux := rfl
@[simp] theorem State.modTux_tsel (s : State) (f : Tuichex → Tuichex) : (s.modTux f).tsel = s.tsel := rfl
@[simp] theorem State.modTux_views (s : State) (f : Tuichex → Tuichex) : (s.modTux f).views = s.views := rfl
@[simp] theorem State.modTux_src (s : State) (f : Tuichex → Tuichex) : (s.modTux f).src = s.src := rfl
@[simp] theorem State.modTux_granted (s : State) (f : Tuichex → Tuichex) : (s.modTux f).granted = s.granted := rfl
@[simp] theorem State.modTux_units (s : State) (f : Tuichex → Tuichex) : (s.modTux f).units = s.units := rfl
@[simp] theorem State.modTux_dev (s : State) (f : Tuichex → Tuichex) : (s.modTux f).dev = s.dev := rfl
@[simp] theorem State.modTux_gy (s : State) (f : Tuichex → Tuichex) : (s.modTux f).gy = s.gy := rfl
@[simp] theorem State.modTux_ln (s : State) (f : Tuichex → Tuichex) : (s.modTux f).ln = s.ln := rfl
@[simp] theorem State.modTux_ll (s : State) (f : Tuichex → Tuichex) : (s.modTux f).ll = s.ll := rfl
@[simp] theorem State.modTux_cj (s : State) (f : Tuichex → Tuichex) : (s.modTux f).cj = s.cj := rfl
@[simp] theorem State.modTux_ob (s : State) (f : Tuichex → Tuichex) : (s.modTux f).ob = s.ob := rfl
@[simp] theorem State.modTux_rng (s : State) (f : Tuichex → Tuichex) : (s.modTux f).rng = s.rng := rfl
@[simp] theorem State.modTux_ms (s : State) (f : Tuichex → Tuichex) : (s.modTux f).ms = s.ms := rfl
@[simp] theorem State.modTux_rc (s : State) (f : Tuichex → Tuichex) : (s.modTux f).rc = s.rc := rfl
@[simp] theorem State.modTux_op1 (s : State) (f : Tuichex → Tuichex) : (s.modTux f).op1 = s.op1 := rfl
@[simp] theorem State.modTux_op2 (s : State) (f : Tuichex → Tuichex) : (s.modTux f).op2 = s.op2 := rfl
@[simp] theorem State.modTux_sf (s : State) (f : Tuichex → Tuichex) : (s.modTux f).sf = s.sf := rfl
@[simp] theorem State.modTux_lp (s : State) (f : Tuichex → Tuichex) : (s.modTux f).lp = s.lp := rfl
@[simp] theorem State.modTux_pw (s : State) (f : Tuichex → Tuichex) : (s.modTux f).pw = s.pw := rfl
@[simp] theorem State.modTux_sn (s : State) (f : Tuichex → Tuichex) : (s.modTux f).sn = s.sn := rfl

@[simp] theorem State.advance_pending (s : State) (n : Nat) : (State.advance n s).pending = s.pending := rfl
@[simp] theorem State.advance_tick (s : State) (n : Nat) : (State.advance n s).tick = s.tick + n := rfl
@[simp] theorem State.advance_free (s : State) (n : Nat) : (State.advance n s).free = s.free := rfl
@[simp] theorem State.advance_cells (s : State) (n : Nat) : (State.advance n s).cells = s.cells := rfl
@[simp] theorem State.advance_nv (s : State) (n : Nat) : (State.advance n s).nv = s.nv := rfl
@[simp] theorem State.advance_port0 (s : State) (n : Nat) : (State.advance n s).port0 = s.port0 := rfl
@[simp] theorem State.advance_port1 (s : State) (n : Nat) : (State.advance n s).port1 = s.port1 := rfl
@[simp] theorem State.advance_tux (s : State) (n : Nat) : (State.advance n s).tux = s.tux := rfl
@[simp] theorem State.advance_tsel (s : State) (n : Nat) : (State.advance n s).tsel = s.tsel := rfl
@[simp] theorem State.advance_views (s : State) (n : Nat) : (State.advance n s).views = s.views := rfl
@[simp] theorem State.advance_src (s : State) (n : Nat) : (State.advance n s).src = s.src := rfl
@[simp] theorem State.advance_granted (s : State) (n : Nat) : (State.advance n s).granted = s.granted := rfl
@[simp] theorem State.advance_units (s : State) (n : Nat) : (State.advance n s).units = s.units := rfl
@[simp] theorem State.advance_dev (s : State) (n : Nat) : (State.advance n s).dev = s.dev := rfl
@[simp] theorem State.advance_ln (s : State) (n : Nat) : (State.advance n s).ln = s.ln := rfl
@[simp] theorem State.advance_ll (s : State) (n : Nat) : (State.advance n s).ll = s.ll := rfl
@[simp] theorem State.advance_cj (s : State) (n : Nat) : (State.advance n s).cj = s.cj := rfl
@[simp] theorem State.advance_ob (s : State) (n : Nat) : (State.advance n s).ob = s.ob := rfl
@[simp] theorem State.advance_rng (s : State) (n : Nat) : (State.advance n s).rng = s.rng := rfl
@[simp] theorem State.advance_ms (s : State) (n : Nat) : (State.advance n s).ms = s.ms := rfl
@[simp] theorem State.advance_rc (s : State) (n : Nat) : (State.advance n s).rc = s.rc := rfl
@[simp] theorem State.advance_op1 (s : State) (n : Nat) : (State.advance n s).op1 = s.op1 := rfl
@[simp] theorem State.advance_op2 (s : State) (n : Nat) : (State.advance n s).op2 = s.op2 := rfl
@[simp] theorem State.advance_sf (s : State) (n : Nat) : (State.advance n s).sf = s.sf := rfl
@[simp] theorem State.advance_lp (s : State) (n : Nat) : (State.advance n s).lp = s.lp := rfl
@[simp] theorem State.advance_pw (s : State) (n : Nat) : (State.advance n s).pw = s.pw := rfl
@[simp] theorem State.advance_sn (s : State) (n : Nat) : (State.advance n s).sn = s.sn := rfl

@[simp] theorem State.draw_pending (s : State) : s.draw.2.pending = s.pending := rfl
@[simp] theorem State.draw_tick (s : State) : s.draw.2.tick = s.tick := rfl
@[simp] theorem State.draw_free (s : State) : s.draw.2.free = s.free + 1 := rfl
@[simp] theorem State.draw_cells (s : State) : s.draw.2.cells = s.cells := rfl
@[simp] theorem State.draw_nv (s : State) : s.draw.2.nv = s.nv := rfl
@[simp] theorem State.draw_port0 (s : State) : s.draw.2.port0 = s.port0 := rfl
@[simp] theorem State.draw_port1 (s : State) : s.draw.2.port1 = s.port1 := rfl
@[simp] theorem State.draw_tux (s : State) : s.draw.2.tux = s.tux := rfl
@[simp] theorem State.draw_tsel (s : State) : s.draw.2.tsel = s.tsel := rfl
@[simp] theorem State.draw_views (s : State) : s.draw.2.views = s.views := rfl
@[simp] theorem State.draw_src (s : State) : s.draw.2.src = s.src := rfl
@[simp] theorem State.draw_granted (s : State) : s.draw.2.granted = s.granted := rfl
@[simp] theorem State.draw_units (s : State) : s.draw.2.units = s.units := rfl
@[simp] theorem State.draw_dev (s : State) : s.draw.2.dev = s.dev := rfl
@[simp] theorem State.draw_gy (s : State) : s.draw.2.gy = s.gy := rfl
@[simp] theorem State.draw_ln (s : State) : s.draw.2.ln = s.ln := rfl
@[simp] theorem State.draw_ll (s : State) : s.draw.2.ll = s.ll := rfl
@[simp] theorem State.draw_cj (s : State) : s.draw.2.cj = s.cj := rfl
@[simp] theorem State.draw_ob (s : State) : s.draw.2.ob = s.ob := rfl
@[simp] theorem State.draw_rng (s : State) : s.draw.2.rng = s.rng := rfl
@[simp] theorem State.draw_ms (s : State) : s.draw.2.ms = s.ms := rfl
@[simp] theorem State.draw_rc (s : State) : s.draw.2.rc = s.rc := rfl
@[simp] theorem State.draw_op1 (s : State) : s.draw.2.op1 = s.op1 := rfl
@[simp] theorem State.draw_op2 (s : State) : s.draw.2.op2 = s.op2 := rfl
@[simp] theorem State.draw_sf (s : State) : s.draw.2.sf = s.sf := rfl
@[simp] theorem State.draw_lp (s : State) : s.draw.2.lp = s.lp := rfl
@[simp] theorem State.draw_pw (s : State) : s.draw.2.pw = s.pw := rfl
@[simp] theorem State.draw_sn (s : State) : s.draw.2.sn = s.sn := rfl

@[simp] theorem State.raise_pending (s : State) (u : Src) (e : Ev) : (s.raise u e).pending = s.pending := rfl
@[simp] theorem State.raise_tick (s : State) (u : Src) (e : Ev) : (s.raise u e).tick = s.tick := rfl
@[simp] theorem State.raise_free (s : State) (u : Src) (e : Ev) : (s.raise u e).free = s.free := rfl
@[simp] theorem State.raise_cells (s : State) (u : Src) (e : Ev) : (s.raise u e).cells = s.cells := rfl
@[simp] theorem State.raise_nv (s : State) (u : Src) (e : Ev) : (s.raise u e).nv = s.nv := rfl
@[simp] theorem State.raise_port0 (s : State) (u : Src) (e : Ev) : (s.raise u e).port0 = s.port0 := rfl
@[simp] theorem State.raise_port1 (s : State) (u : Src) (e : Ev) : (s.raise u e).port1 = s.port1 := rfl
@[simp] theorem State.raise_tux (s : State) (u : Src) (e : Ev) : (s.raise u e).tux = s.tux := rfl
@[simp] theorem State.raise_tsel (s : State) (u : Src) (e : Ev) : (s.raise u e).tsel = s.tsel := rfl
@[simp] theorem State.raise_views (s : State) (u : Src) (e : Ev) : (s.raise u e).views = s.views := rfl
@[simp] theorem State.raise_granted (s : State) (u : Src) (e : Ev) : (s.raise u e).granted = s.granted := rfl
@[simp] theorem State.raise_units (s : State) (u : Src) (e : Ev) : (s.raise u e).units = s.units := rfl
@[simp] theorem State.raise_dev (s : State) (u : Src) (e : Ev) : (s.raise u e).dev = s.dev := rfl
@[simp] theorem State.raise_gy (s : State) (u : Src) (e : Ev) : (s.raise u e).gy = s.gy := rfl
@[simp] theorem State.raise_ln (s : State) (u : Src) (e : Ev) : (s.raise u e).ln = s.ln := rfl
@[simp] theorem State.raise_ll (s : State) (u : Src) (e : Ev) : (s.raise u e).ll = s.ll := rfl
@[simp] theorem State.raise_cj (s : State) (u : Src) (e : Ev) : (s.raise u e).cj = s.cj := rfl
@[simp] theorem State.raise_ob (s : State) (u : Src) (e : Ev) : (s.raise u e).ob = s.ob := rfl
@[simp] theorem State.raise_rng (s : State) (u : Src) (e : Ev) : (s.raise u e).rng = s.rng := rfl
@[simp] theorem State.raise_ms (s : State) (u : Src) (e : Ev) : (s.raise u e).ms = s.ms := rfl
@[simp] theorem State.raise_rc (s : State) (u : Src) (e : Ev) : (s.raise u e).rc = s.rc := rfl
@[simp] theorem State.raise_op1 (s : State) (u : Src) (e : Ev) : (s.raise u e).op1 = s.op1 := rfl
@[simp] theorem State.raise_op2 (s : State) (u : Src) (e : Ev) : (s.raise u e).op2 = s.op2 := rfl
@[simp] theorem State.raise_sf (s : State) (u : Src) (e : Ev) : (s.raise u e).sf = s.sf := rfl
@[simp] theorem State.raise_lp (s : State) (u : Src) (e : Ev) : (s.raise u e).lp = s.lp := rfl
@[simp] theorem State.raise_pw (s : State) (u : Src) (e : Ev) : (s.raise u e).pw = s.pw := rfl
@[simp] theorem State.raise_sn (s : State) (u : Src) (e : Ev) : (s.raise u e).sn = s.sn := rfl

@[simp] theorem State.raiseCommon_pending (s : State) (u : Src) (a c x : Nat) : (s.raiseCommon u a c x).pending = s.pending := rfl
@[simp] theorem State.raiseCommon_tick (s : State) (u : Src) (a c x : Nat) : (s.raiseCommon u a c x).tick = s.tick := rfl
@[simp] theorem State.raiseCommon_free (s : State) (u : Src) (a c x : Nat) : (s.raiseCommon u a c x).free = s.free := rfl
@[simp] theorem State.raiseCommon_cells (s : State) (u : Src) (a c x : Nat) : (s.raiseCommon u a c x).cells = s.cells := rfl
@[simp] theorem State.raiseCommon_nv (s : State) (u : Src) (a c x : Nat) : (s.raiseCommon u a c x).nv = s.nv := rfl
@[simp] theorem State.raiseCommon_port0 (s : State) (u : Src) (a c x : Nat) : (s.raiseCommon u a c x).port0 = s.port0 := rfl
@[simp] theorem State.raiseCommon_port1 (s : State) (u : Src) (a c x : Nat) : (s.raiseCommon u a c x).port1 = s.port1 := rfl
@[simp] theorem State.raiseCommon_tux (s : State) (u : Src) (a c x : Nat) : (s.raiseCommon u a c x).tux = s.tux := rfl
@[simp] theorem State.raiseCommon_tsel (s : State) (u : Src) (a c x : Nat) : (s.raiseCommon u a c x).tsel = s.tsel := rfl
@[simp] theorem State.raiseCommon_views (s : State) (u : Src) (a c x : Nat) : (s.raiseCommon u a c x).views = s.views := rfl
@[simp] theorem State.raiseCommon_granted (s : State) (u : Src) (a c x : Nat) : (s.raiseCommon u a c x).granted = s.granted := rfl
@[simp] theorem State.raiseCommon_units (s : State) (u : Src) (a c x : Nat) : (s.raiseCommon u a c x).units = s.units := rfl
@[simp] theorem State.raiseCommon_dev (s : State) (u : Src) (a c x : Nat) : (s.raiseCommon u a c x).dev = s.dev := rfl
@[simp] theorem State.raiseCommon_gy (s : State) (u : Src) (a c x : Nat) : (s.raiseCommon u a c x).gy = s.gy := rfl
@[simp] theorem State.raiseCommon_ln (s : State) (u : Src) (a c x : Nat) : (s.raiseCommon u a c x).ln = s.ln := rfl
@[simp] theorem State.raiseCommon_ll (s : State) (u : Src) (a c x : Nat) : (s.raiseCommon u a c x).ll = s.ll := rfl
@[simp] theorem State.raiseCommon_cj (s : State) (u : Src) (a c x : Nat) : (s.raiseCommon u a c x).cj = s.cj := rfl
@[simp] theorem State.raiseCommon_ob (s : State) (u : Src) (a c x : Nat) : (s.raiseCommon u a c x).ob = s.ob := rfl
@[simp] theorem State.raiseCommon_rng (s : State) (u : Src) (a c x : Nat) : (s.raiseCommon u a c x).rng = s.rng := rfl
@[simp] theorem State.raiseCommon_ms (s : State) (u : Src) (a c x : Nat) : (s.raiseCommon u a c x).ms = s.ms := rfl
@[simp] theorem State.raiseCommon_rc (s : State) (u : Src) (a c x : Nat) : (s.raiseCommon u a c x).rc = s.rc := rfl
@[simp] theorem State.raiseCommon_op1 (s : State) (u : Src) (a c x : Nat) : (s.raiseCommon u a c x).op1 = s.op1 := rfl
@[simp] theorem State.raiseCommon_op2 (s : State) (u : Src) (a c x : Nat) : (s.raiseCommon u a c x).op2 = s.op2 := rfl
@[simp] theorem State.raiseCommon_sf (s : State) (u : Src) (a c x : Nat) : (s.raiseCommon u a c x).sf = s.sf := rfl
@[simp] theorem State.raiseCommon_lp (s : State) (u : Src) (a c x : Nat) : (s.raiseCommon u a c x).lp = s.lp := rfl
@[simp] theorem State.raiseCommon_pw (s : State) (u : Src) (a c x : Nat) : (s.raiseCommon u a c x).pw = s.pw := rfl
@[simp] theorem State.raiseCommon_sn (s : State) (u : Src) (a c x : Nat) : (s.raiseCommon u a c x).sn = s.sn := rfl

@[simp] theorem State.raiseTenant_pending (s : State) (u : Src) (t a c x : Nat) : (s.raiseTenant u t a c x).pending = s.pending := rfl
@[simp] theorem State.raiseTenant_tick (s : State) (u : Src) (t a c x : Nat) : (s.raiseTenant u t a c x).tick = s.tick := rfl
@[simp] theorem State.raiseTenant_free (s : State) (u : Src) (t a c x : Nat) : (s.raiseTenant u t a c x).free = s.free := rfl
@[simp] theorem State.raiseTenant_cells (s : State) (u : Src) (t a c x : Nat) : (s.raiseTenant u t a c x).cells = s.cells := rfl
@[simp] theorem State.raiseTenant_nv (s : State) (u : Src) (t a c x : Nat) : (s.raiseTenant u t a c x).nv = s.nv := rfl
@[simp] theorem State.raiseTenant_port0 (s : State) (u : Src) (t a c x : Nat) : (s.raiseTenant u t a c x).port0 = s.port0 := rfl
@[simp] theorem State.raiseTenant_port1 (s : State) (u : Src) (t a c x : Nat) : (s.raiseTenant u t a c x).port1 = s.port1 := rfl
@[simp] theorem State.raiseTenant_tux (s : State) (u : Src) (t a c x : Nat) : (s.raiseTenant u t a c x).tux = s.tux := rfl
@[simp] theorem State.raiseTenant_tsel (s : State) (u : Src) (t a c x : Nat) : (s.raiseTenant u t a c x).tsel = s.tsel := rfl
@[simp] theorem State.raiseTenant_views (s : State) (u : Src) (t a c x : Nat) : (s.raiseTenant u t a c x).views = s.views := rfl
@[simp] theorem State.raiseTenant_granted (s : State) (u : Src) (t a c x : Nat) : (s.raiseTenant u t a c x).granted = s.granted := rfl
@[simp] theorem State.raiseTenant_units (s : State) (u : Src) (t a c x : Nat) : (s.raiseTenant u t a c x).units = s.units := rfl
@[simp] theorem State.raiseTenant_dev (s : State) (u : Src) (t a c x : Nat) : (s.raiseTenant u t a c x).dev = s.dev := rfl
@[simp] theorem State.raiseTenant_gy (s : State) (u : Src) (t a c x : Nat) : (s.raiseTenant u t a c x).gy = s.gy := rfl
@[simp] theorem State.raiseTenant_ln (s : State) (u : Src) (t a c x : Nat) : (s.raiseTenant u t a c x).ln = s.ln := rfl
@[simp] theorem State.raiseTenant_ll (s : State) (u : Src) (t a c x : Nat) : (s.raiseTenant u t a c x).ll = s.ll := rfl
@[simp] theorem State.raiseTenant_cj (s : State) (u : Src) (t a c x : Nat) : (s.raiseTenant u t a c x).cj = s.cj := rfl
@[simp] theorem State.raiseTenant_ob (s : State) (u : Src) (t a c x : Nat) : (s.raiseTenant u t a c x).ob = s.ob := rfl
@[simp] theorem State.raiseTenant_rng (s : State) (u : Src) (t a c x : Nat) : (s.raiseTenant u t a c x).rng = s.rng := rfl
@[simp] theorem State.raiseTenant_ms (s : State) (u : Src) (t a c x : Nat) : (s.raiseTenant u t a c x).ms = s.ms := rfl
@[simp] theorem State.raiseTenant_rc (s : State) (u : Src) (t a c x : Nat) : (s.raiseTenant u t a c x).rc = s.rc := rfl
@[simp] theorem State.raiseTenant_op1 (s : State) (u : Src) (t a c x : Nat) : (s.raiseTenant u t a c x).op1 = s.op1 := rfl
@[simp] theorem State.raiseTenant_op2 (s : State) (u : Src) (t a c x : Nat) : (s.raiseTenant u t a c x).op2 = s.op2 := rfl
@[simp] theorem State.raiseTenant_sf (s : State) (u : Src) (t a c x : Nat) : (s.raiseTenant u t a c x).sf = s.sf := rfl
@[simp] theorem State.raiseTenant_lp (s : State) (u : Src) (t a c x : Nat) : (s.raiseTenant u t a c x).lp = s.lp := rfl
@[simp] theorem State.raiseTenant_pw (s : State) (u : Src) (t a c x : Nat) : (s.raiseTenant u t a c x).pw = s.pw := rfl
@[simp] theorem State.raiseTenant_sn (s : State) (u : Src) (t a c x : Nat) : (s.raiseTenant u t a c x).sn = s.sn := rfl

@[simp] theorem State.raiseDone_pending (s : State) (u : Src) (t g : Nat) (x : Oc) (r : Nat) : (s.raiseDone u t g x r).pending = s.pending := rfl
@[simp] theorem State.raiseDone_tick (s : State) (u : Src) (t g : Nat) (x : Oc) (r : Nat) : (s.raiseDone u t g x r).tick = s.tick := rfl
@[simp] theorem State.raiseDone_free (s : State) (u : Src) (t g : Nat) (x : Oc) (r : Nat) : (s.raiseDone u t g x r).free = s.free := rfl
@[simp] theorem State.raiseDone_cells (s : State) (u : Src) (t g : Nat) (x : Oc) (r : Nat) : (s.raiseDone u t g x r).cells = s.cells := rfl
@[simp] theorem State.raiseDone_nv (s : State) (u : Src) (t g : Nat) (x : Oc) (r : Nat) : (s.raiseDone u t g x r).nv = s.nv := rfl
@[simp] theorem State.raiseDone_port0 (s : State) (u : Src) (t g : Nat) (x : Oc) (r : Nat) : (s.raiseDone u t g x r).port0 = s.port0 := rfl
@[simp] theorem State.raiseDone_port1 (s : State) (u : Src) (t g : Nat) (x : Oc) (r : Nat) : (s.raiseDone u t g x r).port1 = s.port1 := rfl
@[simp] theorem State.raiseDone_tux (s : State) (u : Src) (t g : Nat) (x : Oc) (r : Nat) : (s.raiseDone u t g x r).tux = s.tux := rfl
@[simp] theorem State.raiseDone_tsel (s : State) (u : Src) (t g : Nat) (x : Oc) (r : Nat) : (s.raiseDone u t g x r).tsel = s.tsel := rfl
@[simp] theorem State.raiseDone_views (s : State) (u : Src) (t g : Nat) (x : Oc) (r : Nat) : (s.raiseDone u t g x r).views = s.views := rfl
@[simp] theorem State.raiseDone_granted (s : State) (u : Src) (t g : Nat) (x : Oc) (r : Nat) : (s.raiseDone u t g x r).granted = s.granted := rfl
@[simp] theorem State.raiseDone_units (s : State) (u : Src) (t g : Nat) (x : Oc) (r : Nat) : (s.raiseDone u t g x r).units = s.units := rfl
@[simp] theorem State.raiseDone_dev (s : State) (u : Src) (t g : Nat) (x : Oc) (r : Nat) : (s.raiseDone u t g x r).dev = s.dev := rfl
@[simp] theorem State.raiseDone_gy (s : State) (u : Src) (t g : Nat) (x : Oc) (r : Nat) : (s.raiseDone u t g x r).gy = s.gy := rfl
@[simp] theorem State.raiseDone_ln (s : State) (u : Src) (t g : Nat) (x : Oc) (r : Nat) : (s.raiseDone u t g x r).ln = s.ln := rfl
@[simp] theorem State.raiseDone_ll (s : State) (u : Src) (t g : Nat) (x : Oc) (r : Nat) : (s.raiseDone u t g x r).ll = s.ll := rfl
@[simp] theorem State.raiseDone_cj (s : State) (u : Src) (t g : Nat) (x : Oc) (r : Nat) : (s.raiseDone u t g x r).cj = s.cj := rfl
@[simp] theorem State.raiseDone_ob (s : State) (u : Src) (t g : Nat) (x : Oc) (r : Nat) : (s.raiseDone u t g x r).ob = s.ob := rfl
@[simp] theorem State.raiseDone_rng (s : State) (u : Src) (t g : Nat) (x : Oc) (r : Nat) : (s.raiseDone u t g x r).rng = s.rng := rfl
@[simp] theorem State.raiseDone_ms (s : State) (u : Src) (t g : Nat) (x : Oc) (r : Nat) : (s.raiseDone u t g x r).ms = s.ms := rfl
@[simp] theorem State.raiseDone_rc (s : State) (u : Src) (t g : Nat) (x : Oc) (r : Nat) : (s.raiseDone u t g x r).rc = s.rc := rfl
@[simp] theorem State.raiseDone_op1 (s : State) (u : Src) (t g : Nat) (x : Oc) (r : Nat) : (s.raiseDone u t g x r).op1 = s.op1 := rfl
@[simp] theorem State.raiseDone_op2 (s : State) (u : Src) (t g : Nat) (x : Oc) (r : Nat) : (s.raiseDone u t g x r).op2 = s.op2 := rfl
@[simp] theorem State.raiseDone_sf (s : State) (u : Src) (t g : Nat) (x : Oc) (r : Nat) : (s.raiseDone u t g x r).sf = s.sf := rfl
@[simp] theorem State.raiseDone_lp (s : State) (u : Src) (t g : Nat) (x : Oc) (r : Nat) : (s.raiseDone u t g x r).lp = s.lp := rfl
@[simp] theorem State.raiseDone_pw (s : State) (u : Src) (t g : Nat) (x : Oc) (r : Nat) : (s.raiseDone u t g x r).pw = s.pw := rfl
@[simp] theorem State.raiseDone_sn (s : State) (u : Src) (t g : Nat) (x : Oc) (r : Nat) : (s.raiseDone u t g x r).sn = s.sn := rfl

@[simp] theorem State.modPort_pending (s : State) (p : PortId) (f : Port → Port) : (s.modPort p f).pending = s.pending := by cases p <;> rfl
@[simp] theorem State.modPort_tick (s : State) (p : PortId) (f : Port → Port) : (s.modPort p f).tick = s.tick := by cases p <;> rfl
@[simp] theorem State.modPort_free (s : State) (p : PortId) (f : Port → Port) : (s.modPort p f).free = s.free := by cases p <;> rfl
@[simp] theorem State.modPort_cells (s : State) (p : PortId) (f : Port → Port) : (s.modPort p f).cells = s.cells := by cases p <;> rfl
@[simp] theorem State.modPort_nv (s : State) (p : PortId) (f : Port → Port) : (s.modPort p f).nv = s.nv := by cases p <;> rfl
@[simp] theorem State.modPort_tux (s : State) (p : PortId) (f : Port → Port) : (s.modPort p f).tux = s.tux := by cases p <;> rfl
@[simp] theorem State.modPort_tsel (s : State) (p : PortId) (f : Port → Port) : (s.modPort p f).tsel = s.tsel := by cases p <;> rfl
@[simp] theorem State.modPort_views (s : State) (p : PortId) (f : Port → Port) : (s.modPort p f).views = s.views := by cases p <;> rfl
@[simp] theorem State.modPort_src (s : State) (p : PortId) (f : Port → Port) : (s.modPort p f).src = s.src := by cases p <;> rfl
@[simp] theorem State.modPort_granted (s : State) (p : PortId) (f : Port → Port) : (s.modPort p f).granted = s.granted := by cases p <;> rfl
@[simp] theorem State.modPort_units (s : State) (p : PortId) (f : Port → Port) : (s.modPort p f).units = s.units := by cases p <;> rfl
@[simp] theorem State.modPort_dev (s : State) (p : PortId) (f : Port → Port) : (s.modPort p f).dev = s.dev := by cases p <;> rfl
@[simp] theorem State.modPort_gy (s : State) (p : PortId) (f : Port → Port) : (s.modPort p f).gy = s.gy := by cases p <;> rfl
@[simp] theorem State.modPort_ln (s : State) (p : PortId) (f : Port → Port) : (s.modPort p f).ln = s.ln := by cases p <;> rfl
@[simp] theorem State.modPort_ll (s : State) (p : PortId) (f : Port → Port) : (s.modPort p f).ll = s.ll := by cases p <;> rfl
@[simp] theorem State.modPort_cj (s : State) (p : PortId) (f : Port → Port) : (s.modPort p f).cj = s.cj := by cases p <;> rfl
@[simp] theorem State.modPort_ob (s : State) (p : PortId) (f : Port → Port) : (s.modPort p f).ob = s.ob := by cases p <;> rfl
@[simp] theorem State.modPort_rng (s : State) (p : PortId) (f : Port → Port) : (s.modPort p f).rng = s.rng := by cases p <;> rfl
@[simp] theorem State.modPort_ms (s : State) (p : PortId) (f : Port → Port) : (s.modPort p f).ms = s.ms := by cases p <;> rfl
@[simp] theorem State.modPort_rc (s : State) (p : PortId) (f : Port → Port) : (s.modPort p f).rc = s.rc := by cases p <;> rfl
@[simp] theorem State.modPort_op1 (s : State) (p : PortId) (f : Port → Port) : (s.modPort p f).op1 = s.op1 := by cases p <;> rfl
@[simp] theorem State.modPort_op2 (s : State) (p : PortId) (f : Port → Port) : (s.modPort p f).op2 = s.op2 := by cases p <;> rfl
@[simp] theorem State.modPort_sf (s : State) (p : PortId) (f : Port → Port) : (s.modPort p f).sf = s.sf := by cases p <;> rfl
@[simp] theorem State.modPort_lp (s : State) (p : PortId) (f : Port → Port) : (s.modPort p f).lp = s.lp := by cases p <;> rfl
@[simp] theorem State.modPort_pw (s : State) (p : PortId) (f : Port → Port) : (s.modPort p f).pw = s.pw := by cases p <;> rfl
@[simp] theorem State.modPort_sn (s : State) (p : PortId) (f : Port → Port) : (s.modPort p f).sn = s.sn := by cases p <;> rfl
@[simp] theorem State.modPort_port (s : State) (p : PortId) (f : Port → Port) : (s.modPort p f).port p = f (s.port p) := by cases p <;> rfl

@[simp] theorem State.wr_pending (s : State) (t e : Nat) (w : Word) : (s.wr t e w).pending = s.pending := by simp only [State.wr]; split <;> rfl
@[simp] theorem State.wr_tick (s : State) (t e : Nat) (w : Word) : (s.wr t e w).tick = s.tick := by simp only [State.wr]; split <;> rfl
@[simp] theorem State.wr_free (s : State) (t e : Nat) (w : Word) : (s.wr t e w).free = s.free := by simp only [State.wr]; split <;> rfl
@[simp] theorem State.wr_nv (s : State) (t e : Nat) (w : Word) : (s.wr t e w).nv = s.nv := by simp only [State.wr]; split <;> rfl
@[simp] theorem State.wr_port0 (s : State) (t e : Nat) (w : Word) : (s.wr t e w).port0 = s.port0 := by simp only [State.wr]; split <;> rfl
@[simp] theorem State.wr_port1 (s : State) (t e : Nat) (w : Word) : (s.wr t e w).port1 = s.port1 := by simp only [State.wr]; split <;> rfl
@[simp] theorem State.wr_tux (s : State) (t e : Nat) (w : Word) : (s.wr t e w).tux = s.tux := by simp only [State.wr]; split <;> rfl
@[simp] theorem State.wr_tsel (s : State) (t e : Nat) (w : Word) : (s.wr t e w).tsel = s.tsel := by simp only [State.wr]; split <;> rfl
@[simp] theorem State.wr_views (s : State) (t e : Nat) (w : Word) : (s.wr t e w).views = s.views := by simp only [State.wr]; split <;> rfl
@[simp] theorem State.wr_src (s : State) (t e : Nat) (w : Word) : (s.wr t e w).src = s.src := by simp only [State.wr]; split <;> rfl
@[simp] theorem State.wr_granted (s : State) (t e : Nat) (w : Word) : (s.wr t e w).granted = s.granted := by simp only [State.wr]; split <;> rfl
@[simp] theorem State.wr_units (s : State) (t e : Nat) (w : Word) : (s.wr t e w).units = s.units := by simp only [State.wr]; split <;> rfl
@[simp] theorem State.wr_dev (s : State) (t e : Nat) (w : Word) : (s.wr t e w).dev = s.dev := by simp only [State.wr]; split <;> rfl
@[simp] theorem State.wr_gy (s : State) (t e : Nat) (w : Word) : (s.wr t e w).gy = s.gy := by simp only [State.wr]; split <;> rfl
@[simp] theorem State.wr_ln (s : State) (t e : Nat) (w : Word) : (s.wr t e w).ln = s.ln := by simp only [State.wr]; split <;> rfl
@[simp] theorem State.wr_ll (s : State) (t e : Nat) (w : Word) : (s.wr t e w).ll = s.ll := by simp only [State.wr]; split <;> rfl
@[simp] theorem State.wr_cj (s : State) (t e : Nat) (w : Word) : (s.wr t e w).cj = s.cj := by simp only [State.wr]; split <;> rfl
@[simp] theorem State.wr_ob (s : State) (t e : Nat) (w : Word) : (s.wr t e w).ob = s.ob := by simp only [State.wr]; split <;> rfl
@[simp] theorem State.wr_rng (s : State) (t e : Nat) (w : Word) : (s.wr t e w).rng = s.rng := by simp only [State.wr]; split <;> rfl
@[simp] theorem State.wr_ms (s : State) (t e : Nat) (w : Word) : (s.wr t e w).ms = s.ms := by simp only [State.wr]; split <;> rfl
@[simp] theorem State.wr_rc (s : State) (t e : Nat) (w : Word) : (s.wr t e w).rc = s.rc := by simp only [State.wr]; split <;> rfl
@[simp] theorem State.wr_op1 (s : State) (t e : Nat) (w : Word) : (s.wr t e w).op1 = s.op1 := by simp only [State.wr]; split <;> rfl
@[simp] theorem State.wr_op2 (s : State) (t e : Nat) (w : Word) : (s.wr t e w).op2 = s.op2 := by simp only [State.wr]; split <;> rfl
@[simp] theorem State.wr_sf (s : State) (t e : Nat) (w : Word) : (s.wr t e w).sf = s.sf := by simp only [State.wr]; split <;> rfl
@[simp] theorem State.wr_lp (s : State) (t e : Nat) (w : Word) : (s.wr t e w).lp = s.lp := by simp only [State.wr]; split <;> rfl
@[simp] theorem State.wr_pw (s : State) (t e : Nat) (w : Word) : (s.wr t e w).pw = s.pw := by simp only [State.wr]; split <;> rfl
@[simp] theorem State.wr_sn (s : State) (t e : Nat) (w : Word) : (s.wr t e w).sn = s.sn := by simp only [State.wr]; split <;> rfl

@[simp] theorem State.p_pending (s : State) (x : Fld) (e v : Nat) : (s.p x e v).pending = s.pending := State.wr_pending _ _ _ _
@[simp] theorem State.p_tick (s : State) (x : Fld) (e v : Nat) : (s.p x e v).tick = s.tick := State.wr_tick _ _ _ _
@[simp] theorem State.p_free (s : State) (x : Fld) (e v : Nat) : (s.p x e v).free = s.free := State.wr_free _ _ _ _
@[simp] theorem State.p_nv (s : State) (x : Fld) (e v : Nat) : (s.p x e v).nv = s.nv := State.wr_nv _ _ _ _
@[simp] theorem State.p_port0 (s : State) (x : Fld) (e v : Nat) : (s.p x e v).port0 = s.port0 := State.wr_port0 _ _ _ _
@[simp] theorem State.p_port1 (s : State) (x : Fld) (e v : Nat) : (s.p x e v).port1 = s.port1 := State.wr_port1 _ _ _ _
@[simp] theorem State.p_tux (s : State) (x : Fld) (e v : Nat) : (s.p x e v).tux = s.tux := State.wr_tux _ _ _ _
@[simp] theorem State.p_tsel (s : State) (x : Fld) (e v : Nat) : (s.p x e v).tsel = s.tsel := State.wr_tsel _ _ _ _
@[simp] theorem State.p_views (s : State) (x : Fld) (e v : Nat) : (s.p x e v).views = s.views := State.wr_views _ _ _ _
@[simp] theorem State.p_src (s : State) (x : Fld) (e v : Nat) : (s.p x e v).src = s.src := State.wr_src _ _ _ _
@[simp] theorem State.p_granted (s : State) (x : Fld) (e v : Nat) : (s.p x e v).granted = s.granted := State.wr_granted _ _ _ _
@[simp] theorem State.p_units (s : State) (x : Fld) (e v : Nat) : (s.p x e v).units = s.units := State.wr_units _ _ _ _
@[simp] theorem State.p_dev (s : State) (x : Fld) (e v : Nat) : (s.p x e v).dev = s.dev := State.wr_dev _ _ _ _
@[simp] theorem State.p_gy (s : State) (x : Fld) (e v : Nat) : (s.p x e v).gy = s.gy := State.wr_gy _ _ _ _
@[simp] theorem State.p_ln (s : State) (x : Fld) (e v : Nat) : (s.p x e v).ln = s.ln := State.wr_ln _ _ _ _
@[simp] theorem State.p_ll (s : State) (x : Fld) (e v : Nat) : (s.p x e v).ll = s.ll := State.wr_ll _ _ _ _
@[simp] theorem State.p_cj (s : State) (x : Fld) (e v : Nat) : (s.p x e v).cj = s.cj := State.wr_cj _ _ _ _
@[simp] theorem State.p_ob (s : State) (x : Fld) (e v : Nat) : (s.p x e v).ob = s.ob := State.wr_ob _ _ _ _
@[simp] theorem State.p_rng (s : State) (x : Fld) (e v : Nat) : (s.p x e v).rng = s.rng := State.wr_rng _ _ _ _
@[simp] theorem State.p_ms (s : State) (x : Fld) (e v : Nat) : (s.p x e v).ms = s.ms := State.wr_ms _ _ _ _
@[simp] theorem State.p_rc (s : State) (x : Fld) (e v : Nat) : (s.p x e v).rc = s.rc := State.wr_rc _ _ _ _
@[simp] theorem State.p_op1 (s : State) (x : Fld) (e v : Nat) : (s.p x e v).op1 = s.op1 := State.wr_op1 _ _ _ _
@[simp] theorem State.p_op2 (s : State) (x : Fld) (e v : Nat) : (s.p x e v).op2 = s.op2 := State.wr_op2 _ _ _ _
@[simp] theorem State.p_sf (s : State) (x : Fld) (e v : Nat) : (s.p x e v).sf = s.sf := State.wr_sf _ _ _ _
@[simp] theorem State.p_lp (s : State) (x : Fld) (e v : Nat) : (s.p x e v).lp = s.lp := State.wr_lp _ _ _ _
@[simp] theorem State.p_pw (s : State) (x : Fld) (e v : Nat) : (s.p x e v).pw = s.pw := State.wr_pw _ _ _ _
@[simp] theorem State.p_sn (s : State) (x : Fld) (e v : Nat) : (s.p x e v).sn = s.sn := State.wr_sn _ _ _ _

@[simp] theorem State.ps_pending (s : State) (t e : Nat) (l : List (Fld × Nat)) : (s.ps t e l).pending = s.pending := State.wr_pending _ _ _ _
@[simp] theorem State.ps_tick (s : State) (t e : Nat) (l : List (Fld × Nat)) : (s.ps t e l).tick = s.tick := State.wr_tick _ _ _ _
@[simp] theorem State.ps_free (s : State) (t e : Nat) (l : List (Fld × Nat)) : (s.ps t e l).free = s.free := State.wr_free _ _ _ _
@[simp] theorem State.ps_nv (s : State) (t e : Nat) (l : List (Fld × Nat)) : (s.ps t e l).nv = s.nv := State.wr_nv _ _ _ _
@[simp] theorem State.ps_port0 (s : State) (t e : Nat) (l : List (Fld × Nat)) : (s.ps t e l).port0 = s.port0 := State.wr_port0 _ _ _ _
@[simp] theorem State.ps_port1 (s : State) (t e : Nat) (l : List (Fld × Nat)) : (s.ps t e l).port1 = s.port1 := State.wr_port1 _ _ _ _
@[simp] theorem State.ps_tux (s : State) (t e : Nat) (l : List (Fld × Nat)) : (s.ps t e l).tux = s.tux := State.wr_tux _ _ _ _
@[simp] theorem State.ps_tsel (s : State) (t e : Nat) (l : List (Fld × Nat)) : (s.ps t e l).tsel = s.tsel := State.wr_tsel _ _ _ _
@[simp] theorem State.ps_views (s : State) (t e : Nat) (l : List (Fld × Nat)) : (s.ps t e l).views = s.views := State.wr_views _ _ _ _
@[simp] theorem State.ps_src (s : State) (t e : Nat) (l : List (Fld × Nat)) : (s.ps t e l).src = s.src := State.wr_src _ _ _ _
@[simp] theorem State.ps_granted (s : State) (t e : Nat) (l : List (Fld × Nat)) : (s.ps t e l).granted = s.granted := State.wr_granted _ _ _ _
@[simp] theorem State.ps_units (s : State) (t e : Nat) (l : List (Fld × Nat)) : (s.ps t e l).units = s.units := State.wr_units _ _ _ _
@[simp] theorem State.ps_dev (s : State) (t e : Nat) (l : List (Fld × Nat)) : (s.ps t e l).dev = s.dev := State.wr_dev _ _ _ _
@[simp] theorem State.ps_gy (s : State) (t e : Nat) (l : List (Fld × Nat)) : (s.ps t e l).gy = s.gy := State.wr_gy _ _ _ _
@[simp] theorem State.ps_ln (s : State) (t e : Nat) (l : List (Fld × Nat)) : (s.ps t e l).ln = s.ln := State.wr_ln _ _ _ _
@[simp] theorem State.ps_ll (s : State) (t e : Nat) (l : List (Fld × Nat)) : (s.ps t e l).ll = s.ll := State.wr_ll _ _ _ _
@[simp] theorem State.ps_cj (s : State) (t e : Nat) (l : List (Fld × Nat)) : (s.ps t e l).cj = s.cj := State.wr_cj _ _ _ _
@[simp] theorem State.ps_ob (s : State) (t e : Nat) (l : List (Fld × Nat)) : (s.ps t e l).ob = s.ob := State.wr_ob _ _ _ _
@[simp] theorem State.ps_rng (s : State) (t e : Nat) (l : List (Fld × Nat)) : (s.ps t e l).rng = s.rng := State.wr_rng _ _ _ _
@[simp] theorem State.ps_ms (s : State) (t e : Nat) (l : List (Fld × Nat)) : (s.ps t e l).ms = s.ms := State.wr_ms _ _ _ _
@[simp] theorem State.ps_rc (s : State) (t e : Nat) (l : List (Fld × Nat)) : (s.ps t e l).rc = s.rc := State.wr_rc _ _ _ _
@[simp] theorem State.ps_op1 (s : State) (t e : Nat) (l : List (Fld × Nat)) : (s.ps t e l).op1 = s.op1 := State.wr_op1 _ _ _ _
@[simp] theorem State.ps_op2 (s : State) (t e : Nat) (l : List (Fld × Nat)) : (s.ps t e l).op2 = s.op2 := State.wr_op2 _ _ _ _
@[simp] theorem State.ps_sf (s : State) (t e : Nat) (l : List (Fld × Nat)) : (s.ps t e l).sf = s.sf := State.wr_sf _ _ _ _
@[simp] theorem State.ps_lp (s : State) (t e : Nat) (l : List (Fld × Nat)) : (s.ps t e l).lp = s.lp := State.wr_lp _ _ _ _
@[simp] theorem State.ps_pw (s : State) (t e : Nat) (l : List (Fld × Nat)) : (s.ps t e l).pw = s.pw := State.wr_pw _ _ _ _
@[simp] theorem State.ps_sn (s : State) (t e : Nat) (l : List (Fld × Nat)) : (s.ps t e l).sn = s.sn := State.wr_sn _ _ _ _

@[simp] theorem State.bump_pending (s : State) (x : Fld) (e : Nat) : (s.bump x e).pending = s.pending := State.wr_pending _ _ _ _
@[simp] theorem State.bump_tick (s : State) (x : Fld) (e : Nat) : (s.bump x e).tick = s.tick := State.wr_tick _ _ _ _
@[simp] theorem State.bump_free (s : State) (x : Fld) (e : Nat) : (s.bump x e).free = s.free := State.wr_free _ _ _ _
@[simp] theorem State.bump_nv (s : State) (x : Fld) (e : Nat) : (s.bump x e).nv = s.nv := State.wr_nv _ _ _ _
@[simp] theorem State.bump_port0 (s : State) (x : Fld) (e : Nat) : (s.bump x e).port0 = s.port0 := State.wr_port0 _ _ _ _
@[simp] theorem State.bump_port1 (s : State) (x : Fld) (e : Nat) : (s.bump x e).port1 = s.port1 := State.wr_port1 _ _ _ _
@[simp] theorem State.bump_tux (s : State) (x : Fld) (e : Nat) : (s.bump x e).tux = s.tux := State.wr_tux _ _ _ _
@[simp] theorem State.bump_tsel (s : State) (x : Fld) (e : Nat) : (s.bump x e).tsel = s.tsel := State.wr_tsel _ _ _ _
@[simp] theorem State.bump_views (s : State) (x : Fld) (e : Nat) : (s.bump x e).views = s.views := State.wr_views _ _ _ _
@[simp] theorem State.bump_src (s : State) (x : Fld) (e : Nat) : (s.bump x e).src = s.src := State.wr_src _ _ _ _
@[simp] theorem State.bump_granted (s : State) (x : Fld) (e : Nat) : (s.bump x e).granted = s.granted := State.wr_granted _ _ _ _
@[simp] theorem State.bump_units (s : State) (x : Fld) (e : Nat) : (s.bump x e).units = s.units := State.wr_units _ _ _ _
@[simp] theorem State.bump_dev (s : State) (x : Fld) (e : Nat) : (s.bump x e).dev = s.dev := State.wr_dev _ _ _ _
@[simp] theorem State.bump_gy (s : State) (x : Fld) (e : Nat) : (s.bump x e).gy = s.gy := State.wr_gy _ _ _ _
@[simp] theorem State.bump_ln (s : State) (x : Fld) (e : Nat) : (s.bump x e).ln = s.ln := State.wr_ln _ _ _ _
@[simp] theorem State.bump_ll (s : State) (x : Fld) (e : Nat) : (s.bump x e).ll = s.ll := State.wr_ll _ _ _ _
@[simp] theorem State.bump_cj (s : State) (x : Fld) (e : Nat) : (s.bump x e).cj = s.cj := State.wr_cj _ _ _ _
@[simp] theorem State.bump_ob (s : State) (x : Fld) (e : Nat) : (s.bump x e).ob = s.ob := State.wr_ob _ _ _ _
@[simp] theorem State.bump_rng (s : State) (x : Fld) (e : Nat) : (s.bump x e).rng = s.rng := State.wr_rng _ _ _ _
@[simp] theorem State.bump_ms (s : State) (x : Fld) (e : Nat) : (s.bump x e).ms = s.ms := State.wr_ms _ _ _ _
@[simp] theorem State.bump_rc (s : State) (x : Fld) (e : Nat) : (s.bump x e).rc = s.rc := State.wr_rc _ _ _ _
@[simp] theorem State.bump_op1 (s : State) (x : Fld) (e : Nat) : (s.bump x e).op1 = s.op1 := State.wr_op1 _ _ _ _
@[simp] theorem State.bump_op2 (s : State) (x : Fld) (e : Nat) : (s.bump x e).op2 = s.op2 := State.wr_op2 _ _ _ _
@[simp] theorem State.bump_sf (s : State) (x : Fld) (e : Nat) : (s.bump x e).sf = s.sf := State.wr_sf _ _ _ _
@[simp] theorem State.bump_lp (s : State) (x : Fld) (e : Nat) : (s.bump x e).lp = s.lp := State.wr_lp _ _ _ _
@[simp] theorem State.bump_pw (s : State) (x : Fld) (e : Nat) : (s.bump x e).pw = s.pw := State.wr_pw _ _ _ _
@[simp] theorem State.bump_sn (s : State) (x : Fld) (e : Nat) : (s.bump x e).sn = s.sn := State.wr_sn _ _ _ _

@[simp] theorem State.bumpSat_pending (s : State) (x : Fld) (e : Nat) : (s.bumpSat x e).pending = s.pending := State.wr_pending _ _ _ _
@[simp] theorem State.bumpSat_tick (s : State) (x : Fld) (e : Nat) : (s.bumpSat x e).tick = s.tick := State.wr_tick _ _ _ _
@[simp] theorem State.bumpSat_free (s : State) (x : Fld) (e : Nat) : (s.bumpSat x e).free = s.free := State.wr_free _ _ _ _
@[simp] theorem State.bumpSat_nv (s : State) (x : Fld) (e : Nat) : (s.bumpSat x e).nv = s.nv := State.wr_nv _ _ _ _
@[simp] theorem State.bumpSat_port0 (s : State) (x : Fld) (e : Nat) : (s.bumpSat x e).port0 = s.port0 := State.wr_port0 _ _ _ _
@[simp] theorem State.bumpSat_port1 (s : State) (x : Fld) (e : Nat) : (s.bumpSat x e).port1 = s.port1 := State.wr_port1 _ _ _ _
@[simp] theorem State.bumpSat_tux (s : State) (x : Fld) (e : Nat) : (s.bumpSat x e).tux = s.tux := State.wr_tux _ _ _ _
@[simp] theorem State.bumpSat_tsel (s : State) (x : Fld) (e : Nat) : (s.bumpSat x e).tsel = s.tsel := State.wr_tsel _ _ _ _
@[simp] theorem State.bumpSat_views (s : State) (x : Fld) (e : Nat) : (s.bumpSat x e).views = s.views := State.wr_views _ _ _ _
@[simp] theorem State.bumpSat_src (s : State) (x : Fld) (e : Nat) : (s.bumpSat x e).src = s.src := State.wr_src _ _ _ _
@[simp] theorem State.bumpSat_granted (s : State) (x : Fld) (e : Nat) : (s.bumpSat x e).granted = s.granted := State.wr_granted _ _ _ _
@[simp] theorem State.bumpSat_units (s : State) (x : Fld) (e : Nat) : (s.bumpSat x e).units = s.units := State.wr_units _ _ _ _
@[simp] theorem State.bumpSat_dev (s : State) (x : Fld) (e : Nat) : (s.bumpSat x e).dev = s.dev := State.wr_dev _ _ _ _
@[simp] theorem State.bumpSat_gy (s : State) (x : Fld) (e : Nat) : (s.bumpSat x e).gy = s.gy := State.wr_gy _ _ _ _
@[simp] theorem State.bumpSat_ln (s : State) (x : Fld) (e : Nat) : (s.bumpSat x e).ln = s.ln := State.wr_ln _ _ _ _
@[simp] theorem State.bumpSat_ll (s : State) (x : Fld) (e : Nat) : (s.bumpSat x e).ll = s.ll := State.wr_ll _ _ _ _
@[simp] theorem State.bumpSat_cj (s : State) (x : Fld) (e : Nat) : (s.bumpSat x e).cj = s.cj := State.wr_cj _ _ _ _
@[simp] theorem State.bumpSat_ob (s : State) (x : Fld) (e : Nat) : (s.bumpSat x e).ob = s.ob := State.wr_ob _ _ _ _
@[simp] theorem State.bumpSat_rng (s : State) (x : Fld) (e : Nat) : (s.bumpSat x e).rng = s.rng := State.wr_rng _ _ _ _
@[simp] theorem State.bumpSat_ms (s : State) (x : Fld) (e : Nat) : (s.bumpSat x e).ms = s.ms := State.wr_ms _ _ _ _
@[simp] theorem State.bumpSat_rc (s : State) (x : Fld) (e : Nat) : (s.bumpSat x e).rc = s.rc := State.wr_rc _ _ _ _
@[simp] theorem State.bumpSat_op1 (s : State) (x : Fld) (e : Nat) : (s.bumpSat x e).op1 = s.op1 := State.wr_op1 _ _ _ _
@[simp] theorem State.bumpSat_op2 (s : State) (x : Fld) (e : Nat) : (s.bumpSat x e).op2 = s.op2 := State.wr_op2 _ _ _ _
@[simp] theorem State.bumpSat_sf (s : State) (x : Fld) (e : Nat) : (s.bumpSat x e).sf = s.sf := State.wr_sf _ _ _ _
@[simp] theorem State.bumpSat_lp (s : State) (x : Fld) (e : Nat) : (s.bumpSat x e).lp = s.lp := State.wr_lp _ _ _ _
@[simp] theorem State.bumpSat_pw (s : State) (x : Fld) (e : Nat) : (s.bumpSat x e).pw = s.pw := State.wr_pw _ _ _ _
@[simp] theorem State.bumpSat_sn (s : State) (x : Fld) (e : Nat) : (s.bumpSat x e).sn = s.sn := State.wr_sn _ _ _ _

@[simp] theorem State.changeMirror_pending (s : State) (u : Src) (f : Mirror → Mirror) : (s.changeMirror u f).pending = s.pending := by
  simp only [State.changeMirror]; split
  · rfl
  · split <;> rfl
@[simp] theorem State.changeMirror_tick (s : State) (u : Src) (f : Mirror → Mirror) : (s.changeMirror u f).tick = s.tick := by
  simp only [State.changeMirror]; split
  · rfl
  · split <;> rfl
@[simp] theorem State.changeMirror_free (s : State) (u : Src) (f : Mirror → Mirror) : (s.changeMirror u f).free = s.free := by
  simp only [State.changeMirror]; split
  · rfl
  · split <;> rfl
@[simp] theorem State.changeMirror_cells (s : State) (u : Src) (f : Mirror → Mirror) : (s.changeMirror u f).cells = s.cells := by
  simp only [State.changeMirror]; split
  · rfl
  · split <;> rfl
@[simp] theorem State.changeMirror_nv (s : State) (u : Src) (f : Mirror → Mirror) : (s.changeMirror u f).nv = s.nv := by
  simp only [State.changeMirror]; split
  · rfl
  · split <;> rfl
@[simp] theorem State.changeMirror_port0 (s : State) (u : Src) (f : Mirror → Mirror) : (s.changeMirror u f).port0 = s.port0 := by
  simp only [State.changeMirror]; split
  · rfl
  · split <;> rfl
@[simp] theorem State.changeMirror_port1 (s : State) (u : Src) (f : Mirror → Mirror) : (s.changeMirror u f).port1 = s.port1 := by
  simp only [State.changeMirror]; split
  · rfl
  · split <;> rfl
@[simp] theorem State.changeMirror_tux (s : State) (u : Src) (f : Mirror → Mirror) : (s.changeMirror u f).tux = s.tux := by
  simp only [State.changeMirror]; split
  · rfl
  · split <;> rfl
@[simp] theorem State.changeMirror_tsel (s : State) (u : Src) (f : Mirror → Mirror) : (s.changeMirror u f).tsel = s.tsel := by
  simp only [State.changeMirror]; split
  · rfl
  · split <;> rfl
@[simp] theorem State.changeMirror_views (s : State) (u : Src) (f : Mirror → Mirror) : (s.changeMirror u f).views = s.views := by
  simp only [State.changeMirror]; split
  · rfl
  · split <;> rfl
@[simp] theorem State.changeMirror_granted (s : State) (u : Src) (f : Mirror → Mirror) : (s.changeMirror u f).granted = s.granted := by
  simp only [State.changeMirror]; split
  · rfl
  · split <;> rfl
@[simp] theorem State.changeMirror_dev (s : State) (u : Src) (f : Mirror → Mirror) : (s.changeMirror u f).dev = s.dev := by
  simp only [State.changeMirror]; split
  · rfl
  · split <;> rfl
@[simp] theorem State.changeMirror_gy (s : State) (u : Src) (f : Mirror → Mirror) : (s.changeMirror u f).gy = s.gy := by
  simp only [State.changeMirror]; split
  · rfl
  · split <;> rfl
@[simp] theorem State.changeMirror_ln (s : State) (u : Src) (f : Mirror → Mirror) : (s.changeMirror u f).ln = s.ln := by
  simp only [State.changeMirror]; split
  · rfl
  · split <;> rfl
@[simp] theorem State.changeMirror_ll (s : State) (u : Src) (f : Mirror → Mirror) : (s.changeMirror u f).ll = s.ll := by
  simp only [State.changeMirror]; split
  · rfl
  · split <;> rfl
@[simp] theorem State.changeMirror_cj (s : State) (u : Src) (f : Mirror → Mirror) : (s.changeMirror u f).cj = s.cj := by
  simp only [State.changeMirror]; split
  · rfl
  · split <;> rfl
@[simp] theorem State.changeMirror_ob (s : State) (u : Src) (f : Mirror → Mirror) : (s.changeMirror u f).ob = s.ob := by
  simp only [State.changeMirror]; split
  · rfl
  · split <;> rfl
@[simp] theorem State.changeMirror_rng (s : State) (u : Src) (f : Mirror → Mirror) : (s.changeMirror u f).rng = s.rng := by
  simp only [State.changeMirror]; split
  · rfl
  · split <;> rfl
@[simp] theorem State.changeMirror_ms (s : State) (u : Src) (f : Mirror → Mirror) : (s.changeMirror u f).ms = s.ms := by
  simp only [State.changeMirror]; split
  · rfl
  · split <;> rfl
@[simp] theorem State.changeMirror_rc (s : State) (u : Src) (f : Mirror → Mirror) : (s.changeMirror u f).rc = s.rc := by
  simp only [State.changeMirror]; split
  · rfl
  · split <;> rfl
@[simp] theorem State.changeMirror_op1 (s : State) (u : Src) (f : Mirror → Mirror) : (s.changeMirror u f).op1 = s.op1 := by
  simp only [State.changeMirror]; split
  · rfl
  · split <;> rfl
@[simp] theorem State.changeMirror_op2 (s : State) (u : Src) (f : Mirror → Mirror) : (s.changeMirror u f).op2 = s.op2 := by
  simp only [State.changeMirror]; split
  · rfl
  · split <;> rfl
@[simp] theorem State.changeMirror_sf (s : State) (u : Src) (f : Mirror → Mirror) : (s.changeMirror u f).sf = s.sf := by
  simp only [State.changeMirror]; split
  · rfl
  · split <;> rfl
@[simp] theorem State.changeMirror_lp (s : State) (u : Src) (f : Mirror → Mirror) : (s.changeMirror u f).lp = s.lp := by
  simp only [State.changeMirror]; split
  · rfl
  · split <;> rfl
@[simp] theorem State.changeMirror_pw (s : State) (u : Src) (f : Mirror → Mirror) : (s.changeMirror u f).pw = s.pw := by
  simp only [State.changeMirror]; split
  · rfl
  · split <;> rfl
@[simp] theorem State.changeMirror_sn (s : State) (u : Src) (f : Mirror → Mirror) : (s.changeMirror u f).sn = s.sn := by
  simp only [State.changeMirror]; split
  · rfl
  · split <;> rfl

@[simp] theorem State.setSub_pending (s : State) (u : Src) (v : Nat) : (s.setSub u v).pending = s.pending := State.changeMirror_pending _ _ _
@[simp] theorem State.setSub_tick (s : State) (u : Src) (v : Nat) : (s.setSub u v).tick = s.tick := State.changeMirror_tick _ _ _
@[simp] theorem State.setSub_free (s : State) (u : Src) (v : Nat) : (s.setSub u v).free = s.free := State.changeMirror_free _ _ _
@[simp] theorem State.setSub_cells (s : State) (u : Src) (v : Nat) : (s.setSub u v).cells = s.cells := State.changeMirror_cells _ _ _
@[simp] theorem State.setSub_nv (s : State) (u : Src) (v : Nat) : (s.setSub u v).nv = s.nv := State.changeMirror_nv _ _ _
@[simp] theorem State.setSub_port0 (s : State) (u : Src) (v : Nat) : (s.setSub u v).port0 = s.port0 := State.changeMirror_port0 _ _ _
@[simp] theorem State.setSub_port1 (s : State) (u : Src) (v : Nat) : (s.setSub u v).port1 = s.port1 := State.changeMirror_port1 _ _ _
@[simp] theorem State.setSub_tux (s : State) (u : Src) (v : Nat) : (s.setSub u v).tux = s.tux := State.changeMirror_tux _ _ _
@[simp] theorem State.setSub_tsel (s : State) (u : Src) (v : Nat) : (s.setSub u v).tsel = s.tsel := State.changeMirror_tsel _ _ _
@[simp] theorem State.setSub_views (s : State) (u : Src) (v : Nat) : (s.setSub u v).views = s.views := State.changeMirror_views _ _ _
@[simp] theorem State.setSub_granted (s : State) (u : Src) (v : Nat) : (s.setSub u v).granted = s.granted := State.changeMirror_granted _ _ _
@[simp] theorem State.setSub_dev (s : State) (u : Src) (v : Nat) : (s.setSub u v).dev = s.dev := State.changeMirror_dev _ _ _
@[simp] theorem State.setSub_gy (s : State) (u : Src) (v : Nat) : (s.setSub u v).gy = s.gy := State.changeMirror_gy _ _ _
@[simp] theorem State.setSub_ln (s : State) (u : Src) (v : Nat) : (s.setSub u v).ln = s.ln := State.changeMirror_ln _ _ _
@[simp] theorem State.setSub_ll (s : State) (u : Src) (v : Nat) : (s.setSub u v).ll = s.ll := State.changeMirror_ll _ _ _
@[simp] theorem State.setSub_cj (s : State) (u : Src) (v : Nat) : (s.setSub u v).cj = s.cj := State.changeMirror_cj _ _ _
@[simp] theorem State.setSub_ob (s : State) (u : Src) (v : Nat) : (s.setSub u v).ob = s.ob := State.changeMirror_ob _ _ _
@[simp] theorem State.setSub_rng (s : State) (u : Src) (v : Nat) : (s.setSub u v).rng = s.rng := State.changeMirror_rng _ _ _
@[simp] theorem State.setSub_ms (s : State) (u : Src) (v : Nat) : (s.setSub u v).ms = s.ms := State.changeMirror_ms _ _ _
@[simp] theorem State.setSub_rc (s : State) (u : Src) (v : Nat) : (s.setSub u v).rc = s.rc := State.changeMirror_rc _ _ _
@[simp] theorem State.setSub_op1 (s : State) (u : Src) (v : Nat) : (s.setSub u v).op1 = s.op1 := State.changeMirror_op1 _ _ _
@[simp] theorem State.setSub_op2 (s : State) (u : Src) (v : Nat) : (s.setSub u v).op2 = s.op2 := State.changeMirror_op2 _ _ _
@[simp] theorem State.setSub_sf (s : State) (u : Src) (v : Nat) : (s.setSub u v).sf = s.sf := State.changeMirror_sf _ _ _
@[simp] theorem State.setSub_lp (s : State) (u : Src) (v : Nat) : (s.setSub u v).lp = s.lp := State.changeMirror_lp _ _ _
@[simp] theorem State.setSub_pw (s : State) (u : Src) (v : Nat) : (s.setSub u v).pw = s.pw := State.changeMirror_pw _ _ _
@[simp] theorem State.setSub_sn (s : State) (u : Src) (v : Nat) : (s.setSub u v).sn = s.sn := State.changeMirror_sn _ _ _

end Sys2Proof.Machine
end

