-- ==== Sys2Proof/Laws/Cells.lean ====
section
/-! SUPPORT. Reading a window-table word and its fields after it has been written. -/

namespace Sys2Proof.Machine

open Sys2Proof

theorem Fld.mask_bit (f : Fld) (k : Nat) :
    f.mask.getLsbD k = (decide (k < 128) && (decide (f.lo ≤ k) && decide (k - f.lo < f.w))) := by
  rw [Fld.mask, BitVec.getLsbD_ofNat, Nat.testBit_shiftLeft, Nat.testBit_two_pow_sub_one]

theorem Fld.into_bit (f : Fld) (v : Nat) (x : Word) (k : Nat) :
    (f.into v x).getLsbD k =
      (if k < 128 ∧ f.lo ≤ k ∧ k - f.lo < f.w then v.testBit (k - f.lo) else x.getLsbD k) := by
  simp only [Fld.into, BitVec.getLsbD_or, BitVec.getLsbD_and, BitVec.getLsbD_not, Fld.mask_bit,
    BitVec.getLsbD_ofNat, Nat.testBit_shiftLeft, Nat.testBit_mod_two_pow]
  have h0 : ¬ k < 128 → x.getLsbD k = false := fun h => BitVec.getLsbD_of_ge x k (Nat.le_of_not_lt h)
  by_cases h1 : k < 128 <;> by_cases h2 : f.lo ≤ k <;> by_cases h3 : k - f.lo < f.w <;> simp [h1, h2, h3, h0]

theorem Fld.of_bit (f : Fld) (x : Word) (i : Nat) :
    (f.of x).testBit i = (decide (i < f.w) && x.getLsbD (f.lo + i)) := by
  simp [Fld.of, Word.bits, Nat.testBit_mod_two_pow, BitVec.getLsbD, Nat.add_comm]

/-- A field read after it was set. -/
theorem Fld.of_into (f : Fld) (v : Nat) (x : Word) (h : f.lo + f.w ≤ 128) : f.of (f.into v x) = v % 2 ^ f.w := by
  apply Nat.eq_of_testBit_eq
  intro i
  rw [Fld.of_bit, Fld.into_bit, Nat.testBit_mod_two_pow]
  by_cases hi : i < f.w
  · simp [hi, show f.lo + i < 128 by omega]
  · simp [hi]

/-- A field read after another was set. -/
theorem Fld.of_into_ne (f g : Fld) (v : Nat) (x : Word) (h : f.lo + f.w ≤ g.lo ∨ g.lo + g.w ≤ f.lo) :
    f.of (g.into v x) = f.of x := by
  apply Nat.eq_of_testBit_eq
  intro i
  rw [Fld.of_bit, Fld.of_bit, Fld.into_bit]
  by_cases hi : i < f.w
  · rw [if_neg (by omega)]
  · simp [hi]

theorem Fld.of_lt (f : Fld) (x : Word) : f.of x < 2 ^ f.w := Nat.mod_lt _ (Nat.two_pow_pos _)

/-- A word read after it was written. -/
theorem State.rd_wr (s : State) (t e : Nat) (w : Word) : (s.wr t e w).rd t e = w := by
  unfold State.wr
  dsimp only
  split
  · assumption
  · simp [State.rd, State.cell]

/-- A word of another entry after one was written. -/
theorem State.rd_wr_ne (s : State) (t e n k : Nat) (w : Word) (hs : cellsWf s.cells = true)
    (h : cellKey n k ≠ cellKey t e) : (s.wr t e w).rd n k = s.rd n k := by
  unfold State.wr
  dsimp only
  split
  · rfl
  · simp only [cellsWf, Bool.and_eq_true] at hs
    simp only [State.rd, State.cell, Sparse.get_put_ne _ hs.1 h]

theorem cellKey_inj {t e n k : Nat} (he : e < 4096) (hk : k < 4096) : cellKey n k = cellKey t e ↔ n = t ∧ k = e := by
  simp only [cellKey]; omega

theorem State.rd_advance (s : State) (n t e : Nat) : (State.advance n s).rd t e = s.rd t e := rfl

/-- Setting a field and reading it, or another field of the entry. -/
theorem State.g_p (s : State) (f : Fld) (e v : Nat) (h : f.lo + f.w ≤ 128) : (s.p f e v).g f e = v % 2 ^ f.w := by
  rw [State.g, State.p, State.rd_wr, Fld.of_into f v _ h]

theorem State.g_p_ne (s : State) (f g : Fld) (e v : Nat) (ht : f.tab = g.tab)
    (h : f.lo + f.w ≤ g.lo ∨ g.lo + g.w ≤ f.lo) : (s.p g e v).g f e = s.g f e := by
  rw [State.g, State.p, ht, State.rd_wr, Fld.of_into_ne f g v _ h, State.g, ht]

/-- A field after several of its entry were set. -/
theorem State.g_ps (s : State) (f : Fld) (t e : Nat) (l : List (Fld × Nat)) (h : f.tab = t) :
    (s.ps t e l).g f e = f.of (l.foldl (fun w x => x.1.into x.2 w) (s.rd t e)) := by
  rw [State.g, h, State.ps, State.rd_wr]

/-- A word that depends on the cells alone. -/
theorem State.rd_eq {s t : State} (h : t.cells = s.cells) (n e : Nat) : t.rd n e = s.rd n e := by
  simp only [State.rd, State.cell, h]

theorem State.g_eq {s t : State} (h : t.cells = s.cells) (f : Fld) (e : Nat) : t.g f e = s.g f e := by
  simp only [State.g, State.rd_eq h]

theorem State.b_eq {s t : State} (h : t.cells = s.cells) (f : Fld) (e : Nat) : t.b f e = s.b f e := by
  simp only [State.b, State.g_eq h]

/-- A field of a merged word: from the committed word where the mask covers it, else as it was. -/
theorem Fld.of_merge (f : Fld) (m a w : Word) (h : f.mask &&& m = f.mask) :
    f.of ((a &&& ~~~m) ||| (w &&& m)) = f.of w := by
  apply Nat.eq_of_testBit_eq
  intro i
  rw [Fld.of_bit, Fld.of_bit]
  by_cases hi : i < f.w
  · by_cases hk : f.lo + i < 128
    · have hb : m.getLsbD (f.lo + i) = true := by
        have := congrArg (fun x => x.getLsbD (f.lo + i)) h
        simpa [Fld.mask_bit, hi, hk] using this
      simp [hb]
    · rw [BitVec.getLsbD_of_ge _ _ (Nat.le_of_not_lt hk), BitVec.getLsbD_of_ge _ _ (Nat.le_of_not_lt hk)]
  · simp [hi]

theorem Fld.of_merge_ro (f : Fld) (m a w : Word) (h : f.mask &&& m = 0) :
    f.of ((a &&& ~~~m) ||| (w &&& m)) = f.of a := by
  apply Nat.eq_of_testBit_eq
  intro i
  rw [Fld.of_bit, Fld.of_bit]
  by_cases hi : i < f.w
  · by_cases hk : f.lo + i < 128
    · have hb : m.getLsbD (f.lo + i) = false := by
        have := congrArg (fun x => x.getLsbD (f.lo + i)) h
        simpa [Fld.mask_bit, hi, hk] using this
      simp only [BitVec.getLsbD_or, BitVec.getLsbD_and, BitVec.getLsbD_not, hb, hk]
      simp
    · rw [BitVec.getLsbD_of_ge _ _ (Nat.le_of_not_lt hk), BitVec.getLsbD_of_ge _ _ (Nat.le_of_not_lt hk)]
  · simp [hi]

end Sys2Proof.Machine
end

