-- ==== Sys2Proof/Laws/Access.lean ====
section
/-! SUPPORT. What an access on a port that serves it does. -/

namespace Sys2Proof.Machine

open Sys2Proof

theorem State.serves_runs {s : State} {p : PortId} {n : Nat} (h : s.serves p n = true) : s.coreRuns = true := by
  simp only [State.serves, Bool.and_eq_true] at h; exact h.1.1.1.1

theorem State.serves_ready {s : State} {p : PortId} {n : Nat} (h : s.serves p n = true) : s.dev.ready = true := by
  simp only [State.serves, Bool.and_eq_true] at h; exact h.1.1.1.2

theorem State.serves_enabled {s : State} {p : PortId} {n : Nat} (h : s.serves p n = true) : s.enabled (s.acting p) = true := by
  simp only [State.serves, Bool.and_eq_true] at h; exact h.1.1.2

theorem State.coreRuns_out {s : State} (h : s.coreRuns = true) : s.outOfReset = true := by
  unfold State.coreRuns at h; unfold State.outOfReset
  split <;> simp_all

theorem State.mayAct_of_serves {s : State} {p : PortId} {n : Nat} (addr : Nat) (w : Bool) (h : s.serves p n = true) :
    s.mayAct p addr w = true := by
  have e := State.serves_enabled h
  cases p <;> simp_all [State.serves, State.mayAct]

theorem State.wdog_of_serves {s : State} {p : PortId} {n k : Nat} (h : s.serves p n = true) (hk : k ≤ n) :
    (s.advance k).wdogDue = s.advance k := by
  simp only [State.serves, Bool.and_eq_true] at h
  have w := h.2
  unfold State.wdogDue
  split
  · rename_i t ht
    have e : s.dev.wdogEnd = some t := ht
    rw [e] at w
    simp only [Nat.ble_eq] at w
    exact if_neg (by show ¬ t < s.tick + k; omega)
  · rfl

/-- An access on a port that serves it. -/
theorem State.bus_serves {s : State} {p : PortId} {n addr : Nat} {data : Option Half} (h : s.serves p n = true)
    (hn : s.profile p addr data.isSome 0 - 1 ≤ n) :
    s.bus p addr data = (s.access p addr data false).2.2 := by
  have r := State.serves_runs h
  cases p
  · simp only [State.bus, State.coreRuns_out r, if_true, State.awaitCore, r]
  · have e : s.dev.p1En = true := by simp_all [State.serves]
    simp only [State.bus, State.port1Live, r, State.serves_ready h, e, Bool.and_self, if_true]

/-- A write on a port that serves it: it takes effect in the last core tick of its profile (spec/02_host_access.md R42). -/
theorem State.bus_write {s : State} {p : PortId} {n addr : Nat} {data : Half} (h : s.serves p n = true)
    (hn : s.profile p addr true 0 = n) :
    s.bus p addr (some data) =
      (((s.advance (n - 1)).regWrite p addr data).2.ended p addr ((s.advance (n - 1)).regWrite p addr data).1 none) := by
  rw [State.bus_serves (n := n) h (by simp only [Option.isSome_some, hn]; omega)]
  have m : (s.advance (n - 1)).mayAct p addr true = true := State.mayAct_of_serves (s := s) addr true h
  have rd : (s.advance (n - 1)).dev.ready = true := State.serves_ready (s := s) h
  simp only [State.access, Option.isSome_some, hn, State.wdog_of_serves h (Nat.sub_le n 1), State.serve, m, rd, if_true, Bool.true_or,
    Option.isNone_some, State.ended, Bool.false_eq_true, if_false]

/-- A read on a port that serves it (spec/02_host_access.md R42, R44). -/
theorem State.bus_read {s : State} {p : PortId} {n addr : Nat} (h : s.serves p n = true)
    (hn : s.profile p addr false 0 = n) :
    s.bus p addr none =
      (((s.advance (n - 1)).regRead p addr false).2.2.ended p addr ((s.advance (n - 1)).regRead p addr false).1
        (some (if ((s.advance (n - 1)).regRead p addr false).1.accepts then ((s.advance (n - 1)).regRead p addr false).2.1 else 0))) := by
  rw [State.bus_serves (n := n) h (by simp only [Option.isSome_none, hn]; omega)]
  have m : (s.advance (n - 1)).mayAct p addr false = true := State.mayAct_of_serves (s := s) addr false h
  have rd : (s.advance (n - 1)).dev.ready = true := State.serves_ready (s := s) h
  simp only [State.access, Option.isSome_none, hn, State.wdog_of_serves h (Nat.sub_le n 1), State.serve, m, rd, if_true, Bool.true_or,
    Option.isNone_none, State.ended]

/-! Windows. -/

theorem Word.setHalf_half (w : Word) (n : Nat) : w.setHalf n (w.half n) = w := by
  apply BitVec.eq_of_getLsbD_eq
  intro i hi
  simp only [Word.setHalf, Word.half, BitVec.getLsbD_or, BitVec.getLsbD_and, BitVec.getLsbD_not, BitVec.getLsbD_shiftLeft,
    BitVec.getLsbD_setWidth, BitVec.getLsbD_extractLsb']
  by_cases h : i < 16 * n
  · simp [hi, h]
  · by_cases k : i - 16 * n < 16
    · have : 16 * n + (i - 16 * n) = i := by omega
      have l : (65535#128).getLsbD (i - 16 * n) = true := by
        have := k; generalize i - 16 * n = j at this; interval_cases j <;> rfl
      simp [hi, h, k, this, l]
      omega
    · have l : (65535#128).getLsbD (i - 16 * n) = false := by
        simp only [BitVec.getLsbD_ofNat]
        rw [show 65535 = 2 ^ 16 - 1 by rfl, Nat.testBit_two_pow_sub_one]
        simp [k]
      simp [hi, h, k, l]

theorem State.winOf_modWin (s : State) (p : PortId) (n : Nat) (f : Win → Win) (h : n < 4) :
    (s.modWin p n f).winOf p n = f (s.winOf p n) := by
  cases p <;> simp [State.modWin, State.modPort, State.winOf, State.port, vmod, h]

/-- What an access reaches depends neither on the ports nor on time. -/
theorem State.reach_advance (s : State) (k t e who : Nat) (b : Bool) : (s.advance k).reach t e who b = s.reach t e who b := rfl

theorem State.reach_modWin (s : State) (p : PortId) (n t e who : Nat) (f : Win → Win) (b : Bool) :
    (s.modWin p n f).reach t e who b = s.reach t e who b := by cases p <;> rfl

theorem State.reach_stage (s : State) (p : PortId) (n t e k t' e' who : Nat) (w : Word) (b : Bool) :
    ((s.stage p n t e w).advance k).reach t' e' who b = s.reach t' e' who b := by
  rw [State.reach_advance, State.stage]
  split
  · rw [State.reach_modWin]
  · rfl

/-- A commit of a whole entry on a port that serves it (spec/02_host_access.md R59). -/
theorem State.entryRow_commit {s : State} {p : PortId} {n : Fin 4} {t e k : Nat} {w : Word} (h : s.serves p 48 = true)
    (hr : s.reach t e (s.acting p) true = some k) :
    s.entryRow p n t e w =
      (((s.committing p n t e w).commit t k (s.acting p) w).2.committed p n ((s.committing p n t e w).commit t k (s.acting p) w).1) := by
  have h1 : p = .p1 → s.port1Live = true := by
    intro hp
    subst hp
    have e : s.dev.p1En = true := by simp_all [State.serves]
    simp only [State.port1Live, State.serves_runs h, State.serves_ready h, e, Bool.and_self]
  have hs : s.stage p n.val t e w = s.modWin p n (fun x => { x.drop with sel := t, entry := e, hw := 7, holder := s.acting p, staging := some w }) := by
    simp only [State.stage, State.serves_ready h, State.mayAct_of_serves 0x10 true h, Bool.and_self, if_true]
  have hv : (s.stage p n.val t e w).serves p 48 = true := by
    rw [hs]; cases p <;> exact h
  have hw : (s.stage p n.val t e w).winOf p n = { (s.winOf p n).drop with sel := t, entry := e, hw := 7, holder := s.acting p, staging := some w } := by
    rw [hs, State.winOf_modWin _ _ _ _ n.isLt]
  have ha : (s.stage p n.val t e w).acting p = s.acting p := by rw [hs]; cases p <;> rfl
  have hp : (s.stage p n.val t e w).profile p (0x14 + 8 * n.val) true 0 = 48 := by
    have hn := n.isLt
    have hi : (20 + 8 * n.val - 16) / 8 = n.val := by omega
    have c : 16 ≤ 20 + 8 * n.val ∧ 20 + 8 * n.val < 48 ∧ (20 + 8 * n.val) % 8 = 4 := by omega
    simp only [State.profile, c, and_self, if_true, hi, hw]
    simp
  have key : s.entryRow p n t e w = (s.stage p n.val t e w).bus p (0x14 + 8 * n.val) (some (w.half 7)) := by
    cases p
    · rfl
    · simp only [State.entryRow, h1 rfl, if_true]
  rw [key, State.bus_write hv hp]
  have hi : (20 + 8 * n.val - 16) / 8 = n.val := by omega
  have hj : (20 + 8 * n.val) % 8 / 2 = 2 := by omega
  have ha' : ((s.stage p n.val t e w).advance 47).acting p = s.acting p := ha
  have hw' : ((s.stage p n.val t e w).advance 47).winOf p n = { (s.winOf p n).drop with sel := t, entry := e, hw := 7, holder := s.acting p, staging := some w } := hw
  have hreg : ((s.stage p n.val t e w).advance (48 - 1)).regWrite p (0x14 + 8 * n.val) (w.half 7)
      = (((s.committing p n t e w).commit t k (s.acting p) w).1, ((s.committing p n t e w).commit t k (s.acting p) w).2.winDone p n
          ((s.committing p n t e w).commit t k (s.acting p) w).1 true) := by
    unfold State.regWrite
    have c : 16 ≤ 20 + 8 * n.val ∧ 20 + 8 * n.val < 48 := by have := n.isLt; omega
    simp only [ha', c, and_self, if_true, hi, hj, State.winRegWrite, State.winWrite, hw']
    simp [State.reach_stage, hr, State.committing, Word.setHalf_half]
  rw [hreg]
  rfl

/-! What an access leaves beside its effect. -/

@[simp] theorem State.ended_hd (y : State) (p : PortId) (a : Nat) (o : Oc) (h : Option Half) :
    ((y.ended p a o h).port p).hd = h.getD (y.port p).hd := by cases p <;> rfl
theorem State.ended_outcome (y : State) (p : PortId) (a : Nat) (o : Oc) (h : Option Half) (ha : a ≠ 6) :
    ((y.ended p a o h).port p).outcome = o.code := by
  cases p <;> simp [State.ended, State.noted, State.modPort, State.port, State.advance, ha]
@[simp] theorem State.ended_winOf (y : State) (p : PortId) (a : Nat) (o : Oc) (h : Option Half) (n : Nat) :
    (y.ended p a o h).winOf p n = y.winOf p n := by cases p <;> rfl
@[simp] theorem State.ended_tick (y : State) (p : PortId) (a : Nat) (o : Oc) (h : Option Half) :
    (y.ended p a o h).tick = y.tick + 1 := by cases p <;> rfl
@[simp] theorem State.modWin_tick (y : State) (p : PortId) (n : Nat) (f : Win → Win) : (y.modWin p n f).tick = y.tick := by cases p <;> rfl
@[simp] theorem State.winDone_tick (y : State) (p : PortId) (n : Nat) (o : Oc) (b : Bool) : (y.winDone p n o b).tick = y.tick := by cases p <;> rfl
theorem State.winDone_winOf (y : State) (p : PortId) (n : Fin 4) (o : Oc) :
    (y.winDone p n o true).winOf p n = { (y.winOf p n).step with outcome := o.code } := by
  rw [State.winDone, State.winOf_modWin _ _ _ _ n.isLt]; rfl
@[simp] theorem State.committed_tick (y : State) (p : PortId) (n : Fin 4) (o : Oc) : (y.committed p n o).tick = y.tick + 1 := by cases p <;> rfl
theorem State.committed_outcome (y : State) (p : PortId) (n : Fin 4) (o : Oc) : ((y.committed p n o).port p).outcome = o.code :=
  State.ended_outcome _ _ _ _ _ (by omega)
@[simp] theorem State.committing_tick (s : State) (p : PortId) (n : Fin 4) (t e : Nat) (w : Word) : (s.committing p n t e w).tick = s.tick + 47 := by
  unfold State.committing State.stage; split <;> cases p <;> rfl
@[simp] theorem State.commanding_tick (s : State) (p : PortId) (u : Src) (g : Byte) : (s.commanding p u g).tick = s.tick + 31 := by cases p <;> rfl

@[simp] theorem State.ended_pending (y : State) (p : PortId) (a : Nat) (o : Oc) (h : Option Half) : (y.ended p a o h).pending = y.pending := by cases p <;> rfl
@[simp] theorem State.modWin_pending (y : State) (p : PortId) (n : Nat) (f : Win → Win) : (y.modWin p n f).pending = y.pending := by cases p <;> rfl
@[simp] theorem State.winDone_pending (y : State) (p : PortId) (n : Nat) (o : Oc) (b : Bool) : (y.winDone p n o b).pending = y.pending := by cases p <;> rfl
@[simp] theorem State.committed_pending (y : State) (p : PortId) (n : Fin 4) (o : Oc) : (y.committed p n o).pending = y.pending := by cases p <;> rfl
@[simp] theorem State.committing_pending (s : State) (p : PortId) (n : Fin 4) (t e : Nat) (w : Word) : (s.committing p n t e w).pending = s.pending := by
  unfold State.committing State.stage; split <;> cases p <;> rfl
@[simp] theorem State.commanding_pending (s : State) (p : PortId) (u : Src) (g : Byte) : (s.commanding p u g).pending = s.pending := by cases p <;> rfl
@[simp] theorem State.ended_free (y : State) (p : PortId) (a : Nat) (o : Oc) (h : Option Half) : (y.ended p a o h).free = y.free := by cases p <;> rfl
@[simp] theorem State.modWin_free (y : State) (p : PortId) (n : Nat) (f : Win → Win) : (y.modWin p n f).free = y.free := by cases p <;> rfl
@[simp] theorem State.winDone_free (y : State) (p : PortId) (n : Nat) (o : Oc) (b : Bool) : (y.winDone p n o b).free = y.free := by cases p <;> rfl
@[simp] theorem State.committed_free (y : State) (p : PortId) (n : Fin 4) (o : Oc) : (y.committed p n o).free = y.free := by cases p <;> rfl
@[simp] theorem State.committing_free (s : State) (p : PortId) (n : Fin 4) (t e : Nat) (w : Word) : (s.committing p n t e w).free = s.free := by
  unfold State.committing State.stage; split <;> cases p <;> rfl
@[simp] theorem State.commanding_free (s : State) (p : PortId) (u : Src) (g : Byte) : (s.commanding p u g).free = s.free := by cases p <;> rfl
@[simp] theorem State.ended_cells (y : State) (p : PortId) (a : Nat) (o : Oc) (h : Option Half) : (y.ended p a o h).cells = y.cells := by cases p <;> rfl
@[simp] theorem State.modWin_cells (y : State) (p : PortId) (n : Nat) (f : Win → Win) : (y.modWin p n f).cells = y.cells := by cases p <;> rfl
@[simp] theorem State.winDone_cells (y : State) (p : PortId) (n : Nat) (o : Oc) (b : Bool) : (y.winDone p n o b).cells = y.cells := by cases p <;> rfl
@[simp] theorem State.committed_cells (y : State) (p : PortId) (n : Fin 4) (o : Oc) : (y.committed p n o).cells = y.cells := by cases p <;> rfl
@[simp] theorem State.committing_cells (s : State) (p : PortId) (n : Fin 4) (t e : Nat) (w : Word) : (s.committing p n t e w).cells = s.cells := by
  unfold State.committing State.stage; split <;> cases p <;> rfl
@[simp] theorem State.commanding_cells (s : State) (p : PortId) (u : Src) (g : Byte) : (s.commanding p u g).cells = s.cells := by cases p <;> rfl
@[simp] theorem State.ended_nv (y : State) (p : PortId) (a : Nat) (o : Oc) (h : Option Half) : (y.ended p a o h).nv = y.nv := by cases p <;> rfl
@[simp] theorem State.modWin_nv (y : State) (p : PortId) (n : Nat) (f : Win → Win) : (y.modWin p n f).nv = y.nv := by cases p <;> rfl
@[simp] theorem State.winDone_nv (y : State) (p : PortId) (n : Nat) (o : Oc) (b : Bool) : (y.winDone p n o b).nv = y.nv := by cases p <;> rfl
@[simp] theorem State.committed_nv (y : State) (p : PortId) (n : Fin 4) (o : Oc) : (y.committed p n o).nv = y.nv := by cases p <;> rfl
@[simp] theorem State.committing_nv (s : State) (p : PortId) (n : Fin 4) (t e : Nat) (w : Word) : (s.committing p n t e w).nv = s.nv := by
  unfold State.committing State.stage; split <;> cases p <;> rfl
@[simp] theorem State.commanding_nv (s : State) (p : PortId) (u : Src) (g : Byte) : (s.commanding p u g).nv = s.nv := by cases p <;> rfl
@[simp] theorem State.ended_tux (y : State) (p : PortId) (a : Nat) (o : Oc) (h : Option Half) : (y.ended p a o h).tux = y.tux := by cases p <;> rfl
@[simp] theorem State.modWin_tux (y : State) (p : PortId) (n : Nat) (f : Win → Win) : (y.modWin p n f).tux = y.tux := by cases p <;> rfl
@[simp] theorem State.winDone_tux (y : State) (p : PortId) (n : Nat) (o : Oc) (b : Bool) : (y.winDone p n o b).tux = y.tux := by cases p <;> rfl
@[simp] theorem State.committed_tux (y : State) (p : PortId) (n : Fin 4) (o : Oc) : (y.committed p n o).tux = y.tux := by cases p <;> rfl
@[simp] theorem State.committing_tux (s : State) (p : PortId) (n : Fin 4) (t e : Nat) (w : Word) : (s.committing p n t e w).tux = s.tux := by
  unfold State.committing State.stage; split <;> cases p <;> rfl
@[simp] theorem State.commanding_tux (s : State) (p : PortId) (u : Src) (g : Byte) : (s.commanding p u g).tux = s.tux := by cases p <;> rfl
@[simp] theorem State.ended_tsel (y : State) (p : PortId) (a : Nat) (o : Oc) (h : Option Half) : (y.ended p a o h).tsel = y.tsel := by cases p <;> rfl
@[simp] theorem State.modWin_tsel (y : State) (p : PortId) (n : Nat) (f : Win → Win) : (y.modWin p n f).tsel = y.tsel := by cases p <;> rfl
@[simp] theorem State.winDone_tsel (y : State) (p : PortId) (n : Nat) (o : Oc) (b : Bool) : (y.winDone p n o b).tsel = y.tsel := by cases p <;> rfl
@[simp] theorem State.committed_tsel (y : State) (p : PortId) (n : Fin 4) (o : Oc) : (y.committed p n o).tsel = y.tsel := by cases p <;> rfl
@[simp] theorem State.committing_tsel (s : State) (p : PortId) (n : Fin 4) (t e : Nat) (w : Word) : (s.committing p n t e w).tsel = s.tsel := by
  unfold State.committing State.stage; split <;> cases p <;> rfl
@[simp] theorem State.ended_views (y : State) (p : PortId) (a : Nat) (o : Oc) (h : Option Half) : (y.ended p a o h).views = y.views := by cases p <;> rfl
@[simp] theorem State.modWin_views (y : State) (p : PortId) (n : Nat) (f : Win → Win) : (y.modWin p n f).views = y.views := by cases p <;> rfl
@[simp] theorem State.winDone_views (y : State) (p : PortId) (n : Nat) (o : Oc) (b : Bool) : (y.winDone p n o b).views = y.views := by cases p <;> rfl
@[simp] theorem State.committed_views (y : State) (p : PortId) (n : Fin 4) (o : Oc) : (y.committed p n o).views = y.views := by cases p <;> rfl
@[simp] theorem State.committing_views (s : State) (p : PortId) (n : Fin 4) (t e : Nat) (w : Word) : (s.committing p n t e w).views = s.views := by
  unfold State.committing State.stage; split <;> cases p <;> rfl
@[simp] theorem State.commanding_views (s : State) (p : PortId) (u : Src) (g : Byte) : (s.commanding p u g).views = s.views := by cases p <;> rfl
@[simp] theorem State.ended_src (y : State) (p : PortId) (a : Nat) (o : Oc) (h : Option Half) : (y.ended p a o h).src = y.src := by cases p <;> rfl
@[simp] theorem State.modWin_src (y : State) (p : PortId) (n : Nat) (f : Win → Win) : (y.modWin p n f).src = y.src := by cases p <;> rfl
@[simp] theorem State.winDone_src (y : State) (p : PortId) (n : Nat) (o : Oc) (b : Bool) : (y.winDone p n o b).src = y.src := by cases p <;> rfl
@[simp] theorem State.committed_src (y : State) (p : PortId) (n : Fin 4) (o : Oc) : (y.committed p n o).src = y.src := by cases p <;> rfl
@[simp] theorem State.committing_src (s : State) (p : PortId) (n : Fin 4) (t e : Nat) (w : Word) : (s.committing p n t e w).src = s.src := by
  unfold State.committing State.stage; split <;> cases p <;> rfl
@[simp] theorem State.commanding_src (s : State) (p : PortId) (u : Src) (g : Byte) : (s.commanding p u g).src = s.src := by cases p <;> rfl
@[simp] theorem State.ended_granted (y : State) (p : PortId) (a : Nat) (o : Oc) (h : Option Half) : (y.ended p a o h).granted = y.granted := by cases p <;> rfl
@[simp] theorem State.modWin_granted (y : State) (p : PortId) (n : Nat) (f : Win → Win) : (y.modWin p n f).granted = y.granted := by cases p <;> rfl
@[simp] theorem State.winDone_granted (y : State) (p : PortId) (n : Nat) (o : Oc) (b : Bool) : (y.winDone p n o b).granted = y.granted := by cases p <;> rfl
@[simp] theorem State.committed_granted (y : State) (p : PortId) (n : Fin 4) (o : Oc) : (y.committed p n o).granted = y.granted := by cases p <;> rfl
@[simp] theorem State.committing_granted (s : State) (p : PortId) (n : Fin 4) (t e : Nat) (w : Word) : (s.committing p n t e w).granted = s.granted := by
  unfold State.committing State.stage; split <;> cases p <;> rfl
@[simp] theorem State.commanding_granted (s : State) (p : PortId) (u : Src) (g : Byte) : (s.commanding p u g).granted = s.granted := by cases p <;> rfl
@[simp] theorem State.ended_units (y : State) (p : PortId) (a : Nat) (o : Oc) (h : Option Half) : (y.ended p a o h).units = y.units := by cases p <;> rfl
@[simp] theorem State.modWin_units (y : State) (p : PortId) (n : Nat) (f : Win → Win) : (y.modWin p n f).units = y.units := by cases p <;> rfl
@[simp] theorem State.winDone_units (y : State) (p : PortId) (n : Nat) (o : Oc) (b : Bool) : (y.winDone p n o b).units = y.units := by cases p <;> rfl
@[simp] theorem State.committed_units (y : State) (p : PortId) (n : Fin 4) (o : Oc) : (y.committed p n o).units = y.units := by cases p <;> rfl
@[simp] theorem State.committing_units (s : State) (p : PortId) (n : Fin 4) (t e : Nat) (w : Word) : (s.committing p n t e w).units = s.units := by
  unfold State.committing State.stage; split <;> cases p <;> rfl
@[simp] theorem State.commanding_units (s : State) (p : PortId) (u : Src) (g : Byte) : (s.commanding p u g).units = s.units := by cases p <;> rfl
@[simp] theorem State.ended_dev (y : State) (p : PortId) (a : Nat) (o : Oc) (h : Option Half) : (y.ended p a o h).dev = y.dev := by cases p <;> rfl
@[simp] theorem State.modWin_dev (y : State) (p : PortId) (n : Nat) (f : Win → Win) : (y.modWin p n f).dev = y.dev := by cases p <;> rfl
@[simp] theorem State.winDone_dev (y : State) (p : PortId) (n : Nat) (o : Oc) (b : Bool) : (y.winDone p n o b).dev = y.dev := by cases p <;> rfl
@[simp] theorem State.committed_dev (y : State) (p : PortId) (n : Fin 4) (o : Oc) : (y.committed p n o).dev = y.dev := by cases p <;> rfl
@[simp] theorem State.committing_dev (s : State) (p : PortId) (n : Fin 4) (t e : Nat) (w : Word) : (s.committing p n t e w).dev = s.dev := by
  unfold State.committing State.stage; split <;> cases p <;> rfl
@[simp] theorem State.commanding_dev (s : State) (p : PortId) (u : Src) (g : Byte) : (s.commanding p u g).dev = s.dev := by cases p <;> rfl
@[simp] theorem State.ended_ln (y : State) (p : PortId) (a : Nat) (o : Oc) (h : Option Half) : (y.ended p a o h).ln = y.ln := by cases p <;> rfl
@[simp] theorem State.modWin_ln (y : State) (p : PortId) (n : Nat) (f : Win → Win) : (y.modWin p n f).ln = y.ln := by cases p <;> rfl
@[simp] theorem State.winDone_ln (y : State) (p : PortId) (n : Nat) (o : Oc) (b : Bool) : (y.winDone p n o b).ln = y.ln := by cases p <;> rfl
@[simp] theorem State.committed_ln (y : State) (p : PortId) (n : Fin 4) (o : Oc) : (y.committed p n o).ln = y.ln := by cases p <;> rfl
@[simp] theorem State.committing_ln (s : State) (p : PortId) (n : Fin 4) (t e : Nat) (w : Word) : (s.committing p n t e w).ln = s.ln := by
  unfold State.committing State.stage; split <;> cases p <;> rfl
@[simp] theorem State.commanding_ln (s : State) (p : PortId) (u : Src) (g : Byte) : (s.commanding p u g).ln = s.ln := by cases p <;> rfl
@[simp] theorem State.ended_ll (y : State) (p : PortId) (a : Nat) (o : Oc) (h : Option Half) : (y.ended p a o h).ll = y.ll := by cases p <;> rfl
@[simp] theorem State.modWin_ll (y : State) (p : PortId) (n : Nat) (f : Win → Win) : (y.modWin p n f).ll = y.ll := by cases p <;> rfl
@[simp] theorem State.winDone_ll (y : State) (p : PortId) (n : Nat) (o : Oc) (b : Bool) : (y.winDone p n o b).ll = y.ll := by cases p <;> rfl
@[simp] theorem State.committed_ll (y : State) (p : PortId) (n : Fin 4) (o : Oc) : (y.committed p n o).ll = y.ll := by cases p <;> rfl
@[simp] theorem State.committing_ll (s : State) (p : PortId) (n : Fin 4) (t e : Nat) (w : Word) : (s.committing p n t e w).ll = s.ll := by
  unfold State.committing State.stage; split <;> cases p <;> rfl
@[simp] theorem State.commanding_ll (s : State) (p : PortId) (u : Src) (g : Byte) : (s.commanding p u g).ll = s.ll := by cases p <;> rfl
@[simp] theorem State.ended_cj (y : State) (p : PortId) (a : Nat) (o : Oc) (h : Option Half) : (y.ended p a o h).cj = y.cj := by cases p <;> rfl
@[simp] theorem State.modWin_cj (y : State) (p : PortId) (n : Nat) (f : Win → Win) : (y.modWin p n f).cj = y.cj := by cases p <;> rfl
@[simp] theorem State.winDone_cj (y : State) (p : PortId) (n : Nat) (o : Oc) (b : Bool) : (y.winDone p n o b).cj = y.cj := by cases p <;> rfl
@[simp] theorem State.committed_cj (y : State) (p : PortId) (n : Fin 4) (o : Oc) : (y.committed p n o).cj = y.cj := by cases p <;> rfl
@[simp] theorem State.committing_cj (s : State) (p : PortId) (n : Fin 4) (t e : Nat) (w : Word) : (s.committing p n t e w).cj = s.cj := by
  unfold State.committing State.stage; split <;> cases p <;> rfl
@[simp] theorem State.commanding_cj (s : State) (p : PortId) (u : Src) (g : Byte) : (s.commanding p u g).cj = s.cj := by cases p <;> rfl
@[simp] theorem State.ended_ob (y : State) (p : PortId) (a : Nat) (o : Oc) (h : Option Half) : (y.ended p a o h).ob = y.ob := by cases p <;> rfl
@[simp] theorem State.modWin_ob (y : State) (p : PortId) (n : Nat) (f : Win → Win) : (y.modWin p n f).ob = y.ob := by cases p <;> rfl
@[simp] theorem State.winDone_ob (y : State) (p : PortId) (n : Nat) (o : Oc) (b : Bool) : (y.winDone p n o b).ob = y.ob := by cases p <;> rfl
@[simp] theorem State.committed_ob (y : State) (p : PortId) (n : Fin 4) (o : Oc) : (y.committed p n o).ob = y.ob := by cases p <;> rfl
@[simp] theorem State.committing_ob (s : State) (p : PortId) (n : Fin 4) (t e : Nat) (w : Word) : (s.committing p n t e w).ob = s.ob := by
  unfold State.committing State.stage; split <;> cases p <;> rfl
@[simp] theorem State.commanding_ob (s : State) (p : PortId) (u : Src) (g : Byte) : (s.commanding p u g).ob = s.ob := by cases p <;> rfl
@[simp] theorem State.ended_rng (y : State) (p : PortId) (a : Nat) (o : Oc) (h : Option Half) : (y.ended p a o h).rng = y.rng := by cases p <;> rfl
@[simp] theorem State.modWin_rng (y : State) (p : PortId) (n : Nat) (f : Win → Win) : (y.modWin p n f).rng = y.rng := by cases p <;> rfl
@[simp] theorem State.winDone_rng (y : State) (p : PortId) (n : Nat) (o : Oc) (b : Bool) : (y.winDone p n o b).rng = y.rng := by cases p <;> rfl
@[simp] theorem State.committed_rng (y : State) (p : PortId) (n : Fin 4) (o : Oc) : (y.committed p n o).rng = y.rng := by cases p <;> rfl
@[simp] theorem State.committing_rng (s : State) (p : PortId) (n : Fin 4) (t e : Nat) (w : Word) : (s.committing p n t e w).rng = s.rng := by
  unfold State.committing State.stage; split <;> cases p <;> rfl
@[simp] theorem State.commanding_rng (s : State) (p : PortId) (u : Src) (g : Byte) : (s.commanding p u g).rng = s.rng := by cases p <;> rfl
@[simp] theorem State.ended_ms (y : State) (p : PortId) (a : Nat) (o : Oc) (h : Option Half) : (y.ended p a o h).ms = y.ms := by cases p <;> rfl
@[simp] theorem State.modWin_ms (y : State) (p : PortId) (n : Nat) (f : Win → Win) : (y.modWin p n f).ms = y.ms := by cases p <;> rfl
@[simp] theorem State.winDone_ms (y : State) (p : PortId) (n : Nat) (o : Oc) (b : Bool) : (y.winDone p n o b).ms = y.ms := by cases p <;> rfl
@[simp] theorem State.committed_ms (y : State) (p : PortId) (n : Fin 4) (o : Oc) : (y.committed p n o).ms = y.ms := by cases p <;> rfl
@[simp] theorem State.committing_ms (s : State) (p : PortId) (n : Fin 4) (t e : Nat) (w : Word) : (s.committing p n t e w).ms = s.ms := by
  unfold State.committing State.stage; split <;> cases p <;> rfl
@[simp] theorem State.commanding_ms (s : State) (p : PortId) (u : Src) (g : Byte) : (s.commanding p u g).ms = s.ms := by cases p <;> rfl
@[simp] theorem State.ended_rc (y : State) (p : PortId) (a : Nat) (o : Oc) (h : Option Half) : (y.ended p a o h).rc = y.rc := by cases p <;> rfl
@[simp] theorem State.modWin_rc (y : State) (p : PortId) (n : Nat) (f : Win → Win) : (y.modWin p n f).rc = y.rc := by cases p <;> rfl
@[simp] theorem State.winDone_rc (y : State) (p : PortId) (n : Nat) (o : Oc) (b : Bool) : (y.winDone p n o b).rc = y.rc := by cases p <;> rfl
@[simp] theorem State.committed_rc (y : State) (p : PortId) (n : Fin 4) (o : Oc) : (y.committed p n o).rc = y.rc := by cases p <;> rfl
@[simp] theorem State.committing_rc (s : State) (p : PortId) (n : Fin 4) (t e : Nat) (w : Word) : (s.committing p n t e w).rc = s.rc := by
  unfold State.committing State.stage; split <;> cases p <;> rfl
@[simp] theorem State.commanding_rc (s : State) (p : PortId) (u : Src) (g : Byte) : (s.commanding p u g).rc = s.rc := by cases p <;> rfl
@[simp] theorem State.ended_op1 (y : State) (p : PortId) (a : Nat) (o : Oc) (h : Option Half) : (y.ended p a o h).op1 = y.op1 := by cases p <;> rfl
@[simp] theorem State.modWin_op1 (y : State) (p : PortId) (n : Nat) (f : Win → Win) : (y.modWin p n f).op1 = y.op1 := by cases p <;> rfl
@[simp] theorem State.winDone_op1 (y : State) (p : PortId) (n : Nat) (o : Oc) (b : Bool) : (y.winDone p n o b).op1 = y.op1 := by cases p <;> rfl
@[simp] theorem State.committed_op1 (y : State) (p : PortId) (n : Fin 4) (o : Oc) : (y.committed p n o).op1 = y.op1 := by cases p <;> rfl
@[simp] theorem State.committing_op1 (s : State) (p : PortId) (n : Fin 4) (t e : Nat) (w : Word) : (s.committing p n t e w).op1 = s.op1 := by
  unfold State.committing State.stage; split <;> cases p <;> rfl
@[simp] theorem State.commanding_op1 (s : State) (p : PortId) (u : Src) (g : Byte) : (s.commanding p u g).op1 = s.op1 := by cases p <;> rfl
@[simp] theorem State.ended_op2 (y : State) (p : PortId) (a : Nat) (o : Oc) (h : Option Half) : (y.ended p a o h).op2 = y.op2 := by cases p <;> rfl
@[simp] theorem State.modWin_op2 (y : State) (p : PortId) (n : Nat) (f : Win → Win) : (y.modWin p n f).op2 = y.op2 := by cases p <;> rfl
@[simp] theorem State.winDone_op2 (y : State) (p : PortId) (n : Nat) (o : Oc) (b : Bool) : (y.winDone p n o b).op2 = y.op2 := by cases p <;> rfl
@[simp] theorem State.committed_op2 (y : State) (p : PortId) (n : Fin 4) (o : Oc) : (y.committed p n o).op2 = y.op2 := by cases p <;> rfl
@[simp] theorem State.committing_op2 (s : State) (p : PortId) (n : Fin 4) (t e : Nat) (w : Word) : (s.committing p n t e w).op2 = s.op2 := by
  unfold State.committing State.stage; split <;> cases p <;> rfl
@[simp] theorem State.commanding_op2 (s : State) (p : PortId) (u : Src) (g : Byte) : (s.commanding p u g).op2 = s.op2 := by cases p <;> rfl
@[simp] theorem State.ended_sf (y : State) (p : PortId) (a : Nat) (o : Oc) (h : Option Half) : (y.ended p a o h).sf = y.sf := by cases p <;> rfl
@[simp] theorem State.modWin_sf (y : State) (p : PortId) (n : Nat) (f : Win → Win) : (y.modWin p n f).sf = y.sf := by cases p <;> rfl
@[simp] theorem State.winDone_sf (y : State) (p : PortId) (n : Nat) (o : Oc) (b : Bool) : (y.winDone p n o b).sf = y.sf := by cases p <;> rfl
@[simp] theorem State.committed_sf (y : State) (p : PortId) (n : Fin 4) (o : Oc) : (y.committed p n o).sf = y.sf := by cases p <;> rfl
@[simp] theorem State.committing_sf (s : State) (p : PortId) (n : Fin 4) (t e : Nat) (w : Word) : (s.committing p n t e w).sf = s.sf := by
  unfold State.committing State.stage; split <;> cases p <;> rfl
@[simp] theorem State.commanding_sf (s : State) (p : PortId) (u : Src) (g : Byte) : (s.commanding p u g).sf = s.sf := by cases p <;> rfl
@[simp] theorem State.ended_lp (y : State) (p : PortId) (a : Nat) (o : Oc) (h : Option Half) : (y.ended p a o h).lp = y.lp := by cases p <;> rfl
@[simp] theorem State.modWin_lp (y : State) (p : PortId) (n : Nat) (f : Win → Win) : (y.modWin p n f).lp = y.lp := by cases p <;> rfl
@[simp] theorem State.winDone_lp (y : State) (p : PortId) (n : Nat) (o : Oc) (b : Bool) : (y.winDone p n o b).lp = y.lp := by cases p <;> rfl
@[simp] theorem State.committed_lp (y : State) (p : PortId) (n : Fin 4) (o : Oc) : (y.committed p n o).lp = y.lp := by cases p <;> rfl
@[simp] theorem State.committing_lp (s : State) (p : PortId) (n : Fin 4) (t e : Nat) (w : Word) : (s.committing p n t e w).lp = s.lp := by
  unfold State.committing State.stage; split <;> cases p <;> rfl
@[simp] theorem State.commanding_lp (s : State) (p : PortId) (u : Src) (g : Byte) : (s.commanding p u g).lp = s.lp := by cases p <;> rfl
@[simp] theorem State.ended_pw (y : State) (p : PortId) (a : Nat) (o : Oc) (h : Option Half) : (y.ended p a o h).pw = y.pw := by cases p <;> rfl
@[simp] theorem State.modWin_pw (y : State) (p : PortId) (n : Nat) (f : Win → Win) : (y.modWin p n f).pw = y.pw := by cases p <;> rfl
@[simp] theorem State.winDone_pw (y : State) (p : PortId) (n : Nat) (o : Oc) (b : Bool) : (y.winDone p n o b).pw = y.pw := by cases p <;> rfl
@[simp] theorem State.committed_pw (y : State) (p : PortId) (n : Fin 4) (o : Oc) : (y.committed p n o).pw = y.pw := by cases p <;> rfl
@[simp] theorem State.committing_pw (s : State) (p : PortId) (n : Fin 4) (t e : Nat) (w : Word) : (s.committing p n t e w).pw = s.pw := by
  unfold State.committing State.stage; split <;> cases p <;> rfl
@[simp] theorem State.commanding_pw (s : State) (p : PortId) (u : Src) (g : Byte) : (s.commanding p u g).pw = s.pw := by cases p <;> rfl
@[simp] theorem State.ended_sn (y : State) (p : PortId) (a : Nat) (o : Oc) (h : Option Half) : (y.ended p a o h).sn = y.sn := by cases p <;> rfl
@[simp] theorem State.modWin_sn (y : State) (p : PortId) (n : Nat) (f : Win → Win) : (y.modWin p n f).sn = y.sn := by cases p <;> rfl
@[simp] theorem State.winDone_sn (y : State) (p : PortId) (n : Nat) (o : Oc) (b : Bool) : (y.winDone p n o b).sn = y.sn := by cases p <;> rfl
@[simp] theorem State.committed_sn (y : State) (p : PortId) (n : Fin 4) (o : Oc) : (y.committed p n o).sn = y.sn := by cases p <;> rfl
@[simp] theorem State.committing_sn (s : State) (p : PortId) (n : Fin 4) (t e : Nat) (w : Word) : (s.committing p n t e w).sn = s.sn := by
  unfold State.committing State.stage; split <;> cases p <;> rfl
@[simp] theorem State.commanding_sn (s : State) (p : PortId) (u : Src) (g : Byte) : (s.commanding p u g).sn = s.sn := by cases p <;> rfl

/-- The byte address of WINn_DATA. -/
theorem winData_addr (n : Fin 4) : (20 + 8 * n.val - 16) / 8 = n.val ∧ (20 + 8 * n.val) % 8 / 2 = 2 ∧ (20 + 8 * n.val) % 8 = 4 ∧
  (16 ≤ 20 + 8 * n.val) ∧ (20 + 8 * n.val < 48) ∧ (20 + 8 * n.val ≠ 6) := by have := n.isLt; omega

/-- The profile of an access to WINn_DATA (spec/02_host_access.md R43). -/
theorem State.winData_profile (s : State) (p : PortId) (n : Fin 4) (w : Bool) :
    s.profile p (0x14 + 8 * n.val) w 0 = if (s.winOf p n).hw % 8 = (if w then 7 else 0) then 48 else 16 := by
  obtain ⟨h1, h2, h3, h4, h5, h6⟩ := winData_addr n
  simp only [State.profile, h1, h3, h4, h5, and_self, if_true]
  simp


/-! Unit commands. -/

theorem State.serves_less {s : State} {p : PortId} {n k : Nat} (h : s.serves p n = true) (hk : k ≤ n) : s.serves p k = true := by
  simp only [State.serves, Bool.and_eq_true] at h ⊢
  refine ⟨h.1, ?_⟩
  have w := h.2
  split <;> rename_i ht
  · rfl
  · rw [ht] at w; simp only [Nat.ble_eq] at w ⊢; omega

/-- A unit command row by the owner (spec/03_units_events.md R83, R87). -/
theorem State.unitRow_owner {s : State} {p : PortId} {u : Src} {cmd arg : Nat} {gen : Byte} {check : Bool}
    (h : s.ownerRow p u gen check = true) (hu : Src.unitOf u.code = some u) (hc : cmd < 16) (ha : arg < 256) :
    s.unitRow p u cmd gen check arg =
      (((s.commanding p u gen).unitCmd u cmd arg).2.ended p 0x42 ((s.commanding p u gen).unitCmd u cmd arg).1 none) := by
  simp only [State.ownerRow, Bool.and_eq_true, beq_iff_eq, Bool.or_eq_true, Bool.not_eq_true'] at h
  obtain ⟨⟨hs, ho⟩, hg⟩ := h
  have hcode : u.code < 16 := by cases u <;> decide
  have hgn := gen.isLt
  have hd : (BitVec.ofNat 16 (u.code + 256 * gen.toNat)).toNat = u.code + 256 * gen.toNat := by
    rw [BitVec.toNat_ofNat]; omega
  have e1 : s.bus p 0x40 (some (BitVec.ofNat 16 (u.code + 256 * gen.toNat))) =
      ((s.advance 15).modSel 0 (fun x => { x with
        unitSel := BitVec.ofNat 16 (u.code + 256 * gen.toNat) })).ended p 0x40 .ok none := by
    rw [State.bus_write (n := 16) (State.serves_less hs (by omega)) (by cases p <;> rfl)]
    have ho' : (s.advance (16 - 1)).acting p = 0 := ho
    have hm : (u.code + 256 * gen.toNat) % 256 = u.code := by omega
    simp only [State.regWrite, ho', hd, hm, hu]
    rfl
  have e2 : (s.commanding p u gen).acting p = 0 := by cases p <;> exact ho
  have e3 : (vget (s.commanding p u gen).tsel 0).unitSel = BitVec.ofNat 16 (u.code + 256 * gen.toNat) := by
    have : (s.commanding p u gen).tsel = vmod s.tsel 0 (fun x => { x with
        unitSel := BitVec.ofNat 16 (u.code + 256 * gen.toNat) }) := by cases p <;> rfl
    rw [this, vmod, vget_vset_same _ _ _ (by omega)]
  have e4 : (s.commanding p u gen).mirror u = s.mirror u := by cases p <;> rfl
  rw [State.unitRow, e1]
  have hs2 : (((s.advance 15).modSel 0 (fun x => { x with
      unitSel := BitVec.ofNat 16 (u.code + 256 * gen.toNat) })).ended p 0x40 .ok none).serves p 16 = true := by
    have : s.serves p 32 = true := hs
    simp only [State.serves, Bool.and_eq_true] at this ⊢
    refine ⟨by cases p <;> exact this.1, ?_⟩
    have w := this.2
    have hd : ((((s.advance 15).modSel 0 (fun x => { x with
      unitSel := BitVec.ofNat 16 (u.code + 256 * gen.toNat) })).ended p 0x40 .ok none)).dev = s.dev := by cases p <;> rfl
    have ht : ((((s.advance 15).modSel 0 (fun x => { x with
      unitSel := BitVec.ofNat 16 (u.code + 256 * gen.toNat) })).ended p 0x40 .ok none)).tick = s.tick + 16 := by cases p <;> rfl
    rw [hd, ht]
    split <;> rename_i hw
    · rfl
    · rw [hw] at w; simp only [Nat.ble_eq] at w ⊢; omega
  rw [State.bus_write (n := 16) hs2 (by cases p <;> rfl)]
  have key : (s.commanding p u gen).regWrite p 0x42 (cmdHalf cmd check arg) = (s.commanding p u gen).unitCmd u cmd arg := by
    have hb : b2n check < 2 := by cases check <;> decide
    have hn : (cmdHalf cmd check arg).toNat = cmd + 16 * b2n check + 256 * arg := by
      rw [cmdHalf, BitVec.toNat_ofNat]; omega
    have h1 : (cmd + 16 * b2n check + 256 * arg) % 16 = cmd := by omega
    have h2 : (cmd + 16 * b2n check + 256 * arg) / 256 = arg := by omega
    have h3 : (u.code + 256 * gen.toNat) % 256 = u.code := by omega
    have h4 : (u.code + 256 * gen.toNat) / 256 = gen.toNat := by omega
    have h5 : bitOf (cmd + 16 * b2n check + 256 * arg) 4 = check := by
      have : (cmd + 16 * b2n check + 256 * arg) / 16 % 2 = b2n check := by omega
      rw [bitOf, Nat.testBit, Nat.shiftRight_eq_div_pow]
      simp only [show 2 ^ 4 = 16 from rfl, Nat.one_and_eq_mod_two, this]
      cases check <;> rfl
    simp only [State.regWrite, e2, State.unitWrite, e3, hd, h3, h4, hn, h1, h2, h5, hu, e4, ne_eq, not_true, if_false]
    rw [Bool.and_assoc, Bool.and_eq_false_imp.mpr, if_neg Bool.false_ne_true]
    · rfl
    · intro hx
      rcases hg with hg | hg <;> simp_all
  have key' := key
  simp only [State.commanding] at key'
  simp only [show 16 - 1 = 15 from rfl, key']
  rfl

end Sys2Proof.Machine
end

