-- ==== Sys2Proof/Laws/Kept.lean ====
section
/-! SUPPORT. `Kept w s t`: what every operation keeps, and what an operation leaves alone. The queue of waiting commands
stays as it is, no free value is drawn twice, the well-formed stays well-formed; and whatever the mask `w` does not name
stays as it was. Bit `n` of the mask names a part of the state, bit 64 + t the window table t, bit 128 + n the mirror of a
unit, bit 160 + n the events of a source. Time may pass in every operation: Geyser's stamp is not a part. -/

namespace Sys2Proof.Machine

open Sys2Proof

/-- Geyser but for its stamp, which time alone moves. -/
def Gy.still (g : Gy) : Gy := { g with stamp := 0 }

/-- The masks of a window table, of a unit's mirror and of a source's events. -/
def tabMask (t : Nat) : Nat := 2 ^ (64 + t % 64)
def unitMask (u : Src) : Nat := 2 ^ (128 + u.idx)
def srcMask (u : Src) : Nat := 2 ^ (160 + u.idx)

/-- From `s` to `t` every operation keeps the first three, and one within the mask `w` the others. -/
structure Kept (w : Nat) (s t : State) : Prop where
  pending : t.pending = s.pending
  free : s.free ≤ t.free
  wf : s.wf → t.wf
  port0 : w.testBit 0 = false → t.port0 = s.port0
  port1 : w.testBit 1 = false → t.port1 = s.port1
  tux : w.testBit 2 = false → t.tux = s.tux
  tsel : w.testBit 3 = false → t.tsel = s.tsel
  views : w.testBit 4 = false → t.views = s.views
  granted : w.testBit 5 = false → t.granted = s.granted
  dev : w.testBit 6 = false → t.dev = s.dev
  gy : w.testBit 7 = false → t.gy.still = s.gy.still
  ln : w.testBit 8 = false → t.ln = s.ln
  ll : w.testBit 9 = false → t.ll = s.ll
  cj : w.testBit 10 = false → t.cj = s.cj
  ob : w.testBit 11 = false → t.ob = s.ob
  rng : w.testBit 12 = false → t.rng = s.rng
  ms : w.testBit 13 = false → t.ms = s.ms
  rc : w.testBit 14 = false → t.rc = s.rc
  op1 : w.testBit 15 = false → t.op1 = s.op1
  op2 : w.testBit 16 = false → t.op2 = s.op2
  sf : w.testBit 17 = false → t.sf = s.sf
  lp : w.testBit 18 = false → t.lp = s.lp
  pw : w.testBit 19 = false → t.pw = s.pw
  sn : w.testBit 20 = false → t.sn = s.sn
  nv : w.testBit 21 = false → t.nv = s.nv
  tab : ∀ n e, n < 64 → w.testBit (64 + n) = false → s.wf → t.rd n e = s.rd n e
  unit : ∀ u : Src, w.testBit (128 + u.idx) = false → t.mirror u = s.mirror u
  src : ∀ u : Src, w.testBit (160 + u.idx) = false → vget t.src u.idx = vget s.src u.idx

/-- A mask within a mask within a mask. -/
theorem maskSub {a b w : Nat} (h : a &&& b = a) (k : b &&& w = b) : a &&& w = a := by
  rw [← h, Nat.and_assoc, k]

theorem mask_bit {n w : Nat} (h : 2 ^ n &&& w = 2 ^ n) : w.testBit n = true := by
  have := congrArg (fun x => x.testBit n) h
  simpa [Nat.testBit_and] using this

theorem Kept.refl (w : Nat) (s : State) : Kept w s s := by
  constructor <;> (intros; first | rfl | exact Nat.le_refl _ | assumption)

theorem Kept.trans {w : Nat} {s t u : State} (h : Kept w s t) (k : Kept w t u) : Kept w s u where
  pending := k.pending.trans h.pending
  free := Nat.le_trans h.free k.free
  wf := fun x => k.wf (h.wf x)
  port0 := fun x => (k.port0 x).trans (h.port0 x)
  port1 := fun x => (k.port1 x).trans (h.port1 x)
  tux := fun x => (k.tux x).trans (h.tux x)
  tsel := fun x => (k.tsel x).trans (h.tsel x)
  views := fun x => (k.views x).trans (h.views x)
  granted := fun x => (k.granted x).trans (h.granted x)
  dev := fun x => (k.dev x).trans (h.dev x)
  gy := fun x => (k.gy x).trans (h.gy x)
  ln := fun x => (k.ln x).trans (h.ln x)
  ll := fun x => (k.ll x).trans (h.ll x)
  cj := fun x => (k.cj x).trans (h.cj x)
  ob := fun x => (k.ob x).trans (h.ob x)
  rng := fun x => (k.rng x).trans (h.rng x)
  ms := fun x => (k.ms x).trans (h.ms x)
  rc := fun x => (k.rc x).trans (h.rc x)
  op1 := fun x => (k.op1 x).trans (h.op1 x)
  op2 := fun x => (k.op2 x).trans (h.op2 x)
  sf := fun x => (k.sf x).trans (h.sf x)
  lp := fun x => (k.lp x).trans (h.lp x)
  pw := fun x => (k.pw x).trans (h.pw x)
  sn := fun x => (k.sn x).trans (h.sn x)
  nv := fun x => (k.nv x).trans (h.nv x)
  tab := fun n e l x y => (k.tab n e l x (h.wf y)).trans (h.tab n e l x y)
  unit := fun u x => (k.unit u x).trans (h.unit u x)
  src := fun u x => (k.src u x).trans (h.src u x)

/-- An outcome that answers a next state keeps what every operation keeps. -/
def KeptO (w : Nat) (s : State) (o : Host.Outcome State Fault Refusal) : Prop := ∀ t, o = .next t → Kept w s t

/-- A choice that comes with a state keeps what every operation keeps. -/
def KeptP {α : Type} (w : Nat) (s : State) (o : Option (α × State)) : Prop := ∀ x, o = some x → Kept w s x.2

/-! The shapes a definition is built in. -/

theorem Kept.ite {w : Nat} {s a b : State} {c : Prop} [Decidable c] (ha : Kept w s a) (hb : Kept w s b) :
    Kept w s (if c then a else b) := by split <;> assumption

theorem Kept.ite2 {w : Nat} {α : Type} {s : State} {a b : α × State} {c : Prop} [Decidable c] (ha : Kept w s a.2) (hb : Kept w s b.2) :
    Kept w s (if c then a else b).2 := by split <;> assumption

theorem Kept.ite3 {w : Nat} {α β : Type} {s : State} {a b : α × β × State} {c : Prop} [Decidable c] (ha : Kept w s a.2.2)
    (hb : Kept w s b.2.2) : Kept w s (if c then a else b).2.2 := by split <;> assumption

theorem KeptO.ite {w : Nat} {s : State} {a b : Host.Outcome State Fault Refusal} {c : Prop} [Decidable c] (ha : KeptO w s a)
    (hb : KeptO w s b) : KeptO w s (if c then a else b) := by split <;> assumption

theorem KeptP.ite {w : Nat} {α : Type} {s : State} {a b : Option (α × State)} {c : Prop} [Decidable c] (ha : KeptP w s a)
    (hb : KeptP w s b) : KeptP w s (if c then a else b) := by split <;> assumption

theorem KeptO.next {w : Nat} {s t : State} (h : Kept w s t) : KeptO w s (.next t) := by
  intro u hu; cases hu; exact h

theorem KeptP.none {w : Nat} {α : Type} {s : State} : KeptP w s (none : Option (α × State)) := by intro x hx; cases hx

theorem KeptP.some {w : Nat} {α : Type} {s t : State} {a : α} (h : Kept w s t) : KeptP w s (some (a, t)) := by
  intro x hx; cases hx; exact h

theorem Kept.foldl {w : Nat} {α : Type} {s x : State} {f : State → α → State} {l : List α}
    (hf : ∀ y a, Kept w s y → Kept w s (f y a)) (h : Kept w s x) : Kept w s (l.foldl f x) := by
  induction l generalizing x with
  | nil => exact h
  | cons a t ih => exact ih (hf x a h)

theorem Kept.foldl2 {w : Nat} {α β : Type} {s : State} {x : β × State} {f : β × State → α → β × State} {l : List α}
    (hf : ∀ y a, Kept w s y.2 → Kept w s (f y a).2) (h : Kept w s x.2) : Kept w s (l.foldl f x).2 := by
  induction l generalizing x with
  | nil => exact h
  | cons a t ih => exact ih (hf x a h)

theorem KeptP.get {w : Nat} {α : Type} {s y : State} {a : α} {o : Option (α × State)} (h : KeptP w s o) (e : o = Option.some (a, y)) :
    Kept w s y := h _ e

theorem KeptP.map {w : Nat} {α β : Type} {s : State} {o : Option β} {f : β → α × State} (h : ∀ z, Kept w s (f z).2) :
    KeptP w s (o.map f) := by
  intro x hx
  obtain ⟨z, -, rfl⟩ := Option.map_eq_some_iff.1 hx
  exact h z

theorem Kept.of2 {w : Nat} {α : Type} {s y : State} {a : α} {p : α × State} (h : Kept w s p.2) (e : p = (a, y)) : Kept w s y := by
  subst e; exact h

theorem Kept.of3 {w : Nat} {α β : Type} {s y : State} {a : α} {b : β} {p : α × β × State} (h : Kept w s p.2.2)
    (e : p = (a, b, y)) : Kept w s y := by subst e; exact h

theorem Kept.of4 {w : Nat} {α β γ : Type} {s y : State} {a : α} {b : β} {c : γ} {p : α × β × γ × State} (h : Kept w s p.2.2.2)
    (e : p = (a, b, c, y)) : Kept w s y := by subst e; exact h

/-! The primitive operations. -/

theorem rd_of_cells {s t : State} (h : t.cells = s.cells) (n e : Nat) : t.rd n e = s.rd n e := by
  simp only [State.rd, State.cell, h]

theorem wf_of_stores {s t : State} (hc : t.cells = s.cells) (hn : t.nv = s.nv) (hv : t.views = s.views) (h : s.wf) :
    t.wf := by simpa only [State.wf, hc, hn, hv] using h

theorem State.wr_kept {w : Nat} {s0 x : State} {t e : Nat} {v : Word} (hw : tabMask t &&& w = tabMask t)
    (h : Kept w s0 x) : Kept w s0 (x.wr t e v) := by
  refine h.trans ?_
  have hb := mask_bit hw
  constructor
  case wf =>
    intro k
    unfold State.wr
    dsimp only
    split
    · exact k
    · exact ⟨cellsWf_put _ _ (by simp) k.1, k.2.1, k.2.2⟩
  case tab =>
    intro n e' hl hn k
    have hne : n ≠ t := by rintro rfl; rw [Nat.mod_eq_of_lt hl, hn] at hb; cases hb
    unfold State.wr State.rd State.cell
    dsimp only
    split
    · rfl
    · dsimp only
      rw [Sparse.get_put_ne _ (by have := k.1; simp only [cellsWf, Bool.and_eq_true] at this; exact this.1)]
      unfold cellKey
      omega
  all_goals (intros; simp [State.mirror])

/-- A lookup in a store whose values alone were changed. -/
theorem Sparse.get_map {α : Type} (l : List (Nat × α)) (g : Nat → α → α) (k : Nat) :
    Sparse.get (l.map (fun p => (p.1, g p.1 p.2))) k = (Sparse.get l k).map (g k) := by
  induction l with
  | nil => rfl
  | cons p t ih =>
    obtain ⟨k', v⟩ := p
    simp only [List.map_cons, Sparse.get]
    split
    · next e => subst e; rfl
    · split
      · rfl
      · exact ih

theorem zeroTable_rd_ne (s : State) (t n e : Nat) (h : n ≠ t) : (s.zeroTable t).rd n e = s.rd n e := by
  have hm : (s.zeroTable t).cells = s.cells.map (fun p =>
      (p.1, if p.1 / 4096 = t ∧ p.2.word ≠ 0 then { word := 0, ver := p.2.ver + 1 } else p.2)) := by
    simp only [State.zeroTable]
    refine List.map_congr_left (fun p _ => ?_)
    split <;> rfl
  have hk : cellKey n e / 4096 ≠ t := by unfold cellKey; omega
  simp only [State.rd, State.cell, hm]
  rw [Sparse.get_map s.cells (fun k c => if k / 4096 = t ∧ c.word ≠ 0 then { word := 0, ver := c.ver + 1 } else c)]
  rcases Sparse.get s.cells (cellKey n e) with _ | c
  · rfl
  · simp [hk]

theorem State.zeroTable_kept {w : Nat} {s0 x : State} {t : Nat} (hw : tabMask t &&& w = tabMask t) (h : Kept w s0 x) :
    Kept w s0 (x.zeroTable t) := by
  refine h.trans ?_
  have hb := mask_bit hw
  constructor
  case wf =>
    intro k
    refine ⟨?_, k.2.1, k.2.2⟩
    have hc := k.1
    simp only [State.zeroTable, cellsWf, Bool.and_eq_true, List.all_eq_true] at hc ⊢
    refine ⟨Sparse.above_map _ (fun p => by split <;> rfl) hc.1, fun q hq => ?_⟩
    obtain ⟨p, hp, rfl⟩ := List.mem_map.1 hq
    split
    · simp
    · exact hc.2 p hp
  case tab =>
    intro n e hl hn _
    have hne : n ≠ t := by rintro rfl; rw [Nat.mod_eq_of_lt hl, hn] at hb; cases hb
    exact zeroTable_rd_ne _ _ _ _ hne
  all_goals (intros; rfl)

theorem State.draw_kept {w : Nat} {s0 x : State} (h : Kept w s0 x) : Kept w s0 x.draw.2 := by
  refine h.trans ?_
  constructor <;> (intros; first | rfl | exact Nat.le_succ _ | assumption)

theorem State.advance_kept {w : Nat} {s0 x : State} {n : Nat} (h : Kept w s0 x) : Kept w s0 (State.advance n x) := by
  refine h.trans ?_
  constructor <;> (intros; first | rfl | exact Nat.le_refl _ | assumption)

theorem vget_vset_srcs {n : Nat} {α : Type} [Inhabited α] {w b : Nat} {v : Vector α n} {u u' : Src} {x : α}
    (hb : w.testBit (b + u.idx) = true) (hu : w.testBit (b + u'.idx) = false) :
    vget (vset v u.idx x) u'.idx = vget v u'.idx := by
  refine vget_vset_ne _ _ _ _ ?_
  intro e
  rw [e] at hb
  rw [hb] at hu
  cases hu

theorem State.raise_kept {w : Nat} {s0 x : State} {u : Src} {e : Ev} (hw : srcMask u &&& w = srcMask u)
    (h : Kept w s0 x) : Kept w s0 (x.raise u e) := by
  refine h.trans ?_
  have hb := mask_bit hw
  constructor
  case src => intro u' hu; exact vget_vset_srcs hb hu
  all_goals (intros; first | rfl | exact Nat.le_refl _ | assumption)

theorem State.withdraw_kept {w : Nat} {s0 x : State} {u : Src} {r : Nat} (hw : srcMask u &&& w = srcMask u)
    (h : Kept w s0 x) : Kept w s0 (x.withdraw u r) := by
  refine h.trans ?_
  have hb := mask_bit hw
  constructor
  case src => intro u' hu; exact vget_vset_srcs hb hu
  all_goals (intros; first | rfl | exact Nat.le_refl _ | assumption)

theorem State.changeMirror_kept {w : Nat} {s0 x : State} {u : Src} {f : Mirror → Mirror}
    (hu : unitMask u &&& w = unitMask u) (hs : srcMask u &&& w = srcMask u) (h : Kept w s0 x) :
    Kept w s0 (x.changeMirror u f) := by
  refine h.trans ?_
  have hub := mask_bit hu
  have hsb := mask_bit hs
  constructor
  case wf => intro k; exact wf_of_stores (by simp) (by simp) (by simp) k
  case tab => intro n e _ _ _; exact rd_of_cells (by simp) n e
  case unit =>
    intro u' hu'
    unfold State.mirror State.changeMirror
    dsimp only
    split
    · exact vget_vset_srcs hub hu'
    · split <;> exact vget_vset_srcs hub hu'
  case src =>
    intro u' hu'
    unfold State.changeMirror
    dsimp only
    split
    · rfl
    · split
      · exact vget_vset_srcs hsb hu'
      · exact vget_vset_srcs hsb hu'
  all_goals (intros; simp)

theorem State.modPort_kept {w : Nat} {s0 x : State} {p : PortId} {f : Port → Port} (hw : 3 &&& w = 3) (h : Kept w s0 x) :
    Kept w s0 (x.modPort p f) := by
  refine h.trans ?_
  have h0 : w.testBit 0 = true := mask_bit (maskSub rfl hw)
  have h1 : w.testBit 1 = true := mask_bit (maskSub rfl hw)
  cases p <;> constructor
  case p0.port0 => intro k; rw [h0] at k; cases k
  case p1.port1 => intro k; rw [h1] at k; cases k
  all_goals (intros; first | rfl | exact Nat.le_refl _ | assumption)

theorem State.modDev_kept {w : Nat} {s0 x : State} {f : Dev → Dev} (hw : 64 &&& w = 64) (h : Kept w s0 x) :
    Kept w s0 (x.modDev f) := by
  refine h.trans ?_
  have hb : w.testBit 6 = true := mask_bit (maskSub rfl hw)
  constructor
  case dev => intro k; rw [hb] at k; cases k
  all_goals (intros; first | rfl | exact Nat.le_refl _ | assumption)

theorem State.modGy_kept {w : Nat} {s0 x : State} {f : Gy → Gy} (hw : 128 &&& w = 128) (h : Kept w s0 x) :
    Kept w s0 (x.modGy f) := by
  refine h.trans ?_
  have hb : w.testBit 7 = true := mask_bit (maskSub rfl hw)
  constructor
  case gy => intro k; rw [hb] at k; cases k
  all_goals (intros; first | rfl | exact Nat.le_refl _ | assumption)

theorem State.modLn_kept {w : Nat} {s0 x : State} {f : Ln → Ln} (hw : 256 &&& w = 256) (h : Kept w s0 x) :
    Kept w s0 (x.modLn f) := by
  refine h.trans ?_
  have hb : w.testBit 8 = true := mask_bit (maskSub rfl hw)
  constructor
  case ln => intro k; rw [hb] at k; cases k
  all_goals (intros; first | rfl | exact Nat.le_refl _ | assumption)

theorem State.modLl_kept {w : Nat} {s0 x : State} {f : Ll → Ll} (hw : 512 &&& w = 512) (h : Kept w s0 x) :
    Kept w s0 (x.modLl f) := by
  refine h.trans ?_
  have hb : w.testBit 9 = true := mask_bit (maskSub rfl hw)
  constructor
  case ll => intro k; rw [hb] at k; cases k
  all_goals (intros; first | rfl | exact Nat.le_refl _ | assumption)

theorem State.modCj_kept {w : Nat} {s0 x : State} {f : Cj → Cj} (hw : 1024 &&& w = 1024) (h : Kept w s0 x) :
    Kept w s0 (x.modCj f) := by
  refine h.trans ?_
  have hb : w.testBit 10 = true := mask_bit (maskSub rfl hw)
  constructor
  case cj => intro k; rw [hb] at k; cases k
  all_goals (intros; first | rfl | exact Nat.le_refl _ | assumption)

theorem State.modOb_kept {w : Nat} {s0 x : State} {f : Ob → Ob} (hw : 2048 &&& w = 2048) (h : Kept w s0 x) :
    Kept w s0 (x.modOb f) := by
  refine h.trans ?_
  have hb : w.testBit 11 = true := mask_bit (maskSub rfl hw)
  constructor
  case ob => intro k; rw [hb] at k; cases k
  all_goals (intros; first | rfl | exact Nat.le_refl _ | assumption)

theorem State.modRng_kept {w : Nat} {s0 x : State} {f : Rng → Rng} (hw : 4096 &&& w = 4096) (h : Kept w s0 x) :
    Kept w s0 (x.modRng f) := by
  refine h.trans ?_
  have hb : w.testBit 12 = true := mask_bit (maskSub rfl hw)
  constructor
  case rng => intro k; rw [hb] at k; cases k
  all_goals (intros; first | rfl | exact Nat.le_refl _ | assumption)

theorem State.modMs_kept {w : Nat} {s0 x : State} {f : Ms → Ms} (hw : 8192 &&& w = 8192) (h : Kept w s0 x) :
    Kept w s0 (x.modMs f) := by
  refine h.trans ?_
  have hb : w.testBit 13 = true := mask_bit (maskSub rfl hw)
  constructor
  case ms => intro k; rw [hb] at k; cases k
  all_goals (intros; first | rfl | exact Nat.le_refl _ | assumption)

theorem State.modRc_kept {w : Nat} {s0 x : State} {f : Rc → Rc} (hw : 16384 &&& w = 16384) (h : Kept w s0 x) :
    Kept w s0 (x.modRc f) := by
  refine h.trans ?_
  have hb : w.testBit 14 = true := mask_bit (maskSub rfl hw)
  constructor
  case rc => intro k; rw [hb] at k; cases k
  all_goals (intros; first | rfl | exact Nat.le_refl _ | assumption)

theorem State.modSf_kept {w : Nat} {s0 x : State} {f : Sf → Sf} (hw : 131072 &&& w = 131072) (h : Kept w s0 x) :
    Kept w s0 (x.modSf f) := by
  refine h.trans ?_
  have hb : w.testBit 17 = true := mask_bit (maskSub rfl hw)
  constructor
  case sf => intro k; rw [hb] at k; cases k
  all_goals (intros; first | rfl | exact Nat.le_refl _ | assumption)

theorem State.modLp_kept {w : Nat} {s0 x : State} {f : Lp → Lp} (hw : 262144 &&& w = 262144) (h : Kept w s0 x) :
    Kept w s0 (x.modLp f) := by
  refine h.trans ?_
  have hb : w.testBit 18 = true := mask_bit (maskSub rfl hw)
  constructor
  case lp => intro k; rw [hb] at k; cases k
  all_goals (intros; first | rfl | exact Nat.le_refl _ | assumption)

theorem State.modPw_kept {w : Nat} {s0 x : State} {f : Pw → Pw} (hw : 524288 &&& w = 524288) (h : Kept w s0 x) :
    Kept w s0 (x.modPw f) := by
  refine h.trans ?_
  have hb : w.testBit 19 = true := mask_bit (maskSub rfl hw)
  constructor
  case pw => intro k; rw [hb] at k; cases k
  all_goals (intros; first | rfl | exact Nat.le_refl _ | assumption)

theorem State.modSn_kept {w : Nat} {s0 x : State} {f : Sn → Sn} (hw : 1048576 &&& w = 1048576) (h : Kept w s0 x) :
    Kept w s0 (x.modSn f) := by
  refine h.trans ?_
  have hb : w.testBit 20 = true := mask_bit (maskSub rfl hw)
  constructor
  case sn => intro k; rw [hb] at k; cases k
  all_goals (intros; first | rfl | exact Nat.le_refl _ | assumption)

theorem State.modTux_kept {w : Nat} {s0 x : State} {f : Tuichex → Tuichex} (hw : 4 &&& w = 4) (h : Kept w s0 x) :
    Kept w s0 (x.modTux f) := by
  refine h.trans ?_
  have hb : w.testBit 2 = true := mask_bit (maskSub rfl hw)
  constructor
  case tux => intro k; rw [hb] at k; cases k
  all_goals (intros; first | rfl | exact Nat.le_refl _ | assumption)

/-- A step within the mask that leaves the stores and the logs as they are. -/
theorem Kept.all {s t : State} (hp : t.pending = s.pending) (hf : s.free ≤ t.free) (hw : s.wf → t.wf) :
    Kept (2 ^ 192 - 1) s t := by
  have hb : ∀ n, n < 192 → (2 ^ 192 - 1).testBit n = true := by
    intro n hn; rw [Nat.testBit_two_pow_sub_one]; simpa using hn
  constructor
  case pending => exact hp
  case free => exact hf
  case wf => exact hw
  case tab =>
    intro n e hl k _
    rw [hb _ (by omega)] at k
    cases k
  case unit =>
    intro u k
    rw [hb _ (by cases u <;> decide)] at k
    cases k
  case src =>
    intro u k
    rw [hb _ (by cases u <;> decide)] at k
    cases k
  all_goals
    intro k
    rw [hb _ (by decide)] at k
    cases k

/-! Masks of every table, unit and source, for an operation whose table, unit or source is an operand. -/

theorem tabMask_all (t : Nat) : tabMask t &&& (2 ^ 128 - 2 ^ 64) = tabMask t := by
  have h : t % 64 < 64 := Nat.mod_lt _ (by decide)
  unfold tabMask
  generalize t % 64 = n at h
  interval_cases n <;> rfl

theorem unitMask_all (u : Src) : unitMask u &&& (2 ^ 145 - 2 ^ 128) = unitMask u := by cases u <;> rfl

theorem srcMask_all (u : Src) : srcMask u &&& (2 ^ 175 - 2 ^ 160) = srcMask u := by cases u <;> rfl

theorem unitMask_opU (n : Nat) : unitMask (opU n) &&& (2 ^ 135 - 2 ^ 133) = unitMask (opU n) := by
  unfold opU; split <;> rfl

theorem srcMask_opU (n : Nat) : srcMask (opU n) &&& (2 ^ 167 - 2 ^ 165) = srcMask (opU n) := by
  unfold opU; split <;> rfl

/-! Operations on an operand table, unit or source. -/

theorem State.p_kept {w : Nat} {s0 x : State} {f : Fld} {e v : Nat} (hw : tabMask f.tab &&& w = tabMask f.tab)
    (h : Kept w s0 x) : Kept w s0 (x.p f e v) := State.wr_kept hw h

theorem State.ps_kept {w : Nat} {s0 x : State} {t e : Nat} {l : List (Fld × Nat)} (hw : tabMask t &&& w = tabMask t)
    (h : Kept w s0 x) : Kept w s0 (x.ps t e l) := State.wr_kept hw h

theorem State.bump_kept {w : Nat} {s0 x : State} {f : Fld} {e : Nat} (hw : tabMask f.tab &&& w = tabMask f.tab)
    (h : Kept w s0 x) : Kept w s0 (x.bump f e) := State.wr_kept hw h

theorem State.bumpSat_kept {w : Nat} {s0 x : State} {f : Fld} {e : Nat} (hw : tabMask f.tab &&& w = tabMask f.tab)
    (h : Kept w s0 x) : Kept w s0 (x.bumpSat f e) := State.wr_kept hw h

theorem State.raiseCommon_kept {w : Nat} {s0 x : State} {u : Src} {a c r : Nat} (hw : srcMask u &&& w = srcMask u)
    (h : Kept w s0 x) : Kept w s0 (x.raiseCommon u a c r) := State.raise_kept hw h

theorem State.raiseTenant_kept {w : Nat} {s0 x : State} {u : Src} {t a c r : Nat} (hw : srcMask u &&& w = srcMask u)
    (h : Kept w s0 x) : Kept w s0 (x.raiseTenant u t a c r) := State.raise_kept hw h

theorem State.raiseDone_kept {w : Nat} {s0 x : State} {u : Src} {t g r : Nat} {o : Oc}
    (hw : srcMask u &&& w = srcMask u) (h : Kept w s0 x) : Kept w s0 (x.raiseDone u t g o r) := State.raise_kept hw h

theorem State.raiseDeadline_kept {w : Nat} {s0 x : State} {u : Src} {t g : Nat} {o : Oc}
    (hw : srcMask u &&& w = srcMask u) (h : Kept w s0 x) : Kept w s0 (x.raiseDeadline u t g o) := State.raise_kept hw h

theorem State.setSub_kept {w : Nat} {s0 x : State} {u : Src} {v : Nat} (hu : unitMask u &&& w = unitMask u)
    (hs : srcMask u &&& w = srcMask u) (h : Kept w s0 x) : Kept w s0 (x.setSub u v) := State.changeMirror_kept hu hs h

theorem State.goOn_kept {w : Nat} {s0 x : State} {u : Src} {v : Nat} (hu : unitMask u &&& w = unitMask u)
    (hs : srcMask u &&& w = srcMask u) (h : Kept w s0 x) : Kept w s0 (x.goOn u v) := State.changeMirror_kept hu hs h

theorem State.unitClaim_kept {w : Nat} {s0 x : State} {u : Src} {r : Nat} (hw : tabMask 2 &&& w = tabMask 2)
    (h : Kept w s0 x) : Kept w s0 (x.unitClaim u r) := State.wr_kept hw h

/-- The tables CLAIMS, ASCHED and GY_CMP and Geyser, which a released claim may change. -/
def claimMask : Nat := tabMask 0x02 ||| tabMask 0x0A ||| tabMask 0x0B ||| 128

theorem State.freeClaim_kept {w : Nat} {s0 x : State} {r : Nat} (hw : claimMask &&& w = claimMask) (h : Kept w s0 x) :
    Kept w s0 (x.freeClaim r) := by
  have ha : Kept w s0 (x.wr 0x02 r 0) := State.wr_kept (maskSub rfl hw) h
  exact Kept.ite (State.modGy_kept (maskSub rfl hw) (State.p_kept (maskSub rfl hw) ha))
    (Kept.ite (State.p_kept (maskSub rfl hw) ha) ha)

theorem State.releaseUnitClaims_kept {w : Nat} {s0 x : State} {u : Src} (hw : claimMask &&& w = claimMask)
    (h : Kept w s0 x) : Kept w s0 (x.releaseUnitClaims u) :=
  Kept.foldl (fun _ _ hy => Kept.ite (State.freeClaim_kept hw hy) hy) h

theorem State.goStopping_kept {w : Nat} {s0 x : State} {u : Src} {o : Oc} {b : Bool} {endAll : Oc → State → State}
    (hu : unitMask u &&& w = unitMask u) (hs : srcMask u &&& w = srcMask u)
    (hf : ∀ o y, Kept w s0 y → Kept w s0 (endAll o y)) (h : Kept w s0 x) : Kept w s0 (x.goStopping u o b endAll) :=
  hf _ _ (State.changeMirror_kept hu hs h)

theorem State.goFault_kept {w : Nat} {s0 x : State} {u : Src} {v : Nat} {endAll : Oc → State → State}
    (hu : unitMask u &&& w = unitMask u) (hs : srcMask u &&& w = srcMask u) (hc : claimMask &&& w = claimMask)
    (hf : ∀ o y, Kept w s0 y → Kept w s0 (endAll o y)) (h : Kept w s0 x) : Kept w s0 (x.goFault u v endAll) :=
  State.releaseUnitClaims_kept hc (hf _ _ (State.changeMirror_kept hu hs h))

/-- A step that changes the event views alone. -/
theorem Kept.ofViews {w : Nat} {s x y : State} (hw : 16 &&& w = 16) (h : Kept w s x) (hy : y = { x with views := y.views })
    (hv : logsWf x.views → logsWf y.views) : Kept w s y := by
  refine h.trans ?_
  have hb : w.testBit 4 = true := mask_bit (maskSub rfl hw)
  rw [hy]
  constructor
  case views => intro k; rw [hb] at k; cases k
  case wf => exact fun k => ⟨k.1, k.2.1, hv k.2.2⟩
  all_goals (intros; first | exact Nat.le_refl _ | rfl)

/-- A step that changes the Sinter array and the state of its store alone. -/
theorem Kept.ofStore {w : Nat} {s x y : State} (hw : 3145728 &&& w = 3145728) (h : Kept w s x)
    (hy : y = { x with nv := y.nv, sn := y.sn }) (hn : nvWf x.nv = true → nvWf y.nv = true) : Kept w s y := by
  refine h.trans ?_
  have hb : w.testBit 20 = true := mask_bit (maskSub rfl hw)
  have hc : w.testBit 21 = true := mask_bit (maskSub rfl hw)
  rw [hy]
  constructor
  case nv => intro k; rw [hc] at k; cases k
  case sn => intro k; rw [hb] at k; cases k
  case wf => exact fun k => ⟨k.1, hn k.2.1, k.2.2⟩
  all_goals (intros; rfl)

theorem Kept.mono {a w : Nat} {s t : State} (hw : a &&& w = a) (h : Kept a s t) : Kept w s t := by
  have hb : ∀ n, w.testBit n = false → a.testBit n = false := by
    intro n hn
    have := congrArg (fun x => x.testBit n) hw
    simp only [Nat.testBit_and, hn, Bool.and_false] at this
    exact this.symm
  exact ⟨h.pending, h.free, h.wf, fun k => h.port0 (hb _ k), fun k => h.port1 (hb _ k), fun k => h.tux (hb _ k), fun k => h.tsel (hb _ k),
    fun k => h.views (hb _ k), fun k => h.granted (hb _ k), fun k => h.dev (hb _ k), fun k => h.gy (hb _ k),
    fun k => h.ln (hb _ k), fun k => h.ll (hb _ k), fun k => h.cj (hb _ k), fun k => h.ob (hb _ k),
    fun k => h.rng (hb _ k), fun k => h.ms (hb _ k), fun k => h.rc (hb _ k), fun k => h.op1 (hb _ k),
    fun k => h.op2 (hb _ k), fun k => h.sf (hb _ k), fun k => h.lp (hb _ k), fun k => h.pw (hb _ k),
    fun k => h.sn (hb _ k), fun k => h.nv (hb _ k),
    fun n e l k => h.tab n e l (hb _ k), fun u k => h.unit u (hb _ k), fun u k => h.src u (hb _ k)⟩

/-! The event logs. -/

theorem reset_logsWf : logsWf State.reset.views := by
  intro t
  by_cases h : t < 64
  · interval_cases t <;> decide
  · have : vget State.reset.views t = default := by
      unfold vget
      rw [Vector.getElem?_eq_none (by omega)]
      rfl
    rw [this]
    decide

/-- A full log takes no record (spec/03_units_events.md R92). -/
theorem View.enter_length (w : Word) (sev : Nat) (v : View) (h : v.log.length ≤ 64) : (View.enter w sev v).log.length ≤ 64 := by
  unfold View.enter
  split
  · exact h
  · simp only [List.length_append, List.length_cons, List.length_nil]
    omega

theorem logsWf_admits (w : Word) (sev : Nat) (l : List Nat) {v : Vector View 64} (h : logsWf v) :
    logsWf (l.foldl (fun vs t => vmod vs t (View.enter w sev)) v) := by
  induction l generalizing v with
  | nil => exact h
  | cons a t ih => exact ih (logsWf_vmod _ _ h (View.enter_length _ _ _ (h a)))


end Sys2Proof.Machine
end

