-- ==== Sys2Proof/Laws/KeptStore.lean ====
section
/-! SUPPORT. What each operation of the Sinter store, the RNG, Geyser and Obsidian keeps and leaves alone (`Kept`, Laws/Kept.lean). -/

namespace Sys2Proof.Machine

open Sys2Proof

theorem State.advanceTo_kept {w : Nat} {s0 x : State} {t : Nat} (_hw : 0 &&& w = 0) (h : Kept w s0 x) :
    Kept w s0 (State.advanceTo t x) := by
  unfold State.advanceTo
  refine State.advance_kept ?_
  exact h

theorem State.advanceFrac_kept {w : Nat} {s0 x : State} {n : Nat} (_hw : 0 &&& w = 0) (h : Kept w s0 x) :
    Kept w s0 (State.advanceFrac n x) := by
  unfold State.advanceFrac
  with_reducible apply Kept.ite
  · exact h
  · refine State.advance_kept ?_
    exact h

theorem State.toMark_kept {w : Nat} {s0 x : State} {o m : Nat} (hw : 0 &&& w = 0) (h : Kept w s0 x) :
    Kept w s0 (State.toMark x o m) := by
  unfold State.toMark
  with_reducible apply Kept.ite
  · exact h
  · refine State.advanceFrac_kept (maskSub rfl hw) ?_
    exact h

theorem State.toHalf_kept {w : Nat} {s0 x : State} (hw : 0 &&& w = 0) (h : Kept w s0 x) :
    Kept w s0 (State.toHalf x) := by
  unfold State.toHalf
  refine State.toMark_kept (maskSub rfl hw) ?_
  exact h

theorem State.toCycle_kept {w : Nat} {s0 x : State} (hw : 0 &&& w = 0) (h : Kept w s0 x) :
    Kept w s0 (State.toCycle x) := by
  unfold State.toCycle
  refine State.toMark_kept (maskSub rfl hw) ?_
  exact h

theorem State.cjPut_kept {w : Nat} {s0 x : State} {a : Nat} {w_ : Word}
    (hw : 0x20000000000000000000000400 &&& w = 0x20000000000000000000000400) (h : Kept w s0 x) :
    Kept w s0 (State.cjPut x a w_) := by
  unfold State.cjPut
  refine State.wr_kept (maskSub rfl hw) ?_
  refine State.modCj_kept (maskSub rfl hw) ?_
  exact h

theorem State.cjDetect_kept {w : Nat} {s0 x : State} {a n : Nat}
    (hw : 0x40000000000000001000000000000000000000000 &&& w = 0x40000000000000001000000000000000000000000)
    (h : Kept w s0 x) :
    Kept w s0 (State.cjDetect x a n) := by
  unfold State.cjDetect
  split
  · rename_i u0 u1
    exact h
  · rename_i u2 u3 u4
    refine State.raiseCommon_kept (maskSub rfl hw) ?_
    refine State.bump_kept (maskSub rfl hw) ?_
    exact h

theorem State.ascDrop_kept {w : Nat} {s0 x : State} {l : List Nat}
    (hw : 0x4000000000000000000 &&& w = 0x4000000000000000000) (h : Kept w s0 x) :
    Kept w s0 (State.ascDrop x l) := by
  unfold State.ascDrop
  refine Kept.foldl ?_ ?_
  · intro i0 i1 i2
    refine State.wr_kept (maskSub rfl hw) ?_
    with_reducible assumption
  · exact h

theorem State.ascPut_kept {w : Nat} {s0 x : State} {e owner kind kern start len per k phase : Nat}
    (hw : 0x4000000000000000000 &&& w = 0x4000000000000000000) (h : Kept w s0 x) :
    Kept w s0 (State.ascPut x e owner kind kern start len per k phase) := by
  unfold State.ascPut
  refine State.ps_kept (maskSub rfl hw) ?_
  exact h

theorem State.snSub_kept {w : Nat} {s0 x : State}
    (hw : 0x10000000100000000000000000000000000000000000 &&& w = 0x10000000100000000000000000000000000000000000)
    (h : Kept w s0 x) :
    Kept w s0 (State.snSub x) := by
  unfold State.snSub
  with_reducible apply Kept.ite
  · refine State.setSub_kept (maskSub rfl hw) (maskSub rfl hw) ?_
    exact h
  · exact h

theorem State.snRefresh_kept {w : Nat} {s0 x : State} (hw : 0x800000000000000000 &&& w = 0x800000000000000000)
    (h : Kept w s0 x) :
    Kept w s0 (State.snRefresh x) := by
  unfold State.snRefresh
  extract_lets v0 v1
  have hv1 : Kept w s0 v1 := by
    unfold v1
    refine State.ps_kept (maskSub rfl hw) ?_
    exact h
  clear_value v1
  refine Kept.foldl ?_ ?_
  · intro i2 i3 i4
    refine State.p_kept (maskSub rfl hw) ?_
    with_reducible assumption
  · with_reducible assumption

theorem State.snScan_kept {w : Nat} {s0 x : State} {corrected first : Nat}
    (hw : 0x800000000000100000 &&& w = 0x800000000000100000) (h : Kept w s0 x) :
    Kept w s0 (State.snScan x corrected first) := by
  unfold State.snScan
  extract_lets v0 v1 v2 v3
  have hv3 : Kept w s0 v3 := by
    unfold v3
    refine State.modSn_kept (maskSub rfl hw) ?_
    exact h
  clear_value v3
  refine State.snRefresh_kept (maskSub rfl hw) ?_
  refine State.p_kept (maskSub rfl hw) ?_
  with_reducible assumption

theorem State.snScanEvent_kept {w : Nat} {s0 x : State}
    (hw : 0x10000000000000000000000000000000000000100000 &&& w = 0x10000000000000000000000000000000000000100000)
    (h : Kept w s0 x) :
    Kept w s0 (State.snScanEvent x) := by
  unfold State.snScanEvent
  with_reducible apply Kept.ite
  · refine State.raiseCommon_kept (maskSub rfl hw) ?_
    refine State.modSn_kept (maskSub rfl hw) ?_
    exact h
  · exact h

theorem State.snCollapse_kept {w : Nat} {s0 x : State} (hw : 0x300000 &&& w = 0x300000) (h : Kept w s0 x) :
    Kept w s0 x.snCollapse := by
  unfold State.snCollapse
  split
  · exact h
  · refine Kept.ite (State.modSn_kept (maskSub rfl hw) h) (Kept.ofStore (maskSub rfl hw) h rfl (fun hn => ?_))
    dsimp only
    split
    · exact nvWf_writes _ hn
    · exact nvWf_cut _ (nvWf_writes _ hn)

theorem State.snStopWord_kept {w : Nat} {s0 x : State} {r : SnTxn} (hw : 0x300000 &&& w = 0x300000)
    (h : Kept w s0 x) :
    Kept w s0 (x.snStopWord r) := by
  unfold State.snStopWord
  exact Kept.ite (State.modSn_kept (maskSub rfl hw) h) (Kept.ofStore (maskSub rfl hw) h rfl (nvWf_writes _))

theorem State.snAdvanceHead_kept {w : Nat} {s0 x : State} {n : Nat}
    (hw : 0x10000000000000000000000000800000000000100000 &&& w = 0x10000000000000000000000000800000000000100000)
    (h : Kept w s0 x) :
    Kept w s0 (State.snAdvanceHead x n) := by
  unfold State.snAdvanceHead
  extract_lets v0 v1 v2 v3
  have hv1 : Kept w s0 v1 := by
    unfold v1
    refine State.modSn_kept (maskSub rfl hw) ?_
    exact h
  clear_value v1
  have hv3 : Kept w s0 v3 := by
    unfold v3
    refine State.p_kept (maskSub rfl hw) ?_
    with_reducible assumption
  clear_value v3
  with_reducible apply Kept.ite
  · with_reducible assumption
  · with_reducible apply Kept.ite
    · refine State.raiseCommon_kept (maskSub rfl hw) ?_
      refine State.modSn_kept (maskSub rfl hw) ?_
      with_reducible assumption
    · with_reducible assumption

theorem State.snApply_kept {w : Nat} {s0 x : State} {r : SnTxn}
    (hw : 0x10000000000000000000000000800000000000300000 &&& w = 0x10000000000000000000000000800000000000300000)
    (h : Kept w s0 x) :
    Kept w s0 (x.snApply r) := by
  unfold State.snApply
  extract_lets a b c d
  have hb : Kept w s0 b := Kept.ofStore (maskSub rfl hw) h rfl (nvWf_writes _)
  have hc : Kept w s0 c := State.snRefresh_kept (maskSub rfl hw) (State.snAdvanceHead_kept (maskSub rfl hw) hb)
  exact Kept.ite (State.raiseCommon_kept (maskSub rfl hw) hc) hc

theorem State.snDevice_kept {w : Nat} {s0 x : State} {kind rtype key : Nat} {words : List Word} {slot : Option Nat}
    (hw : 0x100000 &&& w = 0x100000) (h : Kept w s0 x) :
    Kept w s0 (State.snDevice x kind rtype key words slot) := by
  unfold State.snDevice
  refine State.modSn_kept (maskSub rfl hw) ?_
  exact h

theorem State.setFcMark_kept {w : Nat} {s0 x : State} {key v : Nat} (hw : 0x4100 &&& w = 0x4100) (h : Kept w s0 x) :
    Kept w s0 (State.setFcMark x key v) := by
  unfold State.setFcMark
  with_reducible apply Kept.ite
  · refine State.modLn_kept (maskSub rfl hw) ?_
    exact h
  · refine State.modRc_kept (maskSub rfl hw) ?_
    exact h

theorem State.snRaiseMark_kept {w : Nat} {s0 x : State} {key : Nat} (hw : 0x100000 &&& w = 0x100000)
    (h : Kept w s0 x) :
    Kept w s0 (State.snRaiseMark x key) := by
  unfold State.snRaiseMark
  extract_lets v0
  with_reducible apply Kept.ite
  · exact h
  · refine State.snDevice_kept (maskSub rfl hw) ?_
    exact h

theorem State.snEnd_kept {w : Nat} {s0 x : State} {e : Nat} {o : Oc} {ref : Nat}
    (hw : 0x10000000000000000000000000800000000000000000 &&& w = 0x10000000000000000000000000800000000000000000)
    (h : Kept w s0 x) :
    Kept w s0 (State.snEnd x e o ref) := by
  unfold State.snEnd
  extract_lets v0 v1
  have hv1 : Kept w s0 v1 := by
    unfold v1
    refine State.raiseDone_kept (maskSub rfl hw) ?_
    refine State.ps_kept (maskSub rfl hw) ?_
    exact h
  clear_value v1
  with_reducible apply Kept.ite
  · with_reducible assumption
  · refine State.wr_kept (maskSub rfl hw) ?_
    with_reducible assumption

theorem State.snBegin_kept {w : Nat} {s0 x : State} {x_ : SnTxn}
    (hw : 0x800000000000100000 &&& w = 0x800000000000100000) (h : Kept w s0 x) :
    Kept w s0 (State.snBegin x x_) := by
  unfold State.snBegin
  extract_lets v0 v1
  have hv1 : Kept w s0 v1 := by
    unfold v1
    refine State.modSn_kept (maskSub rfl hw) ?_
    exact h
  clear_value v1
  with_reducible apply Kept.ite
  · with_reducible assumption
  · refine State.p_kept (maskSub rfl hw) ?_
    with_reducible assumption

theorem State.snStart_kept {w : Nat} {s0 x : State}
    (hw : 0x10040000000000000001000000800000000000100000 &&& w = 0x10040000000000000001000000800000000000100000)
    (h : Kept w s0 x) :
    Kept w s0 (State.snStart x) := by
  unfold State.snStart
  with_reducible apply Kept.ite
  · split
    · rename_i u0 u1 u2 u3
      refine State.snBegin_kept (maskSub rfl hw) ?_
      refine State.modSn_kept (maskSub rfl hw) ?_
      exact h
    · rename_i u4 u5
      split
      · rename_i u6 u7 u8 u9
        extract_lets v10
        have hv10 : Kept w s0 v10 := by
          unfold v10
          refine State.modSn_kept (maskSub rfl hw) ?_
          exact h
        clear_value v10
        with_reducible apply Kept.ite
        · refine State.snEnd_kept (maskSub rfl hw) ?_
          refine State.cjDetect_kept (maskSub rfl hw) ?_
          with_reducible assumption
        · refine State.snBegin_kept (maskSub rfl hw) ?_
          with_reducible assumption
      · rename_i u11 u12
        exact h
  · exact h

theorem State.snSubmit_kept {w : Nat} {s0 x : State} {t : Nat} {w_ : Word}
    (hw : 0x10040000000000000001000000800000000000100000 &&& w = 0x10040000000000000001000000800000000000100000)
    (h : Kept w s0 x) :
    Kept w s0 (State.snSubmit x t w_).2 := by
  unfold State.snSubmit
  extract_lets v0 v1 v2 v3 v4
  split
  · rename_i u5 u6
    exact h
  · rename_i u7 u8 u9
    extract_lets v10 v11 v12
    have hv10 : Kept w s0 v10 := by
      unfold v10
      refine State.wr_kept (maskSub rfl hw) ?_
      exact h
    clear_value v10
    have hv11 : Kept w s0 v11 := by
      unfold v11
      refine State.wr_kept (maskSub rfl hw) ?_
      with_reducible assumption
    clear_value v11
    have hv12 : Kept w s0 v12 := by
      unfold v12
      refine State.modSn_kept (maskSub rfl hw) ?_
      with_reducible assumption
    clear_value v12
    with_reducible apply Kept.ite2
    · dsimp only
      with_reducible apply Kept.ite
      · refine State.snStart_kept (maskSub rfl hw) ?_
        with_reducible assumption
      · with_reducible assumption
    · exact h

theorem State.snEndQueued_kept {w : Nat} {s0 x : State} {o : Oc}
    (hw : 0x10000000000000000000000000800000000000100000 &&& w = 0x10000000000000000000000000800000000000100000)
    (h : Kept w s0 x) :
    Kept w s0 (State.snEndQueued o x) := by
  unfold State.snEndQueued
  refine Kept.foldl ?_ ?_
  · intro i0 i1 i2
    refine State.snEnd_kept (maskSub rfl hw) ?_
    with_reducible assumption
  · refine State.modSn_kept (maskSub rfl hw) ?_
    exact h

theorem State.snCmd_kept {w : Nat} {s0 x : State} {t e cmd : Nat}
    (hw : 0x10000000000000000000000000800000000000300000 &&& w = 0x10000000000000000000000000800000000000300000)
    (h : Kept w s0 x) :
    Kept w s0 (State.snCmd x t e cmd).2 := by
  unfold State.snCmd
  extract_lets v0
  with_reducible apply Kept.ite2
  · exact h
  · with_reducible apply Kept.ite2
    · exact h
    · with_reducible apply Kept.ite2
      · exact h
      · with_reducible apply Kept.ite2
        · with_reducible apply Kept.ite2
          · dsimp only
            refine State.wr_kept (maskSub rfl hw) ?_
            exact h
          · exact h
        · with_reducible apply Kept.ite2
          · exact h
          · with_reducible apply Kept.ite2
            · dsimp only
              refine State.snEnd_kept (maskSub rfl hw) ?_
              refine State.modSn_kept (maskSub rfl hw) ?_
              exact h
            · with_reducible apply Kept.ite2
              · split
                · rename_i u1 u2 u3
                  with_reducible apply Kept.ite2
                  · exact h
                  · dsimp only
                    refine State.snEnd_kept (maskSub rfl hw) ?_
                    refine State.snStopWord_kept (maskSub rfl hw) ?_
                    exact h
                · rename_i u4 u5
                  exact h
              · split
                · rename_i u6 u7
                  with_reducible apply Kept.ite2
                  · dsimp only
                    refine State.snEnd_kept (maskSub rfl hw) ?_
                    refine State.withdraw_kept (maskSub rfl hw) ?_
                    exact h
                  · exact h
                · rename_i u8 u9
                  exact h
                · rename_i u10 u11
                  exact h

theorem State.snCommitEntry_kept {w : Nat} {s0 x : State} {t e : Nat} {w_ : Word}
    (hw : 0x10040000000000000001000000800000000000300000 &&& w = 0x10040000000000000001000000800000000000300000)
    (h : Kept w s0 x) :
    Kept w s0 (State.snCommitEntry x t e w_).2 := by
  unfold State.snCommitEntry
  with_reducible apply Kept.ite2
  · refine State.snSubmit_kept (maskSub rfl hw) ?_
    exact h
  · with_reducible apply Kept.ite2
    · refine State.snCmd_kept (maskSub rfl hw) ?_
      exact h
    · with_reducible apply Kept.ite2
      · exact h
      · dsimp only
        refine State.wr_kept (maskSub rfl hw) ?_
        exact h

theorem State.snDeviceDone_kept {w : Nat} {s0 x : State} {x_ : SnTxn} (hw : 0x4900 &&& w = 0x4900) (h : Kept w s0 x) :
    Kept w s0 (State.snDeviceDone x x_) := by
  unfold State.snDeviceDone
  extract_lets v0
  have hv0 : Kept w s0 v0 := by
    unfold v0
    split
    · rename_i u1 u2
      exact h
    · rename_i u3 u4 u5
      refine State.modOb_kept (maskSub rfl hw) ?_
      exact h
  clear_value v0
  with_reducible apply Kept.ite
  · refine State.setFcMark_kept (maskSub rfl hw) ?_
    with_reducible assumption
  · with_reducible assumption

theorem State.snFinish_kept {w : Nat} {s0 x : State} {x_ : SnTxn}
    (hw : 0x10000000000000000020000000800000000000304d00 &&& w = 0x10000000000000000020000000800000000000304d00)
    (h : Kept w s0 x) :
    Kept w s0 (State.snFinish x x_) := by
  unfold State.snFinish
  extract_lets v0 v1 v2
  have hv0 : Kept w s0 v0 := by
    unfold v0
    refine State.modSn_kept (maskSub rfl hw) ?_
    exact h
  clear_value v0
  have hv2 : Kept w s0 v2 := by
    unfold v2
    refine State.snApply_kept (maskSub rfl hw) ?_
    with_reducible assumption
  clear_value v2
  with_reducible apply Kept.ite
  · split
    · rename_i u3 u4
      refine State.snEnd_kept (maskSub rfl hw) ?_
      with_reducible assumption
    · rename_i u5 u6 u7
      extract_lets v8 v9
      have hv9 : Kept w s0 v9 := by
        unfold v9
        refine Kept.foldl ?_ ?_
        · intro i10 i11 i12
          refine State.cjPut_kept (maskSub rfl hw) ?_
          with_reducible assumption
        · with_reducible assumption
      clear_value v9
      refine State.snEnd_kept (maskSub rfl hw) ?_
      refine State.ps_kept (maskSub rfl hw) ?_
      with_reducible assumption
  · with_reducible apply Kept.ite
    · refine State.snDeviceDone_kept (maskSub rfl hw) ?_
      with_reducible assumption
    · refine State.snEnd_kept (maskSub rfl hw) ?_
      refine State.p_kept (maskSub rfl hw) ?_
      with_reducible assumption

theorem State.snCompactStep_kept {w : Nat} {s0 x : State} (hw : 0x100000 &&& w = 0x100000) (h : Kept w s0 x) :
    Kept w s0 (State.snCompactStep x) := by
  unfold State.snCompactStep
  with_reducible apply Kept.ite
  · exact h
  · split
    · rename_i u0 u1
      refine State.modSn_kept (maskSub rfl hw) ?_
      exact h
    · rename_i u2 u3 u4
      with_reducible apply Kept.ite
      · refine State.modSn_kept (maskSub rfl hw) ?_
        exact h
      · refine State.modSn_kept (maskSub rfl hw) ?_
        exact h

theorem State.snLastGasp_kept {w : Nat} {s0 x : State}
    (hw : 0x10000000000000000020000000800000000000304d00 &&& w = 0x10000000000000000020000000800000000000304d00)
    (h : Kept w s0 x) :
    Kept w s0 x.snLastGasp := by
  unfold State.snLastGasp
  extract_lets a b c
  have ha : Kept w s0 a := by
    unfold a
    split
    · exact h
    · exact Kept.ite (State.snFinish_kept (maskSub rfl hw) h) (State.snStopWord_kept (maskSub rfl hw) h)
  have hc : Kept w s0 c := State.modSn_kept (maskSub rfl hw) ha
  exact Kept.ofStore (maskSub rfl hw) hc rfl (nvWf_writes _)

theorem State.snUnitCmd_kept {w : Nat} {s0 x : State} {cmd : Nat}
    (hw : 0x10000000100000000000000000000000000000100000 &&& w = 0x10000000100000000000000000000000000000100000)
    (h : Kept w s0 x) :
    Kept w s0 (State.snUnitCmd x cmd).2 := by
  unfold State.snUnitCmd
  with_reducible apply Kept.ite2
  · exact h
  · with_reducible apply Kept.ite2
    · dsimp only
      refine State.snSub_kept (maskSub rfl hw) ?_
      refine State.snCompactStep_kept (maskSub rfl hw) ?_
      refine State.modSn_kept (maskSub rfl hw) ?_
      exact h
    · exact h

theorem execSinterTxnStart_kept {w : Nat} {s0 x : State}
    (hw : 0x10040000100000000001000000800000000000100000 &&& w = 0x10040000100000000001000000800000000000100000)
    (h : Kept w s0 x) :
    KeptO w s0 (execSinterTxnStart x) := by
  unfold execSinterTxnStart
  refine KeptO.next ?_
  refine State.snSub_kept (maskSub rfl hw) ?_
  refine State.snStart_kept (maskSub rfl hw) ?_
  exact h

theorem execCounterRaise_kept {w : Nat} {s0 x : State} {key : Nat} (hw : 0x100000 &&& w = 0x100000)
    (h : Kept w s0 x) :
    KeptO w s0 (execCounterRaise key x) := by
  unfold execCounterRaise
  extract_lets v0
  refine KeptO.next ?_
  with_reducible apply Kept.ite
  · refine State.snRaiseMark_kept (maskSub rfl hw) ?_
    exact h
  · exact h

theorem execCompaction_kept {w : Nat} {s0 x : State}
    (hw : 0x10000000100000000000000000000000000000100000 &&& w = 0x10000000100000000000000000000000000000100000)
    (h : Kept w s0 x) :
    KeptO w s0 (execCompaction x) := by
  unfold execCompaction
  extract_lets v0
  have hv0 : Kept w s0 v0 := by
    unfold v0
    with_reducible apply Kept.ite
    · refine State.modSn_kept (maskSub rfl hw) ?_
      exact h
    · exact h
  clear_value v0
  with_reducible apply KeptO.ite
  · refine KeptO.next ?_
    refine State.snSub_kept (maskSub rfl hw) ?_
    refine State.snCompactStep_kept (maskSub rfl hw) ?_
    with_reducible assumption
  · refine KeptO.next ?_
    exact h

theorem State.carryDraw_kept {w : Nat} {s0 x : State} {n : Nat} (hw : 0x1000 &&& w = 0x1000) (h : Kept w s0 x) :
    Kept w s0 (State.carryDraw x n).2 := by
  unfold State.carryDraw
  extract_lets v0 v1 v2 v3
  dsimp only
  refine State.modRng_kept (maskSub rfl hw) ?_
  exact h

theorem State.rngDraw_kept {w : Nat} {s0 x : State} {n : Nat} (hw : 0x1000 &&& w = 0x1000) (h : Kept w s0 x) :
    Kept w s0 (State.rngDraw x n).2 := by
  unfold State.rngDraw
  split
  · rename_i u0 u1 u2 u3 u4 u5
    dsimp only
    refine State.modRng_kept (maskSub rfl hw) ?_
    exact h
  · rename_i u6 u7 u8
    refine State.carryDraw_kept (maskSub rfl hw) ?_
    exact h

theorem State.cmDraw_kept {w : Nat} {s0 x : State} (hw : 0x1000 &&& w = 0x1000) (h : Kept w s0 x) :
    Kept w s0 (State.cmDraw x) := by
  unfold State.cmDraw
  extract_lets v0 v1
  have hv0 : Kept w s0 v0.2 := by
    unfold v0
    refine State.draw_kept ?_
    exact h
  clear_value v0
  have hv1 : Kept w s0 v1 := by unfold v1; with_reducible assumption
  clear_value v1
  with_reducible apply Kept.ite
  · refine State.modRng_kept (maskSub rfl hw) ?_
    with_reducible assumption
  · refine State.modRng_kept (maskSub rfl hw) ?_
    with_reducible assumption

theorem State.rngStarting_kept {w : Nat} {s0 x : State} (hw : 0x1000 &&& w = 0x1000) (h : Kept w s0 x) :
    Kept w s0 (State.rngStarting x) := by
  unfold State.rngStarting
  refine State.modRng_kept (maskSub rfl hw) ?_
  exact h

theorem State.rngFail_kept {w : Nat} {s0 x : State} {cause : Nat}
    (hw : 0x400000004000000000000000c040000000000001080 &&& w = 0x400000004000000000000000c040000000000001080)
    (h : Kept w s0 x) :
    Kept w s0 (State.rngFail x cause) := by
  unfold State.rngFail
  extract_lets v0
  have hv0 : Kept w s0 v0 := by
    unfold v0
    refine State.modRng_kept (maskSub rfl hw) ?_
    exact h
  clear_value v0
  refine State.raiseCommon_kept (maskSub rfl hw) ?_
  refine State.goFault_kept (maskSub rfl hw) (maskSub rfl hw) (maskSub rfl hw) ?_ ?_
  · intro i1 i2 i3
    with_reducible assumption
  · with_reducible assumption

theorem State.setDrbg_kept {w : Nat} {s0 x : State} {k : List Nat × List Nat} (hw : 0x1000 &&& w = 0x1000)
    (h : Kept w s0 x) :
    Kept w s0 (State.setDrbg x k) := by
  unfold State.setDrbg
  refine State.modRng_kept (maskSub rfl hw) ?_
  exact h

theorem State.drbgGen_kept {w : Nat} {s0 x : State}
    (hw : 0x4000000000000000000000001000 &&& w = 0x4000000000000000000000001000) (h : Kept w s0 x) :
    Kept w s0 (State.drbgGen x).2 := by
  unfold State.drbgGen
  extract_lets v0 v1 v2
  have hv2 : Kept w s0 v2 := by
    unfold v2
    refine State.p_kept (maskSub rfl hw) ?_
    refine State.setDrbg_kept (maskSub rfl hw) ?_
    exact h
  clear_value v2
  dsimp only
  with_reducible apply Kept.ite
  · refine State.modRng_kept (maskSub rfl hw) ?_
    with_reducible assumption
  · with_reducible assumption

theorem State.rngSaveCarry_kept {w : Nat} {s0 x : State}
    (hw : 0x4000000000000000000000081000 &&& w = 0x4000000000000000000000081000) (h : Kept w s0 x) :
    Kept w s0 (State.rngSaveCarry x) := by
  unfold State.rngSaveCarry
  extract_lets v0
  have hv0 : Kept w s0 v0.2 := by
    unfold v0
    refine State.drbgGen_kept (maskSub rfl hw) ?_
    exact h
  clear_value v0
  refine State.modRng_kept (maskSub rfl hw) ?_
  refine State.modPw_kept (maskSub rfl hw) ?_
  with_reducible assumption

theorem State.drbgReseed_kept {w : Nat} {s0 x : State}
    (hw : 0x4000000000000000000000081000 &&& w = 0x4000000000000000000000081000) (h : Kept w s0 x) :
    Kept w s0 (State.drbgReseed x) := by
  unfold State.drbgReseed
  extract_lets v0 v1
  have hv1 : Kept w s0 v1 := by
    unfold v1
    refine State.modRng_kept (maskSub rfl hw) ?_
    refine State.setDrbg_kept (maskSub rfl hw) ?_
    exact h
  clear_value v1
  with_reducible apply Kept.ite
  · refine State.rngSaveCarry_kept (maskSub rfl hw) ?_
    refine State.bump_kept (maskSub rfl hw) ?_
    refine State.p_kept (maskSub rfl hw) ?_
    with_reducible assumption
  · exact h

theorem State.rngFresh_kept {w : Nat} {s0 x : State} {p : PortId} {t : Nat} (hw : 0x1003 &&& w = 0x1003)
    (h : Kept w s0 x) :
    Kept w s0 (State.rngFresh x p t).2.2 := by
  unfold State.rngFresh
  split
  · rename_i u0 u1 u2 u3
    with_reducible apply Kept.ite3
    · exact h
    · dsimp only
      refine State.modPort_kept (maskSub rfl hw) ?_
      refine State.modRng_kept (maskSub rfl hw) ?_
      exact h
  · rename_i u4 u5
    exact h

theorem State.rngRead_kept {w : Nat} {s0 x : State} {p : PortId} {t : Nat} (hw : 0x1003 &&& w = 0x1003)
    (h : Kept w s0 x) :
    Kept w s0 (State.rngRead x p t).2.2 := by
  unfold State.rngRead
  with_reducible apply Kept.ite3
  · exact h
  · with_reducible apply Kept.ite3
    · exact h
    · split
      · rename_i u0 u1 u2
        with_reducible apply Kept.ite3
        · dsimp only
          refine State.modPort_kept (maskSub rfl hw) ?_
          exact h
        · refine State.rngFresh_kept (maskSub rfl hw) ?_
          exact h
      · rename_i u3 u4
        refine State.rngFresh_kept (maskSub rfl hw) ?_
        exact h

theorem State.rngCommit_kept {w : Nat} {s0 x : State} {w_ : Word}
    (hw : 0x4000000000000000000000000000 &&& w = 0x4000000000000000000000000000) (h : Kept w s0 x) :
    Kept w s0 (State.rngCommit x w_).2 := by
  unfold State.rngCommit
  extract_lets v0 v1 v2 v3
  with_reducible apply Kept.ite2
  · dsimp only
    refine State.wr_kept (maskSub rfl hw) ?_
    exact h
  · exact h

theorem State.rngUnitCmd_kept {w : Nat} {s0 x : State} {cmd : Nat}
    (hw : 0x4000000000000000000000081000 &&& w = 0x4000000000000000000000081000) (h : Kept w s0 x) :
    Kept w s0 (State.rngUnitCmd x cmd).2 := by
  unfold State.rngUnitCmd
  with_reducible apply Kept.ite2
  · exact h
  · with_reducible apply Kept.ite2
    · exact h
    · with_reducible apply Kept.ite2
      · dsimp only
        refine State.drbgReseed_kept (maskSub rfl hw) ?_
        refine State.modRng_kept (maskSub rfl hw) ?_
        exact h
      · exact h

theorem execRngSample_kept {w : Nat} {s0 x : State} {bit : Bool} {line : Word}
    (hw : 0x400000004000000000000000c040000000000001080 &&& w = 0x400000004000000000000000c040000000000001080)
    (h : Kept w s0 x) :
    KeptO w s0 (execRngSample bit line x) := by
  unfold execRngSample
  extract_lets v0 v1 v2 v3 v4 v5 v6 v7 v8 v9
  have hv7 : Kept w s0 v7 := by
    unfold v7
    refine State.modRng_kept (maskSub rfl hw) ?_
    exact h
  clear_value v7
  with_reducible apply KeptO.ite
  · refine KeptO.next ?_
    exact h
  · with_reducible apply KeptO.ite
    · refine KeptO.next ?_
      refine State.rngFail_kept (maskSub rfl hw) ?_
      with_reducible assumption
    · with_reducible apply KeptO.ite
      · refine KeptO.next ?_
        refine State.rngFail_kept (maskSub rfl hw) ?_
        with_reducible assumption
      · with_reducible apply KeptO.ite
        · refine KeptO.next ?_
          with_reducible assumption
        · with_reducible apply KeptO.ite
          · refine KeptO.next ?_
            refine State.modRng_kept (maskSub rfl hw) ?_
            with_reducible assumption
          · refine KeptO.next ?_
            refine State.modRng_kept (maskSub rfl hw) ?_
            with_reducible assumption

theorem execRngReady_kept {w : Nat} {s0 x : State} {kat : Bool}
    (hw : 0x400000004000000400000000c040000000000081080 &&& w = 0x400000004000000400000000c040000000000081080)
    (h : Kept w s0 x) :
    KeptO w s0 (execRngReady kat x) := by
  unfold execRngReady
  extract_lets v0
  have hv0 : Kept w s0 v0 := by
    unfold v0
    refine State.modRng_kept (maskSub rfl hw) ?_
    refine State.setDrbg_kept (maskSub rfl hw) ?_
    exact h
  clear_value v0
  with_reducible apply KeptO.ite
  · with_reducible apply KeptO.ite
    · refine KeptO.next ?_
      refine State.raiseCommon_kept (maskSub rfl hw) ?_
      refine State.rngSaveCarry_kept (maskSub rfl hw) ?_
      refine State.p_kept (maskSub rfl hw) ?_
      refine State.setSub_kept (maskSub rfl hw) (maskSub rfl hw) ?_
      with_reducible assumption
    · refine KeptO.next ?_
      refine State.rngFail_kept (maskSub rfl hw) ?_
      exact h
  · refine KeptO.next ?_
    exact h

theorem execRngPoolAdd_kept {w : Nat} {s0 x : State}
    (hw : 0x4000000000000000000000001000 &&& w = 0x4000000000000000000000001000) (h : Kept w s0 x) :
    KeptO w s0 (execRngPoolAdd x) := by
  unfold execRngPoolAdd
  extract_lets v0
  have hv0 : Kept w s0 v0.2 := by
    unfold v0
    refine State.drbgGen_kept (maskSub rfl hw) ?_
    exact h
  clear_value v0
  with_reducible apply KeptO.ite
  · refine KeptO.next ?_
    refine State.modRng_kept (maskSub rfl hw) ?_
    with_reducible assumption
  · refine KeptO.next ?_
    exact h

theorem execDrbgReseed_kept {w : Nat} {s0 x : State}
    (hw : 0x4000000000000000000000081000 &&& w = 0x4000000000000000000000081000) (h : Kept w s0 x) :
    KeptO w s0 (execDrbgReseed x) := by
  unfold execDrbgReseed
  refine KeptO.next ?_
  refine State.drbgReseed_kept (maskSub rfl hw) ?_
  exact h

theorem State.gySetNetTime_kept {w : Nat} {s0 x : State} {b : Bool}
    (hw : 0x10000000000000000000000000000000000000080 &&& w = 0x10000000000000000000000000000000000000080)
    (h : Kept w s0 x) :
    Kept w s0 (State.gySetNetTime x b) := by
  unfold State.gySetNetTime
  with_reducible apply Kept.ite
  · exact h
  · refine State.raiseCommon_kept (maskSub rfl hw) ?_
    refine State.modGy_kept (maskSub rfl hw) ?_
    exact h

theorem State.gyMasterTime_kept {w : Nat} {s0 x : State}
    (hw : 0x10000000000000000000000000000000000000080 &&& w = 0x10000000000000000000000000000000000000080)
    (h : Kept w s0 x) :
    Kept w s0 (State.gyMasterTime x) := by
  unfold State.gyMasterTime
  with_reducible apply Kept.ite
  · refine State.gySetNetTime_kept (maskSub rfl hw) ?_
    exact h
  · exact h

theorem State.gySetSub_kept {w : Nat} {s0 x : State} {v : Nat}
    (hw : 0x10000000100000000000000000000000000000080 &&& w = 0x10000000100000000000000000000000000000080)
    (h : Kept w s0 x) :
    Kept w s0 (State.gySetSub x v) := by
  unfold State.gySetSub
  extract_lets v0 v1
  have hv1 : Kept w s0 v1 := by
    unfold v1
    refine State.modGy_kept (maskSub rfl hw) ?_
    exact h
  clear_value v1
  refine State.gyMasterTime_kept (maskSub rfl hw) ?_
  refine State.setSub_kept (maskSub rfl hw) (maskSub rfl hw) ?_
  with_reducible assumption

theorem State.gySetRef_kept {w : Nat} {s0 x : State} {r : Nat}
    (hw : 0x10000000000000000000000000000000000000080 &&& w = 0x10000000000000000000000000000000000000080)
    (h : Kept w s0 x) :
    Kept w s0 (State.gySetRef x r) := by
  unfold State.gySetRef
  extract_lets v0 v1 v2 v3
  have hv3 : Kept w s0 v3 := by
    unfold v3
    refine State.modGy_kept (maskSub rfl hw) ?_
    exact h
  clear_value v3
  with_reducible apply Kept.ite
  · exact h
  · refine State.raiseCommon_kept (maskSub rfl hw) ?_
    with_reducible assumption

theorem State.gyChoose_kept {w : Nat} {s0 x : State}
    (hw : 0x10000000100000000000000000000000000000080 &&& w = 0x10000000100000000000000000000000000000080)
    (h : Kept w s0 x) :
    Kept w s0 (State.gyChoose x) := by
  unfold State.gyChoose
  with_reducible apply Kept.ite
  · exact h
  · split
    · rename_i u0 u1 u2
      extract_lets v3
      have hv3 : Kept w s0 v3 := by
        unfold v3
        refine State.gySetRef_kept (maskSub rfl hw) ?_
        exact h
      clear_value v3
      with_reducible apply Kept.ite
      · refine State.gySetSub_kept (maskSub rfl hw) ?_
        with_reducible assumption
      · with_reducible assumption
    · rename_i u4 u5
      with_reducible apply Kept.ite
      · with_reducible apply Kept.ite
        · refine State.gySetSub_kept (maskSub rfl hw) ?_
          refine State.gySetRef_kept (maskSub rfl hw) ?_
          exact h
        · refine State.gySetSub_kept (maskSub rfl hw) ?_
          refine State.gySetRef_kept (maskSub rfl hw) ?_
          exact h
      · with_reducible apply Kept.ite
        · refine State.modGy_kept (maskSub rfl hw) ?_
          refine State.gySetRef_kept (maskSub rfl hw) ?_
          exact h
        · exact h

theorem State.gyGood_kept {w : Nat} {s0 x : State} {r : Nat}
    (hw : 0x10000000000000000000002000000000000000000 &&& w = 0x10000000000000000000002000000000000000000)
    (h : Kept w s0 x) :
    Kept w s0 (State.gyGood x r) := by
  unfold State.gyGood
  extract_lets v0 v1 v2 v3
  have hv3 : Kept w s0 v3 := by
    unfold v3
    refine State.ps_kept (maskSub rfl hw) ?_
    exact h
  clear_value v3
  with_reducible apply Kept.ite
  · refine State.raiseCommon_kept (maskSub rfl hw) ?_
    with_reducible assumption
  · with_reducible assumption

theorem State.gyBad_kept {w : Nat} {s0 x : State} {r n why : Nat}
    (hw : 0x10000000000000000000002000000000000000000 &&& w = 0x10000000000000000000002000000000000000000)
    (h : Kept w s0 x) :
    Kept w s0 (State.gyBad x r n why) := by
  unfold State.gyBad
  extract_lets v0 v1 v2
  have hv2 : Kept w s0 v2 := by
    unfold v2
    refine State.ps_kept (maskSub rfl hw) ?_
    exact h
  clear_value v2
  with_reducible apply Kept.ite
  · refine State.raiseCommon_kept (maskSub rfl hw) ?_
    with_reducible assumption
  · with_reducible assumption

theorem State.gyRealignJudge_kept {w : Nat} {s0 x : State} {e : Int} (hw : 128 &&& w = 128) (h : Kept w s0 x) :
    Kept w s0 (State.gyRealignJudge x e) := by
  unfold State.gyRealignJudge
  extract_lets v0 v1 v2
  with_reducible apply Kept.ite
  · with_reducible apply Kept.ite
    · refine State.modGy_kept (maskSub rfl hw) ?_
      exact h
    · exact h
  · with_reducible apply Kept.ite
    · refine State.modGy_kept (maskSub rfl hw) ?_
      exact h
    · exact h

theorem State.gyEvent_kept {w : Nat} {s0 x : State} {r : Nat} {e : Int}
    (hw : 0x10000000100000000000002000000000000000080 &&& w = 0x10000000100000000000002000000000000000080)
    (h : Kept w s0 x) :
    Kept w s0 (State.gyEvent x r e) := by
  unfold State.gyEvent
  extract_lets v0 v1 v2 v3 v4 v5 v6 v7 v8 v9 v10 v11 v12 v13
  have hv11 : Kept w s0 v11 := by
    unfold v11
    refine State.modGy_kept (maskSub rfl hw) ?_
    exact h
  clear_value v11
  have hv12 : Kept w s0 v12 := by
    unfold v12
    refine State.p_kept (maskSub rfl hw) ?_
    refine State.gyRealignJudge_kept (maskSub rfl hw) ?_
    with_reducible assumption
  clear_value v12
  with_reducible apply Kept.ite
  · refine State.modGy_kept (maskSub rfl hw) ?_
    refine State.gySetSub_kept (maskSub rfl hw) ?_
    with_reducible assumption
  · with_reducible apply Kept.ite
    · refine State.modGy_kept (maskSub rfl hw) ?_
      refine State.gySetSub_kept (maskSub rfl hw) ?_
      with_reducible assumption
    · with_reducible assumption

theorem State.gyOor_kept {w : Nat} {s0 x : State} {r num den : Nat} (hw : 128 &&& w = 128) (h : Kept w s0 x) :
    Kept w s0 (State.gyOor x r num den) := by
  unfold State.gyOor
  refine State.modGy_kept (maskSub rfl hw) ?_
  exact h

theorem State.gyEdge_kept {w : Nat} {s0 x : State} {r ago : Nat}
    (hw : 0x10000000100000000000002000000000000000080 &&& w = 0x10000000100000000000002000000000000000080)
    (h : Kept w s0 x) :
    Kept w s0 (State.gyEdge x r ago) := by
  unfold State.gyEdge
  extract_lets v0 v1 v2 v3 v4 v5 v6
  have hv3 : ∀ a0 a1, Kept w s0 a1 → Kept w s0 (v3 a0 a1) := by
    unfold v3
    intro i7 i8 i9
    refine State.modGy_kept (maskSub rfl hw) ?_
    with_reducible assumption
  clear_value v3
  have hv4 : ∀ a0, Kept w s0 a0 → Kept w s0 (v4 a0) := by
    unfold v4
    intro i10 i11
    with_reducible apply Kept.ite
    · refine State.gyEvent_kept (maskSub rfl hw) ?_
      with_reducible assumption
    · with_reducible assumption
  clear_value v4
  split
  · rename_i u12 u13
    with_reducible apply hv3
    exact h
  · rename_i u14 u15 u16
    extract_lets v17 v18 v19 v20 v21
    have hv19 : Kept w s0 v19 := by
      unfold v19
      refine State.gyOor_kept (maskSub rfl hw) ?_
      with_reducible apply hv3
      exact h
    clear_value v19
    have hv20 : Kept w s0 v20 := by
      unfold v20
      refine State.modGy_kept (maskSub rfl hw) ?_
      with_reducible assumption
    clear_value v20
    with_reducible apply Kept.ite
    · with_reducible apply Kept.ite
      · with_reducible apply hv4
        refine State.gyChoose_kept (maskSub rfl hw) ?_
        refine State.gyGood_kept (maskSub rfl hw) ?_
        refine State.p_kept (maskSub rfl hw) ?_
        with_reducible assumption
      · refine State.gyChoose_kept (maskSub rfl hw) ?_
        refine State.gyBad_kept (maskSub rfl hw) ?_
        with_reducible assumption
    · with_reducible apply Kept.ite
      · with_reducible apply hv4
        refine State.gyChoose_kept (maskSub rfl hw) ?_
        refine State.gyBad_kept (maskSub rfl hw) ?_
        with_reducible apply hv3
        exact h
      · with_reducible apply Kept.ite
        · with_reducible apply hv4
          refine State.gyChoose_kept (maskSub rfl hw) ?_
          refine State.gyBad_kept (maskSub rfl hw) ?_
          with_reducible apply hv3
          exact h
        · refine State.bump_kept (maskSub rfl hw) ?_
          exact h

theorem State.gyMissed_kept {w : Nat} {s0 x : State} {r : Nat}
    (hw : 0x10000000100000000000002000000000000000080 &&& w = 0x10000000100000000000002000000000000000080)
    (h : Kept w s0 x) :
    Kept w s0 (State.gyMissed x r) := by
  unfold State.gyMissed
  extract_lets v0 v1 v2
  split
  · rename_i u3 u4
    exact h
  · rename_i u5 u6 u7
    extract_lets v8
    have hv8 : Kept w s0 v8 := by
      unfold v8
      refine State.advanceTo_kept (maskSub rfl hw) ?_
      exact h
    clear_value v8
    with_reducible apply Kept.ite
    · exact h
    · refine State.gyChoose_kept (maskSub rfl hw) ?_
      refine State.gyBad_kept (maskSub rfl hw) ?_
      refine State.modGy_kept (maskSub rfl hw) ?_
      with_reducible assumption

theorem State.gyStamped_kept {w : Nat} {s0 x : State} {r stamp ago : Nat}
    (hw : 0x10000000100000000000002000000000000000080 &&& w = 0x10000000100000000000002000000000000000080)
    (h : Kept w s0 x) :
    Kept w s0 (State.gyStamped x r stamp ago) := by
  unfold State.gyStamped
  extract_lets v0 v1 v2 v3 v4 v5 v6
  have hv3 : ∀ a0 a1, Kept w s0 a1 → Kept w s0 (v3 a0 a1) := by
    unfold v3
    intro i7 i8 i9
    refine State.modGy_kept (maskSub rfl hw) ?_
    with_reducible assumption
  clear_value v3
  have hv5 : ∀ a0, Kept w s0 a0 → Kept w s0 (v5 a0) := by
    unfold v5
    intro i10 i11
    with_reducible apply Kept.ite
    · refine State.gyEvent_kept (maskSub rfl hw) ?_
      with_reducible assumption
    · with_reducible assumption
  clear_value v5
  split
  · rename_i u12 u13
    with_reducible apply hv5
    with_reducible apply hv3
    exact h
  · rename_i u14 u15 u16
    extract_lets v17 v18 v19 v20
    have hv19 : Kept w s0 v19 := by
      unfold v19
      refine State.gyOor_kept (maskSub rfl hw) ?_
      with_reducible apply hv3
      exact h
    clear_value v19
    have hv20 : Kept w s0 v20 := by
      unfold v20
      refine State.p_kept (maskSub rfl hw) ?_
      with_reducible assumption
    clear_value v20
    with_reducible apply Kept.ite
    · with_reducible apply hv5
      refine State.gyChoose_kept (maskSub rfl hw) ?_
      refine State.gyGood_kept (maskSub rfl hw) ?_
      with_reducible assumption
    · refine State.gyChoose_kept (maskSub rfl hw) ?_
      refine State.gyBad_kept (maskSub rfl hw) ?_
      with_reducible apply hv3
      exact h

theorem State.gyPhaseId_kept {w : Nat} {s0 x : State} {i : Nat}
    (hw : 0x10000000000000000000002000000000000000080 &&& w = 0x10000000000000000000002000000000000000080)
    (h : Kept w s0 x) :
    Kept w s0 (State.gyPhaseId x i) := by
  unfold State.gyPhaseId
  extract_lets v0 v1 v2 v3 v4 v5 v6 v7
  have hv3 : ∀ a0 a1, Kept w s0 a1 → Kept w s0 (v3 a0 a1) := by
    unfold v3
    intro i8 i9 i10
    refine State.modGy_kept (maskSub rfl hw) ?_
    with_reducible assumption
  clear_value v3
  have hv5 : Kept w s0 v5 := by
    unfold v5
    with_reducible apply hv3
    exact h
  clear_value v5
  have hv7 : Kept w s0 v7 := by
    unfold v7
    with_reducible apply hv3
    exact h
  clear_value v7
  with_reducible apply Kept.ite
  · with_reducible apply Kept.ite
    · refine State.raiseCommon_kept (maskSub rfl hw) ?_
      refine State.p_kept (maskSub rfl hw) ?_
      with_reducible assumption
    · with_reducible assumption
  · with_reducible apply Kept.ite
    · refine State.raiseCommon_kept (maskSub rfl hw) ?_
      refine State.p_kept (maskSub rfl hw) ?_
      with_reducible assumption
    · with_reducible assumption

theorem State.gyCompareOne_kept {w : Nat} {s0 x : State} {shift : Int} {i : Nat}
    (hw : 0x10000000000000000000002000000000000000080 &&& w = 0x10000000000000000000002000000000000000080)
    (h : Kept w s0 x) :
    Kept w s0 (State.gyCompareOne x shift i) := by
  unfold State.gyCompareOne
  extract_lets v0 v1 v2 v3 v4 v5 v6
  have hv4 : Kept w s0 v4 := by
    unfold v4
    refine State.p_kept (maskSub rfl hw) ?_
    exact h
  clear_value v4
  have hv5 : ∀ a0 a1, Kept w s0 a1 → Kept w s0 (v5 a0 a1) := by
    unfold v5
    intro i7 i8 i9
    refine State.modGy_kept (maskSub rfl hw) ?_
    with_reducible assumption
  clear_value v5
  split
  · rename_i u10 u11
    exact h
  · rename_i u12 u13 u14
    with_reducible apply Kept.ite
    · refine State.gyPhaseId_kept (maskSub rfl hw) ?_
      with_reducible assumption
    · with_reducible apply Kept.ite
      · refine State.gyPhaseId_kept (maskSub rfl hw) ?_
        with_reducible apply hv5
        refine State.ps_kept (maskSub rfl hw) ?_
        with_reducible assumption
      · with_reducible apply Kept.ite
        · refine State.gyPhaseId_kept (maskSub rfl hw) ?_
          with_reducible apply hv5
          refine State.ps_kept (maskSub rfl hw) ?_
          with_reducible assumption
        · with_reducible apply Kept.ite
          · with_reducible apply hv5
            refine State.p_kept (maskSub rfl hw) ?_
            with_reducible assumption
          · with_reducible apply hv5
            with_reducible assumption

theorem State.gyCompare_kept {w : Nat} {s0 x : State} {shift : Int}
    (hw : 0x10000000100000000000002000000000000000080 &&& w = 0x10000000100000000000002000000000000000080)
    (h : Kept w s0 x) :
    Kept w s0 (State.gyCompare x shift) := by
  unfold State.gyCompare
  refine State.gyChoose_kept (maskSub rfl hw) ?_
  refine State.gyCompareOne_kept (maskSub rfl hw) ?_
  refine State.gyCompareOne_kept (maskSub rfl hw) ?_
  refine State.gyCompareOne_kept (maskSub rfl hw) ?_
  exact h

theorem State.gyBeacon_kept {w : Nat} {s0 x : State} {master cyc ang grid t ago : Nat}
    (hw : 0x10000000100000000000002000000000000000080 &&& w = 0x10000000100000000000002000000000000000080)
    (h : Kept w s0 x) :
    Kept w s0 (State.gyBeacon x master cyc ang grid t ago) := by
  unfold State.gyBeacon
  extract_lets v0 v1 v2 v3 v4 v5 v6 v7
  have hv5 : Kept w s0 v5 := by
    unfold v5
    refine State.modGy_kept (maskSub rfl hw) ?_
    exact h
  clear_value v5
  have hv6 : Kept w s0 v6 := by
    unfold v6
    refine State.gySetNetTime_kept (maskSub rfl hw) ?_
    with_reducible assumption
  clear_value v6
  have hv7 : Kept w s0 v7 := by
    unfold v7
    with_reducible apply Kept.ite
    · refine State.gyCompare_kept (maskSub rfl hw) ?_
      with_reducible assumption
    · with_reducible assumption
  clear_value v7
  with_reducible apply Kept.ite
  · exact h
  · refine State.gyStamped_kept (maskSub rfl hw) ?_
    with_reducible assumption

theorem State.gyBeaconSent_kept {w : Nat} {s0 x : State}
    (hw : 0x10000000100000000000002000000000000000080 &&& w = 0x10000000100000000000002000000000000000080)
    (h : Kept w s0 x) :
    Kept w s0 (State.gyBeaconSent x) := by
  unfold State.gyBeaconSent
  refine State.gyCompare_kept (maskSub rfl hw) ?_
  refine State.modGy_kept (maskSub rfl hw) ?_
  exact h

theorem State.cmpFire_kept {w : Nat} {s0 x : State} {i : Nat} {stepped : Bool}
    (hw : 0x10000000000000000000008000000000000000080 &&& w = 0x10000000000000000000008000000000000000080)
    (h : Kept w s0 x) :
    Kept w s0 (State.cmpFire x i stepped) := by
  unfold State.cmpFire
  extract_lets v0 v1 v2 v3 v4
  have hv3 : Kept w s0 v3 := by
    unfold v3
    refine State.ps_kept (maskSub rfl hw) ?_
    exact h
  clear_value v3
  have hv4 : Kept w s0 v4 := by
    unfold v4
    refine State.modGy_kept (maskSub rfl hw) ?_
    with_reducible assumption
  clear_value v4
  with_reducible apply Kept.ite
  · refine State.raiseTenant_kept (maskSub rfl hw) ?_
    with_reducible assumption
  · with_reducible assumption

theorem State.cmpStep_kept {w : Nat} {s0 x : State} {old i : Nat}
    (hw : 0x10000000000000000000008000000000000000080 &&& w = 0x10000000000000000000008000000000000000080)
    (h : Kept w s0 x) :
    Kept w s0 (State.cmpStep x old i) := by
  unfold State.cmpStep
  extract_lets v0 v1
  with_reducible apply Kept.ite
  · exact h
  · with_reducible apply Kept.ite
    · with_reducible apply Kept.ite
      · exact h
      · with_reducible apply Kept.ite
        · refine State.cmpFire_kept (maskSub rfl hw) ?_
          exact h
        · exact h
    · with_reducible apply Kept.ite
      · refine State.cmpFire_kept (maskSub rfl hw) ?_
        exact h
      · exact h

theorem State.gyStep_kept {w : Nat} {s0 x : State} {new : BitVec 80}
    (hw : 0x10000000000000000000008000000000000000080 &&& w = 0x10000000000000000000008000000000000000080)
    (h : Kept w s0 x) :
    Kept w s0 (State.gyStep x new) := by
  unfold State.gyStep
  extract_lets v0 v1 v2
  have hv1 : Kept w s0 v1 := by
    unfold v1
    refine State.modGy_kept (maskSub rfl hw) ?_
    exact h
  clear_value v1
  have hv2 : Kept w s0 v2 := by
    unfold v2
    refine Kept.foldl ?_ ?_
    · intro i3 i4 i5
      refine State.cmpStep_kept (maskSub rfl hw) ?_
      with_reducible assumption
    · with_reducible assumption
  clear_value v2
  refine State.modGy_kept (maskSub rfl hw) ?_
  with_reducible assumption

theorem State.gyApplyCfg_kept {w : Nat} {s0 x : State}
    (hw : 0x10000000100000000000002000000000000000080 &&& w = 0x10000000100000000000002000000000000000080)
    (h : Kept w s0 x) :
    Kept w s0 (State.gyApplyCfg x) := by
  unfold State.gyApplyCfg
  extract_lets v0 v1 v2 v3
  have hv3 : Kept w s0 v3 := by
    unfold v3
    refine State.modGy_kept (maskSub rfl hw) ?_
    exact h
  clear_value v3
  split
  · rename_i u4 u5
    exact h
  · rename_i u6 u7 u8
    extract_lets v9 v10 v11 v12 v13
    have hv10 : Kept w s0 v10 := by
      unfold v10
      with_reducible apply Kept.ite
      · refine Kept.foldl ?_ ?_
        · intro i14 i15 i16
          refine State.p_kept (maskSub rfl hw) ?_
          with_reducible assumption
        · with_reducible assumption
      · with_reducible assumption
    clear_value v10
    have hv12 : Kept w s0 v12 := by
      unfold v12
      refine Kept.foldl ?_ ?_
      · intro i17 i18 i19
        extract_lets v20 v21
        have hv21 : Kept w s0 v21 := by
          unfold v21
          refine State.ps_kept (maskSub rfl hw) ?_
          with_reducible assumption
        clear_value v21
        with_reducible apply Kept.ite
        · refine State.raiseCommon_kept (maskSub rfl hw) ?_
          with_reducible assumption
        · with_reducible assumption
      · with_reducible assumption
    clear_value v12
    have hv13 : Kept w s0 v13 := by
      unfold v13
      with_reducible apply Kept.ite
      · refine State.modGy_kept (maskSub rfl hw) ?_
        with_reducible assumption
      · with_reducible assumption
    clear_value v13
    refine State.gyMasterTime_kept (maskSub rfl hw) ?_
    refine State.gyChoose_kept (maskSub rfl hw) ?_
    with_reducible assumption

theorem State.gyDoRealign_kept {w : Nat} {s0 x : State}
    (hw : 0x10000000000000000000008000000000000000080 &&& w = 0x10000000000000000000008000000000000000080)
    (h : Kept w s0 x) :
    Kept w s0 (State.gyDoRealign x) := by
  unfold State.gyDoRealign
  extract_lets v0 v1 v2 v3
  have hv3 : Kept w s0 v3 := by
    unfold v3
    refine State.modGy_kept (maskSub rfl hw) ?_
    exact h
  clear_value v3
  with_reducible apply Kept.ite
  · refine State.raiseCommon_kept (maskSub rfl hw) ?_
    refine State.gyStep_kept (maskSub rfl hw) ?_
    with_reducible assumption
  · exact h

theorem State.gyForce_kept {w : Nat} {s0 x : State} {arg : Nat}
    (hw : 0x10000000100000000000000000000000000000080 &&& w = 0x10000000100000000000000000000000000000080)
    (h : Kept w s0 x) :
    Kept w s0 (State.gyForce x arg) := by
  unfold State.gyForce
  extract_lets v0 v1 v2 v3
  have hv0 : Kept w s0 v0 := by
    unfold v0
    refine State.changeMirror_kept (maskSub rfl hw) (maskSub rfl hw) ?_
    exact h
  clear_value v0
  have hv3 : Kept w s0 v3 := by
    unfold v3
    refine State.gySetSub_kept (maskSub rfl hw) ?_
    refine State.gySetRef_kept (maskSub rfl hw) ?_
    with_reducible assumption
  clear_value v3
  with_reducible apply Kept.ite
  · refine State.modGy_kept (maskSub rfl hw) ?_
    with_reducible assumption
  · with_reducible apply Kept.ite
    · refine State.gySetSub_kept (maskSub rfl hw) ?_
      refine State.gySetRef_kept (maskSub rfl hw) ?_
      with_reducible assumption
    · refine State.gyChoose_kept (maskSub rfl hw) ?_
      refine State.gySetSub_kept (maskSub rfl hw) ?_
      with_reducible assumption

theorem State.gyHalf_kept {w : Nat} {s0 x : State}
    (hw : 0x1000000010000000000000a000000000000000080 &&& w = 0x1000000010000000000000a000000000000000080)
    (h : Kept w s0 x) :
    Kept w s0 x.gyHalf := by
  unfold State.gyHalf
  extract_lets a b
  have ha : Kept w s0 a := Kept.ite h (State.gyApplyCfg_kept (maskSub rfl hw) h)
  clear_value a
  refine State.gyDoRealign_kept (maskSub rfl hw) ?_
  unfold b
  clear_value b
  split
  · exact Kept.ite ha (State.gyForce_kept (maskSub rfl hw) ha)
  · exact ha

theorem State.gyApplyGrid_kept {w : Nat} {s0 x : State}
    (hw : 0x10000000000000000000001000000000000000080 &&& w = 0x10000000000000000000001000000000000000080)
    (h : Kept w s0 x) :
    Kept w s0 (State.gyApplyGrid x) := by
  unfold State.gyApplyGrid
  split
  · rename_i u0 u1 u2 u3 u4 u5
    extract_lets v6 v7
    have hv6 : Kept w s0 v6 := by
      unfold v6
      refine State.modGy_kept (maskSub rfl hw) ?_
      exact h
    clear_value v6
    have hv7 : Kept w s0 v7 := by
      unfold v7
      refine State.modGy_kept (maskSub rfl hw) ?_
      with_reducible assumption
    clear_value v7
    with_reducible apply Kept.ite
    · refine State.raiseCommon_kept (maskSub rfl hw) ?_
      refine State.p_kept (maskSub rfl hw) ?_
      with_reducible assumption
    · exact h
  · rename_i u8 u9 u10
    exact h

theorem State.gyApplyLoad_kept {w : Nat} {s0 x : State}
    (hw : 0x10000000000000000000008000000000000000080 &&& w = 0x10000000000000000000008000000000000000080)
    (h : Kept w s0 x) :
    Kept w s0 (State.gyApplyLoad x) := by
  unfold State.gyApplyLoad
  extract_lets v0
  have hv0 : Kept w s0 v0 := by
    unfold v0
    refine State.modGy_kept (maskSub rfl hw) ?_
    exact h
  clear_value v0
  split
  · rename_i u1 u2 u3
    extract_lets v4
    have hv4 : Kept w s0 v4 := by
      unfold v4
      refine State.gyStep_kept (maskSub rfl hw) ?_
      with_reducible assumption
    clear_value v4
    with_reducible apply Kept.ite
    · exact h
    · refine State.raiseCommon_kept (maskSub rfl hw) ?_
      with_reducible assumption
  · rename_i u5 u6
    exact h

theorem State.gyCycle_kept {w : Nat} {s0 x : State}
    (hw : 0x10000000000000000000009000000000000000080 &&& w = 0x10000000000000000000009000000000000000080)
    (h : Kept w s0 x) :
    Kept w s0 (State.gyCycle x) := by
  unfold State.gyCycle
  extract_lets v0
  have hv0 : Kept w s0 v0 := by
    unfold v0
    refine State.gyApplyLoad_kept (maskSub rfl hw) ?_
    refine State.gyApplyGrid_kept (maskSub rfl hw) ?_
    exact h
  clear_value v0
  refine State.modGy_kept (maskSub rfl hw) ?_
  with_reducible assumption

theorem State.gyStart_kept {w : Nat} {s0 x : State}
    (hw : 0x10000000100000000000000000000000000000080 &&& w = 0x10000000100000000000000000000000000000080)
    (h : Kept w s0 x) :
    Kept w s0 (State.gyStart x) := by
  unfold State.gyStart
  extract_lets v0
  have hv0 : Kept w s0 v0 := by
    unfold v0
    refine State.modGy_kept (maskSub rfl hw) ?_
    exact h
  clear_value v0
  refine State.gyChoose_kept (maskSub rfl hw) ?_
  refine State.gyMasterTime_kept (maskSub rfl hw) ?_
  refine State.modGy_kept (maskSub rfl hw) ?_
  refine State.goOn_kept (maskSub rfl hw) (maskSub rfl hw) ?_
  with_reducible assumption

theorem State.gyOut_kept {w : Nat} {s0 x : State}
    (hw : 0x10000000000000000000000000000000000000080 &&& w = 0x10000000000000000000000000000000000000080)
    (h : Kept w s0 x) :
    Kept w s0 (State.gyOut x) := by
  unfold State.gyOut
  refine State.gyMasterTime_kept (maskSub rfl hw) ?_
  refine State.modGy_kept (maskSub rfl hw) ?_
  exact h

theorem State.gyCommitCfg_kept {w : Nat} {s0 x : State} {w_ : Word}
    (hw : 0x10000000100000000000001000000000000000080 &&& w = 0x10000000100000000000001000000000000000080)
    (h : Kept w s0 x) :
    Kept w s0 (State.gyCommitCfg x w_).2 := by
  unfold State.gyCommitCfg
  extract_lets v0 v1 v2 v3 v4
  have hv4 : Kept w s0 v4 := by
    unfold v4
    refine State.modGy_kept (maskSub rfl hw) ?_
    refine State.wr_kept (maskSub rfl hw) ?_
    exact h
  clear_value v4
  with_reducible apply Kept.ite2
  · dsimp only
    refine State.gyChoose_kept (maskSub rfl hw) ?_
    with_reducible assumption
  · exact h

theorem State.gyCommitRef_kept {w : Nat} {s0 x : State} {e : Nat} {w_ : Word}
    (hw : 0x10000000100000000000002000000000000000080 &&& w = 0x10000000100000000000002000000000000000080)
    (h : Kept w s0 x) :
    Kept w s0 (State.gyCommitRef x e w_).2 := by
  unfold State.gyCommitRef
  extract_lets v0 v1 v2
  with_reducible apply Kept.ite2
  · exact h
  · dsimp only
    refine State.gyChoose_kept (maskSub rfl hw) ?_
    refine State.wr_kept (maskSub rfl hw) ?_
    exact h

theorem State.ascCommit_kept {w : Nat} {s0 x : State} {t e : Nat} {w_ : Word}
    (hw : 0x4000000000000000000 &&& w = 0x4000000000000000000) (h : Kept w s0 x) :
    Kept w s0 (State.ascCommit x t e w_).2 := by
  unfold State.ascCommit
  extract_lets v0 v1 v2 v3 v4 v5
  with_reducible apply Kept.ite2
  · with_reducible apply Kept.ite2
    · exact h
    · exact h
  · with_reducible apply Kept.ite2
    · dsimp only
      refine State.wr_kept (maskSub rfl hw) ?_
      exact h
    · exact h

theorem State.cmpCommit_kept {w : Nat} {s0 x : State} {t i : Nat} {w_ : Word}
    (hw : 0x10000000000000000000008000000000000000080 &&& w = 0x10000000000000000000008000000000000000080)
    (h : Kept w s0 x) :
    Kept w s0 (State.cmpCommit x t i w_).2 := by
  unfold State.cmpCommit
  extract_lets v0 v1 v2 v3 v4 v5
  have hv3 : Kept w s0 v3 := by
    unfold v3
    refine State.wr_kept (maskSub rfl hw) ?_
    exact h
  clear_value v3
  have hv5 : Kept w s0 v5 := by
    unfold v5
    refine State.modGy_kept (maskSub rfl hw) ?_
    with_reducible assumption
  clear_value v5
  with_reducible apply Kept.ite2
  · dsimp only
    with_reducible apply Kept.ite
    · refine State.cmpFire_kept (maskSub rfl hw) ?_
      with_reducible assumption
    · with_reducible assumption
  · exact h

theorem State.gyUnitCmd_kept {w : Nat} {s0 x : State} {cmd : Nat}
    (hw : 0x10000000100000000000002000000000000000080 &&& w = 0x10000000100000000000002000000000000000080)
    (h : Kept w s0 x) :
    Kept w s0 (State.gyUnitCmd x cmd).2 := by
  unfold State.gyUnitCmd
  extract_lets v0 v1 v2
  have hv2 : Kept w s0 v2 := by
    unfold v2
    refine Kept.foldl ?_ ?_
    · intro i3 i4 i5
      with_reducible apply Kept.ite
      · with_reducible assumption
      · refine State.modGy_kept (maskSub rfl hw) ?_
        refine State.ps_kept (maskSub rfl hw) ?_
        with_reducible assumption
    · exact h
  clear_value v2
  with_reducible apply Kept.ite2
  · with_reducible apply Kept.ite2
    · dsimp only
      refine State.modGy_kept (maskSub rfl hw) ?_
      exact h
    · exact h
  · with_reducible apply Kept.ite2
    · with_reducible apply Kept.ite2
      · dsimp only
        refine State.gyChoose_kept (maskSub rfl hw) ?_
        with_reducible assumption
      · exact h
    · exact h

theorem execZcEdge_kept {w : Nat} {s0 x : State} {inp : Fin 3} {ago : Nat}
    (hw : 0x10000000100000000000002000000000000000080 &&& w = 0x10000000100000000000002000000000000000080)
    (h : Kept w s0 x) :
    KeptO w s0 (execZcEdge inp ago x) := by
  unfold execZcEdge
  refine KeptO.next ?_
  refine State.gyEdge_kept (maskSub rfl hw) ?_
  exact h

theorem execZcMissedTimeout_kept {w : Nat} {s0 x : State} {inp : Fin 3}
    (hw : 0x10000000100000000000002000000000000000080 &&& w = 0x10000000100000000000002000000000000000080)
    (h : Kept w s0 x) :
    KeptO w s0 (execZcMissedTimeout inp x) := by
  unfold execZcMissedTimeout
  refine KeptO.next ?_
  refine State.gyMissed_kept (maskSub rfl hw) ?_
  exact h

theorem execAcqMaxExpire_kept {w : Nat} {s0 x : State}
    (hw : 0x10000000100000000000000000000000000000080 &&& w = 0x10000000100000000000000000000000000000080)
    (h : Kept w s0 x) :
    KeptO w s0 (execAcqMaxExpire x) := by
  unfold execAcqMaxExpire
  with_reducible apply KeptO.ite
  · refine KeptO.next ?_
    with_reducible apply Kept.ite
    · refine State.gySetSub_kept (maskSub rfl hw) ?_
      refine State.gySetRef_kept (maskSub rfl hw) ?_
      exact h
    · refine State.gySetSub_kept (maskSub rfl hw) ?_
      refine State.gySetRef_kept (maskSub rfl hw) ?_
      exact h
  · refine KeptO.next ?_
    exact h

theorem execHoldMaxExpire_kept {w : Nat} {s0 x : State}
    (hw : 0x10000000100000000000000000000000000000080 &&& w = 0x10000000100000000000000000000000000000080)
    (h : Kept w s0 x) :
    KeptO w s0 (execHoldMaxExpire x) := by
  unfold execHoldMaxExpire
  with_reducible apply KeptO.ite
  · refine KeptO.next ?_
    refine State.gySetSub_kept (maskSub rfl hw) ?_
    refine State.gySetRef_kept (maskSub rfl hw) ?_
    exact h
  · refine KeptO.next ?_
    exact h

theorem execNetTimeTimeout_kept {w : Nat} {s0 x : State}
    (hw : 0x10000000000000000000000000000000000000080 &&& w = 0x10000000000000000000000000000000000000080)
    (h : Kept w s0 x) :
    KeptO w s0 (execNetTimeTimeout x) := by
  unfold execNetTimeTimeout
  split
  · rename_i u0 u1
    refine KeptO.next ?_
    exact h
  · rename_i u2 u3 u4
    with_reducible apply KeptO.ite
    · refine KeptO.next ?_
      refine State.gySetNetTime_kept (maskSub rfl hw) ?_
      exact h
    · refine KeptO.next ?_
      exact h

theorem execCmp_kept {w : Nat} {s0 x : State} {i : Fin 16}
    (hw : 0x10000000000000000000008000000000000000080 &&& w = 0x10000000000000000000008000000000000000080)
    (h : Kept w s0 x) :
    KeptO w s0 (execCmp i x) := by
  unfold execCmp
  extract_lets v0 v1
  have hv1 : Kept w s0 v1 := by
    unfold v1
    refine State.advanceFrac_kept (maskSub rfl hw) ?_
    exact h
  clear_value v1
  with_reducible apply KeptO.ite
  · refine KeptO.next ?_
    exact h
  · with_reducible apply KeptO.ite
    · with_reducible apply KeptO.ite
      · refine KeptO.next ?_
        exact h
      · refine KeptO.next ?_
        refine State.cmpFire_kept (maskSub rfl hw) ?_
        refine State.advanceFrac_kept (maskSub rfl hw) ?_
        exact h
    · with_reducible apply KeptO.ite
      · refine KeptO.next ?_
        with_reducible assumption
      · refine KeptO.next ?_
        refine State.cmpFire_kept (maskSub rfl hw) ?_
        with_reducible assumption

theorem execCmpPulseEnd_kept {w : Nat} {s0 x : State} {i : Fin 16} (hw : 128 &&& w = 128) (h : Kept w s0 x) :
    KeptO w s0 (execCmpPulseEnd i x) := by
  unfold execCmpPulseEnd
  split
  · rename_i u0 u1
    refine KeptO.next ?_
    exact h
  · rename_i u2 u3 u4
    extract_lets v5
    have hv5 : Kept w s0 v5 := by
      unfold v5
      refine State.advanceFrac_kept (maskSub rfl hw) ?_
      exact h
    clear_value v5
    refine KeptO.next ?_
    refine State.modGy_kept (maskSub rfl hw) ?_
    with_reducible assumption

theorem State.modJob_kept {w : Nat} {s0 x : State} {j : Nat} {f : ObJob → ObJob} (hw : 2048 &&& w = 2048)
    (h : Kept w s0 x) :
    Kept w s0 (State.modJob x j f) := by
  unfold State.modJob
  refine State.modOb_kept (maskSub rfl hw) ?_
  exact h

theorem State.obZero_kept {w : Nat} {s0 x : State} {q a : Nat}
    (hw : 0x1000000000000000000000000000 &&& w = 0x1000000000000000000000000000) (h : Kept w s0 x) :
    Kept w s0 (State.obZero x q a) := by
  unfold State.obZero
  refine Kept.foldl ?_ ?_
  · intro i0 i1 i2
    with_reducible apply Kept.ite
    · refine State.wr_kept (maskSub rfl hw) ?_
      with_reducible assumption
    · with_reducible assumption
  · exact h

theorem State.obHeld_kept {w : Nat} {s0 x : State} {t : Nat}
    (hw : 0x2000000000000000000000000000 &&& w = 0x2000000000000000000000000000) (h : Kept w s0 x) :
    Kept w s0 (State.obHeld x t) := by
  unfold State.obHeld
  refine State.p_kept (maskSub rfl hw) ?_
  exact h

theorem State.obFree_kept {w : Nat} {s0 x : State} {q : Nat}
    (hw : 0x3800000000000000000000000000 &&& w = 0x3800000000000000000000000000) (h : Kept w s0 x) :
    Kept w s0 (State.obFree x q) := by
  unfold State.obFree
  refine State.obHeld_kept (maskSub rfl hw) ?_
  refine State.obZero_kept (maskSub rfl hw) ?_
  refine State.wr_kept (maskSub rfl hw) ?_
  exact h

theorem State.obEnd_kept {w : Nat} {s0 x : State} {q : Nat} {o : Oc} {record : Bool}
    (hw : 0x80000000000003800000000000000000000000000 &&& w = 0x80000000000003800000000000000000000000000)
    (h : Kept w s0 x) :
    Kept w s0 (State.obEnd x q o record) := by
  unfold State.obEnd
  extract_lets v0 v1 v2 v3 v4
  have hv2 : Kept w s0 v2 := by
    unfold v2
    refine State.ps_kept (maskSub rfl hw) ?_
    exact h
  clear_value v2
  have hv3 : Kept w s0 v3 := by
    unfold v3
    refine State.bump_kept (maskSub rfl hw) ?_
    with_reducible assumption
  clear_value v3
  have hv4 : Kept w s0 v4 := by
    unfold v4
    with_reducible apply Kept.ite
    · refine State.raiseDone_kept (maskSub rfl hw) ?_
      with_reducible assumption
    · with_reducible assumption
  clear_value v4
  with_reducible apply Kept.ite
  · with_reducible assumption
  · refine State.obFree_kept (maskSub rfl hw) ?_
    with_reducible assumption

theorem State.obStop_kept {w : Nat} {s0 x : State} {q : Nat} {o : Oc}
    (hw : 0x80000000000003800000000000000000000000800 &&& w = 0x80000000000003800000000000000000000000800)
    (h : Kept w s0 x) :
    Kept w s0 (State.obStop x q o) := by
  unfold State.obStop
  refine State.obEnd_kept (maskSub rfl hw) ?_
  refine State.modOb_kept (maskSub rfl hw) ?_
  refine State.obZero_kept (maskSub rfl hw) ?_
  exact h

theorem State.slotEnd_kept {w : Nat} {s0 x : State} {c : SlotCmd} {o : Oc}
    (hw : 0x80000000000000200000000000000000000000800 &&& w = 0x80000000000000200000000000000000000000800)
    (h : Kept w s0 x) :
    Kept w s0 (State.slotEnd x c o) := by
  unfold State.slotEnd
  extract_lets v0 v1
  have hv0 : Kept w s0 v0 := by
    unfold v0
    refine State.modOb_kept (maskSub rfl hw) ?_
    exact h
  clear_value v0
  have hv1 : Kept w s0 v1 := by
    unfold v1
    refine State.ps_kept (maskSub rfl hw) ?_
    with_reducible assumption
  clear_value v1
  with_reducible apply Kept.ite
  · with_reducible assumption
  · refine State.raiseDone_kept (maskSub rfl hw) ?_
    with_reducible assumption

theorem State.obEndAll_kept {w : Nat} {s0 x : State} {o : Oc}
    (hw : 0x80000000000003a00000000000000000000100800 &&& w = 0x80000000000003a00000000000000000000100800)
    (h : Kept w s0 x) :
    Kept w s0 (State.obEndAll o x) := by
  unfold State.obEndAll
  extract_lets v0 v1 v2 v3 v4 v5
  have hv1 : Kept w s0 v1 := by
    unfold v1
    refine Kept.foldl ?_ ?_
    · intro i6 i7 i8
      extract_lets v9
      with_reducible apply Kept.ite
      · refine State.obStop_kept (maskSub rfl hw) ?_
        with_reducible assumption
      · with_reducible assumption
    · exact h
  clear_value v1
  have hv3 : Kept w s0 v3 := by
    unfold v3
    refine Kept.foldl ?_ ?_
    · intro i10 i11 i12
      refine State.ps_kept (maskSub rfl hw) ?_
      refine State.modOb_kept (maskSub rfl hw) ?_
      with_reducible assumption
    · with_reducible assumption
  clear_value v3
  have hv4 : Kept w s0 v4 := by
    unfold v4
    refine State.modOb_kept (maskSub rfl hw) ?_
    with_reducible assumption
  clear_value v4
  refine Kept.foldl ?_ ?_
  · intro i13 i14 i15
    refine State.slotEnd_kept (maskSub rfl hw) ?_
    refine State.modSn_kept (maskSub rfl hw) ?_
    with_reducible assumption
  · with_reducible assumption

theorem State.obZeroKeys_kept {w : Nat} {s0 x : State}
    (hw : 0x200000000000000000000000800 &&& w = 0x200000000000000000000000800) (h : Kept w s0 x) :
    Kept w s0 (State.obZeroKeys x) := by
  unfold State.obZeroKeys
  refine State.modOb_kept (maskSub rfl hw) ?_
  refine Kept.foldl ?_ ?_
  · intro i0 i1 i2
    refine State.ps_kept (maskSub rfl hw) ?_
    with_reducible assumption
  · exact h

theorem State.obZeroData_kept {w : Nat} {s0 x : State}
    (hw : 0x1000000000000000000000000000 &&& w = 0x1000000000000000000000000000) (h : Kept w s0 x) :
    Kept w s0 (State.obZeroData x) := by
  unfold State.obZeroData
  refine Kept.foldl ?_ ?_
  · intro i0 i1 i2
    refine State.wr_kept (maskSub rfl hw) ?_
    with_reducible assumption
  · exact h

theorem State.obFault_kept {w : Nat} {s0 x : State}
    (hw : 0x80000000800003a0000000c040000000000100880 &&& w = 0x80000000800003a0000000c040000000000100880)
    (h : Kept w s0 x) :
    Kept w s0 (State.obFault x) := by
  unfold State.obFault
  refine State.obZeroKeys_kept (maskSub rfl hw) ?_
  refine State.goFault_kept (maskSub rfl hw) (maskSub rfl hw) (maskSub rfl hw) ?_ ?_
  · intro i0 i1 i2
    refine State.obEndAll_kept (maskSub rfl hw) ?_
    with_reducible assumption
  · exact h

theorem State.obOut_kept {w : Nat} {s0 x : State}
    (hw : 0x1200000000000000000000000800 &&& w = 0x1200000000000000000000000800) (h : Kept w s0 x) :
    Kept w s0 (State.obOut x) := by
  unfold State.obOut
  refine State.obZeroData_kept (maskSub rfl hw) ?_
  refine State.obZeroKeys_kept (maskSub rfl hw) ?_
  exact h

theorem State.setProv_kept {w : Nat} {s0 x : State} {v : Bool}
    (hw : 0x80000000800000100000000000000000000000000 &&& w = 0x80000000800000100000000000000000000000000)
    (h : Kept w s0 x) :
    Kept w s0 (State.setProv x v) := by
  unfold State.setProv
  refine State.setSub_kept (maskSub rfl hw) (maskSub rfl hw) ?_
  refine State.p_kept (maskSub rfl hw) ?_
  exact h

theorem State.obIntegrity_kept {w : Nat} {s0 x : State} {kind : Nat}
    (hw : 0x80000000800003b0000000c040000000000100880 &&& w = 0x80000000800003b0000000c040000000000100880)
    (h : Kept w s0 x) :
    Kept w s0 (State.obIntegrity x kind) := by
  unfold State.obIntegrity
  extract_lets v0 v1 v2
  have hv1 : Kept w s0 v1 := by
    unfold v1
    refine State.bump_kept (maskSub rfl hw) ?_
    refine State.modOb_kept (maskSub rfl hw) ?_
    exact h
  clear_value v1
  have hv2 : Kept w s0 v2 := by
    unfold v2
    refine State.raiseCommon_kept (maskSub rfl hw) ?_
    with_reducible assumption
  clear_value v2
  with_reducible apply Kept.ite
  · refine State.raiseCommon_kept (maskSub rfl hw) ?_
    refine State.obFault_kept (maskSub rfl hw) ?_
    refine State.modOb_kept (maskSub rfl hw) ?_
    with_reducible assumption
  · with_reducible assumption

theorem State.keyChange_kept {w : Nat} {s0 x : State} {k cmd : Nat}
    (hw : 0x80000000000000200000000000000000000000000 &&& w = 0x80000000000000200000000000000000000000000)
    (h : Kept w s0 x) :
    Kept w s0 (State.keyChange x k cmd) := by
  unfold State.keyChange
  extract_lets v0
  refine State.raiseTenant_kept (maskSub rfl hw) ?_
  refine State.p_kept (maskSub rfl hw) ?_
  exact h

theorem State.setKey_kept {w : Nat} {s0 x : State} {k : Nat} {key : List Byte} {klen usage : Nat} {persist : Bool}
    (hw : 0x200000000000000000000000800 &&& w = 0x200000000000000000000000800) (h : Kept w s0 x) :
    Kept w s0 (State.setKey x k key klen usage persist) := by
  unfold State.setKey
  refine State.ps_kept (maskSub rfl hw) ?_
  refine State.modOb_kept (maskSub rfl hw) ?_
  exact h

theorem State.clearKey_kept {w : Nat} {s0 x : State} {k : Nat}
    (hw : 0x200000000000000000000000800 &&& w = 0x200000000000000000000000800) (h : Kept w s0 x) :
    Kept w s0 (State.clearKey x k) := by
  unfold State.clearKey
  refine State.ps_kept (maskSub rfl hw) ?_
  refine State.modOb_kept (maskSub rfl hw) ?_
  exact h

theorem State.slotApply_kept {w : Nat} {s0 x : State} {c : SlotCmd}
    (hw : 0x80000000000000200000000000000000000000800 &&& w = 0x80000000000000200000000000000000000000800)
    (h : Kept w s0 x) :
    Kept w s0 (State.slotApply x c) := by
  unfold State.slotApply
  extract_lets v0 v1
  have hv1 : Kept w s0 v1 := by
    unfold v1
    with_reducible apply Kept.ite
    · refine State.clearKey_kept (maskSub rfl hw) ?_
      exact h
    · with_reducible apply Kept.ite
      · refine State.p_kept (maskSub rfl hw) ?_
        exact h
      · with_reducible apply Kept.ite
        · refine State.setKey_kept (maskSub rfl hw) ?_
          exact h
        · refine State.p_kept (maskSub rfl hw) ?_
          exact h
  clear_value v1
  refine State.keyChange_kept (maskSub rfl hw) ?_
  with_reducible assumption

theorem State.slotStore_kept {w : Nat} {s0 x : State} {c : SlotCmd} (hw : 0x100000 &&& w = 0x100000)
    (h : Kept w s0 x) :
    Kept w s0 (State.slotStore x c) := by
  unfold State.slotStore
  extract_lets v0 v1 v2
  with_reducible apply Kept.ite
  · exact h
  · with_reducible apply Kept.ite
    · refine State.snDevice_kept (maskSub rfl hw) ?_
      exact h
    · refine State.snDevice_kept (maskSub rfl hw) ?_
      exact h

theorem State.clearKeyin_kept {w : Nat} {s0 x : State}
    (hw : 0x400000000000000000000000000 &&& w = 0x400000000000000000000000000) (h : Kept w s0 x) :
    Kept w s0 (State.clearKeyin x) := by
  unfold State.clearKeyin
  refine State.wr_kept (maskSub rfl hw) ?_
  refine State.wr_kept (maskSub rfl hw) ?_
  refine State.wr_kept (maskSub rfl hw) ?_
  exact h

theorem State.slotCommit_kept {w : Nat} {s0 x : State} {t k : Nat} {w_ : Word}
    (hw : 0x80000000000000600000000000000000000100800 &&& w = 0x80000000000000600000000000000000000100800)
    (h : Kept w s0 x) :
    Kept w s0 (State.slotCommit x t k w_).2 := by
  unfold State.slotCommit
  extract_lets v0 v1 v2 v3 v4 v5 v6 v7 v8 v9 v10
  have hv9 : Kept w s0 v9 := by
    unfold v9
    refine State.clearKeyin_kept (maskSub rfl hw) ?_
    exact h
  clear_value v9
  have hv10 : Kept w s0 v10 := by
    unfold v10
    refine State.modOb_kept (maskSub rfl hw) ?_
    refine State.ps_kept (maskSub rfl hw) ?_
    with_reducible assumption
  clear_value v10
  with_reducible apply Kept.ite2
  · dsimp only
    with_reducible apply Kept.ite
    · refine State.clearKeyin_kept (maskSub rfl hw) ?_
      exact h
    · exact h
  · with_reducible apply Kept.ite2
    · with_reducible apply Kept.ite2
      · dsimp only
        refine State.modOb_kept (maskSub rfl hw) ?_
        refine State.p_kept (maskSub rfl hw) ?_
        with_reducible assumption
      · dsimp only
        refine State.p_kept (maskSub rfl hw) ?_
        refine State.slotApply_kept (maskSub rfl hw) ?_
        with_reducible assumption
    · dsimp only
      with_reducible apply Kept.ite
      · with_reducible assumption
      · refine State.slotStore_kept (maskSub rfl hw) ?_
        with_reducible assumption

theorem State.slotEngine_kept {w : Nat} {s0 x : State} {c : SlotCmd}
    (hw : 0x4000000000000000000000101800 &&& w = 0x4000000000000000000000101800) (h : Kept w s0 x) :
    Kept w s0 (State.slotEngine x c) := by
  unfold State.slotEngine
  extract_lets v0 v1 v2 v3 v4
  have hv0 : ∀ a0 a1, Kept w s0 a1 → Kept w s0 (v0 a0 a1) := by
    unfold v0
    intro i5 i6 i7
    refine State.modOb_kept (maskSub rfl hw) ?_
    with_reducible assumption
  clear_value v0
  have hv1 : Kept w s0 v1.2 := by
    unfold v1
    refine State.drbgGen_kept (maskSub rfl hw) ?_
    exact h
  clear_value v1
  have hv2 : Kept w s0 v2.2 := by
    unfold v2
    refine State.drbgGen_kept (maskSub rfl hw) ?_
    with_reducible assumption
  clear_value v2
  with_reducible apply Kept.ite
  · split
    · rename_i u8 u9
      with_reducible apply hv0
      exact h
    · rename_i u10 u11 u12
      split
      · rename_i u13 u14
        with_reducible apply hv0
        exact h
      · rename_i u15 u16 u17
        extract_lets v18
        refine State.slotStore_kept (maskSub rfl hw) ?_
        with_reducible apply hv0
        exact h
  · with_reducible apply Kept.ite
    · with_reducible apply Kept.ite
      · refine State.slotStore_kept (maskSub rfl hw) ?_
        with_reducible apply hv0
        with_reducible assumption
      · with_reducible apply hv0
        exact h
    · refine State.slotStore_kept (maskSub rfl hw) ?_
      with_reducible apply hv0
      exact h

theorem State.obFirst_kept {w : Nat} {s0 x : State} {j : Nat} (hw : 0x1800 &&& w = 0x1800) (h : Kept w s0 x) :
    Kept w s0 (State.obFirst x j) := by
  unfold State.obFirst
  extract_lets v0 v1 v2 v3 v4 v5 v6 v7 v8
  have hv0 : Kept w s0 v0 := by
    unfold v0
    refine State.cmDraw_kept (maskSub rfl hw) ?_
    exact h
  clear_value v0
  have hv1 : ∀ a0 a1 a2, Kept w s0 a2 → Kept w s0 (v1 a0 a1 a2) := by
    unfold v1
    intro i9 i10 i11 i12
    refine State.modJob_kept (maskSub rfl hw) ?_
    with_reducible assumption
  clear_value v1
  have hv2 : ∀ a0, Kept w s0 a0 → Kept w s0 (v2 a0) := by
    unfold v2
    intro i13 i14
    refine State.modJob_kept (maskSub rfl hw) ?_
    with_reducible assumption
  clear_value v2
  with_reducible apply Kept.ite
  · split
    · rename_i u15 u16
      with_reducible apply hv2
      with_reducible assumption
    · rename_i u17 u18 u19
      with_reducible apply hv1
      with_reducible assumption
  · with_reducible apply Kept.ite
    · with_reducible apply Kept.ite
      · with_reducible apply hv1
        with_reducible assumption
      · with_reducible apply hv2
        with_reducible assumption
    · with_reducible apply Kept.ite
      · with_reducible apply hv1
        with_reducible assumption
      · with_reducible apply hv2
        with_reducible assumption

theorem State.obChoose_kept {w : Nat} {s0 x : State}
    (hw : 0x800000000000000000000001800 &&& w = 0x800000000000000000000001800) (h : Kept w s0 x) :
    Kept w s0 (State.obChoose x) := by
  unfold State.obChoose
  with_reducible apply Kept.ite
  · split
    · rename_i u0 u1
      exact h
    · rename_i u2 u3 u4
      extract_lets v5 v6 v7
      have hv6 : Kept w s0 v6 := by
        unfold v6
        refine State.modOb_kept (maskSub rfl hw) ?_
        exact h
      clear_value v6
      have hv7 : Kept w s0 v7 := by
        unfold v7
        with_reducible apply Kept.ite
        · refine State.modJob_kept (maskSub rfl hw) ?_
          with_reducible assumption
        · refine State.obFirst_kept (maskSub rfl hw) ?_
          with_reducible assumption
      clear_value v7
      with_reducible apply Kept.ite
      · refine State.ps_kept (maskSub rfl hw) ?_
        with_reducible assumption
      · with_reducible assumption
  · exact h

theorem State.obWrite_kept {w : Nat} {s0 x : State} {q mode dir : Nat} {out tag : List Nat}
    (hw : 0x1000000000000000000000000000 &&& w = 0x1000000000000000000000000000) (h : Kept w s0 x) :
    Kept w s0 (State.obWrite x q mode dir out tag) := by
  unfold State.obWrite
  extract_lets v0
  have hv0 : Kept w s0 v0 := by
    unfold v0
    with_reducible apply Kept.ite
    · exact h
    · refine Kept.foldl ?_ ?_
      · intro i1 i2 i3
        refine State.wr_kept (maskSub rfl hw) ?_
        with_reducible assumption
      · exact h
  clear_value v0
  with_reducible apply Kept.ite
  · refine State.wr_kept (maskSub rfl hw) ?_
    with_reducible assumption
  · with_reducible apply Kept.ite
    · with_reducible assumption
    · refine State.wr_kept (maskSub rfl hw) ?_
      with_reducible assumption

theorem State.obQuiet_kept {w : Nat} {s0 x : State}
    (hw : 0x80000000000000200000000000000000000000800 &&& w = 0x80000000000000200000000000000000000000800)
    (h : Kept w s0 x) :
    Kept w s0 (State.obQuiet x) := by
  unfold State.obQuiet
  refine Kept.foldl ?_ ?_
  · intro i0 i1 i2
    refine State.slotEnd_kept (maskSub rfl hw) ?_
    refine State.slotApply_kept (maskSub rfl hw) ?_
    with_reducible assumption
  · exact h

theorem State.obFinish_kept {w : Nat} {s0 x : State} {fault : Nat}
    (hw : 0x80000000800007b0000000c040000000000101880 &&& w = 0x80000000800007b0000000c040000000000101880)
    (h : Kept w s0 x) :
    Kept w s0 (x.obFinish fault) := by
  unfold State.obFinish
  split
  · exact h
  · next j hj =>
    extract_lets c cut a b d r e f
    have hb : Kept w s0 b := State.modOb_kept (maskSub rfl hw) (State.advanceTo_kept (maskSub rfl hw) h)
    clear_value b
    have hd : Kept w s0 d := Kept.ite (State.p_kept (maskSub rfl hw) hb) hb
    clear_value d
    have he : Kept w s0 e := by
      unfold e
      clear_value f e r
      refine Kept.ite ?_ (Kept.ite (State.ps_kept (maskSub rfl hw) (State.modOb_kept (maskSub rfl hw) hd)) (Kept.ite (State.obStop_kept (maskSub rfl hw) hd)
        (Kept.ite (State.obEnd_kept (maskSub rfl hw) (State.obZero_kept (maskSub rfl hw) hd)) (Kept.ite (State.obStop_kept (maskSub rfl hw) hd) ?_))))
      · split
        · exact hd
        · exact Kept.ite (State.slotEngine_kept (maskSub rfl hw) hd) (State.slotEnd_kept (maskSub rfl hw) hd)
      · split
        · exact State.obEnd_kept (maskSub rfl hw) (State.obZero_kept (maskSub rfl hw) hd)
        · exact State.obEnd_kept (maskSub rfl hw) (State.obWrite_kept (maskSub rfl hw) hd)
    clear_value e
    have hf : Kept w s0 f := State.obQuiet_kept (maskSub rfl hw) he
    exact Kept.ite (State.obIntegrity_kept (maskSub rfl hw) hf) hf

theorem State.obPlace_kept {w : Nat} {s0 x : State} {t : Nat} {w_ : Word}
    (hw : 0x2800000000000000000000000800 &&& w = 0x2800000000000000000000000800) (h : Kept w s0 x) :
    Kept w s0 (State.obPlace x t w_).2 := by
  unfold State.obPlace
  extract_lets v0 v1
  split
  · rename_i u2 u3
    exact h
  · rename_i u4 u5 u6
    extract_lets v7
    have hv7 : Kept w s0 v7 := by
      unfold v7
      refine State.wr_kept (maskSub rfl hw) ?_
      refine State.wr_kept (maskSub rfl hw) ?_
      exact h
    clear_value v7
    with_reducible apply Kept.ite2
    · dsimp only
      refine State.obHeld_kept (maskSub rfl hw) ?_
      refine State.modOb_kept (maskSub rfl hw) ?_
      with_reducible assumption
    · exact h

theorem State.obGo_kept {w : Nat} {s0 x : State} {t q : Nat}
    (hw : 0x800000000000000000000001800 &&& w = 0x800000000000000000000001800) (h : Kept w s0 x) :
    Kept w s0 (State.obGo x t q).2 := by
  unfold State.obGo
  extract_lets v0 v1 v2
  have hv2 : Kept w s0 v2 := by
    unfold v2
    refine State.ps_kept (maskSub rfl hw) ?_
    refine State.modOb_kept (maskSub rfl hw) ?_
    exact h
  clear_value v2
  with_reducible apply Kept.ite2
  · dsimp only
    refine State.obChoose_kept (maskSub rfl hw) ?_
    with_reducible assumption
  · with_reducible assumption

theorem State.obCmd_kept {w : Nat} {s0 x : State} {t q cmd : Nat}
    (hw : 0x80000000000003800000000000000000000001800 &&& w = 0x80000000000003800000000000000000000001800)
    (h : Kept w s0 x) :
    Kept w s0 (State.obCmd x t q cmd).2 := by
  unfold State.obCmd
  extract_lets v0
  with_reducible apply Kept.ite2
  · exact h
  · with_reducible apply Kept.ite2
    · exact h
    · with_reducible apply Kept.ite2
      · with_reducible apply Kept.ite2
        · dsimp only
          refine State.obFree_kept (maskSub rfl hw) ?_
          exact h
        · exact h
      · with_reducible apply Kept.ite2
        · with_reducible apply Kept.ite2
          · refine State.obGo_kept (maskSub rfl hw) ?_
            exact h
          · exact h
        · with_reducible apply Kept.ite2
          · exact h
          · with_reducible apply Kept.ite2
            · dsimp only
              refine State.obStop_kept (maskSub rfl hw) ?_
              exact h
            · with_reducible apply Kept.ite2
              · dsimp only
                refine State.obStop_kept (maskSub rfl hw) ?_
                refine State.modOb_kept (maskSub rfl hw) ?_
                exact h
              · with_reducible apply Kept.ite2
                · dsimp only
                  refine State.modJob_kept (maskSub rfl hw) ?_
                  exact h
                · split
                  · rename_i u1 u2
                    exact h
                  · rename_i u3 u4
                    exact h

theorem State.obCommitQ_kept {w : Nat} {s0 x : State} {t e : Nat} {w_ : Word}
    (hw : 0x80000000000003800000000000000000000001800 &&& w = 0x80000000000003800000000000000000000001800)
    (h : Kept w s0 x) :
    Kept w s0 (State.obCommitQ x t e w_).2 := by
  unfold State.obCommitQ
  with_reducible apply Kept.ite2
  · refine State.obPlace_kept (maskSub rfl hw) ?_
    exact h
  · with_reducible apply Kept.ite2
    · with_reducible apply Kept.ite2
      · exact h
      · exact h
    · refine State.obCmd_kept (maskSub rfl hw) ?_
      exact h

theorem State.obCommitData_kept {w : Nat} {s0 x : State} {e : Nat} {w_ : Word}
    (hw : 0x1000000000000000000000000000 &&& w = 0x1000000000000000000000000000) (h : Kept w s0 x) :
    Kept w s0 (State.obCommitData x e w_).2 := by
  unfold State.obCommitData
  with_reducible apply Kept.ite2
  · dsimp only
    refine State.wr_kept (maskSub rfl hw) ?_
    exact h
  · exact h

theorem State.obCommitCfg_kept {w : Nat} {s0 x : State} {w_ : Word}
    (hw : 0x100000000000000000000000000 &&& w = 0x100000000000000000000000000) (h : Kept w s0 x) :
    Kept w s0 (State.obCommitCfg x w_).2 := by
  unfold State.obCommitCfg
  extract_lets v0
  have hv0 : Kept w s0 v0 := by
    unfold v0
    refine State.wr_kept (maskSub rfl hw) ?_
    exact h
  clear_value v0
  dsimp only
  refine State.p_kept (maskSub rfl hw) ?_
  with_reducible assumption

theorem State.obCommitTenant_kept {w : Nat} {s0 x : State} {t e : Nat} {w_ : Word}
    (hw : 0x2000000000000000000000000000 &&& w = 0x2000000000000000000000000000) (h : Kept w s0 x) :
    Kept w s0 (State.obCommitTenant x t e w_).2 := by
  unfold State.obCommitTenant
  extract_lets v0
  with_reducible apply Kept.ite2
  · exact h
  · with_reducible apply Kept.ite2
    · exact h
    · dsimp only
      refine State.wr_kept (maskSub rfl hw) ?_
      exact h

theorem State.obDisable_kept {w : Nat} {s0 x : State} {t : Nat}
    (hw : 0x80000000000003800000000000000000000000800 &&& w = 0x80000000000003800000000000000000000000800)
    (h : Kept w s0 x) :
    Kept w s0 (State.obDisable x t) := by
  unfold State.obDisable
  refine Kept.foldl ?_ ?_
  · intro i0 i1 i2
    extract_lets v3
    with_reducible apply Kept.ite
    · with_reducible assumption
    · with_reducible apply Kept.ite
      · refine State.modJob_kept (maskSub rfl hw) ?_
        with_reducible assumption
      · with_reducible apply Kept.ite
        · refine State.obFree_kept (maskSub rfl hw) ?_
          with_reducible assumption
        · refine State.obFree_kept (maskSub rfl hw) ?_
          refine State.obStop_kept (maskSub rfl hw) ?_
          refine State.modOb_kept (maskSub rfl hw) ?_
          with_reducible assumption
  · exact h

theorem State.obReload_kept {w : Nat} {s0 x : State} {r : SnRec}
    (hw : 0x80000000000000200000000000000000000000800 &&& w = 0x80000000000000200000000000000000000000800)
    (h : Kept w s0 x) :
    Kept w s0 (State.obReload x r) := by
  unfold State.obReload
  extract_lets v0
  split
  · rename_i u1 u2 u3
    extract_lets v4
    refine State.setKey_kept (maskSub rfl hw) ?_
    exact h
  · rename_i u5 u6
    refine State.raiseTenant_kept (maskSub rfl hw) ?_
    refine State.clearKey_kept (maskSub rfl hw) ?_
    exact h

theorem State.obStart_kept {w : Nat} {s0 x : State} {kat : Bool}
    (hw : 0x80000000800003a0000000c040000000000100880 &&& w = 0x80000000800003a0000000c040000000000100880)
    (h : Kept w s0 x) :
    Kept w s0 (State.obStart x kat) := by
  unfold State.obStart
  extract_lets v0
  have hv0 : Kept w s0 v0 := by
    unfold v0
    refine Kept.foldl ?_ ?_
    · intro i1 i2 i3
      refine State.obReload_kept (maskSub rfl hw) ?_
      with_reducible assumption
    · exact h
  clear_value v0
  with_reducible apply Kept.ite
  · refine State.modOb_kept (maskSub rfl hw) ?_
    refine State.goOn_kept (maskSub rfl hw) (maskSub rfl hw) ?_
    with_reducible assumption
  · refine State.obFault_kept (maskSub rfl hw) ?_
    exact h

theorem State.obForce_kept {w : Nat} {s0 x : State} {arg : Nat}
    (hw : 0x80000000800000000000000000000000000000000 &&& w = 0x80000000800000000000000000000000000000000)
    (h : Kept w s0 x) :
    Kept w s0 (State.obForce x arg) := by
  unfold State.obForce
  refine State.changeMirror_kept (maskSub rfl hw) (maskSub rfl hw) ?_
  exact h

theorem State.obZeroize_kept {w : Nat} {s0 x : State}
    (hw : 0x80000000800003b00000000000000000000100800 &&& w = 0x80000000800003b00000000000000000000100800)
    (h : Kept w s0 x) :
    Kept w s0 x.obZeroize := by
  unfold State.obZeroize
  extract_lets a live slots recs b c d
  have ha : Kept w s0 a := State.obEndAll_kept (maskSub rfl hw) h
  have hb : Kept w s0 b := Kept.foldl (fun y k hy => State.snDevice_kept (maskSub rfl hw) hy) ha
  have hc : Kept w s0 c := by
    unfold c
    clear_value b
    rcases b.snFind 6 0 0 with _ | r
    · exact hb
    · exact State.snDevice_kept (maskSub rfl hw) hb
  have hd : Kept w s0 d := Kept.foldl (fun y k hy => State.keyChange_kept (maskSub rfl hw) (State.clearKey_kept (maskSub rfl hw) hy)) hc
  exact State.raiseCommon_kept (maskSub rfl hw) (State.setProv_kept (maskSub rfl hw) (State.obZeroKeys_kept (maskSub rfl hw) hd))

theorem State.obUnitCmd_kept {w : Nat} {s0 x : State} {cmd arg : Nat}
    (hw : 0x80000000800003b00000000000000000000100800 &&& w = 0x80000000800003b00000000000000000000100800)
    (h : Kept w s0 x) :
    Kept w s0 (State.obUnitCmd x cmd arg).2 := by
  unfold State.obUnitCmd
  extract_lets v0 v1
  with_reducible apply Kept.ite2
  · with_reducible apply Kept.ite2
    · dsimp only
      refine State.raiseCommon_kept (maskSub rfl hw) ?_
      refine State.snDevice_kept (maskSub rfl hw) ?_
      refine State.setProv_kept (maskSub rfl hw) ?_
      exact h
    · exact h
  · with_reducible apply Kept.ite2
    · with_reducible apply Kept.ite2
      · dsimp only
        refine State.obZeroize_kept (maskSub rfl hw) ?_
        exact h
      · exact h
    · exact h

theorem execSlotCmdDone_kept {w : Nat} {s0 x : State} {slot : Nat}
    (hw : 0x80000000000000200000000000000000000000800 &&& w = 0x80000000000000200000000000000000000000800)
    (h : Kept w s0 x) :
    KeptO w s0 (execSlotCmdDone slot x) := by
  unfold execSlotCmdDone
  split
  · rename_i u0 u1
    refine KeptO.next ?_
    exact h
  · rename_i u2 u3 u4
    with_reducible apply KeptO.ite
    · refine KeptO.next ?_
      exact h
    · with_reducible apply KeptO.ite
      · refine KeptO.next ?_
        refine State.slotEnd_kept (maskSub rfl hw) ?_
        refine State.slotApply_kept (maskSub rfl hw) ?_
        exact h
      · refine KeptO.next ?_
        refine State.slotEnd_kept (maskSub rfl hw) ?_
        exact h

theorem execObJobChoose_kept {w : Nat} {s0 x : State}
    (hw : 0x800000000000000000000001800 &&& w = 0x800000000000000000000001800) (h : Kept w s0 x) :
    KeptO w s0 (execObJobChoose x) := by
  unfold execObJobChoose
  refine KeptO.next ?_
  refine State.obChoose_kept (maskSub rfl hw) ?_
  exact h

theorem execObInlineJob_kept {w : Nat} {s0 x : State} {port : Fin 4} {x_ : Inline}
    (hw : 0x800000000000000000000001800 &&& w = 0x800000000000000000000001800) (h : Kept w s0 x) :
    KeptO w s0 (execObInlineJob port x_ x) := by
  unfold execObInlineJob
  extract_lets v0 v1
  have hv0 : Kept w s0 v0 := by
    unfold v0
    refine State.modOb_kept (maskSub rfl hw) ?_
    exact h
  clear_value v0
  have hv1 : Kept w s0 v1 := by
    unfold v1
    refine State.ps_kept (maskSub rfl hw) ?_
    with_reducible assumption
  clear_value v1
  with_reducible apply KeptO.ite
  · refine KeptO.next ?_
    refine State.obChoose_kept (maskSub rfl hw) ?_
    refine State.modOb_kept (maskSub rfl hw) ?_
    with_reducible assumption
  · refine KeptO.next ?_
    refine State.ps_kept (maskSub rfl hw) ?_
    refine State.modOb_kept (maskSub rfl hw) ?_
    with_reducible assumption

theorem execObPreempt_kept {w : Nat} {s0 x : State}
    (hw : 0x800000000000000000000000800 &&& w = 0x800000000000000000000000800) (h : Kept w s0 x) :
    KeptO w s0 (execObPreempt x) := by
  unfold execObPreempt
  extract_lets v0
  split
  · rename_i u1 u2
    refine KeptO.next ?_
    exact h
  · rename_i u3 u4 u5
    split
    · rename_i u6 u7
      refine KeptO.next ?_
      exact h
    · rename_i u8 u9 u10
      extract_lets v11 v12 v13
      have hv11 : Kept w s0 v11 := by
        unfold v11
        refine State.advanceTo_kept (maskSub rfl hw) ?_
        exact h
      clear_value v11
      have hv12 : Kept w s0 v12 := by
        unfold v12
        refine State.modJob_kept (maskSub rfl hw) ?_
        with_reducible assumption
      clear_value v12
      have hv13 : Kept w s0 v13 := by
        unfold v13
        refine State.modOb_kept (maskSub rfl hw) ?_
        with_reducible assumption
      clear_value v13
      with_reducible apply KeptO.ite
      · refine KeptO.next ?_
        with_reducible apply Kept.ite
        · refine State.p_kept (maskSub rfl hw) ?_
          with_reducible assumption
        · with_reducible assumption
      · refine KeptO.next ?_
        exact h

theorem execObJobDone_kept {w : Nat} {s0 x : State} {fault : Fin 4}
    (hw : 0x80000000800007b0000000c040000000000101880 &&& w = 0x80000000800007b0000000c040000000000101880)
    (h : Kept w s0 x) :
    KeptO w s0 (execObJobDone fault x) := by
  unfold execObJobDone
  refine KeptO.next ?_
  refine State.obFinish_kept (maskSub rfl hw) ?_
  exact h

theorem State.modSel_kept {w : Nat} {s0 x : State} {t : Nat} {f : TenantSel → TenantSel} (hw : 8 &&& w = 8)
    (h : Kept w s0 x) :
    Kept w s0 (x.modSel t f) := by
  refine h.trans ?_
  have hb : w.testBit 3 = true := mask_bit (maskSub rfl hw)
  constructor
  case tsel => intro k; rw [hb] at k; cases k
  all_goals (intros; first | rfl | exact Nat.le_refl _ | assumption)

end Sys2Proof.Machine
end

