-- ==== Sys2Proof/Laws/KeptLine.lean ====
section
/-! SUPPORT. What each operation of Caldera and the line keeps and leaves alone (`Kept`, Laws/Kept.lean). -/

namespace Sys2Proof.Machine

open Sys2Proof

theorem State.modCjob_kept {w : Nat} {s0 x : State} {q : Nat} {f : CjRun → CjRun} (hw : 1024 &&& w = 1024)
    (h : Kept w s0 x) :
    Kept w s0 (State.modCjob x q f) := by
  unfold State.modCjob
  refine State.modCj_kept (maskSub rfl hw) ?_
  exact h

theorem State.cjZeroMem_kept {w : Nat} {s0 x : State}
    (hw : 0x20000000000000000000000400 &&& w = 0x20000000000000000000000400) (h : Kept w s0 x) :
    Kept w s0 (State.cjZeroMem x) := by
  unfold State.cjZeroMem
  refine State.zeroTable_kept (maskSub rfl hw) ?_
  refine State.modCj_kept (maskSub rfl hw) ?_
  exact h

theorem State.cjZeroPage_kept {w : Nat} {s0 x : State} {p : Nat}
    (hw : 0x20000000000000000000000400 &&& w = 0x20000000000000000000000400) (h : Kept w s0 x) :
    Kept w s0 (State.cjZeroPage x p) := by
  unfold State.cjZeroPage
  refine Kept.foldl ?_ ?_
  · intro i0 i1 i2
    refine State.cjPut_kept (maskSub rfl hw) ?_
    with_reducible assumption
  · exact h

theorem State.cjZeroResult_kept {w : Nat} {s0 x : State} {q : Nat}
    (hw : 0x20000000000000000000000400 &&& w = 0x20000000000000000000000400) (h : Kept w s0 x) :
    Kept w s0 (State.cjZeroResult x q) := by
  unfold State.cjZeroResult
  extract_lets v0
  refine Kept.foldl ?_ ?_
  · intro i1 i2 i3
    with_reducible apply Kept.ite
    · refine State.cjPut_kept (maskSub rfl hw) ?_
      with_reducible assumption
    · with_reducible assumption
  · exact h

theorem State.cjEnd_kept {w : Nat} {s0 x : State} {q : Nat} {o : Oc} {tell : Bool}
    (hw : 0x40000000000000004000000000000000000000400 &&& w = 0x40000000000000004000000000000000000000400)
    (h : Kept w s0 x) :
    Kept w s0 (State.cjEnd x q o tell) := by
  unfold State.cjEnd
  extract_lets v0
  have hv0 : Kept w s0 v0 := by
    unfold v0
    refine State.ps_kept (maskSub rfl hw) ?_
    refine State.modCj_kept (maskSub rfl hw) ?_
    exact h
  clear_value v0
  with_reducible apply Kept.ite
  · refine State.raiseDone_kept (maskSub rfl hw) ?_
    with_reducible assumption
  · with_reducible assumption

theorem State.cjStop_kept {w : Nat} {s0 x : State} {q : Nat} {o : Oc}
    (hw : 0x40000000000000024000000000000000000000400 &&& w = 0x40000000000000024000000000000000000000400)
    (h : Kept w s0 x) :
    Kept w s0 (State.cjStop x q o) := by
  unfold State.cjStop
  refine State.cjEnd_kept (maskSub rfl hw) ?_
  refine State.cjZeroResult_kept (maskSub rfl hw) ?_
  exact h

theorem State.cjFree_kept {w : Nat} {s0 x : State} {q : Nat}
    (hw : 0x6000000000000000000000400 &&& w = 0x6000000000000000000000400) (h : Kept w s0 x) :
    Kept w s0 (State.cjFree x q) := by
  unfold State.cjFree
  refine State.modCjob_kept (maskSub rfl hw) ?_
  refine State.wr_kept (maskSub rfl hw) ?_
  refine State.wr_kept (maskSub rfl hw) ?_
  exact h

theorem State.cjClock_kept {w : Nat} {s0 x : State}
    (hw : 0x40000000400000000000000000000000000000400 &&& w = 0x40000000400000000000000000000000000000400)
    (h : Kept w s0 x) :
    Kept w s0 (State.cjClock x) := by
  unfold State.cjClock
  extract_lets v0
  have hv0 : Kept w s0 v0 := by
    unfold v0
    refine State.modCj_kept (maskSub rfl hw) ?_
    exact h
  clear_value v0
  split
  · rename_i u1 u2
    exact h
  · rename_i u3 u4 u5
    with_reducible apply Kept.ite
    · with_reducible assumption
    · refine State.raiseCommon_kept (maskSub rfl hw) ?_
      refine State.setSub_kept (maskSub rfl hw) (maskSub rfl hw) ?_
      with_reducible assumption

theorem State.cjCap_kept {w : Nat} {s0 x : State} {c : Bool}
    (hw : 0x40000000400000000000000000000000000000400 &&& w = 0x40000000400000000000000000000000000000400)
    (h : Kept w s0 x) :
    Kept w s0 (State.cjCap x c) := by
  unfold State.cjCap
  extract_lets v0
  have hv0 : Kept w s0 v0 := by
    unfold v0
    refine State.modCj_kept (maskSub rfl hw) ?_
    exact h
  clear_value v0
  with_reducible apply Kept.ite
  · refine State.cjClock_kept (maskSub rfl hw) ?_
    with_reducible assumption
  · with_reducible assumption

theorem State.cjCharge_kept {w : Nat} {s0 x : State}
    (hw : 0x4000000000000000000000400 &&& w = 0x4000000000000000000000400) (h : Kept w s0 x) :
    Kept w s0 (State.cjCharge x) := by
  unfold State.cjCharge
  split
  · rename_i u0 u1
    exact h
  · rename_i u2 u3 u4
    extract_lets v5 v6 v7 v8 v9
    have hv8 : Kept w s0 v8 := by
      unfold v8
      refine State.modCjob_kept (maskSub rfl hw) ?_
      exact h
    clear_value v8
    have hv9 : Kept w s0 v9 := by
      unfold v9
      refine State.modCj_kept (maskSub rfl hw) ?_
      with_reducible assumption
    clear_value v9
    refine State.p_kept (maskSub rfl hw) ?_
    with_reducible assumption

theorem State.cjHold_kept {w : Nat} {s0 x : State}
    (hw : 0x400000004000000a4000000000000000000000400 &&& w = 0x400000004000000a4000000000000000000000400)
    (h : Kept w s0 x) :
    Kept w s0 (State.cjHold x) := by
  unfold State.cjHold
  extract_lets v0
  have hv0 : Kept w s0 v0 := by
    unfold v0
    refine State.cjCharge_kept (maskSub rfl hw) ?_
    exact h
  clear_value v0
  split
  · rename_i u1 u2
    exact h
  · rename_i u3 u4 u5
    with_reducible apply Kept.ite
    · refine State.cjClock_kept (maskSub rfl hw) ?_
      refine State.cjStop_kept (maskSub rfl hw) ?_
      with_reducible assumption
    · refine State.bump_kept (maskSub rfl hw) ?_
      refine State.cjClock_kept (maskSub rfl hw) ?_
      refine State.p_kept (maskSub rfl hw) ?_
      refine State.modCj_kept (maskSub rfl hw) ?_
      with_reducible assumption

theorem State.cjRoundRobin_kept {w : Nat} {s0 x : State} {ts : List Nat} (hw : 1024 &&& w = 1024) (h : Kept w s0 x) :
    KeptP w s0 (State.cjRoundRobin x ts) := by
  unfold State.cjRoundRobin
  extract_lets v0 v1
  with_reducible apply KeptP.ite
  · refine KeptP.map (fun z => ?_)
    exact h
  · with_reducible apply KeptP.ite
    · refine KeptP.some ?_
      exact h
    · split
      · rename_i u2 u3
        exact KeptP.none
      · rename_i u4 u5 u6
        extract_lets v7
        refine KeptP.some ?_
        refine State.modCj_kept (maskSub rfl hw) ?_
        exact h

theorem State.cjPick_kept {w : Nat} {s0 x : State} (hw : 1024 &&& w = 1024) (h : Kept w s0 x) :
    KeptP w s0 (State.cjPick x) := by
  unfold State.cjPick
  extract_lets v0 v1 v2
  split
  · rename_i u3 u4
    clear_value *
    split
    · rename_i u5 u6 u7
      refine KeptP.some ?_
      exact h
    · rename_i u8
      exact KeptP.none
  · rename_i u9 u10 u11 u12
    clear_value *
    split
    · rename_i u13 u14 u15
      refine KeptP.some ?_
      exact h
    · rename_i u16
      refine KeptP.map (fun z => ?_)
      dsimp only
      refine State.modCj_kept (maskSub rfl hw) ?_
      refine KeptP.get ?_ u12
      refine State.cjRoundRobin_kept (maskSub rfl hw) ?_
      exact h

theorem State.cjTake_kept {w : Nat} {s0 x : State} {q : Nat}
    (hw : 0x4000000000000000000000400 &&& w = 0x4000000000000000000000400) (h : Kept w s0 x) :
    Kept w s0 (State.cjTake x q) := by
  unfold State.cjTake
  extract_lets v0
  have hv0 : Kept w s0 v0 := by
    unfold v0
    with_reducible apply Kept.ite
    · with_reducible apply Kept.ite
      · refine State.modCjob_kept (maskSub rfl hw) ?_
        exact h
      · refine State.modCjob_kept (maskSub rfl hw) ?_
        exact h
    · exact h
  clear_value v0
  refine State.ps_kept (maskSub rfl hw) ?_
  refine State.modCj_kept (maskSub rfl hw) ?_
  refine State.modCjob_kept (maskSub rfl hw) ?_
  with_reducible assumption

theorem State.cjChoose_kept {w : Nat} {s0 x : State}
    (hw : 0x4000000000000000000000400 &&& w = 0x4000000000000000000000400) (h : Kept w s0 x) :
    Kept w s0 (State.cjChoose x) := by
  unfold State.cjChoose
  with_reducible apply Kept.ite
  · split
    · rename_i u0 u1
      exact h
    · rename_i u2 u3 u4 u5
      refine State.cjTake_kept (maskSub rfl hw) ?_
      refine KeptP.get ?_ u5
      refine State.cjPick_kept (maskSub rfl hw) ?_
      exact h
  · exact h

theorem State.cjFinish_kept {w : Nat} {s0 x : State} {q : Nat}
    (hw : 0x40000000400000025000000000000000000000400 &&& w = 0x40000000400000025000000000000000000000400)
    (h : Kept w s0 x) :
    Kept w s0 (State.cjFinish x q) := by
  unfold State.cjFinish
  extract_lets v0 v1 v2 v3 v4 v5
  have hv0 : Kept w s0 v0 := by
    unfold v0
    refine State.cjCharge_kept (maskSub rfl hw) ?_
    exact h
  clear_value v0
  have hv5 : Kept w s0 v5 := by
    unfold v5
    with_reducible apply Kept.ite
    · refine State.cjStop_kept (maskSub rfl hw) ?_
      with_reducible assumption
    · with_reducible apply Kept.ite
      · refine State.cjEnd_kept (maskSub rfl hw) ?_
        with_reducible assumption
      · clear_value *
        split
        · rename_i u6 u7
          refine State.cjStop_kept (maskSub rfl hw) ?_
          refine State.cjDetect_kept (maskSub rfl hw) ?_
          with_reducible assumption
        · rename_i u8
          refine State.cjEnd_kept (maskSub rfl hw) ?_
          refine State.p_kept (maskSub rfl hw) ?_
          refine Kept.foldl ?_ ?_
          · intro i9 i10 i11
            refine State.cjPut_kept (maskSub rfl hw) ?_
            with_reducible assumption
          · with_reducible assumption
  clear_value v5
  refine State.cjClock_kept (maskSub rfl hw) ?_
  with_reducible assumption

theorem State.cjYield_kept {w : Nat} {s0 x : State}
    (hw : 0x400000004000000a5000000000000000000000400 &&& w = 0x400000004000000a5000000000000000000000400)
    (h : Kept w s0 x) :
    Kept w s0 (State.cjYield x) := by
  unfold State.cjYield
  split
  · rename_i u0 u1
    exact h
  · rename_i u2 u3 u4
    with_reducible apply Kept.ite
    · refine State.cjFinish_kept (maskSub rfl hw) ?_
      exact h
    · refine State.cjHold_kept (maskSub rfl hw) ?_
      exact h

theorem State.cjSubmit_kept {w : Nat} {s0 x : State} {t : Nat} {w_ : Word}
    (hw : 0x6000000000000000000000400 &&& w = 0x6000000000000000000000400) (h : Kept w s0 x) :
    Kept w s0 (State.cjSubmit x t w_).2 := by
  unfold State.cjSubmit
  extract_lets v0 v1 v2 v3
  have hv1 : ∀ a0 a1 a2 a3, Kept w s0 a0 → Kept w s0 (v1 a0 a1 a2 a3) := by
    unfold v1
    intro i4 i5 i6 i7 i8
    refine State.ps_kept (maskSub rfl hw) ?_
    with_reducible assumption
  clear_value v1
  split
  · rename_i u9 u10
    dsimp only
    with_reducible apply hv1
    exact h
  · rename_i u11 u12 u13
    extract_lets v14 v15 v16 v17 v18
    have hv14 : Kept w s0 v14 := by
      unfold v14
      refine State.modCjob_kept (maskSub rfl hw) ?_
      refine State.wr_kept (maskSub rfl hw) ?_
      exact h
    clear_value v14
    have hv15 : Kept w s0 v15 := by
      unfold v15
      refine State.ps_kept (maskSub rfl hw) ?_
      refine State.modCj_kept (maskSub rfl hw) ?_
      with_reducible assumption
    clear_value v15
    have hv16 : Kept w s0 v16 := by
      unfold v16
      refine State.cjChoose_kept (maskSub rfl hw) ?_
      with_reducible assumption
    clear_value v16
    have hv18 : Kept w s0 v18 := by
      unfold v18
      refine State.p_kept (maskSub rfl hw) ?_
      with_reducible assumption
    clear_value v18
    with_reducible apply Kept.ite2
    · dsimp only
      with_reducible apply hv1
      with_reducible assumption
    · dsimp only
      with_reducible apply hv1
      exact h

theorem State.cjCommitQ_kept {w : Nat} {s0 x : State} {t e : Nat} {w_ : Word}
    (hw : 0x6000000000000000000000400 &&& w = 0x6000000000000000000000400) (h : Kept w s0 x) :
    Kept w s0 (State.cjCommitQ x t e w_).2 := by
  unfold State.cjCommitQ
  with_reducible apply Kept.ite2
  · refine State.cjSubmit_kept (maskSub rfl hw) ?_
    exact h
  · exact h

theorem State.cjCommitStat_kept {w : Nat} {s0 x : State} {t q : Nat} {w_ : Word}
    (hw : 0x40000000000000026000000000000000000000400 &&& w = 0x40000000000000026000000000000000000000400)
    (h : Kept w s0 x) :
    Kept w s0 (State.cjCommitStat x t q w_).2 := by
  unfold State.cjCommitStat
  extract_lets v0 v1
  with_reducible apply Kept.ite2
  · exact h
  · with_reducible apply Kept.ite2
    · exact h
    · with_reducible apply Kept.ite2
      · exact h
      · with_reducible apply Kept.ite2
        · with_reducible apply Kept.ite2
          · dsimp only
            refine State.cjFree_kept (maskSub rfl hw) ?_
            exact h
          · exact h
        · with_reducible apply Kept.ite2
          · exact h
          · with_reducible apply Kept.ite2
            · dsimp only
              refine State.cjStop_kept (maskSub rfl hw) ?_
              exact h
            · with_reducible apply Kept.ite2
              · dsimp only
                refine State.modCjob_kept (maskSub rfl hw) ?_
                exact h
              · split
                · rename_i u2 u3
                  dsimp only
                  refine State.cjStop_kept (maskSub rfl hw) ?_
                  refine State.withdraw_kept (maskSub rfl hw) ?_
                  exact h
                · rename_i u4 u5
                  exact h
                · rename_i u6 u7
                  exact h

theorem State.cjCommitCfg_kept {w : Nat} {s0 x : State} {w_ : Word}
    (hw : 0x1000000000000000000000000 &&& w = 0x1000000000000000000000000) (h : Kept w s0 x) :
    Kept w s0 (State.cjCommitCfg x w_).2 := by
  unfold State.cjCommitCfg
  with_reducible apply Kept.ite2
  · exact h
  · dsimp only
    refine State.wr_kept (maskSub rfl hw) ?_
    exact h

theorem State.cjCommitTenant_kept {w : Nat} {s0 x : State} {t e : Nat} {w_ : Word}
    (hw : 0x8000000000000000000000000 &&& w = 0x8000000000000000000000000) (h : Kept w s0 x) :
    Kept w s0 (State.cjCommitTenant x t e w_).2 := by
  unfold State.cjCommitTenant
  extract_lets v0
  with_reducible apply Kept.ite2
  · exact h
  · with_reducible apply Kept.ite2
    · exact h
    · dsimp only
      refine State.wr_kept (maskSub rfl hw) ?_
      exact h

theorem State.cjCommitMem_kept {w : Nat} {s0 x : State} {e : Nat} {w_ : Word}
    (hw : 0x20000000000000000000000400 &&& w = 0x20000000000000000000000400) (h : Kept w s0 x) :
    Kept w s0 (State.cjCommitMem x e w_).2 := by
  unfold State.cjCommitMem
  extract_lets v0
  with_reducible apply Kept.ite2
  · exact h
  · with_reducible apply Kept.ite2
    · dsimp only
      refine State.cjPut_kept (maskSub rfl hw) ?_
      exact h
    · exact h

theorem State.cjCountPages_kept {w : Nat} {s0 x : State} {t : Nat}
    (hw : 0x8000000000000000000000000 &&& w = 0x8000000000000000000000000) (h : Kept w s0 x) :
    Kept w s0 (State.cjCountPages x t) := by
  unfold State.cjCountPages
  refine State.p_kept (maskSub rfl hw) ?_
  exact h

theorem State.cjCommitPage_kept {w : Nat} {s0 x : State} {t p : Nat} {w_ : Word}
    (hw : 0x4000000000000003c000000000000000000000400 &&& w = 0x4000000000000003c000000000000000000000400)
    (h : Kept w s0 x) :
    Kept w s0 (State.cjCommitPage x t p w_).2 := by
  unfold State.cjCommitPage
  extract_lets v0 v1 v2 v3
  have hv2 : Kept w s0 v2 := by
    unfold v2
    with_reducible apply Kept.ite
    · refine Kept.foldl ?_ ?_
      · intro i4 i5 i6
        refine State.cjStop_kept (maskSub rfl hw) ?_
        with_reducible apply Kept.ite
        · refine State.cjCharge_kept (maskSub rfl hw) ?_
          with_reducible assumption
        · with_reducible assumption
      · exact h
    · exact h
  clear_value v2
  have hv3 : Kept w s0 v3 := by
    unfold v3
    refine State.cjZeroPage_kept (maskSub rfl hw) ?_
    refine State.wr_kept (maskSub rfl hw) ?_
    with_reducible assumption
  clear_value v3
  with_reducible apply Kept.ite2
  · exact h
  · with_reducible apply Kept.ite2
    · exact h
    · dsimp only
      refine State.cjCountPages_kept (maskSub rfl hw) ?_
      refine State.cjCountPages_kept (maskSub rfl hw) ?_
      with_reducible assumption

theorem State.cjDisable_kept {w : Nat} {s0 x : State} {t : Nat}
    (hw : 0x40000000000000026000000000000000000000400 &&& w = 0x40000000000000026000000000000000000000400)
    (h : Kept w s0 x) :
    Kept w s0 (State.cjDisable x t) := by
  unfold State.cjDisable
  extract_lets v0
  have hv0 : Kept w s0 v0 := by
    unfold v0
    refine Kept.foldl ?_ ?_
    · intro i1 i2 i3
      extract_lets v4
      with_reducible apply Kept.ite
      · with_reducible assumption
      · with_reducible apply Kept.ite
        · refine State.cjFree_kept (maskSub rfl hw) ?_
          with_reducible assumption
        · refine State.cjFree_kept (maskSub rfl hw) ?_
          refine State.cjStop_kept (maskSub rfl hw) ?_
          with_reducible apply Kept.ite
          · refine State.cjCharge_kept (maskSub rfl hw) ?_
            with_reducible assumption
          · with_reducible assumption
    · exact h
  clear_value v0
  refine Kept.foldl ?_ ?_
  · intro i5 i6 i7
    refine State.cjZeroPage_kept (maskSub rfl hw) ?_
    with_reducible assumption
  · with_reducible assumption

theorem State.cjEndAll_kept {w : Nat} {s0 x : State} {o : Oc}
    (hw : 0x40000000000000024000000000000000000000400 &&& w = 0x40000000000000024000000000000000000000400)
    (h : Kept w s0 x) :
    Kept w s0 (State.cjEndAll o x) := by
  unfold State.cjEndAll
  extract_lets v0
  have hv0 : Kept w s0 v0 := by
    unfold v0
    refine State.cjCharge_kept (maskSub rfl hw) ?_
    exact h
  clear_value v0
  refine State.modCj_kept (maskSub rfl hw) ?_
  refine Kept.foldl ?_ ?_
  · intro i1 i2 i3
    refine State.cjStop_kept (maskSub rfl hw) ?_
    with_reducible assumption
  · with_reducible assumption

theorem State.cjSetHostOff_kept {w : Nat} {s0 x : State} {off : Bool}
    (hw : 0x400000004000000a5000000000000000000000400 &&& w = 0x400000004000000a5000000000000000000000400)
    (h : Kept w s0 x) :
    Kept w s0 (State.cjSetHostOff x off) := by
  unfold State.cjSetHostOff
  extract_lets v0
  have hv0 : Kept w s0 v0 := by
    unfold v0
    refine State.raiseCommon_kept (maskSub rfl hw) ?_
    refine State.setSub_kept (maskSub rfl hw) (maskSub rfl hw) ?_
    exact h
  clear_value v0
  with_reducible apply Kept.ite
  · exact h
  · with_reducible apply Kept.ite
    · refine State.cjYield_kept (maskSub rfl hw) ?_
      with_reducible assumption
    · with_reducible assumption

theorem State.cjForce_kept {w : Nat} {s0 x : State} {arg : Nat} {gov : Bool}
    (hw : 0x400000004000000a5000000000000000000000400 &&& w = 0x400000004000000a5000000000000000000000400)
    (h : Kept w s0 x) :
    Kept w s0 (State.cjForce x arg gov) := by
  unfold State.cjForce
  refine State.cjSetHostOff_kept (maskSub rfl hw) ?_
  refine State.changeMirror_kept (maskSub rfl hw) (maskSub rfl hw) ?_
  exact h

theorem State.cjShed_kept {w : Nat} {s0 x : State} {gov : Bool}
    (hw : 0x400000004000000a5000000000000000000000400 &&& w = 0x400000004000000a5000000000000000000000400)
    (h : Kept w s0 x) :
    Kept w s0 (State.cjShed x gov) := by
  unfold State.cjShed
  refine State.cjSetHostOff_kept (maskSub rfl hw) ?_
  exact h

theorem State.cjSetKonly_kept {w : Nat} {s0 x : State} {k : Bool}
    (hw : 0x40000000400000000000000000000000000000000 &&& w = 0x40000000400000000000000000000000000000000)
    (h : Kept w s0 x) :
    Kept w s0 (State.cjSetKonly x k) := by
  unfold State.cjSetKonly
  refine State.setSub_kept (maskSub rfl hw) (maskSub rfl hw) ?_
  exact h

theorem State.cjStart_kept {w : Nat} {s0 x : State}
    (hw : 0x40000000400000020000000000000000000000400 &&& w = 0x40000000400000020000000000000000000000400)
    (h : Kept w s0 x) :
    Kept w s0 (State.cjStart x) := by
  unfold State.cjStart
  refine State.goOn_kept (maskSub rfl hw) (maskSub rfl hw) ?_
  refine State.cjZeroMem_kept (maskSub rfl hw) ?_
  exact h

theorem State.cjHalf_kept {w : Nat} {s0 x : State}
    (hw : 0x8c000000000000000000000400 &&& w = 0x8c000000000000000000000400) (h : Kept w s0 x) :
    Kept w s0 (State.cjHalf x) := by
  unfold State.cjHalf
  extract_lets v0 v1 v2 v3
  have hv0 : Kept w s0 v0 := by
    unfold v0
    refine State.cjCharge_kept (maskSub rfl hw) ?_
    exact h
  clear_value v0
  have hv1 : Kept w s0 v1 := by
    unfold v1
    refine Kept.foldl ?_ ?_
    · intro i4 i5 i6
      refine State.p_kept (maskSub rfl hw) ?_
      with_reducible assumption
    · with_reducible assumption
  clear_value v1
  have hv2 : Kept w s0 v2 := by
    unfold v2
    refine State.ps_kept (maskSub rfl hw) ?_
    with_reducible assumption
  clear_value v2
  have hv3 : Kept w s0 v3 := by
    unfold v3
    with_reducible apply Kept.ite
    · refine State.bump_kept (maskSub rfl hw) ?_
      with_reducible assumption
    · with_reducible assumption
  clear_value v3
  refine State.modCj_kept (maskSub rfl hw) ?_
  with_reducible assumption

theorem execCjJobChoose_kept {w : Nat} {s0 x : State}
    (hw : 0x4000000000000000000000400 &&& w = 0x4000000000000000000000400) (h : Kept w s0 x) :
    KeptO w s0 (execCjJobChoose x) := by
  unfold execCjJobChoose
  refine KeptO.next ?_
  refine State.cjChoose_kept (maskSub rfl hw) ?_
  exact h

theorem execCjJobDone_kept {w : Nat} {s0 x : State}
    (hw : 0x40000000400000025000000000000000000000400 &&& w = 0x40000000400000025000000000000000000000400)
    (h : Kept w s0 x) :
    KeptO w s0 (execCjJobDone x) := by
  unfold execCjJobDone
  split
  · rename_i u0 u1
    refine KeptO.next ?_
    exact h
  · rename_i u2 u3 u4
    with_reducible apply KeptO.ite
    · refine KeptO.next ?_
      refine State.cjFinish_kept (maskSub rfl hw) ?_
      exact h
    · with_reducible apply KeptO.ite
      · refine KeptO.next ?_
        refine State.cjFinish_kept (maskSub rfl hw) ?_
        refine State.advanceTo_kept (maskSub rfl hw) ?_
        exact h
      · refine KeptO.next ?_
        exact h

theorem execCjPreempt_kept {w : Nat} {s0 x : State}
    (hw : 0x400000004000000a4000000000000000000000400 &&& w = 0x400000004000000a4000000000000000000000400)
    (h : Kept w s0 x) :
    KeptO w s0 (execCjPreempt x) := by
  unfold execCjPreempt
  split
  · rename_i u0 u1
    refine KeptO.next ?_
    exact h
  · rename_i u2 u3 u4
    extract_lets v5 v6 v7
    with_reducible apply KeptO.ite
    · refine KeptO.next ?_
      refine State.cjHold_kept (maskSub rfl hw) ?_
      exact h
    · with_reducible apply KeptO.ite
      · refine KeptO.next ?_
        refine State.cjHold_kept (maskSub rfl hw) ?_
        refine State.advanceTo_kept (maskSub rfl hw) ?_
        exact h
      · refine KeptO.next ?_
        exact h

theorem execCjBudgetCap_kept {w : Nat} {s0 x : State}
    (hw : 0x400000004000000a4000000000000000000000400 &&& w = 0x400000004000000a4000000000000000000000400)
    (h : Kept w s0 x) :
    KeptO w s0 (execCjBudgetCap x) := by
  unfold execCjBudgetCap
  split
  · rename_i u0 u1
    refine KeptO.next ?_
    exact h
  · rename_i u2 u3 u4
    extract_lets v5 v6 v7
    have hv7 : Kept w s0 v7 := by
      unfold v7
      refine State.advanceTo_kept (maskSub rfl hw) ?_
      exact h
    clear_value v7
    with_reducible apply KeptO.ite
    · refine KeptO.next ?_
      exact h
    · with_reducible apply KeptO.ite
      · refine KeptO.next ?_
        refine State.modCj_kept (maskSub rfl hw) ?_
        refine State.cjHold_kept (maskSub rfl hw) ?_
        with_reducible assumption
      · refine KeptO.next ?_
        exact h

theorem execHostReservationWindow_kept {w : Nat} {s0 x : State} {r : Fin 8} {opens : Bool}
    (hw : 0x400000004000000a5000000000000000000000400 &&& w = 0x400000004000000a5000000000000000000000400)
    (h : Kept w s0 x) :
    KeptO w s0 (execHostReservationWindow r opens x) := by
  unfold execHostReservationWindow
  extract_lets v0 v1 v2 v3 v4 v5 v6 v7
  have hv5 : Kept w s0 v5 := by
    unfold v5
    with_reducible apply Kept.ite
    · exact h
    · refine State.advanceFrac_kept (maskSub rfl hw) ?_
      exact h
  clear_value v5
  have hv6 : Kept w s0 v6 := by
    unfold v6
    refine State.modCj_kept (maskSub rfl hw) ?_
    with_reducible assumption
  clear_value v6
  have hv7 : Kept w s0 v7 := by
    unfold v7
    refine State.modCj_kept (maskSub rfl hw) ?_
    with_reducible assumption
  clear_value v7
  with_reducible apply KeptO.ite
  · refine KeptO.next ?_
    exact h
  · with_reducible apply KeptO.ite
    · split
      · rename_i u8 u9 u10
        with_reducible apply KeptO.ite
        · refine KeptO.next ?_
          refine State.cjYield_kept (maskSub rfl hw) ?_
          with_reducible assumption
        · refine KeptO.next ?_
          with_reducible assumption
      · rename_i u11 u12
        refine KeptO.next ?_
        with_reducible assumption
    · split
      · rename_i u13 u14 u15
        with_reducible apply KeptO.ite
        · refine KeptO.next ?_
          refine State.cjYield_kept (maskSub rfl hw) ?_
          with_reducible assumption
        · refine KeptO.next ?_
          with_reducible assumption
      · rename_i u16 u17
        refine KeptO.next ?_
        with_reducible assumption

theorem State.lsSetCommon_kept {w : Nat} {s0 x : State} {m0 m1 : Word}
    (hw : 0x20000000000000000000400000000000000000000 &&& w = 0x20000000000000000000400000000000000000000)
    (h : Kept w s0 x) :
    Kept w s0 (State.lsSetCommon x m0 m1) := by
  unfold State.lsSetCommon
  extract_lets v0 v1
  have hv0 : Kept w s0 v0 := by
    unfold v0
    refine State.wr_kept (maskSub rfl hw) ?_
    refine State.wr_kept (maskSub rfl hw) ?_
    exact h
  clear_value v0
  have hv1 : Kept w s0 v1 := by
    unfold v1
    with_reducible apply Kept.ite
    · refine State.wr_kept (maskSub rfl hw) ?_
      refine State.wr_kept (maskSub rfl hw) ?_
      with_reducible assumption
    · with_reducible assumption
  clear_value v1
  refine State.raiseCommon_kept (maskSub rfl hw) ?_
  with_reducible assumption

theorem State.lsApplyCommon_kept {w : Nat} {s0 x : State}
    (hw : 0x20000000000000000000500000000000000000100 &&& w = 0x20000000000000000000500000000000000000100)
    (h : Kept w s0 x) :
    Kept w s0 (State.lsApplyCommon x) := by
  unfold State.lsApplyCommon
  split
  · rename_i u0 u1
    exact h
  · rename_i u2 u3 u4
    with_reducible apply Kept.ite
    · exact h
    · refine State.lsSetCommon_kept (maskSub rfl hw) ?_
      refine State.p_kept (maskSub rfl hw) ?_
      refine State.modLn_kept (maskSub rfl hw) ?_
      exact h

theorem State.agcSlot_kept {w : Nat} {s0 x : State} {ch peak : Nat}
    (hw : 0x20000000000000000000800000000000000000100 &&& w = 0x20000000000000000000800000000000000000100)
    (h : Kept w s0 x) :
    Kept w s0 (State.agcSlot x ch peak) := by
  unfold State.agcSlot
  extract_lets v0 v1 v2 v3 v4
  have hv3 : Kept w s0 v3 := by
    unfold v3
    refine State.modLn_kept (maskSub rfl hw) ?_
    exact h
  clear_value v3
  have hv4 : Kept w s0 v4 := by
    unfold v4
    refine State.ps_kept (maskSub rfl hw) ?_
    with_reducible assumption
  clear_value v4
  with_reducible apply Kept.ite
  · refine State.bump_kept (maskSub rfl hw) ?_
    exact h
  · with_reducible apply Kept.ite
    · refine State.raiseCommon_kept (maskSub rfl hw) ?_
      with_reducible assumption
    · with_reducible assumption

theorem State.lsCommitCfg_kept {w : Nat} {s0 x : State} {w_ : Word}
    (hw : 0x100000000000000000200 &&& w = 0x100000000000000000200) (h : Kept w s0 x) :
    Kept w s0 (State.lsCommitCfg x w_).2 := by
  unfold State.lsCommitCfg
  extract_lets v0 v1 v2 v3
  with_reducible apply Kept.ite2
  · dsimp only
    refine State.modLl_kept (maskSub rfl hw) ?_
    refine State.wr_kept (maskSub rfl hw) ?_
    exact h
  · exact h

theorem State.lsCommitTones_kept {w : Nat} {s0 x : State} {e : Nat} {w_ : Word}
    (hw : 0x200000000000000000200 &&& w = 0x200000000000000000200) (h : Kept w s0 x) :
    Kept w s0 (State.lsCommitTones x e w_).2 := by
  unfold State.lsCommitTones
  extract_lets v0
  with_reducible apply Kept.ite2
  · dsimp only
    refine State.modLl_kept (maskSub rfl hw) ?_
    refine State.wr_kept (maskSub rfl hw) ?_
    exact h
  · exact h

theorem State.lsCommitCommon_kept {w : Nat} {s0 x : State} {e : Nat} {w_ : Word}
    (hw : 0x100000000000000000100 &&& w = 0x100000000000000000100) (h : Kept w s0 x) :
    Kept w s0 (State.lsCommitCommon x e w_).2 := by
  unfold State.lsCommitCommon
  extract_lets v0
  with_reducible apply Kept.ite2
  · exact h
  · with_reducible apply Kept.ite2
    · dsimp only
      refine State.modLn_kept (maskSub rfl hw) ?_
      exact h
    · dsimp only
      refine State.p_kept (maskSub rfl hw) ?_
      refine State.modLn_kept (maskSub rfl hw) ?_
      exact h

theorem execAgcStep_kept {w : Nat} {s0 x : State} {ch : Fin 3} {peak : Nat}
    (hw : 0x20000000000000000000800000000000000000100 &&& w = 0x20000000000000000000800000000000000000100)
    (h : Kept w s0 x) :
    KeptO w s0 (execAgcStep ch peak x) := by
  unfold execAgcStep
  extract_lets v0
  have hv0 : Kept w s0 v0 := by
    unfold v0
    refine State.toMark_kept (maskSub rfl hw) ?_
    exact h
  clear_value v0
  with_reducible apply KeptO.ite
  · refine KeptO.next ?_
    refine State.agcSlot_kept (maskSub rfl hw) ?_
    with_reducible assumption
  · refine KeptO.next ?_
    with_reducible assumption

theorem execCommonMapApply_kept {w : Nat} {s0 x : State}
    (hw : 0x20000000000000000000500000000000000000100 &&& w = 0x20000000000000000000500000000000000000100)
    (h : Kept w s0 x) :
    KeptO w s0 (execCommonMapApply x) := by
  unfold execCommonMapApply
  refine KeptO.next ?_
  refine State.lsApplyCommon_kept (maskSub rfl hw) ?_
  refine State.toHalf_kept (maskSub rfl hw) ?_
  exact h

theorem State.toBeacon_kept {w : Nat} {s0 x : State} (hw : 0 &&& w = 0) (h : Kept w s0 x) :
    Kept w s0 (State.toBeacon x) := by
  unfold State.toBeacon
  refine State.toMark_kept (maskSub rfl hw) ?_
  exact h

theorem State.llClearStats_kept {w : Nat} {s0 x : State}
    (hw : 0xf00000000000000000000200 &&& w = 0xf00000000000000000000200) (h : Kept w s0 x) :
    Kept w s0 (State.llClearStats x) := by
  unfold State.llClearStats
  extract_lets v0 v1
  have hv0 : Kept w s0 v0 := by
    unfold v0
    refine State.zeroTable_kept (maskSub rfl hw) ?_
    refine State.zeroTable_kept (maskSub rfl hw) ?_
    exact h
  clear_value v0
  have hv1 : Kept w s0 v1 := by
    unfold v1
    refine State.ps_kept (maskSub rfl hw) ?_
    with_reducible assumption
  clear_value v1
  refine State.modLl_kept (maskSub rfl hw) ?_
  refine State.ps_kept (maskSub rfl hw) ?_
  with_reducible assumption

theorem State.llPublish_kept {w : Nat} {s0 x : State} {m0 m1 : Word} {common : Bool}
    (hw : 0x800100000000000000000300 &&& w = 0x800100000000000000000300) (h : Kept w s0 x) :
    Kept w s0 (State.llPublish x m0 m1 common) := by
  unfold State.llPublish
  extract_lets v0 v1
  have hv0 : Kept w s0 v0 := by
    unfold v0
    refine State.modLl_kept (maskSub rfl hw) ?_
    exact h
  clear_value v0
  have hv1 : Kept w s0 v1 := by
    unfold v1
    with_reducible apply Kept.ite
    · with_reducible assumption
    · refine State.modLn_kept (maskSub rfl hw) ?_
      with_reducible assumption
  clear_value v1
  refine State.p_kept (maskSub rfl hw) ?_
  refine State.p_kept (maskSub rfl hw) ?_
  with_reducible assumption

theorem State.llEvaluate_kept {w : Nat} {s0 x : State}
    (hw : 0x20000000000000000800100000000000000000300 &&& w = 0x20000000000000000800100000000000000000300)
    (h : Kept w s0 x) :
    Kept w s0 (State.llEvaluate x) := by
  unfold State.llEvaluate
  extract_lets v0 v1 v2 v3 v4 v5 v6 v7 v8 v9 v10 v11 v12 v13 v14
  have hv8 : Kept w s0 v8 := by
    unfold v8
    refine State.wr_kept (maskSub rfl hw) ?_
    refine State.wr_kept (maskSub rfl hw) ?_
    refine State.wr_kept (maskSub rfl hw) ?_
    exact h
  clear_value v8
  have hv9 : Kept w s0 v9 := by
    unfold v9
    refine State.wr_kept (maskSub rfl hw) ?_
    with_reducible assumption
  clear_value v9
  have hv10 : Kept w s0 v10 := by
    unfold v10
    refine State.p_kept (maskSub rfl hw) ?_
    with_reducible assumption
  clear_value v10
  have hv11 : Kept w s0 v11 := by
    unfold v11
    with_reducible apply Kept.ite
    · refine State.bump_kept (maskSub rfl hw) ?_
      with_reducible assumption
    · with_reducible assumption
  clear_value v11
  have hv13 : Kept w s0 v13 := by
    unfold v13
    with_reducible apply Kept.ite
    · refine State.raiseCommon_kept (maskSub rfl hw) ?_
      with_reducible assumption
    · with_reducible assumption
  clear_value v13
  with_reducible apply Kept.ite
  · refine State.llPublish_kept (maskSub rfl hw) ?_
    with_reducible assumption
  · with_reducible assumption

theorem State.llOwnCommon_kept {w : Nat} {s0 x : State}
    (hw : 0x400000000000000000200 &&& w = 0x400000000000000000200) (h : Kept w s0 x) :
    Kept w s0 (State.llOwnCommon x) := by
  unfold State.llOwnCommon
  extract_lets v0
  have hv0 : Kept w s0 v0 := by
    unfold v0
    refine State.wr_kept (maskSub rfl hw) ?_
    refine State.wr_kept (maskSub rfl hw) ?_
    exact h
  clear_value v0
  refine State.modLl_kept (maskSub rfl hw) ?_
  with_reducible assumption

theorem State.llPendFlags_kept {w : Nat} {s0 x : State}
    (hw : 0x800100000000000000000000 &&& w = 0x800100000000000000000000) (h : Kept w s0 x) :
    Kept w s0 (State.llPendFlags x) := by
  unfold State.llPendFlags
  extract_lets v0
  refine State.p_kept (maskSub rfl hw) ?_
  refine State.p_kept (maskSub rfl hw) ?_
  exact h

theorem State.llApplyOwn_kept {w : Nat} {s0 x : State}
    (hw : 0x20000000000000000800500000000000000000200 &&& w = 0x20000000000000000800500000000000000000200)
    (h : Kept w s0 x) :
    Kept w s0 (State.llApplyOwn x) := by
  unfold State.llApplyOwn
  split
  · rename_i u0 u1
    exact h
  · rename_i u2 u3 u4 u5 u6
    extract_lets v7
    have hv7 : Kept w s0 v7 := by
      unfold v7
      refine State.modLl_kept (maskSub rfl hw) ?_
      refine State.wr_kept (maskSub rfl hw) ?_
      refine State.wr_kept (maskSub rfl hw) ?_
      exact h
    clear_value v7
    refine State.llPendFlags_kept (maskSub rfl hw) ?_
    refine State.raiseCommon_kept (maskSub rfl hw) ?_
    refine State.bump_kept (maskSub rfl hw) ?_
    with_reducible assumption

theorem State.llBegun_kept {w : Nat} {s0 x : State}
    (hw : 0x800000000000000000000200 &&& w = 0x800000000000000000000200) (h : Kept w s0 x) :
    Kept w s0 (State.llBegun x) := by
  unfold State.llBegun
  split
  · rename_i u0 u1
    exact h
  · rename_i u2 u3 u4
    refine State.p_kept (maskSub rfl hw) ?_
    refine State.modLl_kept (maskSub rfl hw) ?_
    exact h

theorem State.llPause_kept {w : Nat} {s0 x : State} {b : Bool}
    (hw : 0x800000000000000000000200 &&& w = 0x800000000000000000000200) (h : Kept w s0 x) :
    Kept w s0 (State.llPause x b) := by
  unfold State.llPause
  extract_lets v0
  have hv0 : Kept w s0 v0 := by
    unfold v0
    refine State.modLl_kept (maskSub rfl hw) ?_
    exact h
  clear_value v0
  with_reducible apply Kept.ite
  · with_reducible assumption
  · refine State.p_kept (maskSub rfl hw) ?_
    with_reducible assumption

theorem State.llCycle_kept {w : Nat} {s0 x : State}
    (hw : 0x800000000000000000000200 &&& w = 0x800000000000000000000200) (h : Kept w s0 x) :
    Kept w s0 (State.llCycle x) := by
  unfold State.llCycle
  extract_lets v0 v1
  have hv1 : Kept w s0 v1 := by
    unfold v1
    with_reducible apply Kept.ite
    · exact h
    · with_reducible apply Kept.ite
      · refine State.bumpSat_kept (maskSub rfl hw) ?_
        exact h
      · refine State.bump_kept (maskSub rfl hw) ?_
        exact h
  clear_value v1
  refine State.modLl_kept (maskSub rfl hw) ?_
  with_reducible assumption

theorem State.llHalf_kept {w : Nat} {s0 x : State} (hw : 512 &&& w = 512) (h : Kept w s0 x) :
    Kept w s0 (State.llHalf x) := by
  unfold State.llHalf
  with_reducible apply Kept.ite
  · exact h
  · refine State.modLl_kept (maskSub rfl hw) ?_
    exact h

theorem State.nbrPromote_kept {w : Nat} {s0 x : State} {n : Nat}
    (hw : 0x800000000000000000000000 &&& w = 0x800000000000000000000000) (h : Kept w s0 x) :
    Kept w s0 (State.nbrPromote x n) := by
  unfold State.nbrPromote
  extract_lets v0
  with_reducible apply Kept.ite
  · refine State.p_kept (maskSub rfl hw) ?_
    refine State.wr_kept (maskSub rfl hw) ?_
    refine State.wr_kept (maskSub rfl hw) ?_
    exact h
  · exact h

theorem State.nbrClear_kept {w : Nat} {s0 x : State} {n : Nat}
    (hw : 0x802000000000000000000000 &&& w = 0x802000000000000000000000) (h : Kept w s0 x) :
    Kept w s0 (State.nbrClear x n) := by
  unfold State.nbrClear
  extract_lets v0
  have hv0 : Kept w s0 v0 := by
    unfold v0
    refine Kept.foldl ?_ ?_
    · intro i1 i2 i3
      refine State.wr_kept (maskSub rfl hw) ?_
      with_reducible assumption
    · exact h
  clear_value v0
  refine State.ps_kept (maskSub rfl hw) ?_
  with_reducible assumption

theorem State.nbrTake_kept {w : Nat} {s0 x : State} {a : Nat}
    (hw : 0x802000000000000000000200 &&& w = 0x802000000000000000000200) (h : Kept w s0 x) : KeptP w s0 (x.nbrTake a) := by
  unfold State.nbrTake
  split
  · exact KeptP.some h
  · extract_lets free old
    refine KeptP.ite KeptP.none ?_
    split
    · exact KeptP.none
    · exact KeptP.some (State.modLl_kept (maskSub rfl hw) (State.ps_kept (maskSub rfl hw) (State.nbrClear_kept (maskSub rfl hw) h)))

theorem State.nbrStore_kept {w : Nat} {s0 x : State} {src : Nat} {w_ : List Word}
    (hw : 0x20000000000000000802000000000000000000200 &&& w = 0x20000000000000000802000000000000000000200)
    (h : Kept w s0 x) :
    Kept w s0 (State.nbrStore x src w_) := by
  unfold State.nbrStore
  extract_lets v0 v1 v2 v3
  with_reducible apply Kept.ite
  · exact h
  · split
    · rename_i u4 u5
      exact h
    · rename_i u6 u7 u8 u9
      extract_lets v10 v11 v12 v13 v14 v15 v16 v17
      have hv13 : ∀ a0 a1, Kept w s0 a1 → Kept w s0 (v13 a0 a1) := by
        unfold v13
        intro i18 i19 i20
        refine State.wr_kept (maskSub rfl hw) ?_
        refine State.wr_kept (maskSub rfl hw) ?_
        with_reducible assumption
      clear_value v13
      have hv14 : Kept w s0 v14 := by
        unfold v14
        with_reducible apply Kept.ite
        · with_reducible apply hv13
          refine KeptP.get ?_ u9
          refine State.nbrTake_kept (maskSub rfl hw) ?_
          exact h
        · with_reducible apply hv13
          refine KeptP.get ?_ u9
          refine State.nbrTake_kept (maskSub rfl hw) ?_
          exact h
      clear_value v14
      have hv16 : Kept w s0 v16 := by
        unfold v16
        refine State.ps_kept (maskSub rfl hw) ?_
        with_reducible assumption
      clear_value v16
      have hv17 : Kept w s0 v17 := by
        unfold v17
        refine State.raiseCommon_kept (maskSub rfl hw) ?_
        refine State.p_kept (maskSub rfl hw) ?_
        with_reducible assumption
      clear_value v17
      with_reducible apply Kept.ite
      · refine State.raiseCommon_kept (maskSub rfl hw) ?_
        with_reducible assumption
      · with_reducible assumption

theorem State.nbrStale_kept {w : Nat} {s0 x : State} {n why : Nat}
    (hw : 0x20000000000000000800000000000000000000000 &&& w = 0x20000000000000000800000000000000000000000)
    (h : Kept w s0 x) :
    Kept w s0 (State.nbrStale x n why) := by
  unfold State.nbrStale
  extract_lets v0
  with_reducible apply Kept.ite
  · refine State.raiseCommon_kept (maskSub rfl hw) ?_
    refine State.p_kept (maskSub rfl hw) ?_
    exact h
  · exact h

theorem State.llBeacon_kept {w : Nat} {s0 x : State}
    (hw : 0x800000000000000000000300 &&& w = 0x800000000000000000000300) (h : Kept w s0 x) :
    Kept w s0 (State.llBeacon x) := by
  unfold State.llBeacon
  extract_lets v0
  have hv0 : Kept w s0 v0 := by
    unfold v0
    refine Kept.foldl ?_ ?_
    · intro i1 i2 i3
      with_reducible apply Kept.ite
      · with_reducible assumption
      · refine State.bumpSat_kept (maskSub rfl hw) ?_
        with_reducible assumption
    · exact h
  clear_value v0
  refine State.modLn_kept (maskSub rfl hw) ?_
  refine State.modLl_kept (maskSub rfl hw) ?_
  with_reducible assumption

theorem State.llGrid_kept {w : Nat} {s0 x : State}
    (hw : 0x20000000000000000f00500000000000000000300 &&& w = 0x20000000000000000f00500000000000000000300)
    (h : Kept w s0 x) :
    Kept w s0 (State.llGrid x) := by
  unfold State.llGrid
  extract_lets v0 v1 v2 v3
  have hv1 : Kept w s0 v1 := by
    unfold v1
    refine State.llOwnCommon_kept (maskSub rfl hw) ?_
    refine State.llClearStats_kept (maskSub rfl hw) ?_
    exact h
  clear_value v1
  have hv2 : Kept w s0 v2 := by
    unfold v2
    refine State.modLl_kept (maskSub rfl hw) ?_
    with_reducible assumption
  clear_value v2
  have hv3 : Kept w s0 v3 := by
    unfold v3
    refine State.modLn_kept (maskSub rfl hw) ?_
    with_reducible assumption
  clear_value v3
  refine State.llPendFlags_kept (maskSub rfl hw) ?_
  refine Kept.foldl ?_ ?_
  · intro i4 i5 i6
    refine State.nbrStale_kept (maskSub rfl hw) ?_
    with_reducible assumption
  · with_reducible assumption

theorem State.llStart_kept {w : Nat} {s0 x : State}
    (hw : 0xf00500000000000000000200 &&& w = 0xf00500000000000000000200) (h : Kept w s0 x) :
    Kept w s0 (State.llStart x) := by
  unfold State.llStart
  extract_lets v0 v1
  have hv0 : Kept w s0 v0 := by
    unfold v0
    refine State.llOwnCommon_kept (maskSub rfl hw) ?_
    exact h
  clear_value v0
  have hv1 : Kept w s0 v1 := by
    unfold v1
    with_reducible apply Kept.ite
    · with_reducible assumption
    · refine State.llClearStats_kept (maskSub rfl hw) ?_
      with_reducible assumption
  clear_value v1
  refine State.llPendFlags_kept (maskSub rfl hw) ?_
  refine State.modLl_kept (maskSub rfl hw) ?_
  with_reducible assumption

theorem State.llStop_kept {w : Nat} {s0 x : State}
    (hw : 0x800100000000000000000200 &&& w = 0x800100000000000000000200) (h : Kept w s0 x) :
    Kept w s0 (State.llStop x) := by
  unfold State.llStop
  refine State.llPendFlags_kept (maskSub rfl hw) ?_
  refine State.modLl_kept (maskSub rfl hw) ?_
  exact h

theorem State.llCommitCfg_kept {w : Nat} {s0 x : State} {e : Nat} {w_ : Word}
    (hw : 0xf00100000000000000000300 &&& w = 0xf00100000000000000000300) (h : Kept w s0 x) :
    Kept w s0 (State.llCommitCfg x e w_).2 := by
  unfold State.llCommitCfg
  extract_lets v0 v1 v2 v3 v4
  have hv4 : Kept w s0 v4 := by
    unfold v4
    refine State.wr_kept (maskSub rfl hw) ?_
    exact h
  clear_value v4
  with_reducible apply Kept.ite2
  · dsimp only
    refine State.wr_kept (maskSub rfl hw) ?_
    exact h
  · with_reducible apply Kept.ite2
    · exact h
    · with_reducible apply Kept.ite2
      · dsimp only
        refine State.llPublish_kept (maskSub rfl hw) ?_
        refine State.llClearStats_kept (maskSub rfl hw) ?_
        with_reducible assumption
      · with_reducible assumption

theorem State.llCommitMaps_kept {w : Nat} {s0 x : State} {e : Nat} {w_ : Word}
    (hw : 0x800100000000000000000300 &&& w = 0x800100000000000000000300) (h : Kept w s0 x) :
    Kept w s0 (State.llCommitMaps x e w_).2 := by
  unfold State.llCommitMaps
  extract_lets v0 v1 v2 v3
  have hv2 : Kept w s0 v2 := by
    unfold v2
    refine State.p_kept (maskSub rfl hw) ?_
    exact h
  clear_value v2
  with_reducible apply Kept.ite2
  · exact h
  · with_reducible apply Kept.ite2
    · dsimp only
      with_reducible apply Kept.ite
      · refine State.llPublish_kept (maskSub rfl hw) ?_
        with_reducible assumption
      · with_reducible assumption
    · exact h

theorem State.lsCommitOwn_kept {w : Nat} {s0 x : State} {e : Nat} {w_ : Word}
    (hw : 0x800100000000000000000300 &&& w = 0x800100000000000000000300) (h : Kept w s0 x) :
    Kept w s0 (State.lsCommitOwn x e w_).2 := by
  unfold State.lsCommitOwn
  extract_lets v0
  with_reducible apply Kept.ite2
  · with_reducible apply Kept.ite2
    · dsimp only
      refine State.modLl_kept (maskSub rfl hw) ?_
      exact h
    · dsimp only
      refine State.llPublish_kept (maskSub rfl hw) ?_
      refine State.modLl_kept (maskSub rfl hw) ?_
      exact h
  · exact h

theorem State.lsCommitMap_kept {w : Nat} {s0 x : State} {e : Nat} {w_ : Word}
    (hw : 0x800100000000000000000300 &&& w = 0x800100000000000000000300) (h : Kept w s0 x) :
    Kept w s0 (State.lsCommitMap x e w_).2 := by
  unfold State.lsCommitMap
  with_reducible apply Kept.ite2
  · refine State.lsCommitCommon_kept (maskSub rfl hw) ?_
    exact h
  · refine State.lsCommitOwn_kept (maskSub rfl hw) ?_
    exact h

theorem execLearnReady_kept {w : Nat} {s0 x : State}
    (hw : 0x20000000000000000800000000000000000000000 &&& w = 0x20000000000000000800000000000000000000000)
    (h : Kept w s0 x) :
    KeptO w s0 (execLearnReady x) := by
  unfold execLearnReady
  with_reducible apply KeptO.ite
  · refine KeptO.next ?_
    refine State.raiseCommon_kept (maskSub rfl hw) ?_
    refine State.p_kept (maskSub rfl hw) ?_
    exact h
  · refine KeptO.next ?_
    exact h

theorem execProposal_kept {w : Nat} {s0 x : State}
    (hw : 0x20000000000000000800100000000000000000300 &&& w = 0x20000000000000000800100000000000000000300)
    (h : Kept w s0 x) :
    KeptO w s0 (execProposal x) := by
  unfold execProposal
  extract_lets v0
  have hv0 : Kept w s0 v0 := by
    unfold v0
    refine State.toBeacon_kept (maskSub rfl hw) ?_
    exact h
  clear_value v0
  with_reducible apply KeptO.ite
  · refine KeptO.next ?_
    refine State.llEvaluate_kept (maskSub rfl hw) ?_
    with_reducible assumption
  · refine KeptO.next ?_
    with_reducible assumption

theorem execOwnMapApply_kept {w : Nat} {s0 x : State}
    (hw : 0x20000000000000000800500000000000000000200 &&& w = 0x20000000000000000800500000000000000000200)
    (h : Kept w s0 x) :
    KeptO w s0 (execOwnMapApply x) := by
  unfold execOwnMapApply
  extract_lets v0
  have hv0 : Kept w s0 v0 := by
    unfold v0
    refine State.toHalf_kept (maskSub rfl hw) ?_
    refine State.advanceFrac_kept (maskSub rfl hw) ?_
    exact h
  clear_value v0
  split
  · rename_i u1 u2
    refine KeptO.next ?_
    exact h
  · rename_i u3 u4 u5
    with_reducible apply KeptO.ite
    · refine KeptO.next ?_
      with_reducible assumption
    · refine KeptO.next ?_
      refine State.llApplyOwn_kept (maskSub rfl hw) ?_
      with_reducible assumption

theorem execMapRepeat_kept {w : Nat} {s0 x : State} (hw : 768 &&& w = 768) (h : Kept w s0 x) :
    KeptO w s0 (execMapRepeat x) := by
  unfold execMapRepeat
  extract_lets v0 v1
  have hv1 : Kept w s0 v1 := by
    unfold v1
    with_reducible apply Kept.ite
    · exact h
    · refine State.toBeacon_kept (maskSub rfl hw) ?_
      exact h
  clear_value v1
  with_reducible apply KeptO.ite
  · refine KeptO.next ?_
    refine State.modLl_kept (maskSub rfl hw) ?_
    refine State.modLn_kept (maskSub rfl hw) ?_
    with_reducible assumption
  · refine KeptO.next ?_
    with_reducible assumption

theorem execNbrMapStale_kept {w : Nat} {s0 x : State} {n : Fin 32}
    (hw : 0x20000000000000000800000000000000000000000 &&& w = 0x20000000000000000800000000000000000000000)
    (h : Kept w s0 x) :
    KeptO w s0 (execNbrMapStale n x) := by
  unfold execNbrMapStale
  with_reducible apply KeptO.ite
  · refine KeptO.next ?_
    refine State.nbrStale_kept (maskSub rfl hw) ?_
    exact h
  · refine KeptO.next ?_
    exact h

theorem State.toHalfIndex_kept {w : Nat} {s0 x : State} {x_ : Nat} (hw : 0 &&& w = 0) (h : Kept w s0 x) :
    Kept w s0 (State.toHalfIndex x x_) := by
  unfold State.toHalfIndex
  with_reducible apply Kept.ite
  · exact h
  · refine State.advanceFrac_kept (maskSub rfl hw) ?_
    exact h

theorem State.lnSetSub_kept {w : Nat} {s0 x : State}
    (hw : 0x20000000200000000000000000000000000000000 &&& w = 0x20000000200000000000000000000000000000000)
    (h : Kept w s0 x) :
    Kept w s0 (State.lnSetSub x) := by
  unfold State.lnSetSub
  refine State.setSub_kept (maskSub rfl hw) (maskSub rfl hw) ?_
  exact h

theorem State.lnHostless_kept {w : Nat} {s0 x : State} {b : Bool}
    (hw : 0x20000000200000000000000000000000000000000 &&& w = 0x20000000200000000000000000000000000000000)
    (h : Kept w s0 x) :
    Kept w s0 (State.lnHostless x b) := by
  unfold State.lnHostless
  refine State.setSub_kept (maskSub rfl hw) (maskSub rfl hw) ?_
  exact h

theorem State.lnSlotWindows_kept {w : Nat} {s0 x : State} (hw : 0x4000000000000000000 &&& w = 0x4000000000000000000)
    (h : Kept w s0 x) :
    Kept w s0 (State.lnSlotWindows x) := by
  unfold State.lnSlotWindows
  refine Kept.foldl ?_ ?_
  · intro i0 i1 i2
    extract_lets v3
    refine State.ascPut_kept (maskSub rfl hw) ?_
    refine State.ascPut_kept (maskSub rfl hw) ?_
    with_reducible assumption
  · exact h

theorem State.lnWindows_kept {w : Nat} {s0 x : State} (hw : 0x4000000000000000000 &&& w = 0x4000000000000000000)
    (h : Kept w s0 x) :
    Kept w s0 (State.lnWindows x) := by
  unfold State.lnWindows
  extract_lets v0
  have hv0 : Kept w s0 v0 := by
    unfold v0
    refine Kept.foldl ?_ ?_
    · intro i1 i2 i3
      refine State.ascPut_kept (maskSub rfl hw) ?_
      with_reducible assumption
    · exact h
  clear_value v0
  refine State.ascPut_kept (maskSub rfl hw) ?_
  refine State.lnSlotWindows_kept (maskSub rfl hw) ?_
  with_reducible assumption

theorem State.lnCount_kept {w : Nat} {s0 x : State} {t : Nat}
    (hw : 0x4000000000000000000000 &&& w = 0x4000000000000000000000) (h : Kept w s0 x) :
    Kept w s0 (State.lnCount x t) := by
  unfold State.lnCount
  refine State.p_kept (maskSub rfl hw) ?_
  exact h

theorem State.lnCharge_kept {w : Nat} {s0 x : State} {q n : Nat}
    (hw : 0x4000000000000000000100 &&& w = 0x4000000000000000000100) (h : Kept w s0 x) :
    Kept w s0 (State.lnCharge x q n) := by
  unfold State.lnCharge
  extract_lets v0
  with_reducible apply Kept.ite
  · refine State.modLn_kept (maskSub rfl hw) ?_
    refine State.p_kept (maskSub rfl hw) ?_
    exact h
  · exact h

theorem State.lnRefund_kept {w : Nat} {s0 x : State} {q n : Nat}
    (hw : 0x4000000000000000000100 &&& w = 0x4000000000000000000100) (h : Kept w s0 x) :
    Kept w s0 (State.lnRefund x q n) := by
  unfold State.lnRefund
  extract_lets v0 v1
  refine State.modLn_kept (maskSub rfl hw) ?_
  refine State.p_kept (maskSub rfl hw) ?_
  exact h

theorem State.lnFreeStage_kept {w : Nat} {s0 x : State} (hw : 256 &&& w = 256) (h : Kept w s0 x) :
    Kept w s0 (State.lnFreeStage x) := by
  unfold State.lnFreeStage
  refine State.modLn_kept (maskSub rfl hw) ?_
  exact h

theorem State.lnEnd_kept {w : Nat} {s0 x : State} {q : Nat} {o : Oc}
    (hw : 0x2000000000000000000c000000000000000000100 &&& w = 0x2000000000000000000c000000000000000000100)
    (h : Kept w s0 x) :
    Kept w s0 (State.lnEnd x q o) := by
  unfold State.lnEnd
  extract_lets v0 v1 v2 v3 v4 v5 v6 v7
  have hv4 : Kept w s0 v4 := by
    unfold v4
    refine State.modLn_kept (maskSub rfl hw) ?_
    exact h
  clear_value v4
  have hv5 : Kept w s0 v5 := by
    unfold v5
    with_reducible apply Kept.ite
    · refine State.lnFreeStage_kept (maskSub rfl hw) ?_
      with_reducible assumption
    · with_reducible assumption
  clear_value v5
  have hv6 : Kept w s0 v6 := by
    unfold v6
    refine State.ps_kept (maskSub rfl hw) ?_
    with_reducible assumption
  clear_value v6
  have hv7 : Kept w s0 v7 := by
    unfold v7
    refine State.raise_kept (maskSub rfl hw) ?_
    refine State.raiseDone_kept (maskSub rfl hw) ?_
    with_reducible assumption
  clear_value v7
  refine State.lnCount_kept (maskSub rfl hw) ?_
  with_reducible assumption

theorem State.lnDrop_kept {w : Nat} {s0 x : State} {q : Nat} {o : Oc}
    (hw : 0x2000000000000000000c000000000000000000100 &&& w = 0x2000000000000000000c000000000000000000100)
    (h : Kept w s0 x) :
    Kept w s0 (State.lnDrop x q o) := by
  unfold State.lnDrop
  refine State.lnEnd_kept (maskSub rfl hw) ?_
  refine State.lnRefund_kept (maskSub rfl hw) ?_
  exact h

theorem State.lnEndAll_kept {w : Nat} {s0 x : State} {o : Oc}
    (hw : 0x2000000000000000000c000000000000000000100 &&& w = 0x2000000000000000000c000000000000000000100)
    (h : Kept w s0 x) :
    Kept w s0 (State.lnEndAll o x) := by
  unfold State.lnEndAll
  refine Kept.foldl ?_ ?_
  · intro i0 i1 i2
    with_reducible apply Kept.ite
    · refine State.lnDrop_kept (maskSub rfl hw) ?_
      with_reducible assumption
    · with_reducible assumption
  · exact h

theorem State.lnServe_kept {w : Nat} {s0 x : State} {c : Nat} {heads : List Nat} (hw : 256 &&& w = 256)
    (h : Kept w s0 x) :
    KeptP w s0 (State.lnServe x c heads) := by
  unfold State.lnServe
  extract_lets v0 v1 v2 v3 v4 v5
  have hv3 : ∀ a0 a1, Kept w s0 a1 → Kept w s0 (v3 a0 a1) := by
    unfold v3
    intro i6 i7 i8
    refine State.modLn_kept (maskSub rfl hw) ?_
    with_reducible assumption
  clear_value v3
  with_reducible apply KeptP.ite
  · refine KeptP.map (fun z => ?_)
    dsimp only
    with_reducible apply hv3
    exact h
  · refine KeptP.map (fun z => ?_)
    extract_lets v9 v10
    dsimp only
    with_reducible apply hv3
    refine State.modLn_kept (maskSub rfl hw) ?_
    exact h

theorem State.lnPick_kept {w : Nat} {s0 x : State} (hw : 256 &&& w = 256) (h : Kept w s0 x) :
    KeptP w s0 (State.lnPick x) := by
  unfold State.lnPick
  extract_lets v0 v1
  split
  · rename_i u2 u3
    exact KeptP.none
  · rename_i u4 u5 u6
    extract_lets v7 v8
    refine State.lnServe_kept (maskSub rfl hw) ?_
    exact h

theorem State.lnGrant_kept {w : Nat} {s0 x : State}
    (hw : 0x2000000000000000001c000000000000000000100 &&& w = 0x2000000000000000001c000000000000000000100)
    (h : Kept w s0 x) :
    Kept w s0 (State.lnGrant x) := by
  unfold State.lnGrant
  with_reducible apply Kept.ite
  · exact h
  · split
    · rename_i u0 u1
      exact h
    · rename_i u2 u3 u4 u5
      extract_lets v6 v7 v8 v9 v10
      have hv7 : Kept w s0 v7 := by
        unfold v7
        refine State.lnCharge_kept (maskSub rfl hw) ?_
        refine KeptP.get ?_ u5
        refine State.lnPick_kept (maskSub rfl hw) ?_
        exact h
      clear_value v7
      have hv8 : Kept w s0 v8 := by
        unfold v8
        refine Kept.foldl ?_ ?_
        · intro i11 i12 i13
          refine State.wr_kept (maskSub rfl hw) ?_
          with_reducible assumption
        · with_reducible assumption
      clear_value v8
      have hv9 : Kept w s0 v9 := by
        unfold v9
        refine State.modLn_kept (maskSub rfl hw) ?_
        with_reducible assumption
      clear_value v9
      have hv10 : Kept w s0 v10 := by
        unfold v10
        refine State.ps_kept (maskSub rfl hw) ?_
        with_reducible assumption
      clear_value v10
      refine State.raiseTenant_kept (maskSub rfl hw) ?_
      with_reducible assumption

theorem State.lnNextSeq_kept {w : Nat} {s0 x : State} {dst : Nat} (hw : 256 &&& w = 256) (h : Kept w s0 x) :
    Kept w s0 (State.lnNextSeq x dst).2 := by
  unfold State.lnNextSeq
  extract_lets v0
  dsimp only
  refine State.modLn_kept (maskSub rfl hw) ?_
  exact h

theorem State.lnWakeRequest_kept {w : Nat} {s0 x : State} (hw : 256 &&& w = 256) (h : Kept w s0 x) :
    Kept w s0 (State.lnWakeRequest x) := by
  unfold State.lnWakeRequest
  extract_lets v0 v1 v2
  have hv1 : ∀ a0 a1, Kept w s0 a0 → Kept w s0 (v1 a0 a1) := by
    unfold v1
    intro i3 i4 i5
    refine State.modLn_kept (maskSub rfl hw) ?_
    with_reducible assumption
  clear_value v1
  split
  · rename_i u6 u7 u8
    extract_lets v9
    with_reducible apply Kept.ite
    · with_reducible apply Kept.ite
      · with_reducible apply Kept.ite
        · exact h
        · refine State.modLn_kept (maskSub rfl hw) ?_
          exact h
      · with_reducible apply hv1
        exact h
    · with_reducible apply hv1
      exact h
  · rename_i u10 u11
    with_reducible apply hv1
    exact h

theorem State.lnSubmit_kept {w : Nat} {s0 x : State} {t : Nat} {w_ : Word}
    (hw : 0x2000000000000000001c000000000000000000100 &&& w = 0x2000000000000000001c000000000000000000100)
    (h : Kept w s0 x) :
    Kept w s0 (State.lnSubmit x t w_).2 := by
  unfold State.lnSubmit
  extract_lets v0 v1 v2 v3 v4 v5 v6 v7 v8
  have hv4 : ∀ a0 a1 a2 a3 a4, Kept w s0 a0 → Kept w s0 (v4 a0 a1 a2 a3 a4) := by
    unfold v4
    intro i9 i10 i11 i12 i13 i14
    extract_lets v15
    have hv15 : Kept w s0 v15 := by
      unfold v15
      refine State.wr_kept (maskSub rfl hw) ?_
      with_reducible assumption
    clear_value v15
    refine State.ps_kept (maskSub rfl hw) ?_
    with_reducible assumption
  clear_value v4
  have hv8 : Kept w s0 v8.2 := by
    unfold v8
    refine State.lnNextSeq_kept (maskSub rfl hw) ?_
    exact h
  clear_value v8
  split
  · rename_i u16 u17
    dsimp only
    with_reducible apply hv4
    exact h
  · rename_i u18 u19 u20
    extract_lets v21 v22 v23 v24 v25 v26
    have hv21 : Kept w s0 v21 := by
      unfold v21
      refine State.modLn_kept (maskSub rfl hw) ?_
      refine State.wr_kept (maskSub rfl hw) ?_
      with_reducible assumption
    clear_value v21
    have hv22 : Kept w s0 v22 := by
      unfold v22
      refine State.lnCount_kept (maskSub rfl hw) ?_
      refine State.ps_kept (maskSub rfl hw) ?_
      with_reducible assumption
    clear_value v22
    have hv23 : Kept w s0 v23 := by
      unfold v23
      with_reducible apply Kept.ite
      · refine State.lnWakeRequest_kept (maskSub rfl hw) ?_
        with_reducible assumption
      · with_reducible assumption
    clear_value v23
    have hv24 : Kept w s0 v24 := by
      unfold v24
      refine State.lnGrant_kept (maskSub rfl hw) ?_
      with_reducible assumption
    clear_value v24
    have hv26 : Kept w s0 v26 := by
      unfold v26
      refine State.p_kept (maskSub rfl hw) ?_
      with_reducible assumption
    clear_value v26
    with_reducible apply Kept.ite2
    · dsimp only
      with_reducible apply hv4
      with_reducible assumption
    · dsimp only
      with_reducible apply hv4
      exact h

theorem State.lnAbort_kept {w : Nat} {s0 x : State} {t q : Nat}
    (hw : 0x2000000000000000000c000000000000000000100 &&& w = 0x2000000000000000000c000000000000000000100)
    (h : Kept w s0 x) :
    Kept w s0 (State.lnAbort x t q).2 := by
  unfold State.lnAbort
  extract_lets v0
  with_reducible apply Kept.ite2
  · exact h
  · with_reducible apply Kept.ite2
    · dsimp only
      refine State.modLn_kept (maskSub rfl hw) ?_
      refine State.wr_kept (maskSub rfl hw) ?_
      refine State.lnDrop_kept (maskSub rfl hw) ?_
      exact h
    · with_reducible apply Kept.ite2
      · exact h
      · split
        · rename_i u1 u2
          with_reducible apply Kept.ite2
          · dsimp only
            refine State.lnEnd_kept (maskSub rfl hw) ?_
            refine State.withdraw_kept (maskSub rfl hw) ?_
            refine State.withdraw_kept (maskSub rfl hw) ?_
            exact h
          · exact h
        · rename_i u3 u4
          exact h
        · rename_i u5 u6
          exact h

theorem State.lnCommitTxq_kept {w : Nat} {s0 x : State} {t e : Nat} {w_ : Word}
    (hw : 0x2000000000000000001c000000000000000000100 &&& w = 0x2000000000000000001c000000000000000000100)
    (h : Kept w s0 x) :
    Kept w s0 (State.lnCommitTxq x t e w_).2 := by
  unfold State.lnCommitTxq
  with_reducible apply Kept.ite2
  · refine State.lnSubmit_kept (maskSub rfl hw) ?_
    exact h
  · with_reducible apply Kept.ite2
    · refine State.lnAbort_kept (maskSub rfl hw) ?_
      exact h
    · exact h

theorem State.lnCommitStage_kept {w : Nat} {s0 x : State} {e : Nat} {w_ : Word}
    (hw : 0x10000000000000000000100 &&& w = 0x10000000000000000000100) (h : Kept w s0 x) :
    Kept w s0 (State.lnCommitStage x e w_).2 := by
  unfold State.lnCommitStage
  with_reducible apply Kept.ite2
  · dsimp only
    refine State.modLn_kept (maskSub rfl hw) ?_
    refine State.wr_kept (maskSub rfl hw) ?_
    exact h
  · exact h

theorem State.lnFreeBuf_kept {w : Nat} {s0 x : State} {b : Nat}
    (hw : 0x20000000000000000000100 &&& w = 0x20000000000000000000100) (h : Kept w s0 x) :
    Kept w s0 (State.lnFreeBuf x b) := by
  unfold State.lnFreeBuf
  extract_lets v0
  have hv0 : Kept w s0 v0 := by
    unfold v0
    refine Kept.foldl ?_ ?_
    · intro i1 i2 i3
      refine State.wr_kept (maskSub rfl hw) ?_
      with_reducible assumption
    · exact h
  clear_value v0
  refine State.modLn_kept (maskSub rfl hw) ?_
  with_reducible assumption

theorem State.lnDisable_kept {w : Nat} {s0 x : State} {t : Nat}
    (hw : 0x2000000000000000002c000000000000000000100 &&& w = 0x2000000000000000002c000000000000000000100)
    (h : Kept w s0 x) :
    Kept w s0 (State.lnDisable x t) := by
  unfold State.lnDisable
  extract_lets v0
  have hv0 : Kept w s0 v0 := by
    unfold v0
    refine Kept.foldl ?_ ?_
    · intro i1 i2 i3
      with_reducible apply Kept.ite
      · refine State.modLn_kept (maskSub rfl hw) ?_
        with_reducible assumption
      · refine State.lnDrop_kept (maskSub rfl hw) ?_
        with_reducible assumption
    · exact h
  clear_value v0
  refine Kept.foldl ?_ ?_
  · intro i4 i5 i6
    with_reducible apply Kept.ite
    · refine State.lnFreeBuf_kept (maskSub rfl hw) ?_
      with_reducible assumption
    · with_reducible assumption
  · with_reducible assumption

theorem State.lnConfine_kept {w : Nat} {s0 x : State}
    (hw : 0x2000000020000000004c000000000000000000100 &&& w = 0x2000000020000000004c000000000000000000100)
    (h : Kept w s0 x) :
    Kept w s0 (State.lnConfine x) := by
  unfold State.lnConfine
  extract_lets v0 v1 v2 v3 v4 v5
  have hv4 : Kept w s0 v4 := by
    unfold v4
    refine State.raiseCommon_kept (maskSub rfl hw) ?_
    refine State.lnSetSub_kept (maskSub rfl hw) ?_
    refine State.p_kept (maskSub rfl hw) ?_
    exact h
  clear_value v4
  have hv5 : Kept w s0 v5 := by
    unfold v5
    with_reducible apply Kept.ite
    · refine State.modLn_kept (maskSub rfl hw) ?_
      with_reducible assumption
    · with_reducible assumption
  clear_value v5
  with_reducible apply Kept.ite
  · exact h
  · with_reducible apply Kept.ite
    · with_reducible assumption
    · refine Kept.foldl ?_ ?_
      · intro i6 i7 i8
        with_reducible apply Kept.ite
        · refine State.lnDrop_kept (maskSub rfl hw) ?_
          with_reducible assumption
        · with_reducible assumption
      · with_reducible assumption

theorem State.lnTec_kept {w : Nat} {s0 x : State} {up : Bool}
    (hw : 0x2000000020000000004c000000000000000000100 &&& w = 0x2000000020000000004c000000000000000000100)
    (h : Kept w s0 x) :
    Kept w s0 (State.lnTec x up) := by
  unfold State.lnTec
  extract_lets v0
  refine State.lnConfine_kept (maskSub rfl hw) ?_
  refine State.p_kept (maskSub rfl hw) ?_
  exact h

theorem State.lnRec_kept {w : Nat} {s0 x : State} {up : Bool}
    (hw : 0x2000000020000000004c000000000000000000100 &&& w = 0x2000000020000000004c000000000000000000100)
    (h : Kept w s0 x) :
    Kept w s0 (State.lnRec x up) := by
  unfold State.lnRec
  extract_lets v0
  refine State.lnConfine_kept (maskSub rfl hw) ?_
  refine State.p_kept (maskSub rfl hw) ?_
  exact h

theorem State.lnDormEvent_kept {w : Nat} {s0 x : State} {why : Nat}
    (hw : 0x20000000000000000000000000000000000000000 &&& w = 0x20000000000000000000000000000000000000000)
    (h : Kept w s0 x) :
    Kept w s0 (State.lnDormEvent x why) := by
  unfold State.lnDormEvent
  refine State.raiseCommon_kept (maskSub rfl hw) ?_
  exact h

theorem State.lnSetDorm_kept {w : Nat} {s0 x : State} {d : Nat}
    (hw : 0x20000000200000000080000000000000000000000 &&& w = 0x20000000200000000080000000000000000000000)
    (h : Kept w s0 x) :
    Kept w s0 (State.lnSetDorm x d) := by
  unfold State.lnSetDorm
  refine State.lnSetSub_kept (maskSub rfl hw) ?_
  refine State.p_kept (maskSub rfl hw) ?_
  exact h

theorem State.lnPropose_kept {w : Nat} {s0 x : State} {src c : Nat}
    (hw : 0x20000000200000000080000000000000000000100 &&& w = 0x20000000200000000080000000000000000000100)
    (h : Kept w s0 x) :
    Kept w s0 (State.lnPropose x src c) := by
  unfold State.lnPropose
  extract_lets v0
  have hv0 : Kept w s0 v0 := by
    unfold v0
    refine State.ps_kept (maskSub rfl hw) ?_
    refine State.modLn_kept (maskSub rfl hw) ?_
    exact h
  clear_value v0
  with_reducible apply Kept.ite
  · exact h
  · refine State.lnDormEvent_kept (maskSub rfl hw) ?_
    refine State.lnSetDorm_kept (maskSub rfl hw) ?_
    with_reducible assumption

theorem State.lnDropCommit_kept {w : Nat} {s0 x : State}
    (hw : 0x20000000200000000080000000000000000000100 &&& w = 0x20000000200000000080000000000000000000100)
    (h : Kept w s0 x) :
    Kept w s0 (State.lnDropCommit x) := by
  unfold State.lnDropCommit
  with_reducible apply Kept.ite
  · refine State.lnDormEvent_kept (maskSub rfl hw) ?_
    refine State.lnSetDorm_kept (maskSub rfl hw) ?_
    refine State.modLn_kept (maskSub rfl hw) ?_
    exact h
  · exact h

theorem State.lnWatch_kept {w : Nat} {s0 x : State}
    (hw : 0x20000000200000000080000000000000000000100 &&& w = 0x20000000200000000080000000000000000000100)
    (h : Kept w s0 x) :
    Kept w s0 (State.lnWatch x) := by
  unfold State.lnWatch
  extract_lets v0
  have hv0 : Kept w s0 v0 := by
    unfold v0
    refine State.modLn_kept (maskSub rfl hw) ?_
    exact h
  clear_value v0
  with_reducible apply Kept.ite
  · exact h
  · refine State.lnDormEvent_kept (maskSub rfl hw) ?_
    refine State.lnSetDorm_kept (maskSub rfl hw) ?_
    with_reducible assumption

theorem State.lnWoken_kept {w : Nat} {s0 x : State}
    (hw : 0x20000000200000000080000000000000000000000 &&& w = 0x20000000200000000080000000000000000000000)
    (h : Kept w s0 x) :
    Kept w s0 (State.lnWoken x) := by
  unfold State.lnWoken
  with_reducible apply Kept.ite
  · refine State.lnDormEvent_kept (maskSub rfl hw) ?_
    refine State.lnSetDorm_kept (maskSub rfl hw) ?_
    exact h
  · exact h

theorem State.lnDropped_kept {w : Nat} {s0 x : State} {dst ver : Nat} {m0 m1 : Word}
    (hw : 0x20000000000000000000000000000000000000100 &&& w = 0x20000000000000000000000000000000000000100)
    (h : Kept w s0 x) :
    Kept w s0 (State.lnDropped x dst ver m0 m1) := by
  unfold State.lnDropped
  refine Kept.foldl ?_ ?_
  · intro i0 i1 i2
    with_reducible apply Kept.ite
    · with_reducible assumption
    · refine State.raiseCommon_kept (maskSub rfl hw) ?_
      refine State.modLn_kept (maskSub rfl hw) ?_
      with_reducible assumption
  · exact h

theorem State.lnDestMap_kept {w : Nat} {s0 x : State} {dst len : Nat} {secure retryLost : Bool} {x_ : Nat}
    (hw : 0x20000000000000000800000000000000000000100 &&& w = 0x20000000000000000800000000000000000000100)
    (h : Kept w s0 x) :
    Kept w s0 (State.lnDestMap x dst len secure retryLost x_).2 := by
  unfold State.lnDestMap
  extract_lets v0
  split
  · rename_i u1 u2
    exact h
  · rename_i u3 u4 u5
    extract_lets v6 v7 v8 v9 v10 v11 v12 v13
    have hv6 : Kept w s0 v6 := by
      unfold v6
      refine State.nbrPromote_kept (maskSub rfl hw) ?_
      exact h
    clear_value v6
    have hv9 : Kept w s0 v9 := by
      unfold v9
      refine State.lnDropped_kept (maskSub rfl hw) ?_
      with_reducible assumption
    clear_value v9
    with_reducible apply Kept.ite2
    · with_reducible apply Kept.ite2
      · with_reducible assumption
      · dsimp only
        refine State.raiseCommon_kept (maskSub rfl hw) ?_
        refine State.modLn_kept (maskSub rfl hw) ?_
        with_reducible assumption
    · with_reducible apply Kept.ite2
      · with_reducible assumption
      · with_reducible apply Kept.ite2
        · with_reducible assumption
        · with_reducible apply Kept.ite2
          · with_reducible assumption
          · with_reducible assumption

theorem State.lnBursts_kept {w : Nat} {s0 x : State} {tiers phases : Nat} {q : List Nat} (hw : 256 &&& w = 256)
    (h : Kept w s0 x) :
    Kept w s0 (State.lnBursts x tiers phases q) := by
  unfold State.lnBursts
  refine State.modLn_kept (maskSub rfl hw) ?_
  exact h

theorem State.lnWinDev_kept {w : Nat} {s0 x : State} {f : DevFrame} {x_ : Nat}
    (hw : 0x10000000100000000800002000000000000000380 &&& w = 0x10000000100000000800002000000000000000380)
    (h : Kept w s0 x) :
    Kept w s0 (State.lnWinDev x f x_) := by
  unfold State.lnWinDev
  extract_lets v0 v1 v2 v3 v4
  have hv2 : Kept w s0 v2 := by
    unfold v2
    refine State.lnNextSeq_kept (maskSub rfl hw) ?_
    exact h
  clear_value v2
  have hv4 : Kept w s0 v4 := by
    unfold v4
    refine State.modLn_kept (maskSub rfl hw) ?_
    with_reducible assumption
  clear_value v4
  with_reducible apply Kept.ite
  · refine State.gyBeaconSent_kept (maskSub rfl hw) ?_
    with_reducible assumption
  · with_reducible apply Kept.ite
    · refine State.llBegun_kept (maskSub rfl hw) ?_
      with_reducible assumption
    · with_reducible assumption

theorem State.lnWinReq_kept {w : Nat} {s0 x : State} {q : Nat} {m : Option (Word × Word)} {x_ : Nat}
    (hw : 0x2000000000000000004c000000000000000000100 &&& w = 0x2000000000000000004c000000000000000000100)
    (h : Kept w s0 x) :
    Kept w s0 (State.lnWinReq x q m x_) := by
  unfold State.lnWinReq
  extract_lets v0 v1 v2 v3 v4 v5 v6 v7 v8
  have hv7 : Kept w s0 v7 := by
    unfold v7
    with_reducible apply Kept.ite
    · refine State.p_kept (maskSub rfl hw) ?_
      exact h
    · exact h
  clear_value v7
  with_reducible apply Kept.ite
  · refine State.lnEnd_kept (maskSub rfl hw) ?_
    with_reducible assumption
  · refine State.p_kept (maskSub rfl hw) ?_
    refine State.modLn_kept (maskSub rfl hw) ?_
    with_reducible assumption

theorem State.lnLock_kept {w : Nat} {s0 x : State} {q : Nat}
    (hw : 0x8000000000000000000100 &&& w = 0x8000000000000000000100) (h : Kept w s0 x) :
    Kept w s0 (State.lnLock x q) := by
  unfold State.lnLock
  refine State.p_kept (maskSub rfl hw) ?_
  refine State.modLn_kept (maskSub rfl hw) ?_
  exact h

theorem State.lnContend_kept {w : Nat} {s0 x : State} {c : Cont} {x_ : Nat} {pw cw : Option (Fin 4)}
    (hw : 0x3000000010000000084c002000000000000001380 &&& w = 0x3000000010000000084c002000000000000001380)
    (h : Kept w s0 x) :
    Kept w s0 (State.lnContend x c x_ pw cw) := by
  unfold State.lnContend
  extract_lets v0 v1 v2 v3 v4 v5 v6 v7 v8 v9 v10 v11 v12
  have hv6 : Kept w s0 v6.2 := by
    unfold v6
    split
    · rename_i u13 u14
      exact h
    · rename_i u15 u16
      with_reducible apply Kept.ite2
      · refine State.lnDestMap_kept (maskSub rfl hw) ?_
        exact h
      · exact h
  clear_value v6
  have hv7 : Kept w s0 v7 := by unfold v7; with_reducible assumption
  clear_value v7
  have hv8 : Kept w s0 v8 := by
    unfold v8
    split
    · rename_i u17 u18
      with_reducible assumption
    · rename_i u19 u20
      refine State.lnLock_kept (maskSub rfl hw) ?_
      with_reducible assumption
  clear_value v8
  have hv9 : Kept w s0 v9.2 := by
    unfold v9
    refine State.rngDraw_kept (maskSub rfl hw) ?_
    with_reducible assumption
  clear_value v9
  have hv10 : Kept w s0 v10 := by unfold v10; with_reducible assumption
  clear_value v10
  have hv12 : Kept w s0 v12 := by
    unfold v12
    refine State.lnBursts_kept (maskSub rfl hw) ?_
    with_reducible assumption
  clear_value v12
  with_reducible apply Kept.ite
  · refine State.modLn_kept (maskSub rfl hw) ?_
    exact h
  · with_reducible apply Kept.ite
    · refine State.modLn_kept (maskSub rfl hw) ?_
      refine State.lnBursts_kept (maskSub rfl hw) ?_
      with_reducible assumption
    · split
      · rename_i u21 u22
        refine State.lnWinDev_kept (maskSub rfl hw) ?_
        with_reducible assumption
      · rename_i u23 u24
        refine State.lnWinReq_kept (maskSub rfl hw) ?_
        with_reducible assumption

theorem State.lnFcWait_kept {w : Nat} {s0 x : State} {q : Nat}
    (hw : 0x2000000000000000000c000000000000000100100 &&& w = 0x2000000000000000000c000000000000000100100)
    (h : Kept w s0 x) :
    Kept w s0 (State.lnFcWait x q) := by
  unfold State.lnFcWait
  extract_lets v0
  have hv0 : Kept w s0 v0 := by
    unfold v0
    with_reducible apply Kept.ite
    · refine State.snRaiseMark_kept (maskSub rfl hw) ?_
      exact h
    · exact h
  clear_value v0
  with_reducible apply Kept.ite
  · with_reducible assumption
  · with_reducible apply Kept.ite
    · refine State.lnEnd_kept (maskSub rfl hw) ?_
      with_reducible assumption
    · refine State.lnDrop_kept (maskSub rfl hw) ?_
      with_reducible assumption

theorem execLineContend_kept {w : Nat} {s0 x : State} {idle : Bool} {pw cw : Option (Fin 4)}
    (hw : 0x3000000010000000084c002000000000000101380 &&& w = 0x3000000010000000084c002000000000000101380)
    (h : Kept w s0 x) :
    KeptO w s0 (execLineContend idle pw cw x) := by
  unfold execLineContend
  extract_lets v0 v1 v2
  have hv0 : Kept w s0 v0 := by
    unfold v0
    refine State.toHalf_kept (maskSub rfl hw) ?_
    exact h
  clear_value v0
  have hv2 : Kept w s0 v2 := by
    unfold v2
    refine State.modLn_kept (maskSub rfl hw) ?_
    with_reducible assumption
  clear_value v2
  with_reducible apply KeptO.ite
  · split
    · rename_i u3 u4
      refine KeptO.next ?_
      with_reducible assumption
    · rename_i u5 u6 u7
      with_reducible apply KeptO.ite
      · refine KeptO.next ?_
        refine State.modLn_kept (maskSub rfl hw) ?_
        with_reducible assumption
      · split
        · rename_i u8 u9
          with_reducible apply KeptO.ite
          · refine KeptO.next ?_
            refine State.lnFcWait_kept (maskSub rfl hw) ?_
            with_reducible assumption
          · refine KeptO.next ?_
            refine State.lnContend_kept (maskSub rfl hw) ?_
            with_reducible assumption
        · rename_i u10 u11
          refine KeptO.next ?_
          refine State.lnContend_kept (maskSub rfl hw) ?_
          with_reducible assumption
  · refine KeptO.next ?_
    with_reducible assumption

theorem execLineGrant_kept {w : Nat} {s0 x : State}
    (hw : 0x2000000000000000001c000000000000000000100 &&& w = 0x2000000000000000001c000000000000000000100)
    (h : Kept w s0 x) :
    KeptO w s0 (execLineGrant x) := by
  unfold execLineGrant
  refine KeptO.next ?_
  refine State.lnGrant_kept (maskSub rfl hw) ?_
  exact h

theorem State.lnStageLook_kept {w : Nat} {s0 x : State}
    (hw : 0x2000000000000000000c000000000000000000100 &&& w = 0x2000000000000000000c000000000000000000100)
    (h : Kept w s0 x) :
    Kept w s0 (State.lnStageLook x) := by
  unfold State.lnStageLook
  split
  · rename_i u0 u1
    exact h
  · rename_i u2 u3 u4
    with_reducible apply Kept.ite
    · refine State.raiseDeadline_kept (maskSub rfl hw) ?_
      refine State.lnDrop_kept (maskSub rfl hw) ?_
      exact h
    · exact h

theorem execLineStageCheck_kept {w : Nat} {s0 x : State}
    (hw : 0x2000000000000000000c000000000000000000100 &&& w = 0x2000000000000000000c000000000000000000100)
    (h : Kept w s0 x) :
    KeptO w s0 (execLineStageCheck x) := by
  unfold execLineStageCheck
  refine KeptO.next ?_
  refine State.lnStageLook_kept (maskSub rfl hw) ?_
  refine State.toHalf_kept (maskSub rfl hw) ?_
  exact h

theorem execLineOriginHalfCycle_kept {w : Nat} {s0 x : State} (hw : 256 &&& w = 256) (h : Kept w s0 x) :
    KeptO w s0 (execLineOriginHalfCycle x) := by
  unfold execLineOriginHalfCycle
  split
  · rename_i u0 u1
    refine KeptO.next ?_
    exact h
  · rename_i u2 u3 u4
    extract_lets v5 v6 v7
    have hv6 : Kept w s0 v6 := by
      unfold v6
      refine State.toHalfIndex_kept (maskSub rfl hw) ?_
      exact h
    clear_value v6
    with_reducible apply KeptO.ite
    · with_reducible apply KeptO.ite
      · refine KeptO.next ?_
        with_reducible assumption
      · refine KeptO.next ?_
        refine State.modLn_kept (maskSub rfl hw) ?_
        with_reducible assumption
    · refine KeptO.next ?_
      exact h

theorem State.lnDevEnd_kept {w : Nat} {s0 x : State} {d : DevFrame}
    (hw : 0x20000000200000000080000000000000000000100 &&& w = 0x20000000200000000080000000000000000000100)
    (h : Kept w s0 x) :
    Kept w s0 (State.lnDevEnd x d) := by
  unfold State.lnDevEnd
  extract_lets v0 v1
  have hv0 : Kept w s0 v0 := by
    unfold v0
    refine State.modLn_kept (maskSub rfl hw) ?_
    exact h
  clear_value v0
  with_reducible apply Kept.ite
  · with_reducible apply Kept.ite
    · refine State.raiseCommon_kept (maskSub rfl hw) ?_
      with_reducible assumption
    · with_reducible assumption
  · with_reducible apply Kept.ite
    · refine State.lnDropCommit_kept (maskSub rfl hw) ?_
      refine State.modLn_kept (maskSub rfl hw) ?_
      with_reducible assumption
    · with_reducible assumption

theorem State.lnAttempt_kept {w : Nat} {s0 x : State} {f : LineFrame} {ack : Option (BitVec 9)}
    (hw : 0x2000000020000000004c000000000000000001100 &&& w = 0x2000000020000000004c000000000000000001100)
    (h : Kept w s0 x) :
    Kept w s0 (State.lnAttempt x f ack) := by
  unfold State.lnAttempt
  extract_lets v0 v1 v2 v3 v4 v5 v6 v7 v8
  have hv3 : Kept w s0 v3 := by
    unfold v3
    refine State.modLn_kept (maskSub rfl hw) ?_
    exact h
  clear_value v3
  have hv4 : Kept w s0 v4 := by
    unfold v4
    with_reducible apply Kept.ite
    · refine State.bump_kept (maskSub rfl hw) ?_
      with_reducible assumption
    · with_reducible assumption
  clear_value v4
  have hv5 : Kept w s0 v5 := by
    unfold v5
    with_reducible apply Kept.ite
    · with_reducible assumption
    · refine State.lnTec_kept (maskSub rfl hw) ?_
      with_reducible assumption
  clear_value v5
  have hv6 : Kept w s0 v6 := by
    unfold v6
    refine State.lnRefund_kept (maskSub rfl hw) ?_
    with_reducible assumption
  clear_value v6
  have hv8 : Kept w s0 v8.2 := by
    unfold v8
    refine State.rngDraw_kept (maskSub rfl hw) ?_
    with_reducible assumption
  clear_value v8
  with_reducible apply Kept.ite
  · with_reducible assumption
  · with_reducible apply Kept.ite
    · refine State.lnEnd_kept (maskSub rfl hw) ?_
      with_reducible assumption
    · with_reducible apply Kept.ite
      · refine State.lnEnd_kept (maskSub rfl hw) ?_
        with_reducible assumption
      · with_reducible apply Kept.ite
        · refine State.lnEnd_kept (maskSub rfl hw) ?_
          with_reducible assumption
        · with_reducible apply Kept.ite
          · refine State.lnEnd_kept (maskSub rfl hw) ?_
            with_reducible assumption
          · refine State.modLn_kept (maskSub rfl hw) ?_
            refine State.lnCharge_kept (maskSub rfl hw) ?_
            with_reducible assumption

theorem execLineAttemptEnd_kept {w : Nat} {s0 x : State} {ack : Option (BitVec 9)}
    (hw : 0x200000002000000000cc000000000000000001100 &&& w = 0x200000002000000000cc000000000000000001100)
    (h : Kept w s0 x) :
    KeptO w s0 (execLineAttemptEnd ack x) := by
  unfold execLineAttemptEnd
  split
  · rename_i u0 u1
    refine KeptO.next ?_
    exact h
  · rename_i u2 u3 u4
    extract_lets v5
    have hv5 : Kept w s0 v5 := by
      unfold v5
      refine State.toHalfIndex_kept (maskSub rfl hw) ?_
      exact h
    clear_value v5
    with_reducible apply KeptO.ite
    · split
      · rename_i u6 u7 u8
        refine KeptO.next ?_
        refine State.lnDevEnd_kept (maskSub rfl hw) ?_
        with_reducible assumption
      · rename_i u9 u10
        refine KeptO.next ?_
        refine State.lnAttempt_kept (maskSub rfl hw) ?_
        with_reducible assumption
    · refine KeptO.next ?_
      exact h

theorem State.lnTakeHeader_kept {w : Nat} {s0 x : State} {hd : BitVec 48} {k stamp copy lq : Nat}
    (hw : 0x2000000020000000084e000000000000000000300 &&& w = 0x2000000020000000084e000000000000000000300)
    (h : Kept w s0 x) :
    Kept w s0 (x.lnTakeHeader hd k stamp copy lq) := by
  unfold State.lnTakeHeader
  extract_lets a b
  have ha : Kept w s0 a := State.lnRec_kept (maskSub rfl hw) h
  clear_value a
  refine State.modLn_kept (maskSub rfl hw) ?_
  unfold b
  clear_value b
  split
  · exact ha
  · next n y e => exact State.ps_kept (maskSub rfl hw) ((State.nbrTake_kept (maskSub rfl hw) ha).get e)

theorem execLineHeaderRx_kept {w : Nat} {s0 x : State} {header : BitVec 48} {burst : Bool} {back ago : Nat}
    {copy : Fin 4} {lq : Byte}
    (hw : 0x2000000020000000084e000000000000000000300 &&& w = 0x2000000020000000084e000000000000000000300)
    (h : Kept w s0 x) :
    KeptO w s0 (execLineHeaderRx header burst back ago copy lq x) := by
  unfold execLineHeaderRx
  extract_lets v0 v1
  have hv0 : ∀ a0, Kept w s0 a0 → Kept w s0 (v0 a0) := by
    unfold v0
    intro i2 i3
    refine State.modLn_kept (maskSub rfl hw) ?_
    with_reducible assumption
  clear_value v0
  have hv1 : Kept w s0 v1 := by
    unfold v1
    with_reducible apply hv0
    refine State.bump_kept (maskSub rfl hw) ?_
    exact h
  clear_value v1
  with_reducible apply KeptO.ite
  · refine KeptO.next ?_
    exact h
  · split
    · rename_i u4 u5 u6
      with_reducible apply KeptO.ite
      · refine KeptO.next ?_
        refine State.modLn_kept (maskSub rfl hw) ?_
        exact h
      · refine KeptO.next ?_
        exact h
    · rename_i u7 u8
      with_reducible apply KeptO.ite
      · refine KeptO.next ?_
        with_reducible apply Kept.ite
        · refine State.lnRec_kept (maskSub rfl hw) ?_
          with_reducible assumption
        · with_reducible assumption
      · with_reducible apply KeptO.ite
        · refine KeptO.next ?_
          with_reducible apply hv0
          refine State.bump_kept (maskSub rfl hw) ?_
          exact h
        · with_reducible apply KeptO.ite
          · refine KeptO.next ?_
            with_reducible apply hv0
            exact h
          · refine KeptO.next ?_
            refine State.lnTakeHeader_kept (maskSub rfl hw) ?_
            exact h

theorem State.lnTaken_kept {w : Nat} {s0 x : State} {f : LineFrame} {ack : Option Nat} (hw : 256 &&& w = 256)
    (h : Kept w s0 x) :
    Kept w s0 (State.lnTaken x f ack) := by
  unfold State.lnTaken
  refine State.modLn_kept (maskSub rfl hw) ?_
  exact h

theorem State.lnStore_kept {w : Nat} {s0 x : State} {f : LineFrame} {b : Nat} {words : List Word}
    (hw : 0x20000000000000000020000000000000000000100 &&& w = 0x20000000000000000020000000000000000000100)
    (h : Kept w s0 x) :
    Kept w s0 (State.lnStore x f b words) := by
  unfold State.lnStore
  extract_lets v0 v1 v2 v3 v4 v5
  have hv2 : Kept w s0 v2 := by
    unfold v2
    refine Kept.foldl ?_ ?_
    · intro i6 i7 i8
      refine State.wr_kept (maskSub rfl hw) ?_
      with_reducible assumption
    · exact h
  clear_value v2
  have hv3 : Kept w s0 v3 := by
    unfold v3
    refine State.ps_kept (maskSub rfl hw) ?_
    with_reducible assumption
  clear_value v3
  have hv4 : Kept w s0 v4 := by
    unfold v4
    refine State.modLn_kept (maskSub rfl hw) ?_
    with_reducible assumption
  clear_value v4
  refine State.raise_kept (maskSub rfl hw) ?_
  with_reducible assumption

theorem State.lnAccept_kept {w : Nat} {s0 x : State} {f : LineFrame} {words : List Word}
    (hw : 0x20000000000000000022000000000000000000100 &&& w = 0x20000000000000000022000000000000000000100)
    (h : Kept w s0 x) :
    Kept w s0 (State.lnAccept x f words) := by
  unfold State.lnAccept
  extract_lets v0 v1 v2
  with_reducible apply Kept.ite
  · refine State.lnTaken_kept (maskSub rfl hw) ?_
    exact h
  · split
    · rename_i u3 u4
      refine State.raiseTenant_kept (maskSub rfl hw) ?_
      refine State.lnTaken_kept (maskSub rfl hw) ?_
      exact h
    · rename_i u5 u6 u7
      extract_lets v8 v9
      have hv8 : Kept w s0 v8 := by
        unfold v8
        refine State.lnStore_kept (maskSub rfl hw) ?_
        exact h
      clear_value v8
      have hv9 : Kept w s0 v9 := by
        unfold v9
        clear_value *
        split
        · rename_i u10
          with_reducible assumption
        · rename_i u11 u12
          refine State.modLn_kept (maskSub rfl hw) ?_
          refine State.ps_kept (maskSub rfl hw) ?_
          with_reducible assumption
      clear_value v9
      refine State.lnTaken_kept (maskSub rfl hw) ?_
      with_reducible assumption

theorem State.lnSecureRx_kept {w : Nat} {s0 x : State} {f : LineFrame} {bits : List Bool}
    (hw : 0x20000000000000000022000000000000000000100 &&& w = 0x20000000000000000022000000000000000000100)
    (h : Kept w s0 x) :
    Kept w s0 (State.lnSecureRx x f bits) := by
  unfold State.lnSecureRx
  extract_lets v0 v1 v2 v3
  split
  · rename_i u4 u5
    refine State.lnTaken_kept (maskSub rfl hw) ?_
    exact h
  · rename_i u6 u7 u8
    with_reducible apply Kept.ite
    · refine State.lnTaken_kept (maskSub rfl hw) ?_
      exact h
    · with_reducible apply Kept.ite
      · refine State.lnTaken_kept (maskSub rfl hw) ?_
        exact h
      · with_reducible apply Kept.ite
        · refine State.lnAccept_kept (maskSub rfl hw) ?_
          refine State.p_kept (maskSub rfl hw) ?_
          exact h
        · refine State.lnTaken_kept (maskSub rfl hw) ?_
          exact h

theorem State.lnSection_kept {w : Nat} {s0 x : State} {f : LineFrame} {bits : List Bool}
    (hw : 0x20000000000000000022000000000000000000100 &&& w = 0x20000000000000000022000000000000000000100)
    (h : Kept w s0 x) :
    Kept w s0 (State.lnSection x f bits) := by
  unfold State.lnSection
  extract_lets v0 v1
  with_reducible apply Kept.ite
  · refine State.lnTaken_kept (maskSub rfl hw) ?_
    exact h
  · with_reducible apply Kept.ite
    · refine State.lnTaken_kept (maskSub rfl hw) ?_
      exact h
    · with_reducible apply Kept.ite
      · refine State.lnTaken_kept (maskSub rfl hw) ?_
        exact h
      · with_reducible apply Kept.ite
        · refine State.lnSecureRx_kept (maskSub rfl hw) ?_
          exact h
        · refine State.lnAccept_kept (maskSub rfl hw) ?_
          exact h

theorem execLineFrameRx_kept {w : Nat} {s0 x : State} {bits : List Bool}
    (hw : 0x20000000000000000022000000000000000000100 &&& w = 0x20000000000000000022000000000000000000100)
    (h : Kept w s0 x) :
    KeptO w s0 (execLineFrameRx bits x) := by
  unfold execLineFrameRx
  split
  · rename_i u0 u1
    refine KeptO.next ?_
    exact h
  · rename_i u2 u3 u4
    refine KeptO.next ?_
    refine State.lnSection_kept (maskSub rfl hw) ?_
    refine State.toHalfIndex_kept (maskSub rfl hw) ?_
    exact h

theorem execLineAckTx_kept {w : Nat} {s0 x : State} (hw : 256 &&& w = 256) (h : Kept w s0 x) :
    KeptO w s0 (execLineAckTx x) := by
  unfold execLineAckTx
  split
  · rename_i u0 u1
    refine KeptO.next ?_
    exact h
  · rename_i u2 u3 u4
    extract_lets v5
    have hv5 : Kept w s0 v5 := by
      unfold v5
      refine State.toHalfIndex_kept (maskSub rfl hw) ?_
      exact h
    clear_value v5
    with_reducible apply KeptO.ite
    · with_reducible apply KeptO.ite
      · refine KeptO.next ?_
        with_reducible assumption
      · refine KeptO.next ?_
        refine State.modLn_kept (maskSub rfl hw) ?_
        with_reducible assumption
    · refine KeptO.next ?_
      exact h

theorem State.lnCommitRx_kept {w : Nat} {s0 x : State} {e : Nat} {w_ : Word}
    (hw : 0x20000000000000000000100 &&& w = 0x20000000000000000000100) (h : Kept w s0 x) :
    Kept w s0 (State.lnCommitRx x e w_).2 := by
  unfold State.lnCommitRx
  extract_lets v0
  with_reducible apply Kept.ite2
  · with_reducible apply Kept.ite2
    · dsimp only
      refine State.lnFreeBuf_kept (maskSub rfl hw) ?_
      exact h
    · exact h
  · exact h

theorem execLineRelayCopy_kept {w : Nat} {s0 x : State} {tiers : Fin 4} {pw : Option (Fin 4)}
    {slots : List (Fin 16 × Fin 8)} (hw : 256 &&& w = 256) (h : Kept w s0 x) :
    KeptO w s0 (execLineRelayCopy tiers pw slots x) := by
  unfold execLineRelayCopy
  extract_lets v0 v1 v2 v3 v4 v5 v6 v7 v8 v9 v10
  have hv0 : Kept w s0 v0 := by
    unfold v0
    refine State.toHalf_kept (maskSub rfl hw) ?_
    exact h
  clear_value v0
  have hv10 : Kept w s0 v10 := by
    unfold v10
    split
    · rename_i u11
      with_reducible assumption
    · rename_i u12 u13
      with_reducible apply Kept.ite
      · refine State.lnBursts_kept (maskSub rfl hw) ?_
        with_reducible assumption
      · with_reducible assumption
  clear_value v10
  with_reducible apply KeptO.ite
  · refine KeptO.next ?_
    refine State.modLn_kept (maskSub rfl hw) ?_
    with_reducible assumption
  · refine KeptO.next ?_
    with_reducible assumption

theorem execBeaconQueue_kept {w : Nat} {s0 x : State} (hw : 256 &&& w = 256) (h : Kept w s0 x) :
    KeptO w s0 (execBeaconQueue x) := by
  unfold execBeaconQueue
  extract_lets v0 v1
  have hv0 : Kept w s0 v0 := by
    unfold v0
    refine State.toBeacon_kept (maskSub rfl hw) ?_
    exact h
  clear_value v0
  have hv1 : Kept w s0 v1 := by
    unfold v1
    refine State.modLn_kept (maskSub rfl hw) ?_
    with_reducible assumption
  clear_value v1
  with_reducible apply KeptO.ite
  · refine KeptO.next ?_
    refine State.modLn_kept (maskSub rfl hw) ?_
    with_reducible assumption
  · refine KeptO.next ?_
    with_reducible assumption

theorem execBeaconRx_kept {w : Nat} {s0 x : State} {bits : List Bool} {t : Fin 4} {ago : Nat}
    (hw : 0x30000000300000000080002000000000000000180 &&& w = 0x30000000300000000080002000000000000000180)
    (h : Kept w s0 x) :
    KeptO w s0 (execBeaconRx bits t ago x) := by
  unfold execBeaconRx
  split
  · rename_i u0 u1
    refine KeptO.next ?_
    exact h
  · rename_i u2 u3 u4 u5
    extract_lets v6 v7 v8 v9 v10
    have hv8 : Kept w s0 v8 := by
      unfold v8
      refine State.lnTaken_kept (maskSub rfl hw) ?_
      exact h
    clear_value v8
    have hv9 : Kept w s0 v9 := by
      unfold v9
      with_reducible apply Kept.ite
      · refine State.modLn_kept (maskSub rfl hw) ?_
        with_reducible assumption
      · with_reducible assumption
    clear_value v9
    have hv10 : Kept w s0 v10 := by
      unfold v10
      refine State.gyBeacon_kept (maskSub rfl hw) ?_
      with_reducible assumption
    clear_value v10
    with_reducible apply KeptO.ite
    · refine KeptO.next ?_
      with_reducible assumption
    · refine KeptO.next ?_
      with_reducible apply Kept.ite
      · refine State.lnPropose_kept (maskSub rfl hw) ?_
        with_reducible assumption
      · with_reducible assumption

theorem execNbrMap_kept {w : Nat} {s0 x : State} {bits : List Bool}
    (hw : 0x20000000000000000802000000000000000000300 &&& w = 0x20000000000000000802000000000000000000300)
    (h : Kept w s0 x) :
    KeptO w s0 (execNbrMap bits x) := by
  unfold execNbrMap
  split
  · rename_i u0 u1
    refine KeptO.next ?_
    exact h
  · rename_i u2 u3 u4 u5
    refine KeptO.next ?_
    refine State.nbrStore_kept (maskSub rfl hw) ?_
    refine State.lnTaken_kept (maskSub rfl hw) ?_
    exact h

theorem execDormantProposeRx_kept {w : Nat} {s0 x : State} {bits : List Bool}
    (hw : 0x20000000200000000080000000000000000000100 &&& w = 0x20000000200000000080000000000000000000100)
    (h : Kept w s0 x) :
    KeptO w s0 (execDormantProposeRx bits x) := by
  unfold execDormantProposeRx
  split
  · rename_i u0 u1
    refine KeptO.next ?_
    exact h
  · rename_i u2 u3 u4 u5
    extract_lets v6 v7
    have hv7 : Kept w s0 v7 := by
      unfold v7
      refine State.lnTaken_kept (maskSub rfl hw) ?_
      exact h
    clear_value v7
    refine KeptO.next ?_
    with_reducible apply Kept.ite
    · refine State.lnPropose_kept (maskSub rfl hw) ?_
      with_reducible assumption
    · with_reducible assumption

theorem execCancelRx_kept {w : Nat} {s0 x : State} {bits : List Bool}
    (hw : 0x20000000200000000080000000000000000000100 &&& w = 0x20000000200000000080000000000000000000100)
    (h : Kept w s0 x) :
    KeptO w s0 (execCancelRx bits x) := by
  unfold execCancelRx
  split
  · rename_i u0 u1
    refine KeptO.next ?_
    exact h
  · rename_i u2 u3 u4 u5
    extract_lets v6 v7 v8
    have hv7 : Kept w s0 v7 := by
      unfold v7
      refine State.lnTaken_kept (maskSub rfl hw) ?_
      exact h
    clear_value v7
    have hv8 : Kept w s0 v8 := by
      unfold v8
      refine State.modLn_kept (maskSub rfl hw) ?_
      with_reducible assumption
    clear_value v8
    with_reducible apply KeptO.ite
    · refine KeptO.next ?_
      with_reducible apply Kept.ite
      · refine State.lnDropCommit_kept (maskSub rfl hw) ?_
        with_reducible assumption
      · with_reducible assumption
    · refine KeptO.next ?_
      with_reducible assumption

theorem execDormantCommit_kept {w : Nat} {s0 x : State}
    (hw : 0x20000000200000000080000000000000000000100 &&& w = 0x20000000200000000080000000000000000000100)
    (h : Kept w s0 x) :
    KeptO w s0 (execDormantCommit x) := by
  unfold execDormantCommit
  split
  · rename_i u0 u1
    refine KeptO.next ?_
    exact h
  · rename_i u2 u3 u4
    extract_lets v5 v6 v7
    have hv5 : Kept w s0 v5 := by
      unfold v5
      refine State.toHalfIndex_kept (maskSub rfl hw) ?_
      exact h
    clear_value v5
    have hv7 : Kept w s0 v7 := by
      unfold v7
      refine State.modLn_kept (maskSub rfl hw) ?_
      with_reducible assumption
    clear_value v7
    with_reducible apply KeptO.ite
    · refine KeptO.next ?_
      with_reducible assumption
    · with_reducible apply KeptO.ite
      · refine KeptO.next ?_
        refine State.lnDropCommit_kept (maskSub rfl hw) ?_
        refine State.modLn_kept (maskSub rfl hw) ?_
        with_reducible assumption
      · refine KeptO.next ?_
        refine State.lnWatch_kept (maskSub rfl hw) ?_
        with_reducible assumption

theorem execWakeDetect_kept {w : Nat} {s0 x : State} {n : Nat}
    (hw : 0x20000000200000000080000000000000000000100 &&& w = 0x20000000200000000080000000000000000000100)
    (h : Kept w s0 x) :
    KeptO w s0 (execWakeDetect n x) := by
  unfold execWakeDetect
  extract_lets v0
  have hv0 : Kept w s0 v0 := by
    unfold v0
    refine State.bump_kept (maskSub rfl hw) ?_
    refine State.toHalf_kept (maskSub rfl hw) ?_
    exact h
  clear_value v0
  with_reducible apply KeptO.ite
  · refine KeptO.next ?_
    exact h
  · with_reducible apply KeptO.ite
    · refine KeptO.next ?_
      refine State.lnWoken_kept (maskSub rfl hw) ?_
      with_reducible assumption
    · with_reducible apply KeptO.ite
      · refine KeptO.next ?_
        refine State.lnDropCommit_kept (maskSub rfl hw) ?_
        with_reducible assumption
      · refine KeptO.next ?_
        with_reducible assumption

theorem State.lnApplyCfg_kept {w : Nat} {s0 x : State}
    (hw : 0x30000000200000000000004000000000000000180 &&& w = 0x30000000200000000000004000000000000000180)
    (h : Kept w s0 x) :
    Kept w s0 (State.lnApplyCfg x) := by
  unfold State.lnApplyCfg
  extract_lets v0 v1 v2 v3 v4
  have hv2 : Kept w s0 v2 := by
    unfold v2
    refine State.modLn_kept (maskSub rfl hw) ?_
    exact h
  clear_value v2
  have hv3 : Kept w s0 v3 := by
    unfold v3
    with_reducible apply Kept.ite
    · refine State.modLn_kept (maskSub rfl hw) ?_
      with_reducible assumption
    · with_reducible assumption
  clear_value v3
  have hv4 : Kept w s0 v4 := by
    unfold v4
    with_reducible apply Kept.ite
    · refine State.lnSlotWindows_kept (maskSub rfl hw) ?_
      with_reducible assumption
    · with_reducible assumption
  clear_value v4
  with_reducible apply Kept.ite
  · exact h
  · refine State.gyMasterTime_kept (maskSub rfl hw) ?_
    with_reducible apply Kept.ite
    · refine State.lnSetSub_kept (maskSub rfl hw) ?_
      with_reducible assumption
    · with_reducible assumption

theorem execLaCfgApply_kept {w : Nat} {s0 x : State}
    (hw : 0x30000000200000000000004000000000000000180 &&& w = 0x30000000200000000000004000000000000000180)
    (h : Kept w s0 x) :
    KeptO w s0 (execLaCfgApply x) := by
  unfold execLaCfgApply
  refine KeptO.next ?_
  refine State.lnApplyCfg_kept (maskSub rfl hw) ?_
  refine State.toHalf_kept (maskSub rfl hw) ?_
  exact h

theorem execBucketRefill_kept {w : Nat} {s0 x : State}
    (hw : 0x4000000000000000000000 &&& w = 0x4000000000000000000000) (h : Kept w s0 x) :
    KeptO w s0 (execBucketRefill x) := by
  unfold execBucketRefill
  refine KeptO.next ?_
  refine Kept.foldl ?_ ?_
  · intro i0 i1 i2
    refine State.p_kept (maskSub rfl hw) ?_
    with_reducible assumption
  · refine State.toBeacon_kept (maskSub rfl hw) ?_
    exact h

theorem execAlarmCredit_kept {w : Nat} {s0 x : State} (hw : 256 &&& w = 256) (h : Kept w s0 x) :
    KeptO w s0 (execAlarmCredit x) := by
  unfold execAlarmCredit
  extract_lets v0 v1
  have hv1 : Kept w s0 v1 := by
    unfold v1
    refine State.advance_kept ?_
    exact h
  clear_value v1
  with_reducible apply KeptO.ite
  · refine KeptO.next ?_
    exact h
  · refine KeptO.next ?_
    refine State.modLn_kept (maskSub rfl hw) ?_
    with_reducible assumption

theorem State.lnWakeTone_kept {w : Nat} {s0 x : State}
    (hw : 0x20000000200000000080000000000000000000100 &&& w = 0x20000000200000000080000000000000000000100)
    (h : Kept w s0 x) :
    Kept w s0 (State.lnWakeTone x) := by
  unfold State.lnWakeTone
  extract_lets v0
  have hv0 : Kept w s0 v0 := by
    unfold v0
    refine State.lnWoken_kept (maskSub rfl hw) ?_
    exact h
  clear_value v0
  with_reducible apply Kept.ite
  · exact h
  · refine State.modLn_kept (maskSub rfl hw) ?_
    with_reducible assumption

theorem State.lnResume_kept {w : Nat} {s0 x : State}
    (hw : 0x20000000200000000040000000000000000000100 &&& w = 0x20000000200000000040000000000000000000100)
    (h : Kept w s0 x) :
    Kept w s0 (State.lnResume x) := by
  unfold State.lnResume
  extract_lets v0 v1 v2
  have hv1 : Kept w s0 v1 := by
    unfold v1
    refine State.modLn_kept (maskSub rfl hw) ?_
    exact h
  clear_value v1
  have hv2 : Kept w s0 v2 := by
    unfold v2
    refine State.ps_kept (maskSub rfl hw) ?_
    with_reducible assumption
  clear_value v2
  with_reducible apply Kept.ite
  · exact h
  · refine State.raiseCommon_kept (maskSub rfl hw) ?_
    refine State.lnSetSub_kept (maskSub rfl hw) ?_
    with_reducible assumption

theorem State.lnDemote_kept {w : Nat} {s0 x : State}
    (hw : 0x30000000200000000001000000000000000000180 &&& w = 0x30000000200000000001000000000000000000180)
    (h : Kept w s0 x) :
    Kept w s0 (State.lnDemote x) := by
  unfold State.lnDemote
  extract_lets v0
  have hv0 : Kept w s0 v0 := by
    unfold v0
    refine State.modLn_kept (maskSub rfl hw) ?_
    refine State.p_kept (maskSub rfl hw) ?_
    exact h
  clear_value v0
  split
  · rename_i u1 u2
    exact h
  · rename_i u3 u4 u5
    refine State.gyMasterTime_kept (maskSub rfl hw) ?_
    refine State.raiseCommon_kept (maskSub rfl hw) ?_
    refine State.lnSetSub_kept (maskSub rfl hw) ?_
    with_reducible assumption

theorem State.lnHalf_kept {w : Nat} {s0 x : State}
    (hw : 0x300000002000000000cd000000000000000000180 &&& w = 0x300000002000000000cd000000000000000000180)
    (h : Kept w s0 x) :
    Kept w s0 (State.lnHalf x) := by
  unfold State.lnHalf
  extract_lets v0 v1 v2 v3 v4
  have hv0 : Kept w s0 v0 := by
    unfold v0
    refine State.modLn_kept (maskSub rfl hw) ?_
    exact h
  clear_value v0
  have hv1 : Kept w s0 v1 := by
    unfold v1
    split
    · rename_i u5 u6 u7
      with_reducible apply Kept.ite
      · refine State.modLn_kept (maskSub rfl hw) ?_
        with_reducible assumption
      · with_reducible assumption
    · rename_i u8 u9
      with_reducible assumption
  clear_value v1
  have hv2 : Kept w s0 v2 := by
    unfold v2
    refine State.lnDemote_kept (maskSub rfl hw) ?_
    refine State.lnResume_kept (maskSub rfl hw) ?_
    with_reducible assumption
  clear_value v2
  have hv3 : Kept w s0 v3 := by
    unfold v3
    with_reducible apply Kept.ite
    · refine State.lnHostless_kept (maskSub rfl hw) ?_
      with_reducible assumption
    · with_reducible apply Kept.ite
      · refine State.lnHostless_kept (maskSub rfl hw) ?_
        with_reducible assumption
      · with_reducible assumption
  clear_value v3
  have hv4 : Kept w s0 v4 := by
    unfold v4
    with_reducible apply Kept.ite
    · refine Kept.foldl ?_ ?_
      · intro i10 i11 i12
        with_reducible apply Kept.ite
        · refine State.lnDrop_kept (maskSub rfl hw) ?_
          with_reducible assumption
        · with_reducible assumption
      · with_reducible assumption
    · with_reducible assumption
  clear_value v4
  with_reducible apply Kept.ite
  · with_reducible assumption
  · refine State.lnWakeTone_kept (maskSub rfl hw) ?_
    with_reducible assumption

theorem State.lnCommitCfg_kept {w : Nat} {s0 x : State} {w_ : Word}
    (hw : 0x1000000000000000000100 &&& w = 0x1000000000000000000100) (h : Kept w s0 x) :
    Kept w s0 (State.lnCommitCfg x w_).2 := by
  unfold State.lnCommitCfg
  extract_lets v0 v1 v2 v3 v4
  with_reducible apply Kept.ite2
  · exact h
  · dsimp only
    refine State.modLn_kept (maskSub rfl hw) ?_
    refine State.wr_kept (maskSub rfl hw) ?_
    exact h

theorem State.lnCommitNbr_kept {w : Nat} {s0 x : State} {e : Nat} {w_ : Word}
    (hw : 0x802000000000000000000200 &&& w = 0x802000000000000000000200) (h : Kept w s0 x) :
    Kept w s0 (State.lnCommitNbr x e w_).2 := by
  unfold State.lnCommitNbr
  extract_lets v0 v1 v2 v3 v4
  have hv3 : Kept w s0 v3 := by
    unfold v3
    refine State.wr_kept (maskSub rfl hw) ?_
    exact h
  clear_value v3
  have hv4 : Kept w s0 v4 := by
    unfold v4
    refine State.nbrClear_kept (maskSub rfl hw) ?_
    with_reducible assumption
  clear_value v4
  with_reducible apply Kept.ite2
  · exact h
  · with_reducible apply Kept.ite2
    · dsimp only
      with_reducible apply Kept.ite
      · with_reducible assumption
      · refine State.modLl_kept (maskSub rfl hw) ?_
        with_reducible assumption
    · with_reducible assumption

theorem State.lnCommitTenant_kept {w : Nat} {s0 x : State} {t e : Nat} {w_ : Word}
    (hw : 0x4000000000000000000000 &&& w = 0x4000000000000000000000) (h : Kept w s0 x) :
    Kept w s0 (State.lnCommitTenant x t e w_).2 := by
  unfold State.lnCommitTenant
  extract_lets v0 v1
  have hv1 : Kept w s0 v1 := by
    unfold v1
    refine State.wr_kept (maskSub rfl hw) ?_
    exact h
  clear_value v1
  with_reducible apply Kept.ite2
  · exact h
  · with_reducible apply Kept.ite2
    · exact h
    · dsimp only
      refine State.p_kept (maskSub rfl hw) ?_
      with_reducible assumption

theorem State.lnUnitCmd_kept {w : Nat} {s0 x : State} {cmd arg : Nat}
    (hw : 0x20000000200000000080000000000000000000100 &&& w = 0x20000000200000000080000000000000000000100)
    (h : Kept w s0 x) :
    Kept w s0 (State.lnUnitCmd x cmd arg).2 := by
  unfold State.lnUnitCmd
  extract_lets v0 v1 v2 v3 v4
  have hv4 : Kept w s0 v4 := by
    unfold v4
    refine State.modLn_kept (maskSub rfl hw) ?_
    exact h
  clear_value v4
  with_reducible apply Kept.ite2
  · with_reducible apply Kept.ite2
    · dsimp only
      refine State.modLn_kept (maskSub rfl hw) ?_
      exact h
    · exact h
  · with_reducible apply Kept.ite2
    · with_reducible apply Kept.ite2
      · dsimp only
        refine State.lnPropose_kept (maskSub rfl hw) ?_
        with_reducible assumption
      · exact h
    · with_reducible apply Kept.ite2
      · with_reducible apply Kept.ite2
        · dsimp only
          refine State.lnWakeRequest_kept (maskSub rfl hw) ?_
          exact h
        · exact h
      · exact h

theorem State.lnForce_kept {w : Nat} {s0 x : State} {arg : Nat}
    (hw : 0x20000000200000000080000000000000000000100 &&& w = 0x20000000200000000080000000000000000000100)
    (h : Kept w s0 x) :
    Kept w s0 (State.lnForce x arg) := by
  unfold State.lnForce
  extract_lets v0
  have hv0 : Kept w s0 v0 := by
    unfold v0
    refine State.changeMirror_kept (maskSub rfl hw) (maskSub rfl hw) ?_
    exact h
  clear_value v0
  with_reducible apply Kept.ite
  · refine State.lnWatch_kept (maskSub rfl hw) ?_
    with_reducible assumption
  · refine State.lnWoken_kept (maskSub rfl hw) ?_
    with_reducible assumption

theorem State.lnStart_kept {w : Nat} {s0 x : State}
    (hw : 0x20000000200000000f0cd0c040000000000000380 &&& w = 0x20000000200000000f0cd0c040000000000000380)
    (h : Kept w s0 x) :
    Kept w s0 (State.lnStart x) := by
  unfold State.lnStart
  extract_lets v0 v1 v2
  have hv0 : Kept w s0 v0 := by
    unfold v0
    refine State.p_kept (maskSub rfl hw) ?_
    exact h
  clear_value v0
  have hv1 : Kept w s0 v1 := by
    unfold v1
    refine State.modLn_kept (maskSub rfl hw) ?_
    refine State.llStart_kept (maskSub rfl hw) ?_
    refine State.lnWindows_kept (maskSub rfl hw) ?_
    with_reducible assumption
  clear_value v1
  have hv2 : Kept w s0 v2 := by
    unfold v2
    refine Kept.foldl ?_ ?_
    · intro i3 i4 i5
      refine State.p_kept (maskSub rfl hw) ?_
      with_reducible assumption
    · with_reducible assumption
  clear_value v2
  with_reducible apply Kept.ite
  · with_reducible assumption
  · with_reducible apply Kept.ite
    · refine State.ascDrop_kept (maskSub rfl hw) ?_
      refine State.goFault_kept (maskSub rfl hw) (maskSub rfl hw) (maskSub rfl hw) ?_ ?_
      · intro i6 i7 i8
        refine State.lnEndAll_kept (maskSub rfl hw) ?_
        with_reducible assumption
      · with_reducible assumption
    · refine State.goOn_kept (maskSub rfl hw) (maskSub rfl hw) ?_
      with_reducible assumption

theorem State.lnOut_kept {w : Nat} {s0 x : State}
    (hw : 0x880104000000000000000300 &&& w = 0x880104000000000000000300) (h : Kept w s0 x) :
    Kept w s0 (State.lnOut x) := by
  unfold State.lnOut
  extract_lets v0
  have hv0 : Kept w s0 v0 := by
    unfold v0
    refine State.modLn_kept (maskSub rfl hw) ?_
    exact h
  clear_value v0
  refine State.llStop_kept (maskSub rfl hw) ?_
  refine State.ascDrop_kept (maskSub rfl hw) ?_
  refine State.p_kept (maskSub rfl hw) ?_
  with_reducible assumption

theorem LlRun.stat_kept {w : Nat} {s0 : State} {r : LlRun} {a t e b v : Nat} (hw : tabMask t &&& w = tabMask t)
    (h : Kept w s0 r.s) : Kept w s0 (r.stat a t e b v).s := by
  unfold LlRun.stat
  exact State.wr_kept hw h

theorem LlRun.foldl_kept {α : Type} {w : Nat} {s0 : State} {f : LlRun → α → LlRun} {l : List α} {r : LlRun}
    (hf : ∀ r a, Kept w s0 r.s → Kept w s0 (f r a).s) (h : Kept w s0 r.s) : Kept w s0 (l.foldl f r).s := by
  induction l generalizing r with
  | nil => exact h
  | cons a t ih => exact ih (hf r a h)

theorem LlRun.access_kept {w : Nat} {s0 : State} {r : LlRun} {x : Sample}
    (hw : 0x400000000000000000000000 &&& w = 0x400000000000000000000000) 
    (h : Kept w s0 r.s) : Kept w s0 (r.access x).s := by
  unfold LlRun.access
  extract_lets e ash a b
  have ha : Kept w s0 a.s := LlRun.foldl_kept (fun r i hr => by split; exacts [LlRun.stat_kept (maskSub rfl hw) hr, hr]) h
  clear_value a
  have hb : Kept w s0 b.s := by
    unfold b
    split
    · exact LlRun.stat_kept (maskSub rfl hw) ha
    · exact ha
  exact State.bumpSat_kept (maskSub rfl hw) hb

theorem LlRun.slot_kept {w : Nat} {s0 : State} {r : LlRun} {x : Sample}
    (hw : 0x700000000000000000000000 &&& w = 0x700000000000000000000000) 
    (h : Kept w s0 r.s) : Kept w s0 (r.slot x).s := by
  unfold LlRun.slot
  extract_lets e ash fed loud a b c d s
  have ha : Kept w s0 a.s := LlRun.foldl_kept (fun r t hr => LlRun.stat_kept (maskSub rfl hw) hr) h
  clear_value a
  have hb : Kept w s0 b.s := by unfold b; split; exacts [ha, LlRun.stat_kept (maskSub rfl hw) ha]
  clear_value b
  have hc : Kept w s0 c.s := by
    unfold c
    split
    · split
      · exact LlRun.stat_kept (maskSub rfl hw) hb
      · exact hb
    · exact hb
  clear_value c
  have hd : Kept w s0 d.s := by
    unfold d
    split
    · exact LlRun.stat_kept (maskSub rfl hw) hc
    · exact hc
  refine State.ps_kept (maskSub rfl hw) (?_ : Kept w s0 s)
  unfold s
  split
  · exact State.bumpSat_kept (maskSub rfl hw) hd
  · exact State.bumpSat_kept (maskSub rfl hw) hd

theorem State.llSamples_kept {w : Nat} {s0 x : State} {l : List Sample}
    (hw : 0x700000000000000000001000 &&& w = 0x700000000000000000001000) (h : Kept w s0 x) :
    Kept w s0 (x.llSamples l) := by
  unfold State.llSamples
  refine Kept.ite h ?_
  refine LlRun.foldl_kept (fun r y hr => ?_) (State.rngDraw_kept (maskSub rfl hw) h)
  split
  · split
    · exact LlRun.access_kept (maskSub rfl hw) hr
    · exact LlRun.slot_kept (maskSub rfl hw) hr
  · exact hr

end Sys2Proof.Machine
end

