-- ==== Sys2Proof/Laws/KeptUnits.lean ====
section
/-! SUPPORT. What each operation of the master serial port, the radio, the optical ports, the sensors and the loop keeps and leaves alone (`Kept`, Laws/Kept.lean). -/

namespace Sys2Proof.Machine

open Sys2Proof

theorem State.msEnd_kept {w : Nat} {s0 x : State} {q : Nat} {o : Oc}
    (hw : 0x2000000000080000020000000000000000000006400 &&& w = 0x2000000000080000020000000000000000000006400)
    (h : Kept w s0 x) :
    Kept w s0 (x.msEnd q o) := by
  unfold State.msEnd
  extract_lets e a b v c d
  have hb : Kept w s0 b := State.modMs_kept (maskSub rfl hw) (State.bump_kept (maskSub rfl hw) h)
  clear_value b
  have hc : Kept w s0 c := State.p_kept (maskSub rfl hw) hb
  have hd : Kept w s0 d := Kept.ite (Kept.ite (Kept.foldl (fun y i hy => Kept.ite (State.cjPut_kept (maskSub rfl hw) hy) hy) hc) hc) hb
  exact Kept.ite (State.modRc_kept (maskSub rfl hw) (State.wr_kept (maskSub rfl hw) hb)) (State.raiseDone_kept (maskSub rfl hw) (State.ps_kept (maskSub rfl hw) hd))

theorem State.msRelease_kept {w : Nat} {s0 x : State} (hw : 0xc040000000000002080 &&& w = 0xc040000000000002080)
    (h : Kept w s0 x) :
    Kept w s0 (State.msRelease x) := by
  unfold State.msRelease
  extract_lets v0 v1 v2 v3
  have hv0 : Kept w s0 v0 := by
    unfold v0
    refine State.advance_kept ?_
    exact h
  clear_value v0
  have hv3 : Kept w s0 v3 := by
    unfold v3
    split
    · rename_i u4 u5 u6
      refine State.freeClaim_kept (maskSub rfl hw) ?_
      with_reducible assumption
    · rename_i u7 u8
      with_reducible assumption
  clear_value v3
  refine State.modMs_kept (maskSub rfl hw) ?_
  with_reducible assumption

theorem State.msBreak_kept {w : Nat} {s0 x : State} {o : Oc}
    (hw : 0x200000000008000002000000c040000000000006480 &&& w = 0x200000000008000002000000c040000000000006480)
    (h : Kept w s0 x) :
    Kept w s0 (State.msBreak x o) := by
  unfold State.msBreak
  split
  · rename_i u0 u1
    exact h
  · rename_i u2 u3 u4 u5
    extract_lets v6 v7 v8
    have hv6 : Kept w s0 v6 := by
      unfold v6
      refine Kept.foldl ?_ ?_
      · intro i9 i10 i11
        refine State.msEnd_kept (maskSub rfl hw) ?_
        with_reducible assumption
      · refine State.msEnd_kept (maskSub rfl hw) ?_
        exact h
    clear_value v6
    have hv8 : Kept w s0 v8 := by
      unfold v8
      refine State.msRelease_kept (maskSub rfl hw) ?_
      with_reducible assumption
    clear_value v8
    with_reducible apply Kept.ite
    · refine State.modRc_kept (maskSub rfl hw) ?_
      with_reducible assumption
    · with_reducible assumption

theorem State.msStoreRx_kept {w : Nat} {s0 x : State} {q from_ : Nat} {atEnd : Bool}
    (hw : 0x20000000000000000000000400 &&& w = 0x20000000000000000000000400) (h : Kept w s0 x) :
    Kept w s0 (State.msStoreRx x q from_ atEnd) := by
  unfold State.msStoreRx
  extract_lets v0 v1 v2
  with_reducible apply Kept.ite
  · exact h
  · refine Kept.foldl ?_ ?_
    · intro i3 i4 i5
      with_reducible apply Kept.ite
      · with_reducible assumption
      · refine State.cjPut_kept (maskSub rfl hw) ?_
        with_reducible assumption
    · exact h

theorem State.msResult_kept {w : Nat} {s0 x : State} {q : Nat}
    (hw : 0x80000020000000000000000000004400 &&& w = 0x80000020000000000000000000004400) (h : Kept w s0 x) :
    Kept w s0 (State.msResult x q) := by
  unfold State.msResult
  extract_lets v0 v1
  with_reducible apply Kept.ite
  · with_reducible apply Kept.ite
    · with_reducible apply Kept.ite
      · refine State.modRc_kept (maskSub rfl hw) ?_
        exact h
      · exact h
    · refine State.msStoreRx_kept (maskSub rfl hw) ?_
      exact h
  · with_reducible apply Kept.ite
    · refine State.modRc_kept (maskSub rfl hw) ?_
      exact h
    · refine State.p_kept (maskSub rfl hw) ?_
      exact h

theorem State.msOpen_kept {w : Nat} {s0 x : State} {q : Nat}
    (hw : 0x80000000000000000000000000002000 &&& w = 0x80000000000000000000000000002000) (h : Kept w s0 x) :
    Kept w s0 (State.msOpen x q) := by
  unfold State.msOpen
  extract_lets v0 v1 v2 v3
  have hv1 : Kept w s0 v1 := by
    unfold v1
    refine State.ps_kept (maskSub rfl hw) ?_
    exact h
  clear_value v1
  have hv2 : Kept w s0 v2 := by
    unfold v2
    refine State.ps_kept (maskSub rfl hw) ?_
    with_reducible assumption
  clear_value v2
  have hv3 : Kept w s0 v3 := by
    unfold v3
    refine State.modMs_kept (maskSub rfl hw) ?_
    with_reducible assumption
  clear_value v3
  with_reducible apply Kept.ite
  · refine State.p_kept (maskSub rfl hw) ?_
    with_reducible assumption
  · with_reducible assumption

theorem State.msStart_kept {w : Nat} {s0 x : State}
    (hw : 0x2000000000080000020000000000000000000006400 &&& w = 0x2000000000080000020000000000000000000006400)
    (h : Kept w s0 x) :
    Kept w s0 (State.msStart x) := by
  unfold State.msStart
  with_reducible apply Kept.ite
  · exact h
  · split
    · rename_i u0 u1
      exact h
    · rename_i u2 u3 u4 u5
      extract_lets v6 v7 v8 v9
      have hv6 : Kept w s0 v6 := by
        unfold v6
        refine State.modMs_kept (maskSub rfl hw) ?_
        exact h
      clear_value v6
      have hv7 : Kept w s0 v7 := by
        unfold v7
        refine Kept.foldl ?_ ?_
        · intro i10 i11 i12
          refine State.msEnd_kept (maskSub rfl hw) ?_
          with_reducible assumption
        · refine State.msEnd_kept (maskSub rfl hw) ?_
          with_reducible assumption
      clear_value v7
      have hv9 : Kept w s0 v9 := by
        unfold v9
        refine State.msOpen_kept (maskSub rfl hw) ?_
        refine State.modMs_kept (maskSub rfl hw) ?_
        with_reducible assumption
      clear_value v9
      with_reducible apply Kept.ite
      · refine State.modMs_kept (maskSub rfl hw) ?_
        with_reducible assumption
      · refine State.modMs_kept (maskSub rfl hw) ?_
        with_reducible assumption

theorem State.msStretch_kept {w : Nat} {s0 x : State} {q wait : Nat}
    (hw : 0x80000000000000000000000000000000 &&& w = 0x80000000000000000000000000000000) (h : Kept w s0 x) :
    Kept w s0 (State.msStretch x q wait) := by
  unfold State.msStretch
  extract_lets v0
  have hv0 : Kept w s0 v0 := by
    unfold v0
    refine State.p_kept (maskSub rfl hw) ?_
    exact h
  clear_value v0
  refine State.p_kept (maskSub rfl hw) ?_
  with_reducible assumption

theorem State.msChunk_kept {w : Nat} {s0 x : State} {wait : Nat} {miso : List Bool}
    (hw : 0x40000000080000021000000000000000000002400 &&& w = 0x40000000080000021000000000000000000002400)
    (h : Kept w s0 x) :
    Kept w s0 (State.msChunk x wait miso) := by
  unfold State.msChunk
  extract_lets v0 v1 v2
  have hv2 : Kept w s0 v2 := by
    unfold v2
    refine State.advanceTo_kept (maskSub rfl hw) ?_
    exact h
  clear_value v2
  split
  · rename_i u3 u4
    exact h
  · rename_i u5 u6 u7 u8
    extract_lets v9 v10 v11 v12 v13 v14 v15 v16 v17 v18 v19
    have hv9 : Kept w s0 v9 := by
      unfold v9
      with_reducible apply Kept.ite
      · refine State.msStretch_kept (maskSub rfl hw) ?_
        with_reducible assumption
      · with_reducible assumption
    clear_value v9
    have hv15 : Kept w s0 v15 := by
      unfold v15
      with_reducible apply Kept.ite
      · refine State.modMs_kept (maskSub rfl hw) ?_
        refine State.cjDetect_kept (maskSub rfl hw) ?_
        with_reducible assumption
      · with_reducible assumption
    clear_value v15
    have hv18 : Kept w s0 v18 := by
      unfold v18
      refine State.advance_kept ?_
      with_reducible assumption
    clear_value v18
    have hv19 : Kept w s0 v19 := by
      unfold v19
      refine State.modMs_kept (maskSub rfl hw) ?_
      with_reducible assumption
    clear_value v19
    with_reducible apply Kept.ite
    · exact h
    · refine State.msStoreRx_kept (maskSub rfl hw) ?_
      refine State.p_kept (maskSub rfl hw) ?_
      with_reducible assumption

theorem State.msDone_kept {w : Nat} {s0 x : State}
    (hw : 0x200000000008000002000000c040000000000006480 &&& w = 0x200000000008000002000000c040000000000006480)
    (h : Kept w s0 x) :
    Kept w s0 (State.msDone x) := by
  unfold State.msDone
  split
  · rename_i u0 u1
    exact h
  · rename_i u2 u3 u4 u5
    extract_lets v6 v7
    have hv6 : Kept w s0 v6 := by
      unfold v6
      refine State.msEnd_kept (maskSub rfl hw) ?_
      refine State.msResult_kept (maskSub rfl hw) ?_
      exact h
    clear_value v6
    have hv7 : Kept w s0 v7 := by
      unfold v7
      refine State.msRelease_kept (maskSub rfl hw) ?_
      with_reducible assumption
    clear_value v7
    with_reducible apply Kept.ite
    · split
      · rename_i u8
        with_reducible apply Kept.ite
        · refine State.modRc_kept (maskSub rfl hw) ?_
          with_reducible assumption
        · with_reducible assumption
      · rename_i u9 u10 u11
        with_reducible apply Kept.ite
        · refine State.msBreak_kept (maskSub rfl hw) ?_
          refine State.modMs_kept (maskSub rfl hw) ?_
          with_reducible assumption
        · with_reducible apply Kept.ite
          · refine State.msBreak_kept (maskSub rfl hw) ?_
            refine State.modMs_kept (maskSub rfl hw) ?_
            with_reducible assumption
          · refine State.msOpen_kept (maskSub rfl hw) ?_
            refine State.modMs_kept (maskSub rfl hw) ?_
            with_reducible assumption
    · with_reducible apply Kept.ite
      · refine State.msBreak_kept (maskSub rfl hw) ?_
        exact h
      · with_reducible apply Kept.ite
        · refine State.msBreak_kept (maskSub rfl hw) ?_
          exact h
        · exact h

theorem State.msTimeout_kept {w : Nat} {s0 x : State}
    (hw : 0x200000000008000002000000c040000000000006480 &&& w = 0x200000000008000002000000c040000000000006480)
    (h : Kept w s0 x) :
    Kept w s0 (State.msTimeout x) := by
  unfold State.msTimeout
  extract_lets v0
  have hv0 : Kept w s0 v0 := by
    unfold v0
    refine State.advanceTo_kept (maskSub rfl hw) ?_
    exact h
  clear_value v0
  split
  · rename_i u1 u2
    exact h
  · rename_i u3 u4 u5 u6
    extract_lets v7 v8 v9
    have hv7 : Kept w s0 v7 := by
      unfold v7
      refine State.bump_kept (maskSub rfl hw) ?_
      refine State.msStretch_kept (maskSub rfl hw) ?_
      with_reducible assumption
    clear_value v7
    with_reducible apply Kept.ite
    · exact h
    · refine State.msBreak_kept (maskSub rfl hw) ?_
      refine State.raiseCommon_kept (maskSub rfl hw) ?_
      with_reducible assumption

theorem State.msSubmit_kept {w : Nat} {s0 x : State} {w_ : Word}
    (hw : 0x2000000000080000020000000000000000000006400 &&& w = 0x2000000000080000020000000000000000000006400)
    (h : Kept w s0 x) :
    Kept w s0 (State.msSubmit x w_).2 := by
  unfold State.msSubmit
  extract_lets v0 v1 v2 v3
  have hv1 : ∀ a0 a1 a2 a3 a4, Kept w s0 a0 → Kept w s0 (v1 a0 a1 a2 a3 a4) := by
    unfold v1
    intro i4 i5 i6 i7 i8 i9
    refine State.ps_kept (maskSub rfl hw) ?_
    refine State.wr_kept (maskSub rfl hw) ?_
    with_reducible assumption
  clear_value v1
  split
  · rename_i u10 u11
    dsimp only
    with_reducible apply hv1
    exact h
  · rename_i u12 u13 u14
    extract_lets v15 v16 v17 v18 v19
    have hv15 : Kept w s0 v15 := by
      unfold v15
      refine State.wr_kept (maskSub rfl hw) ?_
      refine State.wr_kept (maskSub rfl hw) ?_
      exact h
    clear_value v15
    have hv16 : Kept w s0 v16 := by
      unfold v16
      refine State.modMs_kept (maskSub rfl hw) ?_
      with_reducible assumption
    clear_value v16
    have hv17 : Kept w s0 v17 := by
      unfold v17
      refine State.msStart_kept (maskSub rfl hw) ?_
      with_reducible assumption
    clear_value v17
    have hv19 : Kept w s0 v19 := by
      unfold v19
      with_reducible apply Kept.ite
      · with_reducible assumption
      · refine State.p_kept (maskSub rfl hw) ?_
        with_reducible assumption
    clear_value v19
    with_reducible apply Kept.ite2
    · dsimp only
      with_reducible apply hv1
      with_reducible assumption
    · dsimp only
      with_reducible apply hv1
      exact h

theorem State.msDropChain_kept {w : Nat} {s0 x : State} {q : Nat} {o : Oc}
    (hw : 0x2000000000080000020000000000000000000006400 &&& w = 0x2000000000080000020000000000000000000006400)
    (h : Kept w s0 x) :
    Kept w s0 (State.msDropChain x q o) := by
  unfold State.msDropChain
  extract_lets v0 v1 v2
  have hv2 : Kept w s0 v2 := by
    unfold v2
    refine Kept.foldl ?_ ?_
    · intro i3 i4 i5
      refine State.msEnd_kept (maskSub rfl hw) ?_
      with_reducible assumption
    · exact h
  clear_value v2
  refine State.modMs_kept (maskSub rfl hw) ?_
  with_reducible assumption

theorem State.msCmd_kept {w : Nat} {s0 x : State} {q cmd : Nat}
    (hw : 0x2000000000080000020000000000000000000006400 &&& w = 0x2000000000080000020000000000000000000006400)
    (h : Kept w s0 x) :
    Kept w s0 (State.msCmd x q cmd).2 := by
  unfold State.msCmd
  extract_lets v0 v1 v2
  have hv2 : Kept w s0 v2 := by
    unfold v2
    refine Kept.foldl ?_ ?_
    · intro i3 i4 i5
      refine State.msEnd_kept (maskSub rfl hw) ?_
      with_reducible assumption
    · exact h
  clear_value v2
  with_reducible apply Kept.ite2
  · exact h
  · with_reducible apply Kept.ite2
    · exact h
    · with_reducible apply Kept.ite2
      · with_reducible apply Kept.ite2
        · dsimp only
          refine State.wr_kept (maskSub rfl hw) ?_
          refine State.wr_kept (maskSub rfl hw) ?_
          exact h
        · exact h
      · with_reducible apply Kept.ite2
        · with_reducible apply Kept.ite2
          · dsimp only
            refine State.msDropChain_kept (maskSub rfl hw) ?_
            exact h
          · dsimp only
            refine State.modMs_kept (maskSub rfl hw) ?_
            with_reducible assumption
        · with_reducible apply Kept.ite2
          · with_reducible apply Kept.ite2
            · dsimp only
              refine State.modMs_kept (maskSub rfl hw) ?_
              exact h
            · exact h
          · with_reducible apply Kept.ite2
            · split
              · rename_i u6 u7
                exact h
              · rename_i u8 u9
                exact h
            · exact h

theorem State.msCommit_kept {w : Nat} {s0 x : State} {e : Nat} {w_ : Word}
    (hw : 0x2000000000080000020000000000000000000006400 &&& w = 0x2000000000080000020000000000000000000006400)
    (h : Kept w s0 x) :
    Kept w s0 (State.msCommit x e w_).2 := by
  unfold State.msCommit
  extract_lets v0 v1 v2 v3 v4
  with_reducible apply Kept.ite2
  · with_reducible apply Kept.ite2
    · exact h
    · dsimp only
      refine State.wr_kept (maskSub rfl hw) ?_
      exact h
  · with_reducible apply Kept.ite2
    · with_reducible apply Kept.ite2
      · exact h
      · dsimp only
        refine State.wr_kept (maskSub rfl hw) ?_
        exact h
    · with_reducible apply Kept.ite2
      · refine State.msSubmit_kept (maskSub rfl hw) ?_
        exact h
      · with_reducible apply Kept.ite2
        · refine State.msCmd_kept (maskSub rfl hw) ?_
          exact h
        · exact h

theorem State.msPageGone_kept {w : Nat} {s0 x : State} {p : Nat} (hw : 0x2000 &&& w = 0x2000) (h : Kept w s0 x) :
    Kept w s0 (State.msPageGone x p) := by
  unfold State.msPageGone
  split
  · rename_i u0 u1 u2 u3
    extract_lets v4 v5
    with_reducible apply Kept.ite
    · refine State.modMs_kept (maskSub rfl hw) ?_
      exact h
    · exact h
  · rename_i u6 u7
    exact h

theorem State.msEndAll_kept {w : Nat} {s0 x : State} {o : Oc}
    (hw : 0x200000000008000002000000c040000000000006480 &&& w = 0x200000000008000002000000c040000000000006480)
    (h : Kept w s0 x) :
    Kept w s0 (State.msEndAll o x) := by
  unfold State.msEndAll
  extract_lets v0
  have hv0 : Kept w s0 v0 := by
    unfold v0
    refine Kept.foldl ?_ ?_
    · intro i1 i2 i3
      refine State.msEnd_kept (maskSub rfl hw) ?_
      with_reducible assumption
    · exact h
  clear_value v0
  with_reducible apply Kept.ite
  · refine State.modMs_kept (maskSub rfl hw) ?_
    with_reducible assumption
  · refine State.modMs_kept (maskSub rfl hw) ?_
    refine State.msBreak_kept (maskSub rfl hw) ?_
    with_reducible assumption

theorem State.msStopped_kept {w : Nat} {s0 x : State}
    (hw : 0x200000000008000002000000c040000000000006480 &&& w = 0x200000000008000002000000c040000000000006480)
    (h : Kept w s0 x) :
    Kept w s0 (State.msStopped x) := by
  unfold State.msStopped
  refine State.modMs_kept (maskSub rfl hw) ?_
  refine State.msBreak_kept (maskSub rfl hw) ?_
  exact h

theorem State.msStartUp_kept {w : Nat} {s0 x : State}
    (hw : 0x200000002008000002000000c040000000000006480 &&& w = 0x200000002008000002000000c040000000000006480)
    (h : Kept w s0 x) :
    Kept w s0 (State.msStartUp x) := by
  unfold State.msStartUp
  extract_lets v0
  with_reducible apply Kept.ite
  · refine State.goFault_kept (maskSub rfl hw) (maskSub rfl hw) (maskSub rfl hw) ?_ ?_
    · intro i1 i2 i3
      refine State.msEndAll_kept (maskSub rfl hw) ?_
      with_reducible assumption
    · exact h
  · refine State.goOn_kept (maskSub rfl hw) (maskSub rfl hw) ?_
    refine State.modMs_kept (maskSub rfl hw) ?_
    exact h

theorem State.msForce_kept {w : Nat} {s0 x : State} {arg : Nat}
    (hw : 0x2000000020000000000000000000000000000000000 &&& w = 0x2000000020000000000000000000000000000000000)
    (h : Kept w s0 x) :
    Kept w s0 (State.msForce x arg) := by
  unfold State.msForce
  refine State.changeMirror_kept (maskSub rfl hw) (maskSub rfl hw) ?_
  exact h

theorem State.rcShow_kept {w : Nat} {s0 x : State} {e b t : Nat}
    (hw : 0xffffffffffffffff0000000000000000 &&& w = 0xffffffffffffffff0000000000000000) (h : Kept w s0 x) :
    Kept w s0 (State.rcShow x e b t) := by
  unfold State.rcShow
  extract_lets v0 v1 v2
  have hv0 : Kept w s0 v0 := by
    unfold v0
    refine State.p_kept (maskSub rfl hw) ?_
    exact h
  clear_value v0
  have hv1 : Kept w s0 v1 := by
    unfold v1
    refine State.p_kept (maskSub rfl hw) ?_
    with_reducible assumption
  clear_value v1
  refine State.p_kept (maskSub (tabMask_all _) (maskSub rfl hw)) ?_
  with_reducible assumption

theorem State.rcCharge_kept {w : Nat} {s0 x : State} {e us : Nat} {who : Option Nat}
    (hw : 0xffffffffffffffff0000000000004000 &&& w = 0xffffffffffffffff0000000000004000) (h : Kept w s0 x) :
    Kept w s0 (State.rcCharge x e us who) := by
  unfold State.rcCharge
  extract_lets v0 v1
  have hv1 : Kept w s0 v1 := by
    unfold v1
    refine State.modRc_kept (maskSub rfl hw) ?_
    exact h
  clear_value v1
  refine State.rcShow_kept (maskSub rfl hw) ?_
  refine State.p_kept (maskSub rfl hw) ?_
  with_reducible assumption

theorem State.rcSetBit_kept {w : Nat} {s0 x : State} {i : Nat} {v : Bool}
    (hw : 0x100000001000000000000000000000000000000000 &&& w = 0x100000001000000000000000000000000000000000)
    (h : Kept w s0 x) :
    Kept w s0 (State.rcSetBit x i v) := by
  unfold State.rcSetBit
  extract_lets v0
  refine State.setSub_kept (maskSub rfl hw) (maskSub rfl hw) ?_
  exact h

theorem State.rcTransfer_kept {w : Nat} {s0 x : State} {l : List Nat}
    (hw : 0x2000000000080000020000000000000000000006400 &&& w = 0x2000000000080000020000000000000000000006400)
    (h : Kept w s0 x) :
    Kept w s0 (State.rcTransfer x l) := by
  unfold State.rcTransfer
  extract_lets v0 v1 v2
  have hv0 : Kept w s0 v0 := by
    unfold v0
    refine State.modRc_kept (maskSub rfl hw) ?_
    exact h
  clear_value v0
  have hv2 : Kept w s0 v2 := by
    unfold v2
    refine Kept.foldl ?_ ?_
    · intro i3 i4 i5
      refine State.wr_kept (maskSub rfl hw) ?_
      with_reducible assumption
    · with_reducible assumption
  clear_value v2
  with_reducible apply Kept.ite
  · refine State.modRc_kept (maskSub rfl hw) ?_
    with_reducible assumption
  · refine State.msStart_kept (maskSub rfl hw) ?_
    refine State.modMs_kept (maskSub rfl hw) ?_
    with_reducible assumption

theorem State.rcGo_kept {w : Nat} {s0 x : State} {n : Nat}
    (hw : 0x2000000000080000020000000000000000000006400 &&& w = 0x2000000000080000020000000000000000000006400)
    (h : Kept w s0 x) :
    Kept w s0 (State.rcGo n x).2 := by
  induction n generalizing x with
  | zero => exact h
  | succ n ih =>
    unfold State.rcGo
    extract_lets a v op r
    refine Kept.ite2 h (Kept.ite2 ?_ (Kept.ite2 (Kept.ite2 (ih (State.modRc_kept (maskSub rfl hw) h)) ?_) (Kept.ite2 ?_ (ih (State.modRc_kept (maskSub rfl hw) h)))))
    · dsimp only; exact State.rcTransfer_kept (maskSub rfl hw) (State.modRc_kept (maskSub rfl hw) h)
    · dsimp only; exact State.modRc_kept (maskSub rfl hw) h
    · dsimp only; exact State.modRc_kept (maskSub rfl hw) h

theorem State.rcEnded_kept {w : Nat} {s0 x : State} {c : Nat} (hw : 0x4000 &&& w = 0x4000) (h : Kept w s0 x) :
    Kept w s0 (State.rcEnded x c) := by
  unfold State.rcEnded
  with_reducible apply Kept.ite
  · refine State.modRc_kept (maskSub rfl hw) ?_
    exact h
  · with_reducible apply Kept.ite
    · refine State.modRc_kept (maskSub rfl hw) ?_
      exact h
    · with_reducible apply Kept.ite
      · refine State.modRc_kept (maskSub rfl hw) ?_
        exact h
      · exact h

theorem State.rcRun_kept {w : Nat} {s0 x : State} {n : Nat}
    (hw : 0x2000000000080000020000000000000000000006400 &&& w = 0x2000000000080000020000000000000000000006400)
    (h : Kept w s0 x) :
    Kept w s0 (State.rcRun n x) := by
  induction n generalizing x with
  | zero => exact h
  | succ n ih =>
    unfold State.rcRun
    split
    · exact Kept.ite (ih (State.rcEnded_kept (maskSub rfl hw) (State.modRc_kept (maskSub rfl hw) (State.rcGo_kept (maskSub rfl hw) h)))) (State.rcGo_kept (maskSub rfl hw) h)
    · split
      · exact h
      · exact Kept.ite (State.modRc_kept (maskSub rfl hw) h) (ih (State.modRc_kept (maskSub rfl hw) h))

theorem State.rcPlan_kept {w : Nat} {s0 x : State} {l : List Nat}
    (hw : 0x2000000000080000020000000000000000000006400 &&& w = 0x2000000000080000020000000000000000000006400)
    (h : Kept w s0 x) :
    Kept w s0 (State.rcPlan x l) := by
  unfold State.rcPlan
  extract_lets v0 v1
  have hv1 : Kept w s0 v1 := by
    unfold v1
    refine State.modRc_kept (maskSub rfl hw) ?_
    exact h
  clear_value v1
  with_reducible apply Kept.ite
  · refine State.rcRun_kept (maskSub rfl hw) ?_
    with_reducible assumption
  · with_reducible assumption

theorem State.rcListen_kept {w : Nat} {s0 x : State}
    (hw : 0x2000000000080000020000000000000000000006400 &&& w = 0x2000000000080000020000000000000000000006400)
    (h : Kept w s0 x) :
    Kept w s0 (State.rcListen x) := by
  unfold State.rcListen
  extract_lets v0
  with_reducible apply Kept.ite
  · refine State.rcPlan_kept (maskSub rfl hw) ?_
    refine State.modRc_kept (maskSub rfl hw) ?_
    exact h
  · refine State.rcPlan_kept (maskSub rfl hw) ?_
    exact h

theorem State.rcEndExchange_kept {w : Nat} {s0 x : State}
    (hw : 0x2000000000080000020000000000000000000006400 &&& w = 0x2000000000080000020000000000000000000006400)
    (h : Kept w s0 x) :
    Kept w s0 (State.rcEndExchange x) := by
  unfold State.rcEndExchange
  refine State.rcListen_kept (maskSub rfl hw) ?_
  refine State.modRc_kept (maskSub rfl hw) ?_
  exact h

theorem State.rcReset_kept {w : Nat} {s0 x : State} (hw : 0x4000 &&& w = 0x4000) (h : Kept w s0 x) :
    Kept w s0 (State.rcReset x) := by
  unfold State.rcReset
  refine State.modRc_kept (maskSub rfl hw) ?_
  exact h

theorem State.rcSend_kept {w : Nat} {s0 x : State} {bytes : List Nat} {kind tenant entry start : Nat}
    (hw : 0x2000000000080000020000000000000000000006400 &&& w = 0x2000000000080000020000000000000000000006400)
    (h : Kept w s0 x) :
    Kept w s0 (State.rcSend x bytes kind tenant entry start) := by
  unfold State.rcSend
  refine State.rcPlan_kept (maskSub rfl hw) ?_
  refine State.modRc_kept (maskSub rfl hw) ?_
  exact h

theorem State.rcSendDevice_kept {w : Nat} {s0 x : State} {bytes : List Nat} {start : Nat}
    (hw : 0x2000000000080010020000000000000000000006400 &&& w = 0x2000000000080010020000000000000000000006400)
    (h : Kept w s0 x) :
    Kept w s0 (State.rcSendDevice x bytes start).2 := by
  unfold State.rcSendDevice
  split
  · rename_i u0 u1 u2
    dsimp only
    refine State.bump_kept (maskSub rfl hw) ?_
    exact h
  · rename_i u3 u4
    dsimp only
    refine State.rcSend_kept (maskSub rfl hw) ?_
    exact h

theorem State.rcEnd_kept {w : Nat} {s0 x : State} {q : Nat} {o : Oc} {wait : Nat}
    (hw : 0x100000000000200000000000000000000000004000 &&& w = 0x100000000000200000000000000000000000004000)
    (h : Kept w s0 x) :
    Kept w s0 (State.rcEnd x q o wait) := by
  unfold State.rcEnd
  extract_lets v0 v1
  have hv1 : Kept w s0 v1 := by
    unfold v1
    refine State.modRc_kept (maskSub rfl hw) ?_
    exact h
  clear_value v1
  refine State.raiseDone_kept (maskSub rfl hw) ?_
  refine State.ps_kept (maskSub rfl hw) ?_
  with_reducible assumption

theorem State.rcEndAll_kept {w : Nat} {s0 x : State} {o : Oc}
    (hw : 0x100000000000200000000000000000000000004000 &&& w = 0x100000000000200000000000000000000000004000)
    (h : Kept w s0 x) :
    Kept w s0 (State.rcEndAll o x) := by
  unfold State.rcEndAll
  refine Kept.foldl ?_ ?_
  · intro i0 i1 i2
    with_reducible apply Kept.ite
    · refine State.rcEnd_kept (maskSub rfl hw) ?_
      with_reducible assumption
    · with_reducible assumption
  · exact h

theorem State.rcPick_kept {w : Nat} {s0 x : State} (hw : 0x4000 &&& w = 0x4000) (h : Kept w s0 x) :
    KeptP w s0 (State.rcPick x) := by
  unfold State.rcPick
  extract_lets v0 v1 v2 v3 v4
  with_reducible apply KeptP.ite
  · refine KeptP.map (fun z => ?_)
    dsimp only
    refine State.modRc_kept (maskSub rfl hw) ?_
    exact h
  · refine KeptP.map (fun z => ?_)
    extract_lets v5 v6 v7
    dsimp only
    refine State.modRc_kept (maskSub rfl hw) ?_
    exact h

theorem State.rcGrant_kept {w : Nat} {s0 x : State}
    (hw : 0x100000000000600000000000000000000000004000 &&& w = 0x100000000000600000000000000000000000004000)
    (h : Kept w s0 x) :
    Kept w s0 (State.rcGrant x) := by
  unfold State.rcGrant
  with_reducible apply Kept.ite
  · exact h
  · split
    · rename_i u0 u1
      exact h
    · rename_i u2 u3 u4 u5
      extract_lets v6
      have hv6 : Kept w s0 v6 := by
        unfold v6
        refine Kept.foldl ?_ ?_
        · intro i7 i8 i9
          refine State.wr_kept (maskSub rfl hw) ?_
          with_reducible assumption
        · refine KeptP.get ?_ u5
          refine State.rcPick_kept (maskSub rfl hw) ?_
          exact h
      clear_value v6
      split
      · rename_i u10 u11
        refine KeptP.get ?_ u5
        refine State.rcPick_kept (maskSub rfl hw) ?_
        exact h
      · rename_i u12 u13 u14
        extract_lets v15 v16
        have hv16 : Kept w s0 v16 := by
          unfold v16
          refine State.modRc_kept (maskSub rfl hw) ?_
          with_reducible assumption
        clear_value v16
        refine State.raiseTenant_kept (maskSub rfl hw) ?_
        refine State.ps_kept (maskSub rfl hw) ?_
        with_reducible assumption

theorem State.rcSubmit_kept {w : Nat} {s0 x : State} {t : Nat} {w_ : Word}
    (hw : 0x100000000000700000000000000000000000004000 &&& w = 0x100000000000700000000000000000000000004000)
    (h : Kept w s0 x) :
    Kept w s0 (State.rcSubmit x t w_).2 := by
  unfold State.rcSubmit
  extract_lets v0 v1 v2 v3 v4 v5 v6 v7 v8
  have hv4 : ∀ a0 a1 a2 a3 a4, Kept w s0 a0 → Kept w s0 (v4 a0 a1 a2 a3 a4) := by
    unfold v4
    intro i9 i10 i11 i12 i13 i14
    refine State.ps_kept (maskSub rfl hw) ?_
    refine State.wr_kept (maskSub rfl hw) ?_
    with_reducible assumption
  clear_value v4
  split
  · rename_i u15 u16
    dsimp only
    with_reducible apply hv4
    exact h
  · rename_i u17 u18 u19
    extract_lets v20 v21 v22 v23 v24
    have hv20 : Kept w s0 v20 := by
      unfold v20
      refine State.p_kept (maskSub rfl hw) ?_
      refine State.wr_kept (maskSub rfl hw) ?_
      exact h
    clear_value v20
    have hv21 : Kept w s0 v21 := by
      unfold v21
      refine State.modRc_kept (maskSub rfl hw) ?_
      with_reducible assumption
    clear_value v21
    have hv22 : Kept w s0 v22 := by
      unfold v22
      refine State.rcGrant_kept (maskSub rfl hw) ?_
      refine State.ps_kept (maskSub rfl hw) ?_
      with_reducible assumption
    clear_value v22
    have hv24 : Kept w s0 v24 := by
      unfold v24
      refine State.p_kept (maskSub rfl hw) ?_
      with_reducible assumption
    clear_value v24
    with_reducible apply Kept.ite2
    · dsimp only
      with_reducible apply hv4
      with_reducible assumption
    · dsimp only
      with_reducible apply hv4
      exact h

theorem State.rcCmd_kept {w : Nat} {s0 x : State} {t q cmd : Nat}
    (hw : 0x100000000000200000000000000000000000004000 &&& w = 0x100000000000200000000000000000000000004000)
    (h : Kept w s0 x) :
    Kept w s0 (State.rcCmd x t q cmd).2 := by
  unfold State.rcCmd
  extract_lets v0
  with_reducible apply Kept.ite2
  · exact h
  · with_reducible apply Kept.ite2
    · exact h
    · with_reducible apply Kept.ite2
      · exact h
      · with_reducible apply Kept.ite2
        · with_reducible apply Kept.ite2
          · dsimp only
            refine State.modRc_kept (maskSub rfl hw) ?_
            refine State.wr_kept (maskSub rfl hw) ?_
            exact h
          · exact h
        · with_reducible apply Kept.ite2
          · exact h
          · with_reducible apply Kept.ite2
            · dsimp only
              refine State.rcEnd_kept (maskSub rfl hw) ?_
              exact h
            · with_reducible apply Kept.ite2
              · exact h
              · split
                · rename_i u1 u2
                  with_reducible apply Kept.ite2
                  · dsimp only
                    refine State.rcEnd_kept (maskSub rfl hw) ?_
                    refine State.withdraw_kept (maskSub rfl hw) ?_
                    exact h
                  · exact h
                · rename_i u3 u4
                  exact h
                · rename_i u5 u6
                  exact h

theorem State.rcCommitTxq_kept {w : Nat} {s0 x : State} {t e : Nat} {w_ : Word}
    (hw : 0x100000000000700000000000000000000000004000 &&& w = 0x100000000000700000000000000000000000004000)
    (h : Kept w s0 x) :
    Kept w s0 (State.rcCommitTxq x t e w_).2 := by
  unfold State.rcCommitTxq
  with_reducible apply Kept.ite2
  · refine State.rcSubmit_kept (maskSub rfl hw) ?_
    exact h
  · refine State.rcCmd_kept (maskSub rfl hw) ?_
    exact h

theorem State.rcFreeBuf_kept {w : Nat} {s0 x : State} {b : Nat}
    (hw : 0x400000000000000000000000004000 &&& w = 0x400000000000000000000000004000) (h : Kept w s0 x) :
    Kept w s0 (State.rcFreeBuf x b) := by
  unfold State.rcFreeBuf
  extract_lets v0
  have hv0 : Kept w s0 v0 := by
    unfold v0
    refine Kept.foldl ?_ ?_
    · intro i1 i2 i3
      refine State.wr_kept (maskSub rfl hw) ?_
      with_reducible assumption
    · exact h
  clear_value v0
  refine State.modRc_kept (maskSub rfl hw) ?_
  with_reducible assumption

theorem State.rcCommitFrame_kept {w : Nat} {s0 x : State} {e : Nat} {w_ : Word}
    (hw : 0x400000000000000000000000004000 &&& w = 0x400000000000000000000000004000) (h : Kept w s0 x) :
    Kept w s0 (State.rcCommitFrame x e w_).2 := by
  unfold State.rcCommitFrame
  extract_lets v0
  with_reducible apply Kept.ite2
  · with_reducible apply Kept.ite2
    · dsimp only
      refine State.modRc_kept (maskSub rfl hw) ?_
      refine State.wr_kept (maskSub rfl hw) ?_
      exact h
    · exact h
  · with_reducible apply Kept.ite2
    · with_reducible apply Kept.ite2
      · dsimp only
        refine State.rcFreeBuf_kept (maskSub rfl hw) ?_
        exact h
      · exact h
    · exact h

theorem State.rcDisable_kept {w : Nat} {s0 x : State} {t : Nat}
    (hw : 0x100000000000600000000000000000000000004000 &&& w = 0x100000000000600000000000000000000000004000)
    (h : Kept w s0 x) :
    Kept w s0 (State.rcDisable x t) := by
  unfold State.rcDisable
  extract_lets v0
  have hv0 : Kept w s0 v0 := by
    unfold v0
    refine Kept.foldl ?_ ?_
    · intro i1 i2 i3
      with_reducible apply Kept.ite
      · with_reducible apply Kept.ite
        · refine State.modRc_kept (maskSub rfl hw) ?_
          with_reducible assumption
        · refine State.rcEnd_kept (maskSub rfl hw) ?_
          with_reducible assumption
      · with_reducible assumption
    · exact h
  clear_value v0
  refine Kept.foldl ?_ ?_
  · intro i4 i5 i6
    with_reducible apply Kept.ite
    · refine State.rcFreeBuf_kept (maskSub rfl hw) ?_
      with_reducible assumption
    · with_reducible assumption
  · with_reducible assumption

theorem State.rcCommitCfg_kept {w : Nat} {s0 x : State} {e : Nat} {w_ : Word}
    (hw : 0x10000000000000000000000000000 &&& w = 0x10000000000000000000000000000) (h : Kept w s0 x) :
    Kept w s0 (State.rcCommitCfg x e w_).2 := by
  unfold State.rcCommitCfg
  extract_lets v0 v1 v2 v3
  with_reducible apply Kept.ite2
  · dsimp only
    refine State.wr_kept (maskSub rfl hw) ?_
    exact h
  · exact h

theorem State.rcCommitFixed_kept {w : Nat} {s0 x : State} {t e : Nat} {w_ : Word}
    (hw : 0xffffffffffffffff0000000000000000 &&& w = 0xffffffffffffffff0000000000000000) (h : Kept w s0 x) :
    Kept w s0 (State.rcCommitFixed x t e w_).2 := by
  unfold State.rcCommitFixed
  with_reducible apply Kept.ite2
  · exact h
  · dsimp only
    refine State.wr_kept (maskSub (tabMask_all _) (maskSub rfl hw)) ?_
    exact h

theorem State.rcCommitBand_kept {w : Nat} {s0 x : State} {e : Nat} {w_ : Word}
    (hw : 0x80000000000000000000000000000 &&& w = 0x80000000000000000000000000000) (h : Kept w s0 x) :
    Kept w s0 (State.rcCommitBand x e w_).2 := by
  unfold State.rcCommitBand
  extract_lets v0 v1
  with_reducible apply Kept.ite2
  · dsimp only
    refine State.wr_kept (maskSub rfl hw) ?_
    exact h
  · exact h

theorem State.rcCommitTenant_kept {w : Nat} {s0 x : State} {t e : Nat} {w_ : Word}
    (hw : 0x800000000000000000000000000000 &&& w = 0x800000000000000000000000000000) (h : Kept w s0 x) :
    Kept w s0 (State.rcCommitTenant x t e w_).2 := by
  unfold State.rcCommitTenant
  extract_lets v0
  with_reducible apply Kept.ite2
  · exact h
  · with_reducible apply Kept.ite2
    · exact h
    · dsimp only
      refine State.wr_kept (maskSub rfl hw) ?_
      exact h

theorem State.tagFree_kept {w : Nat} {s0 x : State} {i : Nat}
    (hw : 0x100000000000300000000000000000000000004000 &&& w = 0x100000000000300000000000000000000000004000)
    (h : Kept w s0 x) :
    Kept w s0 (State.tagFree x i) := by
  unfold State.tagFree
  extract_lets v0 v1 v2
  have hv0 : Kept w s0 v0 := by
    unfold v0
    refine Kept.foldl ?_ ?_
    · intro i3 i4 i5
      with_reducible apply Kept.ite
      · refine State.rcEnd_kept (maskSub rfl hw) ?_
        with_reducible assumption
      · with_reducible assumption
    · exact h
  clear_value v0
  have hv2 : Kept w s0 v2 := by
    unfold v2
    refine State.wr_kept (maskSub rfl hw) ?_
    refine State.wr_kept (maskSub rfl hw) ?_
    with_reducible assumption
  clear_value v2
  refine State.modRc_kept (maskSub rfl hw) ?_
  with_reducible assumption

theorem State.rcCommitTag_kept {w : Nat} {s0 x : State} {t e : Nat} {w_ : Word}
    (hw : 0x100000000000300000000000000000000000004000 &&& w = 0x100000000000300000000000000000000000004000)
    (h : Kept w s0 x) :
    Kept w s0 (State.rcCommitTag x t e w_).2 := by
  unfold State.rcCommitTag
  extract_lets v0 v1 v2 v3
  with_reducible apply Kept.ite2
  · with_reducible apply Kept.ite2
    · exact h
    · dsimp only
      refine State.wr_kept (maskSub rfl hw) ?_
      exact h
  · with_reducible apply Kept.ite2
    · with_reducible apply Kept.ite2
      · dsimp only
        refine State.wr_kept (maskSub rfl hw) ?_
        exact h
      · exact h
    · with_reducible apply Kept.ite2
      · exact h
      · with_reducible apply Kept.ite2
        · dsimp only
          refine State.tagFree_kept (maskSub rfl hw) ?_
          exact h
        · with_reducible apply Kept.ite2
          · dsimp only
            refine State.wr_kept (maskSub rfl hw) ?_
            exact h
          · dsimp only
            refine State.wr_kept (maskSub rfl hw) ?_
            exact h

theorem State.rcFilter_kept {w : Nat} {s0 x : State}
    (hw : 0x10000000000000000000000000000 &&& w = 0x10000000000000000000000000000) (h : Kept w s0 x) :
    Kept w s0 (State.rcFilter x) := by
  unfold State.rcFilter
  refine State.bump_kept (maskSub rfl hw) ?_
  exact h

theorem State.rcJoin_kept {w : Nat} {s0 x : State} {l : List Nat}
    (hw : 0x100000000000110000000000000000000000004000 &&& w = 0x100000000000110000000000000000000000004000)
    (h : Kept w s0 x) :
    Kept w s0 (State.rcJoin x l) := by
  unfold State.rcJoin
  extract_lets v0 v1 v2
  split
  · rename_i u3 u4 u5
    extract_lets v6 v7
    have hv6 : Kept w s0 v6 := by
      unfold v6
      refine State.ps_kept (maskSub rfl hw) ?_
      refine State.ps_kept (maskSub rfl hw) ?_
      exact h
    clear_value v6
    have hv7 : Kept w s0 v7 := by
      unfold v7
      refine State.raiseTenant_kept (maskSub rfl hw) ?_
      with_reducible assumption
    clear_value v7
    with_reducible apply Kept.ite
    · with_reducible assumption
    · refine State.modRc_kept (maskSub rfl hw) ?_
      with_reducible assumption
  · rename_i u8 u9
    split
    · rename_i u10 u11 u12
      with_reducible apply Kept.ite
      · exact h
      · refine State.raiseTenant_kept (maskSub rfl hw) ?_
        refine State.ps_kept (maskSub rfl hw) ?_
        exact h
    · rename_i u13 u14
      refine State.rcFilter_kept (maskSub rfl hw) ?_
      exact h

theorem State.rcOwe_kept {w : Nat} {s0 x : State} {l : List Nat} (hw : 0x4000 &&& w = 0x4000) (h : Kept w s0 x) :
    Kept w s0 (State.rcOwe x l) := by
  unfold State.rcOwe
  with_reducible apply Kept.ite
  · refine State.modRc_kept (maskSub rfl hw) ?_
    exact h
  · exact h

theorem State.rcStore_kept {w : Nat} {s0 x : State} {i : Nat} {l data : List Nat}
    (hw : 0x100000000000500000000000000000000000004000 &&& w = 0x100000000000500000000000000000000000004000)
    (h : Kept w s0 x) :
    Kept w s0 (State.rcStore x i l data) := by
  unfold State.rcStore
  extract_lets v0 v1 v2
  split
  · rename_i u3 u4
    refine State.raiseTenant_kept (maskSub rfl hw) ?_
    exact h
  · rename_i u5 u6 u7
    extract_lets v8 v9 v10 v11
    have hv8 : Kept w s0 v8 := by
      unfold v8
      refine Kept.foldl ?_ ?_
      · intro i12 i13 i14
        refine State.wr_kept (maskSub rfl hw) ?_
        with_reducible assumption
      · exact h
    clear_value v8
    have hv9 : Kept w s0 v9 := by
      unfold v9
      refine State.ps_kept (maskSub rfl hw) ?_
      with_reducible assumption
    clear_value v9
    have hv10 : Kept w s0 v10 := by
      unfold v10
      refine State.modRc_kept (maskSub rfl hw) ?_
      with_reducible assumption
    clear_value v10
    have hv11 : Kept w s0 v11 := by
      unfold v11
      refine State.raise_kept (maskSub rfl hw) ?_
      with_reducible assumption
    clear_value v11
    refine State.rcOwe_kept (maskSub rfl hw) ?_
    refine State.ps_kept (maskSub rfl hw) ?_
    with_reducible assumption

theorem State.rcKept_kept {w : Nat} {s0 x : State} {i : Nat} {l data : List Nat}
    (hw : 0x100000000000510000000000000000000000004000 &&& w = 0x100000000000510000000000000000000000004000)
    (h : Kept w s0 x) :
    Kept w s0 (State.rcKept x i l data) := by
  unfold State.rcKept
  extract_lets v0 v1 v2 v3 v4 v5 v6
  have hv1 : Kept w s0 v1 := by
    unfold v1
    refine State.p_kept (maskSub rfl hw) ?_
    exact h
  clear_value v1
  have hv4 : Kept w s0 v4 := by
    unfold v4
    with_reducible apply Kept.ite
    · refine State.rcOwe_kept (maskSub rfl hw) ?_
      refine State.bump_kept (maskSub rfl hw) ?_
      with_reducible assumption
    · with_reducible assumption
  clear_value v4
  have hv5 : Kept w s0 v5 := by
    unfold v5
    refine State.ps_kept (maskSub rfl hw) ?_
    with_reducible assumption
  clear_value v5
  have hv6 : Kept w s0 v6 := by
    unfold v6
    refine State.modRc_kept (maskSub rfl hw) ?_
    with_reducible assumption
  clear_value v6
  with_reducible apply Kept.ite
  · refine State.raiseTenant_kept (maskSub rfl hw) ?_
    with_reducible assumption
  · with_reducible apply Kept.ite
    · with_reducible assumption
    · refine State.rcStore_kept (maskSub rfl hw) ?_
      with_reducible assumption

theorem State.rcAcked_kept {w : Nat} {s0 x : State} {i : Nat} {l : List Nat}
    (hw : 0x100000000000200000000000000000000000004000 &&& w = 0x100000000000200000000000000000000000004000)
    (h : Kept w s0 x) :
    Kept w s0 (State.rcAcked x i l) := by
  unfold State.rcAcked
  split
  · rename_i u0 u1 u2
    with_reducible apply Kept.ite
    · refine State.rcEnd_kept (maskSub rfl hw) ?_
      exact h
    · exact h
  · rename_i u3 u4
    exact h

theorem State.rcReceive_kept {w : Nat} {s0 x : State} {l : List Nat}
    (hw : 0x100000000000710000000000000000000000004000 &&& w = 0x100000000000710000000000000000000000004000)
    (h : Kept w s0 x) :
    Kept w s0 (State.rcReceive x l) := by
  unfold State.rcReceive
  extract_lets v0 v1 v2 v3 v4 v5 v6 v7
  with_reducible apply Kept.ite
  · refine State.rcFilter_kept (maskSub rfl hw) ?_
    exact h
  · with_reducible apply Kept.ite
    · with_reducible apply Kept.ite
      · refine State.rcJoin_kept (maskSub rfl hw) ?_
        exact h
      · refine State.rcFilter_kept (maskSub rfl hw) ?_
        exact h
    · with_reducible apply Kept.ite
      · refine State.rcFilter_kept (maskSub rfl hw) ?_
        exact h
      · with_reducible apply Kept.ite
        · refine State.rcAcked_kept (maskSub rfl hw) ?_
          refine State.p_kept (maskSub rfl hw) ?_
          exact h
        · with_reducible apply Kept.ite
          · exact h
          · with_reducible apply Kept.ite
            · refine State.rcFilter_kept (maskSub rfl hw) ?_
              exact h
            · with_reducible apply Kept.ite
              · with_reducible apply Kept.ite
                · exact h
                · with_reducible apply Kept.ite
                  · refine State.raiseTenant_kept (maskSub rfl hw) ?_
                    exact h
                  · refine State.rcKept_kept (maskSub rfl hw) ?_
                    refine State.p_kept (maskSub rfl hw) ?_
                    exact h
              · refine State.rcKept_kept (maskSub rfl hw) ?_
                exact h

theorem State.rcAfter_kept {w : Nat} {s0 x : State}
    (hw : 0x2000000000080000020000000000000000000006400 &&& w = 0x2000000000080000020000000000000000000006400)
    (h : Kept w s0 x) :
    Kept w s0 (State.rcAfter x) := by
  unfold State.rcAfter
  extract_lets v0
  have hv0 : Kept w s0 v0 := by
    unfold v0
    refine State.modRc_kept (maskSub rfl hw) ?_
    exact h
  clear_value v0
  with_reducible apply Kept.ite
  · with_reducible assumption
  · with_reducible apply Kept.ite
    · refine State.rcPlan_kept (maskSub rfl hw) ?_
      refine State.modRc_kept (maskSub rfl hw) ?_
      with_reducible assumption
    · refine State.rcEndExchange_kept (maskSub rfl hw) ?_
      with_reducible assumption

theorem State.rcOut_kept {w : Nat} {s0 x : State} (hw : 0x4000000000000004000 &&& w = 0x4000000000000004000)
    (h : Kept w s0 x) :
    Kept w s0 (State.rcOut x) := by
  unfold State.rcOut
  extract_lets v0
  have hv0 : Kept w s0 v0 := by
    unfold v0
    refine State.modRc_kept (maskSub rfl hw) ?_
    exact h
  clear_value v0
  refine State.ascDrop_kept (maskSub rfl hw) ?_
  with_reducible assumption

theorem State.rcFail_kept {w : Nat} {s0 x : State}
    (hw : 0x10000000100020000000000c040000000000004080 &&& w = 0x10000000100020000000000c040000000000004080)
    (h : Kept w s0 x) :
    Kept w s0 (State.rcFail x) := by
  unfold State.rcFail
  extract_lets v0 v1 v2 v3 v4 v5 v6
  have hv1 : Kept w s0 v1 := by
    unfold v1
    refine State.raiseCommon_kept (maskSub rfl hw) ?_
    exact h
  clear_value v1
  have hv3 : Kept w s0 v3 := by
    unfold v3
    clear_value *
    split
    · rename_i u7
      with_reducible assumption
    · rename_i u8 u9
      with_reducible apply Kept.ite
      · refine State.rcEnd_kept (maskSub rfl hw) ?_
        with_reducible assumption
      · refine State.modRc_kept (maskSub rfl hw) ?_
        refine State.p_kept (maskSub rfl hw) ?_
        with_reducible assumption
  clear_value v3
  have hv4 : Kept w s0 v4 := by
    unfold v4
    refine State.modRc_kept (maskSub rfl hw) ?_
    with_reducible assumption
  clear_value v4
  have hv6 : Kept w s0 v6 := by
    unfold v6
    with_reducible apply Kept.ite
    · refine State.modRc_kept (maskSub rfl hw) ?_
      with_reducible assumption
    · with_reducible assumption
  clear_value v6
  with_reducible apply Kept.ite
  · refine State.rcOut_kept (maskSub rfl hw) ?_
    refine State.goFault_kept (maskSub rfl hw) (maskSub rfl hw) (maskSub rfl hw) ?_ ?_
    · intro i10 i11 i12
      refine State.rcEndAll_kept (maskSub rfl hw) ?_
      with_reducible assumption
    · with_reducible assumption
  · refine State.rcReset_kept (maskSub rfl hw) ?_
    with_reducible assumption

theorem State.rcResume_kept {w : Nat} {s0 x : State}
    (hw : 0x210000000108020002000000c040000000000006480 &&& w = 0x210000000108020002000000c040000000000006480)
    (h : Kept w s0 x) :
    Kept w s0 (State.rcResume x) := by
  unfold State.rcResume
  split
  · rename_i u0 u1 u2 u3
    refine State.rcRun_kept (maskSub rfl hw) ?_
    refine State.modRc_kept (maskSub rfl hw) ?_
    exact h
  · rename_i u4 u5 u6 u7
    with_reducible apply Kept.ite
    · refine State.rcFail_kept (maskSub rfl hw) ?_
      exact h
    · refine State.modRc_kept (maskSub rfl hw) ?_
      exact h
  · rename_i u8 u9 u10 u11
    exact h

theorem State.rcStart1_kept {w : Nat} {s0 x : State}
    (hw : 0x10000000100020000000000c040000000000004080 &&& w = 0x10000000100020000000000c040000000000004080)
    (h : Kept w s0 x) :
    Kept w s0 (State.rcStart1 x) := by
  unfold State.rcStart1
  extract_lets v0 v1
  have hv1 : Kept w s0 v1 := by
    unfold v1
    with_reducible apply Kept.ite
    · exact h
    · refine State.unitClaim_kept (maskSub rfl hw) ?_
      exact h
  clear_value v1
  with_reducible apply Kept.ite
  · refine State.goFault_kept (maskSub rfl hw) (maskSub rfl hw) (maskSub rfl hw) ?_ ?_
    · intro i2 i3 i4
      refine State.rcEndAll_kept (maskSub rfl hw) ?_
      with_reducible assumption
    · exact h
  · with_reducible apply Kept.ite
    · refine State.goStopping_kept (maskSub rfl hw) (maskSub rfl hw) ?_ ?_
      · intro i5 i6 i7
        refine State.rcEndAll_kept (maskSub rfl hw) ?_
        with_reducible assumption
      · exact h
    · refine State.rcReset_kept (maskSub rfl hw) ?_
      refine State.modRc_kept (maskSub rfl hw) ?_
      with_reducible assumption

theorem State.rcStart2_kept {w : Nat} {s0 x : State}
    (hw : 0x2100000001080000020000004000000000000007400 &&& w = 0x2100000001080000020000004000000000000007400)
    (h : Kept w s0 x) :
    Kept w s0 (State.rcStart2 x) := by
  unfold State.rcStart2
  extract_lets v0 v1 v2 v3 v4 v5 v6 v7 v8 v9 v10
  have hv0 : Kept w s0 v0.2 := by
    unfold v0
    refine State.rngDraw_kept (maskSub rfl hw) ?_
    exact h
  clear_value v0
  have hv2 : Kept w s0 v2 := by
    unfold v2
    with_reducible apply Kept.ite
    · with_reducible assumption
    · exact h
  clear_value v2
  have hv6 : Kept w s0 v6 := by
    unfold v6
    refine State.ascPut_kept (maskSub rfl hw) ?_
    with_reducible assumption
  clear_value v6
  have hv8 : Kept w s0 v8 := by
    unfold v8
    refine State.modRc_kept (maskSub rfl hw) ?_
    with_reducible assumption
  clear_value v8
  have hv9 : Kept w s0 v9 := by
    unfold v9
    refine State.modRc_kept (maskSub rfl hw) ?_
    with_reducible assumption
  clear_value v9
  refine State.rcPlan_kept (maskSub rfl hw) ?_
  refine State.goOn_kept (maskSub rfl hw) (maskSub rfl hw) ?_
  with_reducible assumption

theorem State.rcStart_kept {w : Nat} {s0 x : State}
    (hw : 0x210000000108020002000000c040000000000007480 &&& w = 0x210000000108020002000000c040000000000007480)
    (h : Kept w s0 x) :
    Kept w s0 (State.rcStart x) := by
  unfold State.rcStart
  with_reducible apply Kept.ite
  · refine State.rcStart1_kept (maskSub rfl hw) ?_
    exact h
  · with_reducible apply Kept.ite
    · refine State.rcStart2_kept (maskSub rfl hw) ?_
      exact h
    · exact h

theorem State.rcStopping_kept {w : Nat} {s0 x : State}
    (hw : 0x2000000000080000020000000000000000000006400 &&& w = 0x2000000000080000020000000000000000000006400)
    (h : Kept w s0 x) :
    Kept w s0 (State.rcStopping x) := by
  unfold State.rcStopping
  with_reducible apply Kept.ite
  · refine State.rcPlan_kept (maskSub rfl hw) ?_
    refine State.modRc_kept (maskSub rfl hw) ?_
    exact h
  · exact h

theorem State.rcNoack_kept {w : Nat} {s0 x : State}
    (hw : 0x100000001000000000000000000000000000004000 &&& w = 0x100000001000000000000000000000000000004000)
    (h : Kept w s0 x) :
    Kept w s0 (State.rcNoack x) := by
  unfold State.rcNoack
  with_reducible apply Kept.ite
  · refine State.modRc_kept (maskSub rfl hw) ?_
    refine State.rcSetBit_kept (maskSub rfl hw) ?_
    exact h
  · with_reducible apply Kept.ite
    · refine State.modRc_kept (maskSub rfl hw) ?_
      exact h
    · exact h

theorem State.rcShed_kept {w : Nat} {s0 x : State} {only : Bool}
    (hw : 0x100000001000000000000000000000000000004000 &&& w = 0x100000001000000000000000000000000000004000)
    (h : Kept w s0 x) :
    Kept w s0 (State.rcShed x only) := by
  unfold State.rcShed
  with_reducible apply Kept.ite
  · refine State.rcNoack_kept (maskSub rfl hw) ?_
    refine State.rcSetBit_kept (maskSub rfl hw) ?_
    exact h
  · exact h

theorem State.rcSleep_kept {w : Nat} {s0 x : State}
    (hw : 0x2100000001080000020000000000000000000006400 &&& w = 0x2100000001080000020000000000000000000006400)
    (h : Kept w s0 x) :
    Kept w s0 (State.rcSleep x) := by
  unfold State.rcSleep
  with_reducible apply Kept.ite
  · exact h
  · refine State.rcPlan_kept (maskSub rfl hw) ?_
    refine State.modRc_kept (maskSub rfl hw) ?_
    refine State.raiseCommon_kept (maskSub rfl hw) ?_
    refine State.rcSetBit_kept (maskSub rfl hw) ?_
    exact h

theorem State.rcAwake_kept {w : Nat} {s0 x : State}
    (hw : 0x2100000001080000020000000000000000000006400 &&& w = 0x2100000001080000020000000000000000000006400)
    (h : Kept w s0 x) :
    Kept w s0 (State.rcAwake x) := by
  unfold State.rcAwake
  with_reducible apply Kept.ite
  · refine State.rcEndExchange_kept (maskSub rfl hw) ?_
    refine State.raiseCommon_kept (maskSub rfl hw) ?_
    refine State.rcSetBit_kept (maskSub rfl hw) ?_
    exact h
  · exact h

theorem State.rcForce_kept {w : Nat} {s0 x : State} {arg : Nat}
    (hw : 0x2100000001080000020000000000000000000006400 &&& w = 0x2100000001080000020000000000000000000006400)
    (h : Kept w s0 x) :
    Kept w s0 (State.rcForce x arg) := by
  unfold State.rcForce
  extract_lets v0
  have hv0 : Kept w s0 v0 := by
    unfold v0
    refine State.changeMirror_kept (maskSub rfl hw) (maskSub rfl hw) ?_
    exact h
  clear_value v0
  with_reducible apply Kept.ite
  · refine State.rcSleep_kept (maskSub rfl hw) ?_
    with_reducible assumption
  · refine State.rcAwake_kept (maskSub rfl hw) ?_
    with_reducible assumption

theorem State.rcUnitCmd_kept {w : Nat} {s0 x : State} {cmd arg : Nat}
    (hw : 0x100000001000000000000000000000000000004000 &&& w = 0x100000001000000000000000000000000000004000)
    (h : Kept w s0 x) :
    Kept w s0 (State.rcUnitCmd x cmd arg).2 := by
  unfold State.rcUnitCmd
  with_reducible apply Kept.ite2
  · exact h
  · with_reducible apply Kept.ite2
    · exact h
    · with_reducible apply Kept.ite2
      · dsimp only
        refine State.rcSetBit_kept (maskSub rfl hw) ?_
        refine State.modRc_kept (maskSub rfl hw) ?_
        exact h
      · dsimp only
        refine State.rcReset_kept (maskSub rfl hw) ?_
        exact h

theorem execRfIrq_kept {w : Nat} {s0 x : State} {asserted : Bool}
    (hw : 0x2000000000080000020000000000000000000006400 &&& w = 0x2000000000080000020000000000000000000006400)
    (h : Kept w s0 x) :
    KeptO w s0 (execRfIrq asserted x) := by
  unfold execRfIrq
  extract_lets v0 v1
  have hv1 : Kept w s0 v1 := by
    unfold v1
    refine State.modRc_kept (maskSub rfl hw) ?_
    exact h
  clear_value v1
  with_reducible apply KeptO.ite
  · refine KeptO.next ?_
    refine State.rcRun_kept (maskSub rfl hw) ?_
    refine State.modRc_kept (maskSub rfl hw) ?_
    with_reducible assumption
  · with_reducible apply KeptO.ite
    · refine KeptO.next ?_
      refine State.rcPlan_kept (maskSub rfl hw) ?_
      refine State.modRc_kept (maskSub rfl hw) ?_
      with_reducible assumption
    · refine KeptO.next ?_
      with_reducible assumption

theorem execRfSfd_kept {w : Nat} {s0 x : State} {ago : Nat} (hw : 0x4000 &&& w = 0x4000) (h : Kept w s0 x) :
    KeptO w s0 (execRfSfd ago x) := by
  unfold execRfSfd
  extract_lets v0 v1
  refine KeptO.next ?_
  refine State.modRc_kept (maskSub rfl hw) ?_
  exact h

theorem execRfFault_kept {w : Nat} {s0 x : State}
    (hw : 0x210000000108020002000000c040000000000006480 &&& w = 0x210000000108020002000000c040000000000006480)
    (h : Kept w s0 x) :
    KeptO w s0 (execRfFault x) := by
  unfold execRfFault
  with_reducible apply KeptO.ite
  · refine KeptO.next ?_
    refine State.rcResume_kept (maskSub rfl hw) ?_
    exact h
  · with_reducible apply KeptO.ite
    · refine KeptO.next ?_
      refine State.rcFail_kept (maskSub rfl hw) ?_
      refine State.advanceTo_kept (maskSub rfl hw) ?_
      exact h
    · refine KeptO.next ?_
      exact h

theorem execScriptDelay_kept {w : Nat} {s0 x : State}
    (hw : 0x2000000000080000020000000000000000000006400 &&& w = 0x2000000000080000020000000000000000000006400)
    (h : Kept w s0 x) :
    KeptO w s0 (execScriptDelay x) := by
  unfold execScriptDelay
  extract_lets v0 v1
  have hv0 : Kept w s0 v0 := by
    unfold v0
    refine State.advanceTo_kept (maskSub rfl hw) ?_
    exact h
  clear_value v0
  have hv1 : Kept w s0 v1 := by
    unfold v1
    refine State.modRc_kept (maskSub rfl hw) ?_
    refine State.advanceTo_kept (maskSub rfl hw) ?_
    exact h
  clear_value v1
  with_reducible apply KeptO.ite
  · refine KeptO.next ?_
    refine State.modRc_kept (maskSub rfl hw) ?_
    with_reducible assumption
  · with_reducible apply KeptO.ite
    · refine KeptO.next ?_
      refine State.rcPlan_kept (maskSub rfl hw) ?_
      with_reducible assumption
    · with_reducible apply KeptO.ite
      · refine KeptO.next ?_
        refine State.rcRun_kept (maskSub rfl hw) ?_
        refine State.modRc_kept (maskSub rfl hw) ?_
        refine State.advanceTo_kept (maskSub rfl hw) ?_
        exact h
      · refine KeptO.next ?_
        exact h

theorem execHopSlotStart_kept {w : Nat} {s0 x : State}
    (hw : 0x2100000001080000020000000000000000000006400 &&& w = 0x2100000001080000020000000000000000000006400)
    (h : Kept w s0 x) :
    KeptO w s0 (execHopSlotStart x) := by
  unfold execHopSlotStart
  extract_lets v0 v1 v2 v3
  have hv0 : Kept w s0 v0 := by
    unfold v0
    refine State.toMark_kept (maskSub rfl hw) ?_
    exact h
  clear_value v0
  have hv2 : Kept w s0 v2 := by
    unfold v2
    with_reducible apply Kept.ite
    · refine State.modRc_kept (maskSub rfl hw) ?_
      refine State.rcSetBit_kept (maskSub rfl hw) ?_
      with_reducible assumption
    · with_reducible assumption
  clear_value v2
  have hv3 : Kept w s0 v3 := by
    unfold v3
    refine State.modRc_kept (maskSub rfl hw) ?_
    with_reducible assumption
  clear_value v3
  with_reducible apply KeptO.ite
  · refine KeptO.next ?_
    with_reducible assumption
  · refine KeptO.next ?_
    with_reducible apply Kept.ite
    · with_reducible assumption
    · refine State.rcListen_kept (maskSub rfl hw) ?_
      with_reducible assumption

theorem execBeaconTx_kept {w : Nat} {s0 x : State}
    (hw : 0x2000000000080010020000000000000000000006400 &&& w = 0x2000000000080010020000000000000000000006400)
    (h : Kept w s0 x) :
    KeptO w s0 (execBeaconTx x) := by
  unfold execBeaconTx
  extract_lets v0 v1 v2
  have hv1 : Kept w s0 v1 := by
    unfold v1
    with_reducible apply Kept.ite
    · refine State.modRc_kept (maskSub rfl hw) ?_
      exact h
    · exact h
  clear_value v1
  have hv2 : Kept w s0 v2.2 := by
    unfold v2
    refine State.rcSendDevice_kept (maskSub rfl hw) ?_
    with_reducible assumption
  clear_value v2
  with_reducible apply KeptO.ite
  · refine KeptO.next ?_
    exact h
  · with_reducible apply KeptO.ite
    · refine KeptO.next ?_
      with_reducible assumption
    · refine KeptO.next ?_
      with_reducible apply Kept.ite
      · refine State.modRc_kept (maskSub rfl hw) ?_
        with_reducible assumption
      · with_reducible assumption

theorem execRadioFrameRx_kept {w : Nat} {s0 x : State}
    (hw : 0x2100000000080710020000000000000000000006400 &&& w = 0x2100000000080710020000000000000000000006400)
    (h : Kept w s0 x) :
    KeptO w s0 (execRadioFrameRx x) := by
  unfold execRadioFrameRx
  extract_lets v0 v1 v2
  have hv1 : Kept w s0 v1 := by
    unfold v1
    refine State.modRc_kept (maskSub rfl hw) ?_
    exact h
  clear_value v1
  with_reducible apply KeptO.ite
  · refine KeptO.next ?_
    exact h
  · refine KeptO.next ?_
    refine State.rcAfter_kept (maskSub rfl hw) ?_
    with_reducible apply Kept.ite
    · with_reducible assumption
    · refine State.rcReceive_kept (maskSub rfl hw) ?_
      with_reducible assumption

theorem execRadioAckTx_kept {w : Nat} {s0 x : State}
    (hw : 0x2000000000080010020000000000000000000006400 &&& w = 0x2000000000080010020000000000000000000006400)
    (h : Kept w s0 x) :
    KeptO w s0 (execRadioAckTx x) := by
  unfold execRadioAckTx
  extract_lets v0
  have hv0 : Kept w s0 v0 := by
    unfold v0
    refine State.modRc_kept (maskSub rfl hw) ?_
    exact h
  clear_value v0
  split
  · rename_i u1 u2
    refine KeptO.next ?_
    exact h
  · rename_i u3 u4 u5 u6
    extract_lets v7
    have hv7 : Kept w s0 v7.2 := by
      unfold v7
      refine State.rcSendDevice_kept (maskSub rfl hw) ?_
      with_reducible assumption
    clear_value v7
    with_reducible apply KeptO.ite
    · refine KeptO.next ?_
      exact h
    · refine KeptO.next ?_
      with_reducible apply Kept.ite
      · with_reducible assumption
      · refine State.rcAfter_kept (maskSub rfl hw) ?_
        with_reducible assumption

theorem execJoinRspTx_kept {w : Nat} {s0 x : State}
    (hw : 0x2000000000080010020000000000000000000006400 &&& w = 0x2000000000080010020000000000000000000006400)
    (h : Kept w s0 x) :
    KeptO w s0 (execJoinRspTx x) := by
  unfold execJoinRspTx
  extract_lets v0
  have hv0 : Kept w s0 v0 := by
    unfold v0
    refine State.modRc_kept (maskSub rfl hw) ?_
    exact h
  clear_value v0
  split
  · rename_i u1 u2
    refine KeptO.next ?_
    exact h
  · rename_i u3 u4 u5
    extract_lets v6
    have hv6 : Kept w s0 v6.2 := by
      unfold v6
      refine State.rcSendDevice_kept (maskSub rfl hw) ?_
      with_reducible assumption
    clear_value v6
    with_reducible apply KeptO.ite
    · refine KeptO.next ?_
      exact h
    · refine KeptO.next ?_
      with_reducible apply Kept.ite
      · with_reducible assumption
      · refine State.rcAfter_kept (maskSub rfl hw) ?_
        with_reducible assumption

theorem execJoinOpenExpire_kept {w : Nat} {s0 x : State}
    (hw : 0x100000001000000000000000000000000000004000 &&& w = 0x100000001000000000000000000000000000004000)
    (h : Kept w s0 x) :
    KeptO w s0 (execJoinOpenExpire x) := by
  unfold execJoinOpenExpire
  split
  · rename_i u0 u1
    refine KeptO.next ?_
    exact h
  · rename_i u2 u3 u4
    refine KeptO.next ?_
    refine State.rcSetBit_kept (maskSub rfl hw) ?_
    refine State.modRc_kept (maskSub rfl hw) ?_
    refine State.advanceTo_kept (maskSub rfl hw) ?_
    exact h

theorem execRadioGrant_kept {w : Nat} {s0 x : State}
    (hw : 0x100000000000600000000000000000000000004000 &&& w = 0x100000000000600000000000000000000000004000)
    (h : Kept w s0 x) :
    KeptO w s0 (execRadioGrant x) := by
  unfold execRadioGrant
  refine KeptO.next ?_
  refine State.rcGrant_kept (maskSub rfl hw) ?_
  exact h

theorem execRadioDeadline_kept {w : Nat} {s0 x : State}
    (hw : 0x100000000000200000000000000000000000004000 &&& w = 0x100000000000200000000000000000000000004000)
    (h : Kept w s0 x) :
    KeptO w s0 (execRadioDeadline x) := by
  unfold execRadioDeadline
  extract_lets v0
  have hv0 : Kept w s0 v0 := by
    unfold v0
    refine State.advanceTo_kept (maskSub rfl hw) ?_
    exact h
  clear_value v0
  split
  · rename_i u1 u2
    refine KeptO.next ?_
    exact h
  · rename_i u3 u4 u5
    extract_lets v6
    with_reducible apply KeptO.ite
    · refine KeptO.next ?_
      exact h
    · with_reducible apply KeptO.ite
      · refine KeptO.next ?_
        with_reducible assumption
      · refine KeptO.next ?_
        refine State.raiseDeadline_kept (maskSub rfl hw) ?_
        refine State.rcEnd_kept (maskSub rfl hw) ?_
        with_reducible assumption

theorem State.rcAnswer_kept {w : Nat} {s0 x : State} {q : Nat} {p : Poll}
    (hw : 0x2100000000080300020000000000000000000006400 &&& w = 0x2100000000080300020000000000000000000006400)
    (h : Kept w s0 x) :
    Kept w s0 (State.rcAnswer x q p) := by
  unfold State.rcAnswer
  extract_lets v0 v1 v2 v3 v4 v5 v6 v7 v8 v9 v10
  have hv8 : Kept w s0 v8 := by
    unfold v8
    with_reducible apply Kept.ite
    · refine State.p_kept (maskSub rfl hw) ?_
      exact h
    · exact h
  clear_value v8
  have hv9 : Kept w s0 v9 := by
    unfold v9
    refine State.modRc_kept (maskSub rfl hw) ?_
    with_reducible assumption
  clear_value v9
  have hv10 : Kept w s0 v10 := by
    unfold v10
    refine State.ps_kept (maskSub rfl hw) ?_
    with_reducible assumption
  clear_value v10
  with_reducible apply Kept.ite
  · refine State.rcEnd_kept (maskSub rfl hw) ?_
    with_reducible assumption
  · refine State.rcSend_kept (maskSub rfl hw) ?_
    with_reducible assumption

theorem execRadioAnswerTx_kept {w : Nat} {s0 x : State}
    (hw : 0x2100000000080300020000000000000000000106400 &&& w = 0x2100000000080300020000000000000000000106400)
    (h : Kept w s0 x) :
    KeptO w s0 (execRadioAnswerTx x) := by
  unfold execRadioAnswerTx
  split
  · rename_i u0 u1
    refine KeptO.next ?_
    exact h
  · rename_i u2 u3 u4
    split
    · rename_i u5 u6
      refine KeptO.next ?_
      exact h
    · rename_i u7 u8 u9
      with_reducible apply KeptO.ite
      · refine KeptO.next ?_
        exact h
      · with_reducible apply KeptO.ite
        · refine KeptO.next ?_
          with_reducible apply Kept.ite
          · refine State.snRaiseMark_kept (maskSub rfl hw) ?_
            exact h
          · refine State.rcEnd_kept (maskSub rfl hw) ?_
            exact h
        · split
          · rename_i u10 u11 u12
            refine KeptO.next ?_
            refine State.rcEnd_kept (maskSub rfl hw) ?_
            exact h
          · rename_i u13 u14
            refine KeptO.next ?_
            refine State.rcAnswer_kept (maskSub rfl hw) ?_
            exact h

theorem execEmptyAnswer_kept {w : Nat} {s0 x : State}
    (hw : 0x2000000000080210020000000000000000000006400 &&& w = 0x2000000000080210020000000000000000000006400)
    (h : Kept w s0 x) :
    KeptO w s0 (execEmptyAnswer x) := by
  unfold execEmptyAnswer
  split
  · exact KeptO.next h
  · refine KeptO.ite (KeptO.next h) ?_
    extract_lets a b c r
    have hb : Kept w s0 b := State.modRc_kept (maskSub rfl hw) (State.advanceTo_kept (maskSub rfl hw) h)
    clear_value b
    have hc : Kept w s0 c := by
      unfold c
      clear_value r c
      split
      · exact Kept.ite (State.modRc_kept (maskSub rfl hw) (State.p_kept (maskSub rfl hw) hb)) hb
      · exact hb
    have hr : Kept w s0 r.2 := State.rcSendDevice_kept (maskSub rfl hw) hc
    exact KeptO.ite (KeptO.next (State.rcAfter_kept (maskSub rfl hw) hc)) (KeptO.next (Kept.ite hr (State.rcAfter_kept (maskSub rfl hw) hr)))

theorem execRadioAnswerAckTimeout_kept {w : Nat} {s0 x : State}
    (hw : 0x2100000000080200020000000000000000000006400 &&& w = 0x2100000000080200020000000000000000000006400)
    (h : Kept w s0 x) :
    KeptO w s0 (execRadioAnswerAckTimeout x) := by
  unfold execRadioAnswerAckTimeout
  extract_lets v0
  have hv0 : Kept w s0 v0 := by
    unfold v0
    refine State.modRc_kept (maskSub rfl hw) ?_
    refine State.advanceTo_kept (maskSub rfl hw) ?_
    exact h
  clear_value v0
  split
  · rename_i u1 u2
    refine KeptO.next ?_
    exact h
  · rename_i u3 u4 u5
    extract_lets v6
    have hv6 : Kept w s0 v6 := by
      unfold v6
      with_reducible apply Kept.ite
      · refine State.rcEnd_kept (maskSub rfl hw) ?_
        with_reducible assumption
      · refine State.modRc_kept (maskSub rfl hw) ?_
        refine State.p_kept (maskSub rfl hw) ?_
        with_reducible assumption
    clear_value v6
    refine KeptO.next ?_
    refine State.rcAfter_kept (maskSub rfl hw) ?_
    with_reducible assumption

theorem execWakeUpCall_kept {w : Nat} {s0 x : State}
    (hw : 0x2100000000080200020000000000000000000006400 &&& w = 0x2100000000080200020000000000000000000006400)
    (h : Kept w s0 x) :
    KeptO w s0 (execWakeUpCall x) := by
  unfold execWakeUpCall
  extract_lets v0
  split
  · rename_i u1 u2
    refine KeptO.next ?_
    exact h
  · rename_i u3 u4 u5 u6
    extract_lets v7 v8
    with_reducible apply KeptO.ite
    · refine KeptO.next ?_
      exact h
    · split
      · rename_i u9 u10 u11
        refine KeptO.next ?_
        refine State.rcEnd_kept (maskSub rfl hw) ?_
        exact h
      · rename_i u12 u13
        refine KeptO.next ?_
        refine State.rcPlan_kept (maskSub rfl hw) ?_
        refine State.modRc_kept (maskSub rfl hw) ?_
        exact h

theorem State.rcSent_kept {w : Nat} {s0 x : State}
    (hw : 0x2100000000080200020000000000000000000006400 &&& w = 0x2100000000080200020000000000000000000006400)
    (h : Kept w s0 x) :
    Kept w s0 (State.rcSent x) := by
  unfold State.rcSent
  extract_lets v0
  have hv0 : Kept w s0 v0 := by
    unfold v0
    refine State.modRc_kept (maskSub rfl hw) ?_
    exact h
  clear_value v0
  split
  · rename_i u1 u2
    refine State.rcAfter_kept (maskSub rfl hw) ?_
    exact h
  · rename_i u3 u4 u5
    with_reducible apply Kept.ite
    · with_reducible apply Kept.ite
      · refine State.rcAfter_kept (maskSub rfl hw) ?_
        refine State.modRc_kept (maskSub rfl hw) ?_
        with_reducible assumption
      · refine State.rcAfter_kept (maskSub rfl hw) ?_
        refine State.rcEnd_kept (maskSub rfl hw) ?_
        with_reducible assumption
    · refine State.rcAfter_kept (maskSub rfl hw) ?_
      with_reducible assumption

theorem execRadioTxEnd_kept {w : Nat} {s0 x : State}
    (hw : 0x21000000000ffffffffffffffff0000000000006400 &&& w = 0x21000000000ffffffffffffffff0000000000006400)
    (h : Kept w s0 x) :
    KeptO w s0 (execRadioTxEnd x) := by
  unfold execRadioTxEnd
  extract_lets v0
  with_reducible apply KeptO.ite
  · refine KeptO.next ?_
    refine State.rcSent_kept (maskSub rfl hw) ?_
    refine State.modRc_kept (maskSub rfl hw) ?_
    refine State.rcCharge_kept (maskSub rfl hw) ?_
    exact h
  · refine KeptO.next ?_
    exact h

theorem execTxEndTimeout_kept {w : Nat} {s0 x : State}
    (hw : 0x1000000010ffffffffffffffff0000000000004080 &&& w = 0x1000000010ffffffffffffffff0000000000004080)
    (h : Kept w s0 x) :
    KeptO w s0 (execTxEndTimeout x) := by
  unfold execTxEndTimeout
  extract_lets v0
  have hv0 : Kept w s0 v0 := by
    unfold v0
    refine State.advanceTo_kept (maskSub rfl hw) ?_
    exact h
  clear_value v0
  with_reducible apply KeptO.ite
  · refine KeptO.next ?_
    refine State.rcFail_kept (maskSub rfl hw) ?_
    refine State.modRc_kept (maskSub rfl hw) ?_
    refine State.rcCharge_kept (maskSub rfl hw) ?_
    with_reducible assumption
  · refine KeptO.next ?_
    exact h

theorem execBudgetBinTurn_kept {w : Nat} {s0 x : State} {duty : Bool} {b : Fin 4}
    (hw : 0xffffffffffffffff0000000000004000 &&& w = 0xffffffffffffffff0000000000004000) (h : Kept w s0 x) :
    KeptO w s0 (execBudgetBinTurn duty b x) := by
  unfold execBudgetBinTurn
  extract_lets v0 v1 v2 v3 v4
  have hv0 : Kept w s0 v0 := by
    unfold v0
    refine State.advanceTo_kept (maskSub rfl hw) ?_
    exact h
  clear_value v0
  have hv1 : Kept w s0 v1 := by
    unfold v1
    refine State.modRc_kept (maskSub rfl hw) ?_
    with_reducible assumption
  clear_value v1
  have hv2 : Kept w s0 v2 := by
    unfold v2
    refine State.modRc_kept (maskSub rfl hw) ?_
    with_reducible assumption
  clear_value v2
  have hv4 : Kept w s0 v4 := by
    unfold v4
    refine State.modRc_kept (maskSub rfl hw) ?_
    with_reducible assumption
  clear_value v4
  with_reducible apply KeptO.ite
  · refine KeptO.next ?_
    exact h
  · with_reducible apply KeptO.ite
    · refine KeptO.next ?_
      refine Kept.foldl ?_ ?_
      · intro i5 i6 i7
        refine State.rcShow_kept (maskSub rfl hw) ?_
        with_reducible assumption
      · with_reducible assumption
    · refine KeptO.next ?_
      refine Kept.foldl ?_ ?_
      · intro i8 i9 i10
        refine State.p_kept (maskSub rfl hw) ?_
        with_reducible assumption
      · with_reducible assumption

theorem execRadioDormant_kept {w : Nat} {s0 x : State}
    (hw : 0x2100000001080000020000000000000000000006400 &&& w = 0x2100000001080000020000000000000000000006400)
    (h : Kept w s0 x) :
    KeptO w s0 (execRadioDormant x) := by
  unfold execRadioDormant
  extract_lets v0 v1 v2 v3
  have hv0 : Kept w s0 v0 := by
    unfold v0
    refine State.toMark_kept (maskSub rfl hw) ?_
    exact h
  clear_value v0
  have hv3 : Kept w s0 v3 := by
    unfold v3
    refine State.modRc_kept (maskSub rfl hw) ?_
    with_reducible assumption
  clear_value v3
  with_reducible apply KeptO.ite
  · refine KeptO.next ?_
    with_reducible assumption
  · with_reducible apply KeptO.ite
    · refine KeptO.next ?_
      refine State.rcSleep_kept (maskSub rfl hw) ?_
      refine State.modRc_kept (maskSub rfl hw) ?_
      with_reducible assumption
    · with_reducible apply KeptO.ite
      · refine KeptO.next ?_
        with_reducible apply Kept.ite
        · with_reducible assumption
        · refine State.rcAwake_kept (maskSub rfl hw) ?_
          with_reducible assumption
      · refine KeptO.next ?_
        with_reducible assumption

theorem execMsEntryStart_kept {w : Nat} {s0 x : State}
    (hw : 0x210000000108020002000000c040000000000006480 &&& w = 0x210000000108020002000000c040000000000006480)
    (h : Kept w s0 x) :
    KeptO w s0 (execMsEntryStart x) := by
  unfold execMsEntryStart
  with_reducible apply KeptO.ite
  · refine KeptO.next ?_
    refine State.rcResume_kept (maskSub rfl hw) ?_
    refine State.msStart_kept (maskSub rfl hw) ?_
    refine State.advanceTo_kept (maskSub rfl hw) ?_
    exact h
  · refine KeptO.next ?_
    exact h

theorem execMsReadyPoint_kept {w : Nat} {s0 x : State} {wait : Nat} {miso : List Bool}
    (hw : 0x40000000080000021000000000000000000002400 &&& w = 0x40000000080000021000000000000000000002400)
    (h : Kept w s0 x) :
    KeptO w s0 (execMsReadyPoint wait miso x) := by
  unfold execMsReadyPoint
  refine KeptO.next ?_
  refine State.msChunk_kept (maskSub rfl hw) ?_
  exact h

theorem execRdyTimeout_kept {w : Nat} {s0 x : State}
    (hw : 0x210000000108020002000000c040000000000006480 &&& w = 0x210000000108020002000000c040000000000006480)
    (h : Kept w s0 x) :
    KeptO w s0 (execRdyTimeout x) := by
  unfold execRdyTimeout
  refine KeptO.next ?_
  refine State.rcResume_kept (maskSub rfl hw) ?_
  refine State.msTimeout_kept (maskSub rfl hw) ?_
  exact h

theorem execMsEntryDone_kept {w : Nat} {s0 x : State}
    (hw : 0x210000000108020002000000c040000000000006480 &&& w = 0x210000000108020002000000c040000000000006480)
    (h : Kept w s0 x) :
    KeptO w s0 (execMsEntryDone x) := by
  unfold execMsEntryDone
  refine KeptO.next ?_
  refine State.rcResume_kept (maskSub rfl hw) ?_
  refine State.msDone_kept (maskSub rfl hw) ?_
  exact h

theorem State.modOp_kept {w : Nat} {s0 x : State} {n : Nat} {f : Op → Op} (hw : 0x18000 &&& w = 0x18000)
    (h : Kept w s0 x) :
    Kept w s0 (x.modOp n f) := by
  have h1 : w.testBit 15 = true := mask_bit (maskSub rfl hw)
  have h2 : w.testBit 16 = true := mask_bit (maskSub rfl hw)
  unfold State.modOp
  refine h.trans (Kept.ite ?_ ?_)
  · constructor
    case op1 => intro k; rw [h1] at k; cases k
    all_goals (intros; first | rfl | exact Nat.le_refl _ | assumption)
  · constructor
    case op2 => intro k; rw [h2] at k; cases k
    all_goals (intros; first | rfl | exact Nat.le_refl _ | assumption)

theorem State.opPut_kept {w : Nat} {s0 x : State} {n i : Nat} {v : Bool}
    (hw : 0x600000006000000000000000000000000000000000 &&& w = 0x600000006000000000000000000000000000000000)
    (h : Kept w s0 x) :
    Kept w s0 (State.opPut x n i v) := by
  unfold State.opPut
  refine State.setSub_kept (maskSub (unitMask_opU _) (maskSub rfl hw)) (maskSub (srcMask_opU _) (maskSub rfl hw)) ?_
  exact h

theorem State.opSetAls_kept {w : Nat} {s0 x : State} {n a : Nat}
    (hw : 0x600000006000000000000000000000000000000000 &&& w = 0x600000006000000000000000000000000000000000)
    (h : Kept w s0 x) :
    Kept w s0 (State.opSetAls x n a) := by
  unfold State.opSetAls
  with_reducible apply Kept.ite
  · exact h
  · refine State.raiseCommon_kept (maskSub (srcMask_opU _) (maskSub rfl hw)) ?_
    refine State.setSub_kept (maskSub (unitMask_opU _) (maskSub rfl hw)) (maskSub (srcMask_opU _) (maskSub rfl hw)) ?_
    exact h

theorem State.opGoLive_kept {w : Nat} {s0 x : State} {n l : Nat}
    (hw : 0x600000006002000000000000000000000000000000 &&& w = 0x600000006002000000000000000000000000000000)
    (h : Kept w s0 x) :
    Kept w s0 (State.opGoLive x n l) := by
  unfold State.opGoLive
  extract_lets v0
  have hv0 : Kept w s0 v0 := by
    unfold v0
    refine State.p_kept (maskSub rfl hw) ?_
    refine State.p_kept (maskSub rfl hw) ?_
    exact h
  clear_value v0
  refine State.opPut_kept (maskSub rfl hw) ?_
  with_reducible assumption

theorem State.opTakeover_kept {w : Nat} {s0 x : State} {n l cause : Nat}
    (hw : 0x600000006006000000000000000000000000000000 &&& w = 0x600000006006000000000000000000000000000000)
    (h : Kept w s0 x) :
    Kept w s0 (State.opTakeover x n l cause) := by
  unfold State.opTakeover
  refine State.raiseCommon_kept (maskSub (srcMask_opU _) (maskSub rfl hw)) ?_
  refine State.bump_kept (maskSub rfl hw) ?_
  refine State.opGoLive_kept (maskSub rfl hw) ?_
  exact h

theorem State.opKind4_kept {w : Nat} {s0 x : State} {n : Nat}
    (hw : 0x4000000000000000000 &&& w = 0x4000000000000000000) (h : Kept w s0 x) :
    Kept w s0 (State.opKind4 x n) := by
  unfold State.opKind4
  extract_lets v0
  with_reducible apply Kept.ite
  · refine State.ascPut_kept (maskSub rfl hw) ?_
    exact h
  · refine State.ascDrop_kept (maskSub rfl hw) ?_
    exact h

theorem State.opBoundary_kept {w : Nat} {s0 x : State} {n : Nat}
    (hw : 0x2000000000004000000000000018000 &&& w = 0x2000000000004000000000000018000) (h : Kept w s0 x) :
    Kept w s0 (State.opBoundary x n) := by
  unfold State.opBoundary
  extract_lets v0 v1 v2 v3 v4 v5
  have hv1 : Kept w s0 v1 := by
    unfold v1
    refine State.modOp_kept (maskSub rfl hw) ?_
    exact h
  clear_value v1
  have hv2 : Kept w s0 v2 := by
    unfold v2
    with_reducible apply Kept.ite
    · refine State.opKind4_kept (maskSub rfl hw) ?_
      with_reducible assumption
    · with_reducible assumption
  clear_value v2
  have hv5 : Kept w s0 v5 := by
    unfold v5
    refine State.p_kept (maskSub rfl hw) ?_
    with_reducible assumption
  clear_value v5
  with_reducible apply Kept.ite
  · with_reducible assumption
  · refine State.modOp_kept (maskSub rfl hw) ?_
    with_reducible assumption

theorem State.opCalEvent_kept {w : Nat} {s0 x : State} {n l r : Nat}
    (hw : 0x600000000000000000000000000000000000000000 &&& w = 0x600000000000000000000000000000000000000000)
    (h : Kept w s0 x) :
    Kept w s0 (State.opCalEvent x n l r) := by
  unfold State.opCalEvent
  refine State.raiseCommon_kept (maskSub (srcMask_opU _) (maskSub rfl hw)) ?_
  exact h

theorem State.opAbandon_kept {w : Nat} {s0 x : State} {n : Nat}
    (hw : 0x600000006002000000000000000000000000018000 &&& w = 0x600000006002000000000000000000000000018000)
    (h : Kept w s0 x) :
    Kept w s0 (State.opAbandon x n) := by
  unfold State.opAbandon
  extract_lets v0
  have hv0 : Kept w s0 v0 := by
    unfold v0
    refine State.modOp_kept (maskSub rfl hw) ?_
    exact h
  clear_value v0
  split
  · rename_i u1 u2
    exact h
  · rename_i u3 u4 u5
    refine State.opCalEvent_kept (maskSub rfl hw) ?_
    refine State.opPut_kept (maskSub rfl hw) ?_
    refine State.p_kept (maskSub rfl hw) ?_
    with_reducible assumption

theorem State.opLoseLive_kept {w : Nat} {s0 x : State} {n cause : Nat} {endAll : State → State}
    (hw : 0x600000006006000000000000000000000000018000 &&& w = 0x600000006006000000000000000000000000018000)
    (hfendAll : ∀ y, Kept w s0 y → Kept w s0 (endAll y)) (h : Kept w s0 x) :
    Kept w s0 (State.opLoseLive x n cause endAll) := by
  unfold State.opLoseLive
  extract_lets v0
  with_reducible apply Kept.ite
  · refine State.opTakeover_kept (maskSub rfl hw) ?_
    refine State.advanceTo_kept (maskSub rfl hw) ?_
    exact h
  · refine State.modOp_kept (maskSub rfl hw) ?_
    with_reducible apply hfendAll
    refine State.opPut_kept (maskSub rfl hw) ?_
    exact h

theorem State.opFreeTx_kept {w : Nat} {s0 x : State} {n i : Nat} {o : Oc}
    (hw : 0x8000000000000000000000000018000 &&& w = 0x8000000000000000000000000018000) (h : Kept w s0 x) :
    Kept w s0 (State.opFreeTx x n i o) := by
  unfold State.opFreeTx
  extract_lets v0
  have hv0 : Kept w s0 v0 := by
    unfold v0
    refine State.wr_kept (maskSub rfl hw) ?_
    refine State.wr_kept (maskSub rfl hw) ?_
    exact h
  clear_value v0
  refine State.modOp_kept (maskSub rfl hw) ?_
  with_reducible assumption

theorem State.opEndAll_kept {w : Nat} {s0 x : State} {n : Nat} {o : Oc}
    (hw : 0x8000000000000000000000000018000 &&& w = 0x8000000000000000000000000018000) (h : Kept w s0 x) :
    Kept w s0 (State.opEndAll n o x) := by
  unfold State.opEndAll
  refine Kept.foldl ?_ ?_
  · intro i0 i1 i2
    with_reducible apply Kept.ite
    · with_reducible assumption
    · refine State.opFreeTx_kept (maskSub rfl hw) ?_
      with_reducible assumption
  · exact h

theorem State.opFreeRx_kept {w : Nat} {s0 x : State} {n b : Nat}
    (hw : 0x8000000000000000000000000018000 &&& w = 0x8000000000000000000000000018000) (h : Kept w s0 x) :
    Kept w s0 (State.opFreeRx x n b) := by
  unfold State.opFreeRx
  refine State.modOp_kept (maskSub rfl hw) ?_
  refine State.wr_kept (maskSub rfl hw) ?_
  refine State.wr_kept (maskSub rfl hw) ?_
  exact h

theorem State.opDisable_kept {w : Nat} {s0 x : State} {t : Nat}
    (hw : 0x8000000000000000000000000018000 &&& w = 0x8000000000000000000000000018000) (h : Kept w s0 x) :
    Kept w s0 (State.opDisable x t) := by
  unfold State.opDisable
  refine Kept.foldl ?_ ?_
  · intro i0 i1 i2
    extract_lets v3
    have hv3 : Kept w s0 v3 := by
      unfold v3
      refine Kept.foldl ?_ ?_
      · intro i4 i5 i6
        with_reducible apply Kept.ite
        · refine State.opFreeTx_kept (maskSub rfl hw) ?_
          with_reducible assumption
        · with_reducible assumption
      · with_reducible assumption
    clear_value v3
    refine Kept.foldl ?_ ?_
    · intro i7 i8 i9
      with_reducible apply Kept.ite
      · refine State.opFreeRx_kept (maskSub rfl hw) ?_
        with_reducible assumption
      · with_reducible assumption
    · with_reducible assumption
  · exact h

theorem State.opSubmit_kept {w : Nat} {s0 x : State} {n t : Nat} {w_ : Word}
    (hw : 0x8000000000000000000000000000000 &&& w = 0x8000000000000000000000000000000) (h : Kept w s0 x) :
    Kept w s0 (State.opSubmit x n t w_).2 := by
  unfold State.opSubmit
  extract_lets v0 v1 v2
  have hv2 : ∀ a0 a1, Kept w s0 a0 → Kept w s0 (v2 a0 a1) := by
    unfold v2
    intro i3 i4 i5
    refine State.wr_kept (maskSub rfl hw) ?_
    with_reducible assumption
  clear_value v2
  split
  · rename_i u6 u7 u8
    extract_lets v9
    have hv9 : Kept w s0 v9 := by
      unfold v9
      refine State.wr_kept (maskSub rfl hw) ?_
      exact h
    clear_value v9
    with_reducible apply Kept.ite2
    · dsimp only
      with_reducible apply hv2
      refine State.wr_kept (maskSub rfl hw) ?_
      with_reducible assumption
    · dsimp only
      with_reducible apply hv2
      exact h
  · rename_i u10 u11
    dsimp only
    with_reducible apply hv2
    exact h

theorem State.opPayload_kept {w : Nat} {s0 x : State} {n i : Nat} {w_ : Word}
    (hw : 0x8000000000000000000000000018000 &&& w = 0x8000000000000000000000000018000) (h : Kept w s0 x) :
    Kept w s0 (State.opPayload x n i w_).2 := by
  unfold State.opPayload
  with_reducible apply Kept.ite2
  · dsimp only
    refine State.modOp_kept (maskSub rfl hw) ?_
    refine State.p_kept (maskSub rfl hw) ?_
    refine State.wr_kept (maskSub rfl hw) ?_
    exact h
  · exact h

theorem State.opTxCmd_kept {w : Nat} {s0 x : State} {n i cmd : Nat}
    (hw : 0x8000000000000000000000000018000 &&& w = 0x8000000000000000000000000018000) (h : Kept w s0 x) :
    Kept w s0 (State.opTxCmd x n i cmd).2 := by
  unfold State.opTxCmd
  with_reducible apply Kept.ite2
  · exact h
  · with_reducible apply Kept.ite2
    · exact h
    · with_reducible apply Kept.ite2
      · exact h
      · dsimp only
        refine State.opFreeTx_kept (maskSub rfl hw) ?_
        exact h

theorem State.opRxCmd_kept {w : Nat} {s0 x : State} {n b : Nat} {w_ : Word}
    (hw : 0x8000000000000000000000000018000 &&& w = 0x8000000000000000000000000018000) (h : Kept w s0 x) :
    Kept w s0 (State.opRxCmd x n b w_).2 := by
  unfold State.opRxCmd
  with_reducible apply Kept.ite2
  · with_reducible apply Kept.ite2
    · dsimp only
      refine State.opFreeRx_kept (maskSub rfl hw) ?_
      exact h
    · exact h
  · exact h

theorem State.opCommitCell_kept {w : Nat} {s0 x : State} {t e : Nat} {w_ : Word}
    (hw : 0x8000000000000000000000000018000 &&& w = 0x8000000000000000000000000018000) (h : Kept w s0 x) :
    Kept w s0 (State.opCommitCell x t e w_).2 := by
  unfold State.opCommitCell
  extract_lets v0 v1
  with_reducible apply Kept.ite2
  · refine State.opSubmit_kept (maskSub rfl hw) ?_
    exact h
  · with_reducible apply Kept.ite2
    · with_reducible apply Kept.ite2
      · refine State.opPayload_kept (maskSub rfl hw) ?_
        exact h
      · refine State.opTxCmd_kept (maskSub rfl hw) ?_
        exact h
    · with_reducible apply Kept.ite2
      · with_reducible apply Kept.ite2
        · refine State.opRxCmd_kept (maskSub rfl hw) ?_
          exact h
        · with_reducible apply Kept.ite2
          · exact h
          · exact h
      · exact h

theorem State.opCommitCfg_kept {w : Nat} {s0 x : State} {n : Nat} {w_ : Word}
    (hw : 0x1000000000000000000000000018000 &&& w = 0x1000000000000000000000000018000) (h : Kept w s0 x) :
    Kept w s0 (State.opCommitCfg x n w_).2 := by
  unfold State.opCommitCfg
  extract_lets v0 v1 v2 v3 v4
  have hv4 : Kept w s0 v4 := by
    unfold v4
    with_reducible apply Kept.ite
    · refine State.modOp_kept (maskSub rfl hw) ?_
      exact h
    · exact h
  clear_value v4
  with_reducible apply Kept.ite2
  · dsimp only
    refine State.wr_kept (maskSub rfl hw) ?_
    with_reducible assumption
  · exact h

theorem State.opCommitLaser_kept {w : Nat} {s0 x : State} {e : Nat} {w_ : Word}
    (hw : 0x2000000000000000000000000018000 &&& w = 0x2000000000000000000000000018000) (h : Kept w s0 x) :
    Kept w s0 (State.opCommitLaser x e w_).2 := by
  unfold State.opCommitLaser
  extract_lets v0 v1 v2 v3
  have hv3 : Kept w s0 v3 := by
    unfold v3
    with_reducible apply Kept.ite
    · refine State.modOp_kept (maskSub rfl hw) ?_
      exact h
    · exact h
  clear_value v3
  with_reducible apply Kept.ite2
  · dsimp only
    refine State.wr_kept (maskSub rfl hw) ?_
    with_reducible assumption
  · exact h

theorem State.opGroupStart_kept {w : Nat} {s0 x : State} {n : Nat} (hw : 0x18000 &&& w = 0x18000) (h : Kept w s0 x) :
    Kept w s0 (State.opGroupStart x n) := by
  unfold State.opGroupStart
  extract_lets v0 v1 v2 v3 v4
  with_reducible apply Kept.ite
  · exact h
  · refine State.modOp_kept (maskSub rfl hw) ?_
    exact h

theorem State.opChoose_kept {w : Nat} {s0 x : State} {n : Nat}
    (hw : 0x8000000000000000000000000018000 &&& w = 0x8000000000000000000000000018000) (h : Kept w s0 x) :
    Kept w s0 (State.opChoose x n).2 := by
  unfold State.opChoose
  extract_lets v0
  have hv0 : Kept w s0 v0 := by
    unfold v0
    refine State.modOp_kept (maskSub rfl hw) ?_
    exact h
  clear_value v0
  split
  · rename_i u1 u2 u3
    dsimp only
    refine State.modOp_kept (maskSub rfl hw) ?_
    exact h
  · rename_i u4 u5
    with_reducible apply Kept.ite2
    · dsimp only
      refine State.modOp_kept (maskSub rfl hw) ?_
      exact h
    · split
      · rename_i u6 u7 u8 u9
        extract_lets v10 v11 v12
        dsimp only
        refine State.opFreeTx_kept (maskSub rfl hw) ?_
        with_reducible assumption
      · rename_i u13 u14
        with_reducible assumption

theorem State.opMonitor_kept {w : Nat} {s0 x : State} {n mpd : Nat}
    (hw : 0x2000000000000000000000000000000 &&& w = 0x2000000000000000000000000000000) (h : Kept w s0 x) :
    Kept w s0 (State.opMonitor x n mpd) := by
  unfold State.opMonitor
  extract_lets v0 v1 v2 v3
  with_reducible apply Kept.ite
  · exact h
  · with_reducible apply Kept.ite
    · refine State.p_kept (maskSub rfl hw) ?_
      exact h
    · with_reducible apply Kept.ite
      · refine State.p_kept (maskSub rfl hw) ?_
        exact h
      · exact h

theorem State.opSend_kept {w : Nat} {s0 x : State} {n : Nat}
    (hw : 0x8000000000000000000000000018000 &&& w = 0x8000000000000000000000000018000) (h : Kept w s0 x) :
    Kept w s0 (State.opSend x n) := by
  unfold State.opSend
  extract_lets v0 v1 v2 v3 v4 v5 v6
  have hv0 : Kept w s0 v0 := by
    unfold v0
    refine State.opGroupStart_kept (maskSub rfl hw) ?_
    exact h
  clear_value v0
  have hv1 : Kept w s0 v1.2 := by
    unfold v1
    refine State.opChoose_kept (maskSub rfl hw) ?_
    with_reducible assumption
  clear_value v1
  have hv2 : Kept w s0 v2 := by unfold v2; with_reducible assumption
  clear_value v2
  refine State.modOp_kept (maskSub rfl hw) ?_
  with_reducible assumption

theorem execOptCellTx_kept {w : Nat} {s0 x : State} {n : Fin 2} {mpd : Nat}
    (hw : 0xa000000000004000000000000018000 &&& w = 0xa000000000004000000000000018000) (h : Kept w s0 x) :
    KeptO w s0 (execOptCellTx n mpd x) := by
  unfold execOptCellTx
  extract_lets v0 v1
  have hv0 : Kept w s0 v0 := by
    unfold v0
    refine State.advanceTo_kept (maskSub rfl hw) ?_
    exact h
  clear_value v0
  have hv1 : Kept w s0 v1 := by
    unfold v1
    refine State.opBoundary_kept (maskSub rfl hw) ?_
    refine State.modOp_kept (maskSub rfl hw) ?_
    with_reducible assumption
  clear_value v1
  with_reducible apply KeptO.ite
  · refine KeptO.next ?_
    exact h
  · with_reducible apply KeptO.ite
    · refine KeptO.next ?_
      refine State.opSend_kept (maskSub rfl hw) ?_
      refine State.opMonitor_kept (maskSub rfl hw) ?_
      with_reducible assumption
    · refine KeptO.next ?_
      with_reducible assumption

theorem execTimeCellDue_kept {w : Nat} {s0 x : State} {n : Fin 2} (hw : 0x18000 &&& w = 0x18000) (h : Kept w s0 x) :
    KeptO w s0 (execTimeCellDue n x) := by
  unfold execTimeCellDue
  with_reducible apply KeptO.ite
  · refine KeptO.next ?_
    refine State.modOp_kept (maskSub rfl hw) ?_
    exact h
  · refine KeptO.next ?_
    exact h

theorem State.opVerdict_kept {w : Nat} {s0 x : State} {n gseq cause : Nat}
    (hw : 0x600000000004000000000000000000000000018000 &&& w = 0x600000000004000000000000000000000000018000)
    (h : Kept w s0 x) :
    Kept w s0 (x.opVerdict n gseq cause) := by
  unfold State.opVerdict
  extract_lets e d hist a b due
  have ha : Kept w s0 a := State.ps_kept (maskSub rfl hw) h
  have hb : Kept w s0 b := State.modOp_kept (maskSub rfl hw) (State.bump_kept (maskSub rfl hw) ha)
  exact Kept.ite (State.bump_kept (maskSub rfl hw) ha) (Kept.ite (State.modOp_kept (maskSub rfl hw) (State.raiseCommon_kept
    (maskSub (srcMask_opU n) (maskSub rfl hw)) hb)) hb)

theorem State.opTimeVerified_kept {w : Nat} {s0 x : State} {n gseq cause : Nat}
    (hw : 0x10000000100000000000002000000000000018080 &&& w = 0x10000000100000000000002000000000000018080)
    (h : Kept w s0 x) :
    Kept w s0 (State.opTimeVerified x n gseq cause) := by
  unfold State.opTimeVerified
  extract_lets v0
  have hv0 : Kept w s0 v0 := by
    unfold v0
    refine State.modOp_kept (maskSub rfl hw) ?_
    exact h
  clear_value v0
  split
  · rename_i u1 u2 u3 u4 u5
    with_reducible apply Kept.ite
    · with_reducible apply Kept.ite
      · refine State.gyStamped_kept (maskSub rfl hw) ?_
        with_reducible assumption
      · with_reducible assumption
    · exact h
  · rename_i u6 u7
    exact h

theorem State.opGroupEnd_kept {w : Nat} {s0 x : State} {n : Nat}
    (hw : 0x610000000104000000000002000000000000018080 &&& w = 0x610000000104000000000002000000000000018080)
    (h : Kept w s0 x) :
    Kept w s0 (State.opGroupEnd x n) := by
  unfold State.opGroupEnd
  extract_lets v0 v1 v2 v3
  have hv3 : Kept w s0 v3 := by
    unfold v3
    with_reducible apply Kept.ite
    · refine State.opTimeVerified_kept (maskSub rfl hw) ?_
      refine State.opVerdict_kept (maskSub rfl hw) ?_
      exact h
    · exact h
  clear_value v3
  refine State.modOp_kept (maskSub rfl hw) ?_
  with_reducible assumption

theorem State.opGroupBegin_kept {w : Nat} {s0 x : State} {n seq : Nat} (hw : 0x18000 &&& w = 0x18000)
    (h : Kept w s0 x) :
    Kept w s0 (State.opGroupBegin x n seq) := by
  unfold State.opGroupBegin
  refine State.modOp_kept (maskSub rfl hw) ?_
  exact h

theorem State.opMark_kept {w : Nat} {s0 x : State} {n c : Nat} (hw : 0x18000 &&& w = 0x18000) (h : Kept w s0 x) :
    Kept w s0 (State.opMark x n c) := by
  unfold State.opMark
  refine State.modOp_kept (maskSub rfl hw) ?_
  exact h

theorem State.opMissed_kept {w : Nat} {s0 x : State} {n : Nat}
    (hw : 0x610000000104000000000002000000000000018080 &&& w = 0x610000000104000000000002000000000000018080)
    (h : Kept w s0 x) :
    Kept w s0 (State.opMissed x n) := by
  unfold State.opMissed
  extract_lets v0 v1 v2 v3
  have hv1 : Kept w s0 v1 := by
    unfold v1
    with_reducible apply Kept.ite
    · refine State.opGroupBegin_kept (maskSub rfl hw) ?_
      exact h
    · exact h
  clear_value v1
  have hv2 : Kept w s0 v2 := by
    unfold v2
    refine State.opMark_kept (maskSub rfl hw) ?_
    with_reducible assumption
  clear_value v2
  have hv3 : Kept w s0 v3 := by
    unfold v3
    with_reducible apply Kept.ite
    · refine State.opGroupEnd_kept (maskSub rfl hw) ?_
      with_reducible assumption
    · with_reducible assumption
  clear_value v3
  refine State.modOp_kept (maskSub rfl hw) ?_
  with_reducible assumption

theorem State.opSkip_kept {w : Nat} {s0 x : State} {n q k : Nat}
    (hw : 0x610000000104000000000002000000000000018080 &&& w = 0x610000000104000000000002000000000000018080)
    (h : Kept w s0 x) :
    Kept w s0 (x.opSkip n q k) := by
  induction k generalizing x with
  | zero => exact h
  | succ k ih => exact Kept.ite h (ih (State.opMissed_kept (maskSub rfl hw) h))

theorem State.opPlace_kept {w : Nat} {s0 x : State} {n : Nat} {c : BitVec 192}
    (hw : 0x610000000104000000000002000000000000018080 &&& w = 0x610000000104000000000002000000000000018080)
    (h : Kept w s0 x) :
    Kept w s0 (State.opPlace x n c) := by
  unfold State.opPlace
  extract_lets v0 v1 v2 v3
  have hv1 : Kept w s0 v1 := by
    unfold v1
    refine State.opSkip_kept (maskSub rfl hw) ?_
    exact h
  clear_value v1
  have hv2 : Kept w s0 v2 := by
    unfold v2
    with_reducible apply Kept.ite
    · refine State.opGroupBegin_kept (maskSub rfl hw) ?_
      with_reducible assumption
    · with_reducible assumption
  clear_value v2
  refine State.modOp_kept (maskSub rfl hw) ?_
  with_reducible assumption

theorem State.opPlaced_kept {w : Nat} {s0 x : State} {n : Nat} {c : BitVec 192}
    (hw : 0x610000000104000000000002000000000000018080 &&& w = 0x610000000104000000000002000000000000018080)
    (h : Kept w s0 x) :
    Kept w s0 (State.opPlaced x n c) := by
  unfold State.opPlaced
  with_reducible apply Kept.ite
  · refine State.opGroupEnd_kept (maskSub rfl hw) ?_
    exact h
  · exact h

theorem State.opStore_kept {w : Nat} {s0 x : State} {n : Nat} {c : BitVec 192} {stamp : Nat}
    (hw : 0x60000000000c000000000000000000000000018000 &&& w = 0x60000000000c000000000000000000000000018000)
    (h : Kept w s0 x) :
    Kept w s0 (State.opStore x n c stamp) := by
  unfold State.opStore
  extract_lets v0 v1 v2
  split
  · rename_i u3 u4 u5
    extract_lets v6 v7 v8
    have hv6 : Kept w s0 v6 := by
      unfold v6
      refine State.wr_kept (maskSub rfl hw) ?_
      exact h
    clear_value v6
    have hv7 : Kept w s0 v7 := by
      unfold v7
      refine State.ps_kept (maskSub rfl hw) ?_
      refine State.wr_kept (maskSub rfl hw) ?_
      with_reducible assumption
    clear_value v7
    have hv8 : Kept w s0 v8 := by
      unfold v8
      refine State.modOp_kept (maskSub rfl hw) ?_
      with_reducible assumption
    clear_value v8
    with_reducible apply Kept.ite
    · refine State.opMark_kept (maskSub rfl hw) ?_
      refine State.bump_kept (maskSub rfl hw) ?_
      exact h
    · with_reducible apply Kept.ite
      · refine State.raise_kept (maskSub (srcMask_opU _) (maskSub rfl hw)) ?_
        with_reducible assumption
      · with_reducible assumption
  · rename_i u9 u10
    refine State.opMark_kept (maskSub rfl hw) ?_
    refine State.bump_kept (maskSub rfl hw) ?_
    exact h

theorem State.opForward_kept {w : Nat} {s0 x : State} {n : Nat} {c : BitVec 192}
    (hw : 0x4000000000000000000000000018000 &&& w = 0x4000000000000000000000000018000) (h : Kept w s0 x) :
    Kept w s0 (State.opForward x n c) := by
  unfold State.opForward
  extract_lets v0
  with_reducible apply Kept.ite
  · refine State.modOp_kept (maskSub rfl hw) ?_
    exact h
  · refine State.bump_kept (maskSub rfl hw) ?_
    exact h

theorem State.opTimeCell_kept {w : Nat} {s0 x : State} {n : Nat} {c : BitVec 192} {ago : Nat}
    (hw : 0x10000000100000000000002000000000000018080 &&& w = 0x10000000100000000000002000000000000018080)
    (h : Kept w s0 x) :
    Kept w s0 (State.opTimeCell x n c ago) := by
  unfold State.opTimeCell
  extract_lets v0 v1 v2
  with_reducible apply Kept.ite
  · with_reducible apply Kept.ite
    · refine State.gyStamped_kept (maskSub rfl hw) ?_
      exact h
    · with_reducible apply Kept.ite
      · refine State.modOp_kept (maskSub rfl hw) ?_
        exact h
      · with_reducible apply Kept.ite
        · refine State.gyStamped_kept (maskSub rfl hw) ?_
          exact h
        · exact h
  · exact h

theorem State.opFlags_kept {w : Nat} {s0 x : State} {n : Nat} {flags : Nat}
    (hw : 0x600000000004000000000000000000000000018000 &&& w = 0x600000000004000000000000000000000000018000)
    (h : Kept w s0 x) :
    Kept w s0 (State.opFlags x n flags) := by
  unfold State.opFlags
  extract_lets v0 v1
  have hv1 : Kept w s0 v1 := by
    unfold v1
    refine State.modOp_kept (maskSub rfl hw) ?_
    exact h
  clear_value v1
  with_reducible apply Kept.ite
  · with_reducible assumption
  · refine State.raiseCommon_kept (maskSub (srcMask_opU _) (maskSub rfl hw)) ?_
    refine State.p_kept (maskSub rfl hw) ?_
    with_reducible assumption

theorem State.opHandle_kept {w : Nat} {s0 x : State} {n : Nat} {c : BitVec 192} {ago : Nat}
    (hw : 0x61000000010c000000000002000000000000018080 &&& w = 0x61000000010c000000000002000000000000018080)
    (h : Kept w s0 x) :
    Kept w s0 (State.opHandle x n c ago) := by
  unfold State.opHandle
  extract_lets v0 v1 v2
  with_reducible apply Kept.ite
  · refine State.bump_kept (maskSub rfl hw) ?_
    exact h
  · with_reducible apply Kept.ite
    · refine State.opStore_kept (maskSub rfl hw) ?_
      exact h
    · with_reducible apply Kept.ite
      · with_reducible apply Kept.ite
        · refine State.bump_kept (maskSub rfl hw) ?_
          exact h
        · with_reducible apply Kept.ite
          · refine State.opStore_kept (maskSub rfl hw) ?_
            exact h
          · refine State.opForward_kept (maskSub rfl hw) ?_
            exact h
      · with_reducible apply Kept.ite
        · refine State.opTimeCell_kept (maskSub rfl hw) ?_
          exact h
        · exact h

theorem State.opHunt_kept {w : Nat} {s0 x : State} {n : Nat}
    (hw : 0x600000006004000000000000000000000000018000 &&& w = 0x600000006004000000000000000000000000018000)
    (h : Kept w s0 x) :
    Kept w s0 (State.opHunt x n) := by
  unfold State.opHunt
  extract_lets v0
  have hv0 : Kept w s0 v0 := by
    unfold v0
    refine State.modOp_kept (maskSub rfl hw) ?_
    exact h
  clear_value v0
  refine State.opPut_kept (maskSub rfl hw) ?_
  refine State.p_kept (maskSub rfl hw) ?_
  with_reducible assumption

theorem execOptCellRx_kept {w : Nat} {s0 x : State} {n : Fin 2} {cell : BitVec 192} {ago : Nat}
    (hw : 0x61000000610c000000000002000000000000018080 &&& w = 0x61000000610c000000000002000000000000018080)
    (h : Kept w s0 x) :
    KeptO w s0 (execOptCellRx n cell ago x) := by
  unfold execOptCellRx
  extract_lets v0 v1 v2 v3 v4
  have hv2 : Kept w s0 v2 := by
    unfold v2
    refine State.modOp_kept (maskSub rfl hw) ?_
    exact h
  clear_value v2
  have hv3 : Kept w s0 v3 := by
    unfold v3
    refine State.opFlags_kept (maskSub rfl hw) ?_
    refine State.opPlace_kept (maskSub rfl hw) ?_
    refine State.modOp_kept (maskSub rfl hw) ?_
    exact h
  clear_value v3
  have hv4 : Kept w s0 v4 := by
    unfold v4
    refine State.modOp_kept (maskSub rfl hw) ?_
    refine State.opMissed_kept (maskSub rfl hw) ?_
    refine State.bump_kept (maskSub rfl hw) ?_
    exact h
  clear_value v4
  with_reducible apply KeptO.ite
  · refine KeptO.next ?_
    exact h
  · with_reducible apply KeptO.ite
    · with_reducible apply KeptO.ite
      · refine KeptO.next ?_
        refine State.modOp_kept (maskSub rfl hw) ?_
        exact h
      · refine KeptO.next ?_
        exact h
    · with_reducible apply KeptO.ite
      · with_reducible apply KeptO.ite
        · refine KeptO.next ?_
          refine State.modOp_kept (maskSub rfl hw) ?_
          exact h
        · with_reducible apply KeptO.ite
          · refine KeptO.next ?_
            refine State.modOp_kept (maskSub rfl hw) ?_
            exact h
          · refine KeptO.next ?_
            refine State.raiseCommon_kept (maskSub (srcMask_opU _) (maskSub rfl hw)) ?_
            refine State.opPut_kept (maskSub rfl hw) ?_
            with_reducible assumption
      · with_reducible apply KeptO.ite
        · refine KeptO.next ?_
          refine State.opPlaced_kept (maskSub rfl hw) ?_
          refine State.opHandle_kept (maskSub rfl hw) ?_
          with_reducible assumption
        · with_reducible apply KeptO.ite
          · refine KeptO.next ?_
            refine State.bump_kept (maskSub rfl hw) ?_
            refine State.raiseCommon_kept (maskSub (srcMask_opU _) (maskSub rfl hw)) ?_
            refine State.opHunt_kept (maskSub rfl hw) ?_
            with_reducible assumption
          · refine KeptO.next ?_
            with_reducible assumption

theorem State.opPilot_kept {w : Nat} {s0 x : State} {n : Nat} {r : Option (Int × Int × Nat)}
    (hw : 0x600000000004000000000000000000000000018000 &&& w = 0x600000000004000000000000000000000000018000)
    (h : Kept w s0 x) :
    Kept w s0 (State.opPilot x n r) := by
  unfold State.opPilot
  extract_lets v0 v1
  have hv1 : Kept w s0 v1 := by
    unfold v1
    refine State.p_kept (maskSub rfl hw) ?_
    exact h
  clear_value v1
  split
  · rename_i u2
    refine State.p_kept (maskSub rfl hw) ?_
    exact h
  · rename_i u3 u4 u5 u6
    extract_lets v7 v8 v9 v10
    have hv7 : Kept w s0 v7 := by
      unfold v7
      with_reducible apply Kept.ite
      · with_reducible assumption
      · refine State.ps_kept (maskSub rfl hw) ?_
        with_reducible assumption
    clear_value v7
    have hv10 : Kept w s0 v10 := by
      unfold v10
      refine State.modOp_kept (maskSub rfl hw) ?_
      with_reducible assumption
    clear_value v10
    with_reducible apply Kept.ite
    · exact h
    · with_reducible apply Kept.ite
      · refine State.raiseCommon_kept (maskSub (srcMask_opU _) (maskSub rfl hw)) ?_
        refine State.p_kept (maskSub rfl hw) ?_
        with_reducible assumption
      · with_reducible assumption

theorem execPwrAvgUpdate_kept {w : Nat} {s0 x : State} {n : Fin 2} {i : Nat}
    (hw : 0x4000000000000000000000000000000 &&& w = 0x4000000000000000000000000000000) (h : Kept w s0 x) :
    KeptO w s0 (execPwrAvgUpdate n i x) := by
  unfold execPwrAvgUpdate
  extract_lets v0 v1
  have hv1 : Kept w s0 v1 := by
    unfold v1
    refine State.advanceTo_kept (maskSub rfl hw) ?_
    exact h
  clear_value v1
  with_reducible apply KeptO.ite
  · refine KeptO.next ?_
    exact h
  · refine KeptO.next ?_
    refine State.ps_kept (maskSub rfl hw) ?_
    with_reducible assumption

theorem State.opFail_kept {w : Nat} {s0 x : State} {n l cause : Nat}
    (hw : 0x2000000000000000000000000018000 &&& w = 0x2000000000000000000000000018000) (h : Kept w s0 x) :
    Kept w s0 (State.opFail x n l cause) := by
  unfold State.opFail
  refine State.modOp_kept (maskSub rfl hw) ?_
  refine State.ps_kept (maskSub rfl hw) ?_
  exact h

theorem execLaserFail_kept {w : Nat} {s0 x : State} {n : Fin 2} {cause : Nat}
    (hw : 0x60000000600e000000000000000000000000018000 &&& w = 0x60000000600e000000000000000000000000018000)
    (h : Kept w s0 x) :
    KeptO w s0 (execLaserFail n cause x) := by
  unfold execLaserFail
  extract_lets v0 v1 v2 v3 v4 v5
  have hv5 : Kept w s0 v5 := by
    unfold v5
    refine State.raiseCommon_kept (maskSub (srcMask_opU _) (maskSub rfl hw)) ?_
    refine State.opFail_kept (maskSub rfl hw) ?_
    exact h
  clear_value v5
  with_reducible apply KeptO.ite
  · refine KeptO.next ?_
    refine State.opLoseLive_kept (maskSub rfl hw) ?_ ?_
    · intro i6 i7
      refine State.opEndAll_kept (maskSub rfl hw) ?_
      with_reducible assumption
    · refine State.opAbandon_kept (maskSub rfl hw) ?_
      with_reducible assumption
  · refine KeptO.next ?_
    exact h

theorem State.opCalBegin_kept {w : Nat} {s0 x : State} {n l : Nat}
    (hw : 0x600000006006000000000000000000000000018000 &&& w = 0x600000006006000000000000000000000000018000)
    (h : Kept w s0 x) :
    Kept w s0 (State.opCalBegin x n l) := by
  unfold State.opCalBegin
  extract_lets v0 v1 v2 v3
  have hv2 : Kept w s0 v2 := by
    unfold v2
    refine State.modOp_kept (maskSub rfl hw) ?_
    exact h
  clear_value v2
  have hv3 : Kept w s0 v3 := by
    unfold v3
    with_reducible apply Kept.ite
    · refine State.opTakeover_kept (maskSub rfl hw) ?_
      refine State.advanceTo_kept (maskSub rfl hw) ?_
      with_reducible assumption
    · with_reducible assumption
  clear_value v3
  with_reducible apply Kept.ite
  · refine State.opCalEvent_kept (maskSub rfl hw) ?_
    exact h
  · refine State.opPut_kept (maskSub rfl hw) ?_
    with_reducible assumption

theorem execCalWindowStart_kept {w : Nat} {s0 x : State} {n : Fin 2}
    (hw : 0x600000006006000000000000000000000000018000 &&& w = 0x600000006006000000000000000000000000018000)
    (h : Kept w s0 x) :
    KeptO w s0 (execCalWindowStart n x) := by
  unfold execCalWindowStart
  extract_lets v0 v1
  have hv1 : Kept w s0 v1 := by
    unfold v1
    refine State.toCycle_kept (maskSub rfl hw) ?_
    exact h
  clear_value v1
  with_reducible apply KeptO.ite
  · refine KeptO.next ?_
    exact h
  · split
    · rename_i u2 u3 u4 u5
      with_reducible apply KeptO.ite
      · refine KeptO.next ?_
        exact h
      · refine KeptO.next ?_
        refine State.opCalBegin_kept (maskSub rfl hw) ?_
        refine State.modOp_kept (maskSub rfl hw) ?_
        with_reducible assumption
    · rename_i u6 u7
      with_reducible apply KeptO.ite
      · refine KeptO.next ?_
        refine State.opCalBegin_kept (maskSub rfl hw) ?_
        refine State.modOp_kept (maskSub rfl hw) ?_
        with_reducible assumption
      · refine KeptO.next ?_
        exact h

theorem State.opFit_kept {w : Nat} {s0 x : State} {n l : Nat} {mpd : List Nat} (_hw : 0 &&& w = 0) (h : Kept w s0 x) :
    Kept w s0 (State.opFit x n l mpd).2 := by
  unfold State.opFit
  extract_lets v0 v1 v2 v3 v4 v5 v6 v7 v8 v9 v10
  have hv5 : Kept w s0 v5.2 := by
    unfold v5
    refine State.draw_kept ?_
    exact h
  clear_value v5
  have hv7 : Kept w s0 v7 := by
    unfold v7
    with_reducible apply Kept.ite
    · with_reducible assumption
    · exact h
  clear_value v7
  with_reducible apply Kept.ite2
  · exact h
  · with_reducible assumption

theorem execCalDone_kept {w : Nat} {s0 x : State} {n : Fin 2} {mpd : List Nat}
    (hw : 0x600000006006000000000000000000000000018000 &&& w = 0x600000006006000000000000000000000000018000)
    (h : Kept w s0 x) :
    KeptO w s0 (execCalDone n mpd x) := by
  unfold execCalDone
  extract_lets v0 v1 v2
  have hv1 : Kept w s0 v1 := by
    unfold v1
    refine State.advanceFrac_kept (maskSub rfl hw) ?_
    exact h
  clear_value v1
  have hv2 : Kept w s0 v2 := by
    unfold v2
    refine State.advanceTo_kept (maskSub rfl hw) ?_
    with_reducible assumption
  clear_value v2
  split
  · rename_i u3 u4
    refine KeptO.next ?_
    exact h
  · rename_i u5 u6 u7
    extract_lets v8 v9 v10 v11 v12
    have hv8 : Kept w s0 v8.2 := by
      unfold v8
      refine State.opFit_kept (maskSub rfl hw) ?_
      with_reducible assumption
    clear_value v8
    have hv10 : Kept w s0 v10 := by
      unfold v10
      refine State.modOp_kept (maskSub rfl hw) ?_
      with_reducible assumption
    clear_value v10
    have hv11 : Kept w s0 v11 := by
      unfold v11
      refine State.opPut_kept (maskSub rfl hw) ?_
      refine State.p_kept (maskSub rfl hw) ?_
      with_reducible assumption
    clear_value v11
    have hv12 : Kept w s0 v12 := by
      unfold v12
      refine State.opCalEvent_kept (maskSub rfl hw) ?_
      refine State.opFail_kept (maskSub rfl hw) ?_
      with_reducible assumption
    clear_value v12
    clear_value *
    split
    · rename_i u13
      refine KeptO.next ?_
      with_reducible assumption
    · rename_i u14 u15 u16 u17
      extract_lets v18 v19 v20 v21
      have hv18 : Kept w s0 v18 := by
        unfold v18
        refine State.bump_kept (maskSub rfl hw) ?_
        refine State.ps_kept (maskSub rfl hw) ?_
        with_reducible assumption
      clear_value v18
      have hv19 : Kept w s0 v19 := by
        unfold v19
        refine State.modOp_kept (maskSub rfl hw) ?_
        with_reducible assumption
      clear_value v19
      have hv21 : Kept w s0 v21 := by
        unfold v21
        with_reducible apply Kept.ite
        · refine State.opGoLive_kept (maskSub rfl hw) ?_
          refine State.opPut_kept (maskSub rfl hw) ?_
          with_reducible assumption
        · with_reducible apply Kept.ite
          · refine State.opTakeover_kept (maskSub rfl hw) ?_
            with_reducible assumption
          · with_reducible assumption
      clear_value v21
      with_reducible apply KeptO.ite
      · refine KeptO.next ?_
        with_reducible assumption
      · refine KeptO.next ?_
        refine State.opCalEvent_kept (maskSub rfl hw) ?_
        with_reducible assumption

theorem State.opShut_kept {w : Nat} {s0 x : State} {n : Nat}
    (hw : 0x600000006000000000000000000000000000018000 &&& w = 0x600000006000000000000000000000000000018000)
    (h : Kept w s0 x) :
    Kept w s0 (State.opShut x n) := by
  unfold State.opShut
  refine State.modOp_kept (maskSub rfl hw) ?_
  refine State.opSetAls_kept (maskSub rfl hw) ?_
  exact h

theorem State.opPulse_kept {w : Nat} {s0 x : State} {n a : Nat}
    (hw : 0x600000006000000000000000000000000000018000 &&& w = 0x600000006000000000000000000000000000018000)
    (h : Kept w s0 x) :
    Kept w s0 (State.opPulse x n a) := by
  unfold State.opPulse
  extract_lets v0
  refine State.modOp_kept (maskSub rfl hw) ?_
  refine State.opSetAls_kept (maskSub rfl hw) ?_
  exact h

theorem execLos_kept {w : Nat} {s0 x : State} {n : Fin 2} {set : Bool}
    (hw : 0x600000006002000000000000000000000000018000 &&& w = 0x600000006002000000000000000000000000018000)
    (h : Kept w s0 x) :
    KeptO w s0 (execLos n set x) := by
  unfold execLos
  extract_lets v0 v1
  have hv1 : Kept w s0 v1 := by
    unfold v1
    refine State.raiseCommon_kept (maskSub (srcMask_opU _) (maskSub rfl hw)) ?_
    refine State.opPut_kept (maskSub rfl hw) ?_
    exact h
  clear_value v1
  with_reducible apply KeptO.ite
  · refine KeptO.next ?_
    exact h
  · with_reducible apply KeptO.ite
    · with_reducible apply KeptO.ite
      · refine KeptO.next ?_
        refine State.opShut_kept (maskSub rfl hw) ?_
        refine State.opAbandon_kept (maskSub rfl hw) ?_
        with_reducible assumption
      · refine KeptO.next ?_
        refine State.opAbandon_kept (maskSub rfl hw) ?_
        with_reducible assumption
    · refine KeptO.next ?_
      refine State.opSetAls_kept (maskSub rfl hw) ?_
      with_reducible assumption

theorem execAlsPulse_kept {w : Nat} {s0 x : State} {n : Fin 2}
    (hw : 0x600000006000000000000000000000000000018000 &&& w = 0x600000006000000000000000000000000000018000)
    (h : Kept w s0 x) :
    KeptO w s0 (execAlsPulse n x) := by
  unfold execAlsPulse
  extract_lets v0
  with_reducible apply KeptO.ite
  · refine KeptO.next ?_
    refine State.opPulse_kept (maskSub rfl hw) ?_
    refine State.advanceTo_kept (maskSub rfl hw) ?_
    exact h
  · refine KeptO.next ?_
    exact h

theorem execAlsPulseEnd_kept {w : Nat} {s0 x : State} {n : Fin 2}
    (hw : 0x600000006000000000000000000000000000018000 &&& w = 0x600000006000000000000000000000000000018000)
    (h : Kept w s0 x) :
    KeptO w s0 (execAlsPulseEnd n x) := by
  unfold execAlsPulseEnd
  extract_lets v0
  with_reducible apply KeptO.ite
  · refine KeptO.next ?_
    refine State.opSetAls_kept (maskSub rfl hw) ?_
    refine State.advanceTo_kept (maskSub rfl hw) ?_
    exact h
  · with_reducible apply KeptO.ite
    · refine KeptO.next ?_
      refine State.opShut_kept (maskSub rfl hw) ?_
      refine State.advanceTo_kept (maskSub rfl hw) ?_
      exact h
    · refine KeptO.next ?_
      exact h

theorem State.opStart_kept {w : Nat} {s0 x : State} {n : Nat}
    (hw : 0x7fff0001ffff0800000000000c040000000000018080 &&& w = 0x7fff0001ffff0800000000000c040000000000018080)
    (h : Kept w s0 x) :
    Kept w s0 (State.opStart x n) := by
  unfold State.opStart
  extract_lets v0 v1 v2 v3 v4 v5
  have hv2 : Kept w s0 v2 := by
    unfold v2
    refine State.opKind4_kept (maskSub rfl hw) ?_
    refine State.ascPut_kept (maskSub rfl hw) ?_
    exact h
  clear_value v2
  have hv5 : Kept w s0 v5 := by
    unfold v5
    refine State.modOp_kept (maskSub rfl hw) ?_
    with_reducible assumption
  clear_value v5
  with_reducible apply Kept.ite
  · exact h
  · with_reducible apply Kept.ite
    · refine State.goFault_kept (maskSub (unitMask_all _) (maskSub rfl hw)) (maskSub (srcMask_all _) (maskSub rfl hw)) (maskSub rfl hw) ?_ ?_
      · intro i6 i7 i8
        refine State.opEndAll_kept (maskSub rfl hw) ?_
        with_reducible assumption
      · exact h
    · with_reducible apply Kept.ite
      · exact h
      · with_reducible apply Kept.ite
        · refine State.goFault_kept (maskSub (unitMask_all _) (maskSub rfl hw)) (maskSub (srcMask_all _) (maskSub rfl hw)) (maskSub rfl hw) ?_ ?_
          · intro i9 i10 i11
            refine State.opEndAll_kept (maskSub rfl hw) ?_
            with_reducible assumption
          · exact h
        · refine State.goOn_kept (maskSub (unitMask_all _) (maskSub rfl hw)) (maskSub (srcMask_all _) (maskSub rfl hw)) ?_
          with_reducible assumption

theorem State.opOut_kept {w : Nat} {s0 x : State} {n : Nat}
    (hw : 0xe000000000004000000000000018000 &&& w = 0xe000000000004000000000000018000) (h : Kept w s0 x) :
    Kept w s0 (State.opOut x n) := by
  unfold State.opOut
  extract_lets v0 v1 v2
  have hv0 : Kept w s0 v0 := by
    unfold v0
    refine Kept.foldl ?_ ?_
    · intro i3 i4 i5
      refine State.opFreeRx_kept (maskSub rfl hw) ?_
      with_reducible assumption
    · exact h
  clear_value v0
  have hv1 : Kept w s0 v1 := by
    unfold v1
    refine State.p_kept (maskSub rfl hw) ?_
    refine State.p_kept (maskSub rfl hw) ?_
    with_reducible assumption
  clear_value v1
  have hv2 : Kept w s0 v2 := by
    unfold v2
    refine State.modOp_kept (maskSub rfl hw) ?_
    with_reducible assumption
  clear_value v2
  refine State.ascDrop_kept (maskSub rfl hw) ?_
  refine State.p_kept (maskSub rfl hw) ?_
  with_reducible assumption

theorem State.opForce_kept {w : Nat} {s0 x : State} {n arg : Nat}
    (hw : 0x600000006002000000000000000000000000018000 &&& w = 0x600000006002000000000000000000000000018000)
    (h : Kept w s0 x) :
    Kept w s0 (State.opForce x n arg) := by
  unfold State.opForce
  extract_lets v0 v1 v2
  have hv0 : Kept w s0 v0 := by
    unfold v0
    refine State.opAbandon_kept (maskSub rfl hw) ?_
    refine State.advanceTo_kept (maskSub rfl hw) ?_
    exact h
  clear_value v0
  have hv1 : Kept w s0 v1 := by
    unfold v1
    refine State.changeMirror_kept (maskSub (unitMask_opU _) (maskSub rfl hw)) (maskSub (srcMask_opU _) (maskSub rfl hw)) ?_
    with_reducible assumption
  clear_value v1
  have hv2 : Kept w s0 v2 := by
    unfold v2
    with_reducible apply Kept.ite
    · refine State.opPut_kept (maskSub rfl hw) ?_
      with_reducible assumption
    · with_reducible assumption
  clear_value v2
  with_reducible apply Kept.ite
  · with_reducible apply Kept.ite
    · with_reducible assumption
    · refine State.opGoLive_kept (maskSub rfl hw) ?_
      with_reducible assumption
  · with_reducible assumption

theorem State.opGov_kept {w : Nat} {s0 x : State}
    (hw : 0x600000006006000000000000000000000000018000 &&& w = 0x600000006006000000000000000000000000018000)
    (h : Kept w s0 x) :
    Kept w s0 (State.opGov x) := by
  unfold State.opGov
  with_reducible apply Kept.ite
  · exact h
  · with_reducible apply Kept.ite
    · refine State.opAbandon_kept (maskSub rfl hw) ?_
      exact h
    · with_reducible apply Kept.ite
      · refine State.opTakeover_kept (maskSub rfl hw) ?_
        refine State.advanceTo_kept (maskSub rfl hw) ?_
        refine State.opPut_kept (maskSub rfl hw) ?_
        exact h
      · exact h

theorem State.opUnitCmd_kept {w : Nat} {s0 x : State} {n cmd arg : Nat}
    (hw : 0x600000006002000000000000000000000000018000 &&& w = 0x600000006002000000000000000000000000018000)
    (h : Kept w s0 x) :
    Kept w s0 (State.opUnitCmd x n cmd arg).2 := by
  unfold State.opUnitCmd
  extract_lets v0 v1 v2 v3 v4 v5 v6 v7
  have hv7 : Kept w s0 v7 := by
    unfold v7
    refine State.ps_kept (maskSub rfl hw) ?_
    exact h
  clear_value v7
  with_reducible apply Kept.ite2
  · with_reducible apply Kept.ite2
    · dsimp only
      refine State.opPulse_kept (maskSub rfl hw) ?_
      exact h
    · exact h
  · with_reducible apply Kept.ite2
    · with_reducible apply Kept.ite2
      · dsimp only
        refine State.opPulse_kept (maskSub rfl hw) ?_
        exact h
      · exact h
    · with_reducible apply Kept.ite2
      · with_reducible apply Kept.ite2
        · dsimp only
          refine State.modOp_kept (maskSub rfl hw) ?_
          exact h
        · exact h
      · with_reducible apply Kept.ite2
        · with_reducible apply Kept.ite2
          · dsimp only
            refine State.modOp_kept (maskSub rfl hw) ?_
            with_reducible assumption
          · exact h
        · exact h

theorem State.modSfc_kept {w : Nat} {s0 x : State} {n : Nat} {f : SfCh → SfCh} (hw : 0x20000 &&& w = 0x20000)
    (h : Kept w s0 x) :
    Kept w s0 (State.modSfc x n f) := by
  unfold State.modSfc
  refine State.modSf_kept (maskSub rfl hw) ?_
  exact h

theorem State.sfSetSub_kept {w : Nat} {s0 x : State} {low : Bool} {check : Option Nat}
    (hw : 0x800000008020000000000000000000000000000000 &&& w = 0x800000008020000000000000000000000000000000)
    (h : Kept w s0 x) :
    Kept w s0 (State.sfSetSub x low check) := by
  unfold State.sfSetSub
  extract_lets v0
  refine State.setSub_kept (maskSub rfl hw) (maskSub rfl hw) ?_
  refine State.ps_kept (maskSub rfl hw) ?_
  exact h

theorem State.sfMark_kept {w : Nat} {s0 x : State} {n reason count : Nat} (hw : 0x20000 &&& w = 0x20000)
    (h : Kept w s0 x) :
    Kept w s0 (State.sfMark x n reason count) := by
  unfold State.sfMark
  refine State.modSfc_kept (maskSub rfl hw) ?_
  exact h

theorem State.sfDeliver_kept {w : Nat} {s0 x : State} {n : Nat} {x_ : Int} {ovl : Bool}
    (hw : 0x10000000000000000000000000020000 &&& w = 0x10000000000000000000000000020000) (h : Kept w s0 x) :
    Kept w s0 (State.sfDeliver x n x_ ovl) := by
  unfold State.sfDeliver
  extract_lets v0 v1 v2 v3 v4
  have hv3 : Kept w s0 v3 := by
    unfold v3
    refine State.modSfc_kept (maskSub rfl hw) ?_
    exact h
  clear_value v3
  have hv4 : Kept w s0 v4 := by
    unfold v4
    with_reducible apply Kept.ite
    · refine State.bump_kept (maskSub rfl hw) ?_
      with_reducible assumption
    · with_reducible assumption
  clear_value v4
  refine State.modSf_kept (maskSub rfl hw) ?_
  with_reducible assumption

theorem State.sfCurrent_kept {w : Nat} {s0 x : State} {n i : Nat}
    (hw : 0x30000000000000000000000000000000 &&& w = 0x30000000000000000000000000000000) (h : Kept w s0 x) :
    Kept w s0 (State.sfCurrent x n i) := by
  unfold State.sfCurrent
  extract_lets v0
  have hv0 : Kept w s0 v0 := by
    unfold v0
    refine State.p_kept (maskSub rfl hw) ?_
    exact h
  clear_value v0
  refine State.p_kept (maskSub rfl hw) ?_
  with_reducible assumption

theorem execSinc3Output_kept {w : Nat} {s0 x : State} {n : Fin 4} {x_ : Int} {ovl : Bool} {iexc : Nat}
    (hw : 0x30000000000000000000000000020000 &&& w = 0x30000000000000000000000000020000) (h : Kept w s0 x) :
    KeptO w s0 (execSinc3Output n x_ ovl iexc x) := by
  unfold execSinc3Output
  extract_lets v0 v1 v2 v3
  have hv3 : Kept w s0 v3 := by
    unfold v3
    refine State.advanceTo_kept (maskSub rfl hw) ?_
    exact h
  clear_value v3
  with_reducible apply KeptO.ite
  · refine KeptO.next ?_
    exact h
  · refine KeptO.next ?_
    refine State.modSfc_kept (maskSub rfl hw) ?_
    refine State.sfDeliver_kept (maskSub rfl hw) ?_
    refine State.sfCurrent_kept (maskSub rfl hw) ?_
    with_reducible assumption

theorem execCycleWindowEnd_kept {w : Nat} {s0 x : State} {n : Fin 4} {x_ : Int} {ovl : Bool} {iexc : Nat}
    (hw : 0x30000000000000000000000000020000 &&& w = 0x30000000000000000000000000020000) (h : Kept w s0 x) :
    KeptO w s0 (execCycleWindowEnd n x_ ovl iexc x) := by
  unfold execCycleWindowEnd
  extract_lets v0 v1 v2 v3 v4 v5
  have hv2 : Kept w s0 v2 := by
    unfold v2
    refine State.sfDeliver_kept (maskSub rfl hw) ?_
    refine State.sfCurrent_kept (maskSub rfl hw) ?_
    refine State.sfMark_kept (maskSub rfl hw) ?_
    exact h
  clear_value v2
  have hv3 : Kept w s0 v3 := by
    unfold v3
    refine State.toCycle_kept (maskSub rfl hw) ?_
    exact h
  clear_value v3
  with_reducible apply KeptO.ite
  · refine KeptO.next ?_
    exact h
  · with_reducible apply KeptO.ite
    · refine KeptO.next ?_
      refine State.modSfc_kept (maskSub rfl hw) ?_
      with_reducible assumption
    · with_reducible apply KeptO.ite
      · refine KeptO.next ?_
        refine State.modSfc_kept (maskSub rfl hw) ?_
        refine State.sfDeliver_kept (maskSub rfl hw) ?_
        refine State.sfCurrent_kept (maskSub rfl hw) ?_
        with_reducible assumption
      · refine KeptO.next ?_
        exact h

theorem State.sfPut_kept {w : Nat} {s0 x : State} {e raw reason : Nat} {unlocked tstale : Bool} {value stamp : Nat}
    (hw : 0x20000000000000000000000000020000 &&& w = 0x20000000000000000000000000020000) (h : Kept w s0 x) :
    Kept w s0 (State.sfPut x e raw reason unlocked tstale value stamp) := by
  unfold State.sfPut
  extract_lets v0
  have hv0 : Kept w s0 v0 := by
    unfold v0
    refine State.ps_kept (maskSub rfl hw) ?_
    exact h
  clear_value v0
  with_reducible apply Kept.ite
  · refine State.modSf_kept (maskSub rfl hw) ?_
    with_reducible assumption
  · with_reducible assumption

theorem State.sfAux_kept {w : Nat} {s0 x : State} {src : Nat} {x_ : Int} {ovl step : Bool}
    (hw : 0x20000000000000000000000000020000 &&& w = 0x20000000000000000000000000020000) (h : Kept w s0 x) :
    Kept w s0 (State.sfAux x src x_ ovl step) := by
  unfold State.sfAux
  extract_lets v0 v1 v2
  have hv2 : Kept w s0 v2 := by
    unfold v2
    refine State.modSf_kept (maskSub rfl hw) ?_
    exact h
  clear_value v2
  refine State.sfPut_kept (maskSub rfl hw) ?_
  with_reducible assumption

theorem execAuxConversion_kept {w : Nat} {s0 x : State} {x_ : Int} {ovl : Bool}
    (hw : 0x20000000000000000000000000020000 &&& w = 0x20000000000000000000000000020000) (h : Kept w s0 x) :
    KeptO w s0 (execAuxConversion x_ ovl x) := by
  unfold execAuxConversion
  extract_lets v0
  have hv0 : Kept w s0 v0 := by
    unfold v0
    refine State.toCycle_kept (maskSub rfl hw) ?_
    exact h
  clear_value v0
  with_reducible apply KeptO.ite
  · refine KeptO.next ?_
    exact h
  · split
    · rename_i u1 u2
      refine KeptO.next ?_
      refine State.modSf_kept (maskSub rfl hw) ?_
      with_reducible assumption
    · rename_i u3 u4 u5
      with_reducible apply KeptO.ite
      · refine KeptO.next ?_
        refine State.modSf_kept (maskSub rfl hw) ?_
        refine State.sfAux_kept (maskSub rfl hw) ?_
        exact h
      · refine KeptO.next ?_
        refine State.modSf_kept (maskSub rfl hw) ?_
        refine State.sfAux_kept (maskSub rfl hw) ?_
        with_reducible assumption

theorem State.sfLoads_kept {w : Nat} {s0 x : State}
    (hw : 0x10000000000000000000000000020000 &&& w = 0x10000000000000000000000000020000) (h : Kept w s0 x) :
    Kept w s0 (State.sfLoads x) := by
  unfold State.sfLoads
  refine Kept.foldl ?_ ?_
  · intro i0 i1 i2
    with_reducible apply Kept.ite
    · refine State.modSfc_kept (maskSub rfl hw) ?_
      refine State.ps_kept (maskSub rfl hw) ?_
      with_reducible assumption
    · with_reducible assumption
  · exact h

theorem State.sfK4Start_kept {w : Nat} {s0 x : State} (hw : 0x20000 &&& w = 0x20000) (h : Kept w s0 x) :
    Kept w s0 (State.sfK4Start x) := by
  unfold State.sfK4Start
  refine State.modSf_kept (maskSub rfl hw) ?_
  exact h

theorem State.sfPublish_kept {w : Nat} {s0 x : State} {c : SfConv}
    (hw : 0x800000000020000000000000000000000000020000 &&& w = 0x800000000020000000000000000000000000020000)
    (h : Kept w s0 x) :
    Kept w s0 (State.sfPublish x c) := by
  unfold State.sfPublish
  extract_lets v0 v1 v2
  have hv0 : Kept w s0 v0 := by
    unfold v0
    refine State.sfPut_kept (maskSub rfl hw) ?_
    exact h
  clear_value v0
  have hv1 : Kept w s0 v1 := by
    unfold v1
    refine State.modSfc_kept (maskSub rfl hw) ?_
    with_reducible assumption
  clear_value v1
  with_reducible apply Kept.ite
  · refine State.raiseTenant_kept (maskSub rfl hw) ?_
    with_reducible assumption
  · with_reducible assumption

theorem State.sfK4Done_kept {w : Nat} {s0 x : State} {late : Bool}
    (hw : 0x800000000020000000000000000000000000020000 &&& w = 0x800000000020000000000000000000000000020000)
    (h : Kept w s0 x) :
    Kept w s0 (State.sfK4Done x late) := by
  unfold State.sfK4Done
  extract_lets v0 v1
  have hv1 : Kept w s0 v1 := by
    unfold v1
    refine Kept.foldl ?_ ?_
    · intro i2 i3 i4
      refine State.sfPublish_kept (maskSub rfl hw) ?_
      with_reducible assumption
    · refine State.modSf_kept (maskSub rfl hw) ?_
      exact h
  clear_value v1
  refine State.p_kept (maskSub rfl hw) ?_
  with_reducible apply Kept.ite
  · refine State.bump_kept (maskSub rfl hw) ?_
    with_reducible assumption
  · with_reducible assumption

theorem State.sfResult_kept {w : Nat} {s0 x : State} {n result faults : Nat}
    (hw : 0x800000000020000000000000000000000000000000 &&& w = 0x800000000020000000000000000000000000000000)
    (h : Kept w s0 x) :
    Kept w s0 (State.sfResult x n result faults) := by
  unfold State.sfResult
  extract_lets v0
  have hv0 : Kept w s0 v0 := by
    unfold v0
    refine State.ps_kept (maskSub rfl hw) ?_
    exact h
  clear_value v0
  refine State.raiseTenant_kept (maskSub rfl hw) ?_
  with_reducible assumption

theorem State.sfCheckEnd_kept {w : Nat} {s0 x : State}
    (hw : 0x80000000802000000000000c040000000000020080 &&& w = 0x80000000802000000000000c040000000000020080)
    (h : Kept w s0 x) :
    Kept w s0 (State.sfCheckEnd x) := by
  unfold State.sfCheckEnd
  extract_lets v0
  have hv0 : Kept w s0 v0 := by
    unfold v0
    refine State.modSf_kept (maskSub rfl hw) ?_
    exact h
  clear_value v0
  split
  · rename_i u1 u2
    exact h
  · rename_i u3 u4 u5
    extract_lets v6 v7
    have hv6 : Kept w s0 v6 := by
      unfold v6
      refine State.sfMark_kept (maskSub rfl hw) ?_
      with_reducible assumption
    clear_value v6
    have hv7 : Kept w s0 v7 := by
      unfold v7
      with_reducible apply Kept.ite
      · refine State.freeClaim_kept (maskSub rfl hw) ?_
        with_reducible assumption
      · with_reducible assumption
    clear_value v7
    refine State.sfSetSub_kept (maskSub rfl hw) ?_
    with_reducible assumption

theorem State.sfAbandon_kept {w : Nat} {s0 x : State}
    (hw : 0x80000000802000000000000c040000000000020080 &&& w = 0x80000000802000000000000c040000000000020080)
    (h : Kept w s0 x) :
    Kept w s0 (State.sfAbandon x) := by
  unfold State.sfAbandon
  split
  · rename_i u0 u1
    exact h
  · rename_i u2 u3 u4
    refine State.sfResult_kept (maskSub rfl hw) ?_
    refine State.sfCheckEnd_kept (maskSub rfl hw) ?_
    exact h

theorem execImpCheckDue_kept {w : Nat} {s0 x : State} {n : Fin 4} (hw : 0x20000 &&& w = 0x20000) (h : Kept w s0 x) :
    KeptO w s0 (execImpCheckDue n x) := by
  unfold execImpCheckDue
  split
  · rename_i u0 u1 u2
    extract_lets v3 v4
    have hv3 : Kept w s0 v3 := by
      unfold v3
      refine State.advanceTo_kept (maskSub rfl hw) ?_
      exact h
    clear_value v3
    with_reducible apply KeptO.ite
    · refine KeptO.next ?_
      refine State.modSfc_kept (maskSub rfl hw) ?_
      with_reducible assumption
    · refine KeptO.next ?_
      exact h
  · rename_i u5 u6
    refine KeptO.next ?_
    exact h

theorem execImpCheckStart_kept {w : Nat} {s0 x : State}
    (hw : 0x800000008020000000000000040000000000020000 &&& w = 0x800000008020000000000000040000000000020000)
    (h : Kept w s0 x) :
    KeptO w s0 (execImpCheckStart x) := by
  unfold execImpCheckStart
  extract_lets v0
  have hv0 : Kept w s0 v0 := by
    unfold v0
    refine State.toCycle_kept (maskSub rfl hw) ?_
    exact h
  clear_value v0
  with_reducible apply KeptO.ite
  · refine KeptO.next ?_
    exact h
  · split
    · rename_i u1 u2
      refine KeptO.next ?_
      exact h
    · rename_i u3 u4 u5
      extract_lets v6 v7 v8
      have hv6 : Kept w s0 v6 := by
        unfold v6
        with_reducible apply Kept.ite
        · refine State.modSf_kept (maskSub rfl hw) ?_
          with_reducible assumption
        · refine State.modSfc_kept (maskSub rfl hw) ?_
          with_reducible assumption
      clear_value v6
      have hv7 : Kept w s0 v7 := by
        unfold v7
        refine State.unitClaim_kept (maskSub rfl hw) ?_
        with_reducible assumption
      clear_value v7
      have hv8 : Kept w s0 v8 := by
        unfold v8
        refine State.modSf_kept (maskSub rfl hw) ?_
        with_reducible assumption
      clear_value v8
      with_reducible apply KeptO.ite
      · refine KeptO.next ?_
        refine State.sfResult_kept (maskSub rfl hw) ?_
        with_reducible assumption
      · with_reducible apply KeptO.ite
        · refine KeptO.next ?_
          refine State.sfResult_kept (maskSub rfl hw) ?_
          with_reducible assumption
        · refine KeptO.next ?_
          refine State.sfSetSub_kept (maskSub rfl hw) ?_
          with_reducible assumption

theorem State.sfLock_kept {w : Nat} {s0 x : State} {i q : Int} (hw : 0x20000 &&& w = 0x20000) (h : Kept w s0 x) :
    Kept w s0 (State.sfLock x i q) := by
  unfold State.sfLock
  with_reducible apply Kept.ite
  · exact h
  · refine State.modSf_kept (maskSub rfl hw) ?_
    exact h

theorem execImpResult_kept {w : Nat} {s0 x : State} {vsn iexc ad : Nat}
    (hw : 0x80000000802000000000000c040000000000020080 &&& w = 0x80000000802000000000000c040000000000020080)
    (h : Kept w s0 x) :
    KeptO w s0 (execImpResult vsn iexc ad x) := by
  unfold execImpResult
  extract_lets v0 v1 v2 v3 v4 v5 v6 v7 v8 v9 v10 v11 v12 v13 v14 v15 v16 v17 v18 v19 v20
  have hv0 : Kept w s0 v0 := by
    unfold v0
    refine State.advanceFrac_kept (maskSub rfl hw) ?_
    exact h
  clear_value v0
  have hv6 : ∀ a0 a1, Kept w s0 a1 → Kept w s0 (v6 a0 a1).2 := by
    unfold v6
    intro i21 i22 i23
    split
    · rename_i u24 u25
      with_reducible apply Kept.ite2
      · with_reducible assumption
      · dsimp only
        refine State.draw_kept ?_
        with_reducible assumption
    · rename_i u26
      dsimp only
      refine State.draw_kept ?_
      with_reducible assumption
  clear_value v6
  have hv7 : Kept w s0 v7.2 := by
    unfold v7
    with_reducible apply hv6
    with_reducible assumption
  clear_value v7
  have hv9 : Kept w s0 v9.2 := by
    unfold v9
    with_reducible apply hv6
    with_reducible assumption
  clear_value v9
  have hv10 : Kept w s0 v10.2 := by
    unfold v10
    with_reducible apply hv6
    with_reducible assumption
  clear_value v10
  have hv11 : Kept w s0 v11.2 := by
    unfold v11
    with_reducible apply hv6
    with_reducible assumption
  clear_value v11
  have hv12 : Kept w s0 v12 := by unfold v12; with_reducible assumption
  clear_value v12
  split
  · rename_i u27 u28
    refine KeptO.next ?_
    exact h
  · rename_i u29 u30 u31
    extract_lets v32 v33 v34 v35
    have hv35 : Kept w s0 v35 := by
      unfold v35
      refine State.ps_kept (maskSub rfl hw) ?_
      with_reducible assumption
    clear_value v35
    refine KeptO.next ?_
    refine State.sfResult_kept (maskSub rfl hw) ?_
    refine State.sfCheckEnd_kept (maskSub rfl hw) ?_
    with_reducible assumption

theorem State.sfTrip_kept {w : Nat} {s0 x : State} {n cause : Nat}
    (hw : 0x80000000803000000000000c040000000000020080 &&& w = 0x80000000803000000000000c040000000000020080)
    (h : Kept w s0 x) :
    Kept w s0 (State.sfTrip x n cause) := by
  unfold State.sfTrip
  extract_lets v0 v1 v2
  have hv1 : Kept w s0 v1 := by
    unfold v1
    refine State.bump_kept (maskSub rfl hw) ?_
    refine State.p_kept (maskSub rfl hw) ?_
    exact h
  clear_value v1
  have hv2 : Kept w s0 v2 := by
    unfold v2
    refine State.modSfc_kept (maskSub rfl hw) ?_
    with_reducible assumption
  clear_value v2
  refine State.sfAbandon_kept (maskSub rfl hw) ?_
  refine State.raiseCommon_kept (maskSub rfl hw) ?_
  with_reducible assumption

theorem execExcTrip_kept {w : Nat} {s0 x : State} {n : Fin 4} {cause : Nat}
    (hw : 0x80000000803000000000000c040000000000020080 &&& w = 0x80000000803000000000000c040000000000020080)
    (h : Kept w s0 x) :
    KeptO w s0 (execExcTrip n cause x) := by
  unfold execExcTrip
  with_reducible apply KeptO.ite
  · refine KeptO.next ?_
    refine Kept.foldl ?_ ?_
    · intro i0 i1 i2
      with_reducible apply Kept.ite
      · refine State.sfTrip_kept (maskSub rfl hw) ?_
        with_reducible assumption
      · with_reducible assumption
    · exact h
  · with_reducible apply KeptO.ite
    · refine KeptO.next ?_
      refine State.sfTrip_kept (maskSub rfl hw) ?_
      exact h
    · refine KeptO.next ?_
      exact h

theorem State.sfRestore_kept {w : Nat} {s0 x : State} {n : Nat}
    (hw : 0x800000000010000000000000000000000000020000 &&& w = 0x800000000010000000000000000000000000020000)
    (h : Kept w s0 x) :
    Kept w s0 (State.sfRestore x n) := by
  unfold State.sfRestore
  extract_lets v0 v1
  have hv0 : Kept w s0 v0 := by
    unfold v0
    refine State.p_kept (maskSub rfl hw) ?_
    exact h
  clear_value v0
  have hv1 : Kept w s0 v1 := by
    unfold v1
    refine State.modSfc_kept (maskSub rfl hw) ?_
    with_reducible assumption
  clear_value v1
  refine State.raiseCommon_kept (maskSub rfl hw) ?_
  refine State.sfMark_kept (maskSub rfl hw) ?_
  with_reducible assumption

theorem execExcRestore_kept {w : Nat} {s0 x : State} {n : Fin 4}
    (hw : 0x800000000010000000000000000000000000020000 &&& w = 0x800000000010000000000000000000000000020000)
    (h : Kept w s0 x) :
    KeptO w s0 (execExcRestore n x) := by
  unfold execExcRestore
  split
  · rename_i u0 u1 u2
    with_reducible apply KeptO.ite
    · refine KeptO.next ?_
      refine State.sfRestore_kept (maskSub rfl hw) ?_
      refine State.advanceTo_kept (maskSub rfl hw) ?_
      exact h
    · refine KeptO.next ?_
      exact h
  · rename_i u3 u4
    refine KeptO.next ?_
    exact h

theorem State.sfWindow_kept {w : Nat} {s0 x : State} {n : Nat}
    (hw : 0x4000000000000000000 &&& w = 0x4000000000000000000) (h : Kept w s0 x) :
    Kept w s0 (State.sfWindow x n) := by
  unfold State.sfWindow
  extract_lets v0
  with_reducible apply Kept.ite
  · refine State.ascPut_kept (maskSub rfl hw) ?_
    exact h
  · refine State.ascDrop_kept (maskSub rfl hw) ?_
    exact h

theorem State.sfImpWindows_kept {w : Nat} {s0 x : State} (hw : 0x4000000000000000000 &&& w = 0x4000000000000000000)
    (h : Kept w s0 x) :
    Kept w s0 (State.sfImpWindows x) := by
  unfold State.sfImpWindows
  with_reducible apply Kept.ite
  · refine State.ascPut_kept (maskSub rfl hw) ?_
    refine State.ascPut_kept (maskSub rfl hw) ?_
    exact h
  · refine State.ascDrop_kept (maskSub rfl hw) ?_
    exact h

theorem execSfChangeApply_kept {w : Nat} {s0 x : State} {n : Fin 4} {x_ : Int} {ovl : Bool}
    (hw : 0x800000000010000000000004000000000000020000 &&& w = 0x800000000010000000000004000000000000020000)
    (h : Kept w s0 x) :
    KeptO w s0 (execSfChangeApply n x_ ovl x) := by
  unfold execSfChangeApply
  extract_lets v0 v1 v2 v3 v4 v5 v6 v7 v8 v9 v10 v11 v12 v13
  have hv2 : Kept w s0 v2 := by
    unfold v2
    refine State.advanceTo_kept (maskSub rfl hw) ?_
    exact h
  clear_value v2
  have hv8 : Kept w s0 v8 := by
    unfold v8
    with_reducible apply Kept.ite
    · refine State.sfDeliver_kept (maskSub rfl hw) ?_
      refine State.sfMark_kept (maskSub rfl hw) ?_
      with_reducible assumption
    · with_reducible assumption
  clear_value v8
  have hv9 : Kept w s0 v9 := by
    unfold v9
    refine State.modSfc_kept (maskSub rfl hw) ?_
    with_reducible assumption
  clear_value v9
  have hv10 : Kept w s0 v10 := by
    unfold v10
    with_reducible apply Kept.ite
    · refine State.sfMark_kept (maskSub rfl hw) ?_
      with_reducible assumption
    · with_reducible assumption
  clear_value v10
  have hv11 : Kept w s0 v11 := by
    unfold v11
    with_reducible apply Kept.ite
    · refine State.sfMark_kept (maskSub rfl hw) ?_
      with_reducible assumption
    · with_reducible assumption
  clear_value v11
  have hv12 : Kept w s0 v12 := by
    unfold v12
    with_reducible apply Kept.ite
    · refine State.sfMark_kept (maskSub rfl hw) ?_
      with_reducible assumption
    · with_reducible apply Kept.ite
      · refine State.sfMark_kept (maskSub rfl hw) ?_
        with_reducible assumption
      · with_reducible assumption
  clear_value v12
  have hv13 : Kept w s0 v13 := by
    unfold v13
    with_reducible apply Kept.ite
    · refine State.sfRestore_kept (maskSub rfl hw) ?_
      with_reducible assumption
    · with_reducible assumption
  clear_value v13
  with_reducible apply KeptO.ite
  · refine KeptO.next ?_
    exact h
  · refine KeptO.next ?_
    refine State.sfWindow_kept (maskSub rfl hw) ?_
    with_reducible assumption

theorem State.sfLowRate_kept {w : Nat} {s0 x : State}
    (hw : 0x80000000802000000000000c040000000000020080 &&& w = 0x80000000802000000000000c040000000000020080)
    (h : Kept w s0 x) :
    Kept w s0 (State.sfLowRate x) := by
  unfold State.sfLowRate
  extract_lets v0 v1 v2 v3 v4
  have hv1 : Kept w s0 v1 := by
    unfold v1
    with_reducible apply Kept.ite
    · refine State.sfAbandon_kept (maskSub rfl hw) ?_
      exact h
    · exact h
  clear_value v1
  have hv2 : Kept w s0 v2 := by
    unfold v2
    refine State.sfSetSub_kept (maskSub rfl hw) ?_
    with_reducible assumption
  clear_value v2
  have hv3 : Kept w s0 v3 := by
    unfold v3
    refine Kept.foldl ?_ ?_
    · intro i5 i6 i7
      with_reducible apply Kept.ite
      · refine State.sfMark_kept (maskSub rfl hw) ?_
        with_reducible assumption
      · with_reducible assumption
    · with_reducible assumption
  clear_value v3
  have hv4 : Kept w s0 v4 := by
    unfold v4
    refine Kept.foldl ?_ ?_
    · intro i8 i9 i10
      refine State.modSfc_kept (maskSub rfl hw) ?_
      with_reducible assumption
    · with_reducible assumption
  clear_value v4
  with_reducible apply Kept.ite
  · exact h
  · refine State.raiseCommon_kept (maskSub rfl hw) ?_
    refine State.modSf_kept (maskSub rfl hw) ?_
    with_reducible assumption

theorem execLowRate_kept {w : Nat} {s0 x : State}
    (hw : 0x80000000802000000000000c040000000000020080 &&& w = 0x80000000802000000000000c040000000000020080)
    (h : Kept w s0 x) :
    KeptO w s0 (execLowRate x) := by
  unfold execLowRate
  refine KeptO.next ?_
  refine State.sfLowRate_kept (maskSub rfl hw) ?_
  exact h

theorem State.sfCycle_kept {w : Nat} {s0 x : State} (hw : 0x20000 &&& w = 0x20000) (h : Kept w s0 x) :
    Kept w s0 (State.sfCycle x) := by
  unfold State.sfCycle
  extract_lets v0
  with_reducible apply Kept.ite
  · refine Kept.foldl ?_ ?_
    · intro i1 i2 i3
      refine State.modSfc_kept (maskSub rfl hw) ?_
      with_reducible assumption
    · refine State.modSf_kept (maskSub rfl hw) ?_
      exact h
  · exact h

theorem State.sfForce_kept {w : Nat} {s0 x : State} {arg : Nat}
    (hw : 0x80000000802000000000000c040000000000020080 &&& w = 0x80000000802000000000000c040000000000020080)
    (h : Kept w s0 x) :
    Kept w s0 (State.sfForce x arg) := by
  unfold State.sfForce
  extract_lets v0 v1
  have hv1 : Kept w s0 v1 := by
    unfold v1
    with_reducible apply Kept.ite
    · refine State.advanceTo_kept (maskSub rfl hw) ?_
      exact h
    · refine State.toCycle_kept (maskSub rfl hw) ?_
      exact h
  clear_value v1
  refine State.sfLowRate_kept (maskSub rfl hw) ?_
  refine State.changeMirror_kept (maskSub rfl hw) (maskSub rfl hw) ?_
  refine State.sfAbandon_kept (maskSub rfl hw) ?_
  with_reducible assumption

theorem State.sfStart_kept {w : Nat} {s0 x : State}
    (hw : 0x80000000803000000000000c040000000000020080 &&& w = 0x80000000803000000000000c040000000000020080)
    (h : Kept w s0 x) :
    Kept w s0 (State.sfStart x) := by
  unfold State.sfStart
  extract_lets v0 v1 v2
  have hv0 : Kept w s0 v0 := by
    unfold v0
    refine State.sfImpWindows_kept (maskSub rfl hw) ?_
    refine State.ascPut_kept (maskSub rfl hw) ?_
    exact h
  clear_value v0
  have hv1 : Kept w s0 v1 := by
    unfold v1
    refine State.modSf_kept (maskSub rfl hw) ?_
    with_reducible assumption
  clear_value v1
  have hv2 : Kept w s0 v2 := by
    unfold v2
    refine Kept.foldl ?_ ?_
    · intro i3 i4 i5
      extract_lets v6 v7
      have hv7 : Kept w s0 v7 := by
        unfold v7
        refine State.modSfc_kept (maskSub rfl hw) ?_
        with_reducible assumption
      clear_value v7
      refine State.sfWindow_kept (maskSub rfl hw) ?_
      refine State.sfMark_kept (maskSub rfl hw) ?_
      refine State.p_kept (maskSub rfl hw) ?_
      with_reducible assumption
    · with_reducible assumption
  clear_value v2
  with_reducible apply Kept.ite
  · refine State.goFault_kept (maskSub rfl hw) (maskSub rfl hw) (maskSub rfl hw) ?_ ?_
    · intro i8 i9 i10
      with_reducible assumption
    · exact h
  · with_reducible apply Kept.ite
    · exact h
    · with_reducible apply Kept.ite
      · refine State.goFault_kept (maskSub rfl hw) (maskSub rfl hw) (maskSub rfl hw) ?_ ?_
        · intro i11 i12 i13
          with_reducible assumption
        · exact h
      · refine State.sfLowRate_kept (maskSub rfl hw) ?_
        refine State.sfSetSub_kept (maskSub rfl hw) ?_
        refine State.goOn_kept (maskSub rfl hw) (maskSub rfl hw) ?_
        with_reducible assumption

theorem State.sfOut_kept {w : Nat} {s0 x : State}
    (hw : 0x80000000803000000000000c040000000000020080 &&& w = 0x80000000803000000000000c040000000000020080)
    (h : Kept w s0 x) :
    Kept w s0 (State.sfOut x) := by
  unfold State.sfOut
  extract_lets v0 v1
  have hv0 : Kept w s0 v0 := by
    unfold v0
    refine State.modSf_kept (maskSub rfl hw) ?_
    refine State.ascDrop_kept (maskSub rfl hw) ?_
    refine State.sfAbandon_kept (maskSub rfl hw) ?_
    exact h
  clear_value v0
  have hv1 : Kept w s0 v1 := by
    unfold v1
    refine Kept.foldl ?_ ?_
    · intro i2 i3 i4
      refine State.modSfc_kept (maskSub rfl hw) ?_
      refine State.p_kept (maskSub rfl hw) ?_
      with_reducible assumption
    · with_reducible assumption
  clear_value v1
  refine State.p_kept (maskSub rfl hw) ?_
  with_reducible assumption

theorem State.sfUnitCmd_kept {w : Nat} {s0 x : State} {cmd arg : Nat} (hw : 0x20000 &&& w = 0x20000)
    (h : Kept w s0 x) :
    Kept w s0 (State.sfUnitCmd x cmd arg).2 := by
  unfold State.sfUnitCmd
  extract_lets v0
  with_reducible apply Kept.ite2
  · exact h
  · with_reducible apply Kept.ite2
    · dsimp only
      refine State.modSf_kept (maskSub rfl hw) ?_
      exact h
    · exact h

theorem State.sfCommit_kept {w : Nat} {s0 x : State} {t e : Nat} {w_ : Word}
    (hw : 0x10000000000004000000000000020000 &&& w = 0x10000000000004000000000000020000) (h : Kept w s0 x) :
    Kept w s0 (State.sfCommit x t e w_).2 := by
  unfold State.sfCommit
  extract_lets v0 v1 v2 v3 v4 v5
  have hv2 : Kept w s0 v2 := by
    unfold v2
    refine State.wr_kept (maskSub rfl hw) ?_
    exact h
  clear_value v2
  have hv3 : Kept w s0 v3 := by
    unfold v3
    refine State.wr_kept (maskSub rfl hw) ?_
    exact h
  clear_value v3
  have hv4 : Kept w s0 v4 := by
    unfold v4
    refine State.wr_kept (maskSub rfl hw) ?_
    exact h
  clear_value v4
  have hv5 : Kept w s0 v5 := by
    unfold v5
    refine State.modSfc_kept (maskSub rfl hw) ?_
    with_reducible assumption
  clear_value v5
  with_reducible apply Kept.ite2
  · exact h
  · with_reducible apply Kept.ite2
    · with_reducible apply Kept.ite2
      · exact h
      · dsimp only
        with_reducible apply Kept.ite
        · refine State.sfImpWindows_kept (maskSub rfl hw) ?_
          with_reducible assumption
        · with_reducible assumption
    · with_reducible apply Kept.ite2
      · with_reducible apply Kept.ite2
        · exact h
        · dsimp only
          with_reducible apply Kept.ite
          · refine State.modSfc_kept (maskSub rfl hw) ?_
            with_reducible assumption
          · with_reducible assumption
      · with_reducible apply Kept.ite2
        · dsimp only
          with_reducible apply Kept.ite
          · refine State.modSfc_kept (maskSub rfl hw) ?_
            refine State.p_kept (maskSub rfl hw) ?_
            with_reducible assumption
          · with_reducible assumption
        · dsimp only
          refine State.wr_kept (maskSub rfl hw) ?_
          exact h

theorem State.lpSetSub_kept {w : Nat} {s0 x : State} {mode : Nat} {limited src host short : Bool}
    (hw : 0x1000000010040000000000000000000000000000000 &&& w = 0x1000000010040000000000000000000000000000000)
    (h : Kept w s0 x) :
    Kept w s0 (State.lpSetSub x mode limited src host short) := by
  unfold State.lpSetSub
  extract_lets v0
  refine State.setSub_kept (maskSub rfl hw) (maskSub rfl hw) ?_
  refine State.p_kept (maskSub rfl hw) ?_
  exact h

theorem State.lpSrc_kept {w : Nat} {s0 x : State} {fail : Bool}
    (hw : 0x1000000010040000000000000000000000000000000 &&& w = 0x1000000010040000000000000000000000000000000)
    (h : Kept w s0 x) :
    Kept w s0 (State.lpSrc x fail) := by
  unfold State.lpSrc
  with_reducible apply Kept.ite
  · exact h
  · refine State.raiseCommon_kept (maskSub rfl hw) ?_
    refine State.lpSetSub_kept (maskSub rfl hw) ?_
    exact h

theorem execLoopSrc_kept {w : Nat} {s0 x : State}
    (hw : 0x1000000010040000000000000000000000000000000 &&& w = 0x1000000010040000000000000000000000000000000)
    (h : Kept w s0 x) :
    KeptO w s0 (execLoopSrc x) := by
  unfold execLoopSrc
  extract_lets v0
  have hv0 : Kept w s0 v0 := by
    unfold v0
    with_reducible apply Kept.ite
    · refine State.advanceTo_kept (maskSub rfl hw) ?_
      exact h
    · exact h
  clear_value v0
  with_reducible apply KeptO.ite
  · refine KeptO.next ?_
    refine State.lpSrc_kept (maskSub rfl hw) ?_
    with_reducible assumption
  · refine KeptO.next ?_
    exact h

theorem State.lpValue_kept {w : Nat} {s0 x : State} (hw : 0x40000 &&& w = 0x40000) (h : Kept w s0 x) :
    Kept w s0 (State.lpValue x) := by
  unfold State.lpValue
  split
  · rename_i u0 u1
    exact h
  · rename_i u2 u3 u4 u5
    split
    · rename_i u6 u7 u8
      refine State.modLp_kept (maskSub rfl hw) ?_
      exact h
    · rename_i u9 u10
      refine State.modLp_kept (maskSub rfl hw) ?_
      refine State.draw_kept ?_
      exact h

theorem State.lpHeadroom_kept {w : Nat} {s0 x : State} {imeas vh iref : Nat}
    (hw : 0x1000000010040000000000000000000000000040000 &&& w = 0x1000000010040000000000000000000000000040000)
    (h : Kept w s0 x) :
    Kept w s0 (State.lpHeadroom x imeas vh iref).2 := by
  unfold State.lpHeadroom
  extract_lets v0 v1 v2 v3 v4 v5 v6 v7 v8 v9
  have hv8 : Kept w s0 v8 := by
    unfold v8
    refine State.modLp_kept (maskSub rfl hw) ?_
    exact h
  clear_value v8
  have hv9 : ∀ a0 a1, Kept w s0 a0 → Kept w s0 (v9 a0 a1) := by
    unfold v9
    intro i10 i11 i12
    refine State.raiseCommon_kept (maskSub rfl hw) ?_
    refine State.lpSetSub_kept (maskSub rfl hw) ?_
    with_reducible assumption
  clear_value v9
  with_reducible apply Kept.ite2
  · dsimp only
    with_reducible apply hv9
    refine State.bump_kept (maskSub rfl hw) ?_
    with_reducible assumption
  · with_reducible apply Kept.ite2
    · dsimp only
      refine State.modLp_kept (maskSub rfl hw) ?_
      with_reducible apply hv9
      with_reducible assumption
    · with_reducible assumption

theorem State.lpForce_kept {w : Nat} {s0 x : State} {arg : Nat}
    (hw : 0x1000000010000000000000000000000000000000000 &&& w = 0x1000000010000000000000000000000000000000000)
    (h : Kept w s0 x) :
    Kept w s0 (State.lpForce x arg) := by
  unfold State.lpForce
  refine State.changeMirror_kept (maskSub rfl hw) (maskSub rfl hw) ?_
  exact h

theorem State.lpOut_kept {w : Nat} {s0 x : State}
    (hw : 0x1000000010040000000000000000000000000040000 &&& w = 0x1000000010040000000000000000000000000040000)
    (h : Kept w s0 x) :
    Kept w s0 (State.lpOut x) := by
  unfold State.lpOut
  extract_lets v0
  have hv0 : Kept w s0 v0 := by
    unfold v0
    refine State.modLp_kept (maskSub rfl hw) ?_
    refine State.p_kept (maskSub rfl hw) ?_
    exact h
  clear_value v0
  refine State.lpSetSub_kept (maskSub rfl hw) ?_
  with_reducible assumption

theorem State.lpRun_kept {w : Nat} {s0 x : State} {imeas vh : Nat}
    (hw : 0x1000000010040000000000000000000000000040000 &&& w = 0x1000000010040000000000000000000000000040000)
    (h : Kept w s0 x) :
    Kept w s0 (x.lpRun imeas vh) := by
  unfold State.lpRun
  extract_lets a mode fresh b c iref k d target host held now out e
  have ha : Kept w s0 a := by
    unfold a
    generalize (x.mirror Src.loop).pend = o
    cases o with
    | none => exact h
    | some v => exact State.lpForce_kept (maskSub rfl hw) h
  have hb : Kept w s0 b := State.lpSrc_kept (maskSub rfl hw) ha
  have hc : Kept w s0 c := Kept.ite (State.lpValue_kept (maskSub rfl hw) hb) hb
  have hd : Kept w s0 d := State.lpHeadroom_kept (maskSub rfl hw) hc
  exact State.modLp_kept (maskSub rfl hw) (State.ps_kept (maskSub rfl hw) (State.lpSetSub_kept (maskSub rfl hw) hd))

theorem execLoopUpdate_kept {w : Nat} {s0 x : State} {imeas vh : Nat}
    (hw : 0x100000001004000000000000c040000000000040080 &&& w = 0x100000001004000000000000c040000000000040080)
    (h : Kept w s0 x) :
    KeptO w s0 (execLoopUpdate imeas vh x) := by
  unfold execLoopUpdate
  extract_lets v0 v1 v2 v3 v4 v5 v6 v7 v8 v9
  have hv0 : Kept w s0 v0 := by
    unfold v0
    with_reducible apply Kept.ite
    · refine State.advance_kept ?_
      exact h
    · exact h
  clear_value v0
  have hv1 : Kept w s0 v1 := by
    unfold v1
    refine State.toHalf_kept (maskSub rfl hw) ?_
    with_reducible assumption
  clear_value v1
  have hv2 : Kept w s0 v2 := by
    unfold v2
    refine State.modLp_kept (maskSub rfl hw) ?_
    with_reducible assumption
  clear_value v2
  have hv4 : ∀ a0 a1, Kept w s0 a1 → Kept w s0 (v4 a0 a1).2 := by
    unfold v4
    intro i10 i11 i12
    with_reducible apply Kept.ite2
    · with_reducible assumption
    · dsimp only
      refine State.draw_kept ?_
      with_reducible assumption
  clear_value v4
  have hv5 : Kept w s0 v5.2 := by
    unfold v5
    with_reducible apply hv4
    with_reducible assumption
  clear_value v5
  have hv6 : Kept w s0 v6.2 := by
    unfold v6
    with_reducible apply hv4
    with_reducible assumption
  clear_value v6
  have hv7 : Kept w s0 v7 := by
    unfold v7
    refine State.ps_kept (maskSub rfl hw) ?_
    with_reducible assumption
  clear_value v7
  have hv9 : Kept w s0 v9 := by
    unfold v9
    with_reducible apply Kept.ite
    · with_reducible apply Kept.ite
      · refine State.modLp_kept (maskSub rfl hw) ?_
        refine State.p_kept (maskSub rfl hw) ?_
        with_reducible assumption
      · refine State.modLp_kept (maskSub rfl hw) ?_
        refine State.p_kept (maskSub rfl hw) ?_
        with_reducible assumption
    · with_reducible apply Kept.ite
      · refine State.modLp_kept (maskSub rfl hw) ?_
        refine State.p_kept (maskSub rfl hw) ?_
        with_reducible assumption
      · refine State.lpRun_kept (maskSub rfl hw) ?_
        with_reducible assumption
  clear_value v9
  with_reducible apply KeptO.ite
  · refine KeptO.next ?_
    with_reducible assumption
  · with_reducible apply KeptO.ite
    · refine KeptO.next ?_
      refine State.lpOut_kept (maskSub rfl hw) ?_
      refine State.goFault_kept (maskSub rfl hw) (maskSub rfl hw) (maskSub rfl hw) ?_ ?_
      · intro i13 i14 i15
        with_reducible assumption
      · with_reducible assumption
    · refine KeptO.next ?_
      refine State.p_kept (maskSub rfl hw) ?_
      refine State.modLp_kept (maskSub rfl hw) ?_
      with_reducible assumption

theorem State.lpStart_kept {w : Nat} {s0 x : State}
    (hw : 0x100000001004000000000000c040000000000040080 &&& w = 0x100000001004000000000000c040000000000040080)
    (h : Kept w s0 x) :
    Kept w s0 (State.lpStart x) := by
  unfold State.lpStart
  extract_lets v0 v1 v2 v3
  have hv2 : Kept w s0 v2 := by
    unfold v2
    refine State.modLp_kept (maskSub rfl hw) ?_
    exact h
  clear_value v2
  with_reducible apply Kept.ite
  · refine State.goFault_kept (maskSub rfl hw) (maskSub rfl hw) (maskSub rfl hw) ?_ ?_
    · intro i4 i5 i6
      with_reducible assumption
    · exact h
  · refine State.goOn_kept (maskSub rfl hw) (maskSub rfl hw) ?_
    refine State.p_kept (maskSub rfl hw) ?_
    with_reducible assumption

theorem State.lpStopping_kept {w : Nat} {s0 x : State} (hw : 0x40000 &&& w = 0x40000) (h : Kept w s0 x) :
    Kept w s0 (State.lpStopping x) := by
  unfold State.lpStopping
  refine State.modLp_kept (maskSub rfl hw) ?_
  exact h

theorem State.lpCommit_kept {w : Nat} {s0 x : State} {e : Nat} {w_ : Word}
    (hw : 0x40000000000000000000000000000000 &&& w = 0x40000000000000000000000000000000) (h : Kept w s0 x) :
    Kept w s0 (State.lpCommit x e w_).2 := by
  unfold State.lpCommit
  extract_lets v0 v1 v2 v3
  with_reducible apply Kept.ite2
  · dsimp only
    refine State.wr_kept (maskSub rfl hw) ?_
    exact h
  · exact h

end Sys2Proof.Machine
end

