-- ==== Sys2Proof/Laws/KeptDevice.lean ====
section
/-! SUPPORT. What each operation of the kernels, the unit state machine, the claims and the power governor keeps and leaves alone (`Kept`, Laws/Kept.lean). -/

namespace Sys2Proof.Machine

open Sys2Proof

theorem State.unitEndAll_kept {w : Nat} {s0 x : State} {u : Src} {o : Oc}
    (hw : 0x121e0000000088203a2400c00c84000000000011ed80 &&& w = 0x121e0000000088203a2400c00c84000000000011ed80)
    (h : Kept w s0 x) :
    Kept w s0 (State.unitEndAll u o x) := by
  unfold State.unitEndAll
  split
  · rename_i u0
    refine State.lnEndAll_kept (maskSub rfl hw) ?_
    exact h
  · rename_i u1
    refine State.cjEndAll_kept (maskSub rfl hw) ?_
    exact h
  · rename_i u2
    refine State.obEndAll_kept (maskSub rfl hw) ?_
    exact h
  · rename_i u3
    refine State.rcEndAll_kept (maskSub rfl hw) ?_
    exact h
  · rename_i u4
    refine State.opEndAll_kept (maskSub rfl hw) ?_
    exact h
  · rename_i u5
    refine State.opEndAll_kept (maskSub rfl hw) ?_
    exact h
  · rename_i u6
    refine State.msEndAll_kept (maskSub rfl hw) ?_
    exact h
  · rename_i u7
    refine State.snEndQueued_kept (maskSub rfl hw) ?_
    exact h
  · rename_i u8 u9 u10 u11 u12 u13 u14 u15 u16
    exact h

theorem State.unitOut_kept {w : Nat} {s0 x : State} {u : Src}
    (hw : 0x38100000180fe00122088010c04000000000007ef80 &&& w = 0x38100000180fe00122088010c04000000000007ef80)
    (h : Kept w s0 x) :
    Kept w s0 (State.unitOut x u) := by
  unfold State.unitOut
  split
  · rename_i u0
    refine State.gyOut_kept (maskSub rfl hw) ?_
    exact h
  · rename_i u1
    refine State.lnOut_kept (maskSub rfl hw) ?_
    exact h
  · rename_i u2
    refine State.cjZeroMem_kept (maskSub rfl hw) ?_
    exact h
  · rename_i u3
    refine State.obOut_kept (maskSub rfl hw) ?_
    exact h
  · rename_i u4
    refine State.rcOut_kept (maskSub rfl hw) ?_
    exact h
  · rename_i u5
    refine State.opOut_kept (maskSub rfl hw) ?_
    exact h
  · rename_i u6
    refine State.opOut_kept (maskSub rfl hw) ?_
    exact h
  · rename_i u7
    refine State.sfOut_kept (maskSub rfl hw) ?_
    exact h
  · rename_i u8
    refine State.lpOut_kept (maskSub rfl hw) ?_
    exact h
  · rename_i u9
    refine State.msStopped_kept (maskSub rfl hw) ?_
    exact h
  · rename_i u10 u11 u12 u13 u14 u15 u16 u17 u18 u19 u20
    exact h

theorem State.stopOne_kept {w : Nat} {s0 x : State} {u : Src} {cause : Oc} {held : Bool}
    (hw : 0x7fff0001ffff88203a2400c00c84000000000015ed80 &&& w = 0x7fff0001ffff88203a2400c00c84000000000015ed80)
    (h : Kept w s0 x) :
    Kept w s0 (State.stopOne x u cause held) := by
  unfold State.stopOne
  extract_lets v0
  have hv0 : Kept w s0 v0 := by
    unfold v0
    refine State.goStopping_kept (maskSub (unitMask_all _) (maskSub rfl hw)) (maskSub (srcMask_all _) (maskSub rfl hw)) ?_ ?_
    · intro i1 i2 i3
      refine State.unitEndAll_kept (maskSub rfl hw) ?_
      with_reducible assumption
    · exact h
  clear_value v0
  split
  · rename_i u4
    refine State.rcStopping_kept (maskSub rfl hw) ?_
    with_reducible assumption
  · rename_i u5
    refine State.lpStopping_kept (maskSub rfl hw) ?_
    with_reducible assumption
  · rename_i u6 u7 u8
    with_reducible assumption

theorem State.stopConsumers_kept {w : Nat} {s0 x : State}
    (hw : 0x7fff0001ffff88203a2400c00c84000000000015ed80 &&& w = 0x7fff0001ffff88203a2400c00c84000000000015ed80)
    (h : Kept w s0 x) :
    Kept w s0 (State.stopConsumers x) := by
  unfold State.stopConsumers
  refine Kept.foldl ?_ ?_
  · intro i0 i1 i2
    with_reducible apply Kept.ite
    · refine State.stopOne_kept (maskSub rfl hw) ?_
      with_reducible assumption
    · with_reducible assumption
  · exact h

theorem State.unitStopping_kept {w : Nat} {s0 x : State} {u : Src} {cause : Oc} {held : Bool}
    (hw : 0x7fff0001ffff88203a2400c00c84000000000015ed80 &&& w = 0x7fff0001ffff88203a2400c00c84000000000015ed80)
    (h : Kept w s0 x) :
    Kept w s0 (State.unitStopping x u cause held) := by
  unfold State.unitStopping
  extract_lets v0
  have hv0 : Kept w s0 v0 := by
    unfold v0
    refine State.stopOne_kept (maskSub rfl hw) ?_
    exact h
  clear_value v0
  with_reducible apply Kept.ite
  · refine State.stopConsumers_kept (maskSub rfl hw) ?_
    with_reducible assumption
  · with_reducible assumption

theorem State.unitFault_kept {w : Nat} {s0 x : State} {u : Src}
    (hw : 0x7fff0001fffffe203a2488c10c84000000000017ef80 &&& w = 0x7fff0001fffffe203a2488c10c84000000000017ef80)
    (h : Kept w s0 x) :
    Kept w s0 (State.unitFault x u) := by
  unfold State.unitFault
  with_reducible apply Kept.ite
  · exact h
  · split
    · rename_i u0
      refine State.obFault_kept (maskSub rfl hw) ?_
      exact h
    · rename_i u1
      refine State.stopConsumers_kept (maskSub rfl hw) ?_
      refine State.goFault_kept (maskSub rfl hw) (maskSub rfl hw) (maskSub rfl hw) ?_ ?_
      · intro i2 i3 i4
        refine State.unitEndAll_kept (maskSub rfl hw) ?_
        with_reducible assumption
      · exact h
    · rename_i u5 u6 u7
      refine State.unitOut_kept (maskSub rfl hw) ?_
      refine State.goFault_kept (maskSub (unitMask_all _) (maskSub rfl hw)) (maskSub (srcMask_all _) (maskSub rfl hw)) (maskSub rfl hw) ?_ ?_
      · intro i8 i9 i10
        refine State.unitEndAll_kept (maskSub rfl hw) ?_
        with_reducible assumption
      · exact h

theorem State.kernCost_kept {w : Nat} {s0 x : State} {e : Nat} (_hw : 0 &&& w = 0) (h : Kept w s0 x) :
    Kept w s0 (State.kernCost x e).2 := by
  unfold State.kernCost
  split
  · rename_i u0 u1
    exact h
  · rename_i u2 u3
    exact h
  · rename_i u4 u5
    exact h
  · rename_i u6 u7
    exact h
  · rename_i u8 u9
    exact h
  · rename_i u10 u11
    exact h
  · rename_i u12 u13 u14 u15 u16 u17 u18
    dsimp only
    refine State.draw_kept ?_
    exact h

theorem State.modKern_kept {w : Nat} {s0 x : State} {k : Kinv} {f : Kinv → Kinv} (hw : 1024 &&& w = 1024)
    (h : Kept w s0 x) :
    Kept w s0 (State.modKern x k f) := by
  unfold State.modKern
  refine State.modCj_kept (maskSub rfl hw) ?_
  exact h

theorem State.kernCharge_kept {w : Nat} {s0 x : State} (hw : 1024 &&& w = 1024) (h : Kept w s0 x) :
    Kept w s0 (State.kernCharge x) := by
  unfold State.kernCharge
  split
  · rename_i u0 u1
    exact h
  · rename_i u2 u3 u4
    extract_lets v5
    refine State.modCj_kept (maskSub rfl hw) ?_
    refine State.modKern_kept (maskSub rfl hw) ?_
    exact h

theorem State.kernTake_kept {w : Nat} {s0 x : State} (hw : 0x20400 &&& w = 0x20400) (h : Kept w s0 x) :
    Kept w s0 (State.kernTake x) := by
  unfold State.kernTake
  split
  · rename_i u0 u1
    exact h
  · rename_i u2 u3 u4
    extract_lets v5
    have hv5 : Kept w s0 v5 := by
      unfold v5
      refine State.modKern_kept (maskSub rfl hw) ?_
      exact h
    clear_value v5
    with_reducible apply Kept.ite
    · refine State.sfK4Start_kept (maskSub rfl hw) ?_
      with_reducible assumption
    · with_reducible assumption

theorem State.kernDrop_kept {w : Nat} {s0 x : State} {k : Kinv} (hw : 1024 &&& w = 1024) (h : Kept w s0 x) :
    Kept w s0 (State.kernDrop x k) := by
  unfold State.kernDrop
  refine State.modCj_kept (maskSub rfl hw) ?_
  exact h

theorem State.k2Skip_kept {w : Nat} {s0 x : State}
    (hw : 0x40000000000000000000000600 &&& w = 0x40000000000000000000000600) (h : Kept w s0 x) :
    Kept w s0 (State.k2Skip x) := by
  unfold State.k2Skip
  refine State.modLl_kept (maskSub rfl hw) ?_
  refine State.modCj_kept (maskSub rfl hw) ?_
  refine State.bump_kept (maskSub rfl hw) ?_
  exact h

theorem State.kernSkip_kept {w : Nat} {s0 x : State} {e : Nat}
    (hw : 0x600000000004000040000000000000000000018600 &&& w = 0x600000000004000040000000000000000000018600)
    (h : Kept w s0 x) :
    Kept w s0 (State.kernSkip x e) := by
  unfold State.kernSkip
  split
  · rename_i u0 u1
    refine State.k2Skip_kept (maskSub rfl hw) ?_
    exact h
  · rename_i u2 u3
    refine State.opPilot_kept (maskSub rfl hw) ?_
    refine State.bump_kept (maskSub rfl hw) ?_
    exact h
  · rename_i u4 u5 u6
    refine State.bump_kept (maskSub rfl hw) ?_
    exact h

theorem execKernelWindowOpen_kept {w : Nat} {s0 x : State} {e : Fin 56}
    (hw : 0x6400000004140000e5000000000000000000038600 &&& w = 0x6400000004140000e5000000000000000000038600)
    (h : Kept w s0 x) :
    KeptO w s0 (execKernelWindowOpen e x) := by
  unfold execKernelWindowOpen
  extract_lets v0 v1 v2 v3 v4 v5 v6 v7
  have hv2 : Kept w s0 v2 := by
    unfold v2
    refine State.toMark_kept (maskSub rfl hw) ?_
    exact h
  clear_value v2
  have hv4 : Kept w s0 v4 := by
    unfold v4
    with_reducible apply Kept.ite
    · refine State.sfLoads_kept (maskSub rfl hw) ?_
      with_reducible assumption
    · with_reducible assumption
  clear_value v4
  have hv5 : Kept w s0 v5 := by
    unfold v5
    refine State.kernCharge_kept (maskSub rfl hw) ?_
    refine State.cjYield_kept (maskSub rfl hw) ?_
    with_reducible assumption
  clear_value v5
  have hv6 : Kept w s0 v6.2 := by
    unfold v6
    refine State.kernCost_kept (maskSub rfl hw) ?_
    with_reducible assumption
  clear_value v6
  have hv7 : Kept w s0 v7 := by
    unfold v7
    refine State.modCj_kept (maskSub rfl hw) ?_
    with_reducible assumption
  clear_value v7
  with_reducible apply KeptO.ite
  · refine KeptO.next ?_
    exact h
  · with_reducible apply KeptO.ite
    · refine KeptO.next ?_
      with_reducible assumption
    · with_reducible apply KeptO.ite
      · refine KeptO.next ?_
        with_reducible assumption
      · with_reducible apply KeptO.ite
        · refine KeptO.next ?_
          refine State.kernSkip_kept (maskSub rfl hw) ?_
          with_reducible assumption
        · refine KeptO.next ?_
          refine State.kernTake_kept (maskSub rfl hw) ?_
          with_reducible assumption

theorem execKernelWindowEnd_kept {w : Nat} {s0 x : State} {e : Fin 56}
    (hw : 0x40000000000000000000020600 &&& w = 0x40000000000000000000020600) (h : Kept w s0 x) :
    KeptO w s0 (execKernelWindowEnd e x) := by
  unfold execKernelWindowEnd
  extract_lets v0 v1 v2
  have hv2 : Kept w s0 v2 := by
    unfold v2
    refine State.toMark_kept (maskSub rfl hw) ?_
    exact h
  clear_value v2
  with_reducible apply KeptO.ite
  · refine KeptO.next ?_
    exact h
  · split
    · rename_i u3 u4
      refine KeptO.next ?_
      with_reducible assumption
    · rename_i u5 u6 u7
      with_reducible apply KeptO.ite
      · refine KeptO.next ?_
        refine State.kernTake_kept (maskSub rfl hw) ?_
        refine State.k2Skip_kept (maskSub rfl hw) ?_
        refine State.kernDrop_kept (maskSub rfl hw) ?_
        refine State.kernCharge_kept (maskSub rfl hw) ?_
        with_reducible assumption
      · refine KeptO.next ?_
        refine State.modCj_kept (maskSub rfl hw) ?_
        refine State.bump_kept (maskSub rfl hw) ?_
        refine State.modKern_kept (maskSub rfl hw) ?_
        with_reducible assumption

theorem State.kernResult_kept {w : Nat} {s0 x : State} {k : Kinv} {d : KernelData}
    (hw : 0xe00000000024000000700000000000000000039200 &&& w = 0xe00000000024000000700000000000000000039200)
    (h : Kept w s0 x) :
    Kept w s0 (State.kernResult x k d) := by
  unfold State.kernResult
  with_reducible apply Kept.ite
  · exact h
  · with_reducible apply Kept.ite
    · refine State.modLl_kept (maskSub rfl hw) ?_
      refine State.llSamples_kept (maskSub rfl hw) ?_
      exact h
    · with_reducible apply Kept.ite
      · refine State.opPilot_kept (maskSub rfl hw) ?_
        exact h
      · with_reducible apply Kept.ite
        · refine State.sfK4Done_kept (maskSub rfl hw) ?_
          exact h
        · with_reducible apply Kept.ite
          · refine State.sfLock_kept (maskSub rfl hw) ?_
            exact h
          · exact h

theorem execKernelDone_kept {w : Nat} {s0 x : State} {d : KernelData}
    (hw : 0xe00000000024000040700000000000000000039600 &&& w = 0xe00000000024000040700000000000000000039600)
    (h : Kept w s0 x) :
    KeptO w s0 (execKernelDone d x) := by
  unfold execKernelDone
  split
  · rename_i u0 u1
    refine KeptO.next ?_
    exact h
  · rename_i u2 u3 u4
    extract_lets v5 v6 v7 v8
    have hv5 : Kept w s0 v5 := by
      unfold v5
      refine State.kernCharge_kept (maskSub rfl hw) ?_
      refine State.advanceTo_kept (maskSub rfl hw) ?_
      exact h
    clear_value v5
    have hv6 : Kept w s0 v6 := by
      unfold v6
      refine State.kernDrop_kept (maskSub rfl hw) ?_
      with_reducible assumption
    clear_value v6
    have hv8 : Kept w s0 v8 := by
      unfold v8
      refine State.ps_kept (maskSub rfl hw) ?_
      with_reducible assumption
    clear_value v8
    refine KeptO.next ?_
    refine State.kernTake_kept (maskSub rfl hw) ?_
    refine State.kernResult_kept (maskSub rfl hw) ?_
    with_reducible assumption

theorem State.cjBeacon_kept {w : Nat} {s0 x : State}
    (hw : 0x40000000000000000000000000000000000000400 &&& w = 0x40000000000000000000000000000000000000400)
    (h : Kept w s0 x) :
    Kept w s0 (State.cjBeacon x) := by
  unfold State.cjBeacon
  extract_lets v0 v1
  have hv0 : Kept w s0 v0 := by
    unfold v0
    with_reducible apply Kept.ite
    · exact h
    · refine State.raiseCommon_kept (maskSub rfl hw) ?_
      exact h
  clear_value v0
  have hv1 : Kept w s0 v1 := by
    unfold v1
    refine Kept.foldl ?_ ?_
    · intro i2 i3 i4
      extract_lets v5
      with_reducible apply Kept.ite
      · with_reducible assumption
      · refine State.raiseCommon_kept (maskSub rfl hw) ?_
        with_reducible assumption
    · with_reducible assumption
  clear_value v1
  refine State.modCj_kept (maskSub rfl hw) ?_
  with_reducible assumption

theorem State.cjInternal_kept {w : Nat} {s0 x : State} {w_ : Nat}
    (hw : 0x7fff0001fffffe203a2588c10c84000000000017ef80 &&& w = 0x7fff0001fffffe203a2588c10c84000000000017ef80)
    (h : Kept w s0 x) :
    Kept w s0 (State.cjInternal x w_) := by
  unfold State.cjInternal
  refine State.unitFault_kept (maskSub rfl hw) ?_
  refine State.raiseCommon_kept (maskSub rfl hw) ?_
  refine State.bump_kept (maskSub rfl hw) ?_
  exact h

theorem execEcc_kept {w : Nat} {s0 x : State} {word : Nat} {uncorr : Bool}
    (hw : 0x7fff0001fffffe203a2588c10c84000000000017ef80 &&& w = 0x7fff0001fffffe203a2588c10c84000000000017ef80)
    (h : Kept w s0 x) :
    KeptO w s0 (execEcc word uncorr x) := by
  unfold execEcc
  extract_lets v0 v1
  have hv1 : Kept w s0 v1 := by
    unfold v1
    refine State.bump_kept (maskSub rfl hw) ?_
    exact h
  clear_value v1
  with_reducible apply KeptO.ite
  · with_reducible apply KeptO.ite
    · refine KeptO.next ?_
      refine State.cjInternal_kept (maskSub rfl hw) ?_
      exact h
    · refine KeptO.next ?_
      refine State.modCj_kept (maskSub rfl hw) ?_
      exact h
  · with_reducible apply KeptO.ite
    · refine KeptO.next ?_
      with_reducible assumption
    · refine KeptO.next ?_
      refine State.raiseCommon_kept (maskSub rfl hw) ?_
      refine State.modCj_kept (maskSub rfl hw) ?_
      with_reducible assumption

theorem execScrub_kept {w : Nat} {s0 x : State}
    (hw : 0x40000000000000001000000000000000000000400 &&& w = 0x40000000000000001000000000000000000000400)
    (h : Kept w s0 x) :
    KeptO w s0 (execScrub x) := by
  unfold execScrub
  extract_lets v0 v1
  have hv0 : Kept w s0 v0 := by
    unfold v0
    refine State.advance_kept ?_
    exact h
  clear_value v0
  with_reducible apply KeptO.ite
  · refine KeptO.next ?_
    refine State.cjDetect_kept (maskSub rfl hw) ?_
    refine State.modCj_kept (maskSub rfl hw) ?_
    with_reducible assumption
  · refine KeptO.next ?_
    exact h

theorem State.unitBegun_kept {w : Nat} {s0 x : State} {u : Src} (hw : 0x1000 &&& w = 0x1000) (h : Kept w s0 x) :
    Kept w s0 (State.unitBegun x u) := by
  unfold State.unitBegun
  split
  · rename_i u0
    refine State.rngStarting_kept (maskSub rfl hw) ?_
    exact h
  · rename_i u1 u2
    exact h

theorem State.unitBegin_kept {w : Nat} {s0 x : State} {u : Src}
    (hw : 0x7fff0001ffff00000000000000000000000000001000 &&& w = 0x7fff0001ffff00000000000000000000000000001000)
    (h : Kept w s0 x) :
    Kept w s0 (State.unitBegin x u) := by
  unfold State.unitBegin
  refine State.unitBegun_kept (maskSub rfl hw) ?_
  refine State.changeMirror_kept (maskSub (unitMask_all _) (maskSub rfl hw)) (maskSub (srcMask_all _) (maskSub rfl hw)) ?_
  exact h

theorem State.cmdStart_kept {w : Nat} {s0 x : State} {u : Src}
    (hw : 0x7fff0001ffff00000000000000000000000000001000 &&& w = 0x7fff0001ffff00000000000000000000000000001000)
    (h : Kept w s0 x) :
    Kept w s0 (State.cmdStart x u).2 := by
  unfold State.cmdStart
  split
  · rename_i u0 u1
    with_reducible apply Kept.ite2
    · exact h
    · dsimp only
      refine State.unitBegin_kept (maskSub rfl hw) ?_
      exact h
  · rename_i u2 u3
    exact h
  · rename_i u4 u5
    exact h
  · rename_i u6 u7
    dsimp only
    refine State.changeMirror_kept (maskSub (unitMask_all _) (maskSub rfl hw)) (maskSub (srcMask_all _) (maskSub rfl hw)) ?_
    exact h
  · rename_i u8 u9
    exact h

theorem State.cmdStop_kept {w : Nat} {s0 x : State} {u : Src}
    (hw : 0x7fff0001ffff88203a2400c00c84000000000015ed80 &&& w = 0x7fff0001ffff88203a2400c00c84000000000015ed80)
    (h : Kept w s0 x) :
    Kept w s0 (State.cmdStop x u).2 := by
  unfold State.cmdStop
  split
  · rename_i u0 u1
    dsimp only
    refine State.changeMirror_kept (maskSub (unitMask_all _) (maskSub rfl hw)) (maskSub (srcMask_all _) (maskSub rfl hw)) ?_
    exact h
  · rename_i u2 u3
    dsimp only
    refine State.unitStopping_kept (maskSub rfl hw) ?_
    exact h
  · rename_i u4 u5
    dsimp only
    refine State.unitStopping_kept (maskSub rfl hw) ?_
    exact h
  · rename_i u6 u7
    dsimp only
    refine State.changeMirror_kept (maskSub (unitMask_all _) (maskSub rfl hw)) (maskSub (srcMask_all _) (maskSub rfl hw)) ?_
    exact h
  · rename_i u8 u9
    exact h

theorem State.cmdReset_kept {w : Nat} {s0 x : State} {u : Src}
    (hw : 0x7fff0001ffff00000000000000000000000000000000 &&& w = 0x7fff0001ffff00000000000000000000000000000000)
    (h : Kept w s0 x) :
    Kept w s0 (State.cmdReset x u).2 := by
  unfold State.cmdReset
  split
  · rename_i u0 u1
    dsimp only
    refine State.changeMirror_kept (maskSub (unitMask_all _) (maskSub rfl hw)) (maskSub (srcMask_all _) (maskSub rfl hw)) ?_
    exact h
  · rename_i u2 u3
    exact h

theorem State.cmdForce_kept {w : Nat} {s0 x : State} {u : Src} {arg : Nat}
    (hw : 0x7fff0001ffff00000000000000000000000000000000 &&& w = 0x7fff0001ffff00000000000000000000000000000000)
    (h : Kept w s0 x) :
    Kept w s0 (State.cmdForce x u arg).2 := by
  unfold State.cmdForce
  with_reducible apply Kept.ite2
  · exact h
  · with_reducible apply Kept.ite2
    · exact h
    · split
      · rename_i u0 u1
        dsimp only
        refine State.changeMirror_kept (maskSub (unitMask_all _) (maskSub rfl hw)) (maskSub (srcMask_all _) (maskSub rfl hw)) ?_
        exact h
      · rename_i u2 u3
        exact h

theorem State.applyForce_kept {w : Nat} {s0 x : State} {u : Src} {arg : Nat}
    (hw : 0x3ff000003ffa20000a508000c04000000000003e580 &&& w = 0x3ff000003ffa20000a508000c04000000000003e580)
    (h : Kept w s0 x) :
    Kept w s0 (State.applyForce x u arg) := by
  unfold State.applyForce
  split
  · rename_i u0
    refine State.gyForce_kept (maskSub rfl hw) ?_
    exact h
  · rename_i u1
    refine State.lnForce_kept (maskSub rfl hw) ?_
    exact h
  · rename_i u2
    refine State.cjForce_kept (maskSub rfl hw) ?_
    exact h
  · rename_i u3
    refine State.obForce_kept (maskSub rfl hw) ?_
    exact h
  · rename_i u4
    refine State.rcForce_kept (maskSub rfl hw) ?_
    exact h
  · rename_i u5
    refine State.opForce_kept (maskSub rfl hw) ?_
    exact h
  · rename_i u6
    refine State.opForce_kept (maskSub rfl hw) ?_
    exact h
  · rename_i u7
    refine State.sfForce_kept (maskSub rfl hw) ?_
    exact h
  · rename_i u8
    refine State.lpForce_kept (maskSub rfl hw) ?_
    exact h
  · rename_i u9
    refine State.msForce_kept (maskSub rfl hw) ?_
    exact h
  · rename_i u10 u11 u12 u13 u14 u15 u16 u17 u18 u19 u20
    exact h

theorem State.toBoundary_kept {w : Nat} {s0 x : State} {u : Src} (hw : 0 &&& w = 0) (h : Kept w s0 x) :
    Kept w s0 (State.toBoundary x u) := by
  unfold State.toBoundary
  split
  · rename_i u0
    refine State.toHalf_kept (maskSub rfl hw) ?_
    exact h
  · rename_i u1
    refine State.toHalf_kept (maskSub rfl hw) ?_
    exact h
  · rename_i u2
    refine State.toHalf_kept (maskSub rfl hw) ?_
    exact h
  · rename_i u3
    refine State.toMark_kept (maskSub rfl hw) ?_
    exact h
  · rename_i u4
    split
    · rename_i u5 u6 u7
      with_reducible apply Kept.ite
      · split
        · rename_i u8 u9 u10
          refine State.advanceTo_kept (maskSub rfl hw) ?_
          exact h
        · rename_i u11 u12
          exact h
      · exact h
    · rename_i u13 u14
      exact h
  · rename_i u15 u16 u17 u18 u19 u20
    exact h

theorem execForceBoundary_kept {w : Nat} {s0 x : State} {u : Src}
    (hw : 0x3ff000003ffa20000a508000c04000000000003e580 &&& w = 0x3ff000003ffa20000a508000c04000000000003e580)
    (h : Kept w s0 x) :
    KeptO w s0 (execForceBoundary u x) := by
  unfold execForceBoundary
  extract_lets v0
  have hv0 : Kept w s0 v0 := by
    unfold v0
    refine State.toBoundary_kept (maskSub rfl hw) ?_
    exact h
  clear_value v0
  with_reducible apply KeptO.ite
  · split
    · rename_i u1 u2 u3
      refine KeptO.next ?_
      with_reducible apply Kept.ite
      · refine State.applyForce_kept (maskSub rfl hw) ?_
        with_reducible assumption
      · with_reducible assumption
    · rename_i u4 u5
      refine KeptO.next ?_
      with_reducible assumption
  · refine KeptO.next ?_
    exact h

theorem State.startSteps_kept {w : Nat} {s0 x : State} {u : Src}
    (hw : 0x7fff0001fffff8203a20f0cd0c84000000000017ff80 &&& w = 0x7fff0001fffff8203a20f0cd0c84000000000017ff80)
    (h : Kept w s0 x) :
    Kept w s0 (State.startSteps x u) := by
  unfold State.startSteps
  extract_lets v0
  have hv0 : Kept w s0 v0 := by
    unfold v0
    refine State.goOn_kept (maskSub rfl hw) (maskSub rfl hw) ?_
    refine State.snScan_kept (maskSub rfl hw) ?_
    refine State.draw_kept ?_
    refine State.draw_kept ?_
    exact h
  clear_value v0
  split
  · rename_i u1
    refine State.gyStart_kept (maskSub rfl hw) ?_
    exact h
  · rename_i u2
    refine State.lnStart_kept (maskSub rfl hw) ?_
    exact h
  · rename_i u3
    refine State.cjStart_kept (maskSub rfl hw) ?_
    exact h
  · rename_i u4
    refine State.obStart_kept (maskSub rfl hw) ?_
    exact h
  · rename_i u5
    refine State.rcStart_kept (maskSub rfl hw) ?_
    exact h
  · rename_i u6
    refine State.opStart_kept (maskSub rfl hw) ?_
    exact h
  · rename_i u7
    refine State.opStart_kept (maskSub rfl hw) ?_
    exact h
  · rename_i u8
    refine State.sfStart_kept (maskSub rfl hw) ?_
    exact h
  · rename_i u9
    refine State.lpStart_kept (maskSub rfl hw) ?_
    exact h
  · rename_i u10
    refine State.msStartUp_kept (maskSub rfl hw) ?_
    exact h
  · rename_i u11
    with_reducible apply Kept.ite
    · refine State.goOn_kept (maskSub rfl hw) (maskSub rfl hw) ?_
      exact h
    · exact h
  · rename_i u12
    with_reducible apply Kept.ite
    · refine State.goOn_kept (maskSub rfl hw) (maskSub rfl hw) ?_
      exact h
    · exact h
  · rename_i u13
    refine State.snSub_kept (maskSub rfl hw) ?_
    with_reducible apply Kept.ite
    · refine State.snScanEvent_kept (maskSub rfl hw) ?_
      with_reducible assumption
    · with_reducible assumption
  · rename_i u14 u15 u16 u17 u18 u19 u20 u21 u22 u23 u24 u25 u26 u27
    exact h

theorem State.settle_kept {w : Nat} {s0 x : State} {u : Src} (_hw : 0 &&& w = 0) (h : Kept w s0 x) :
    Kept w s0 (State.settle x u) := by
  unfold State.settle
  with_reducible apply Kept.ite
  · refine State.advance_kept ?_
    exact h
  · exact h

theorem execStartStepsDone_kept {w : Nat} {s0 x : State} {u : Src}
    (hw : 0x7fff0001fffffe203a24f8cd0c84000000000017ff80 &&& w = 0x7fff0001fffffe203a24f8cd0c84000000000017ff80)
    (h : Kept w s0 x) :
    KeptO w s0 (execStartStepsDone u x) := by
  unfold execStartStepsDone
  with_reducible apply KeptO.ite
  · refine KeptO.next ?_
    exact h
  · with_reducible apply KeptO.ite
    · refine KeptO.next ?_
      refine State.unitFault_kept (maskSub rfl hw) ?_
      refine State.settle_kept (maskSub rfl hw) ?_
      exact h
    · refine KeptO.next ?_
      refine State.startSteps_kept (maskSub rfl hw) ?_
      refine State.settle_kept (maskSub rfl hw) ?_
      exact h

theorem execStartStepFail_kept {w : Nat} {s0 x : State} {u : Src} {claim : Bool}
    (hw : 0x7fff0001fffffe203a2488c10c84000000000017ef80 &&& w = 0x7fff0001fffffe203a2488c10c84000000000017ef80)
    (h : Kept w s0 x) :
    KeptO w s0 (execStartStepFail u claim x) := by
  unfold execStartStepFail
  with_reducible apply KeptO.ite
  · refine KeptO.next ?_
    exact h
  · with_reducible apply KeptO.ite
    · refine KeptO.next ?_
      refine State.unitStopping_kept (maskSub rfl hw) ?_
      refine State.settle_kept (maskSub rfl hw) ?_
      exact h
    · refine KeptO.next ?_
      refine State.unitFault_kept (maskSub rfl hw) ?_
      refine State.settle_kept (maskSub rfl hw) ?_
      exact h

theorem State.unitStopped_kept {w : Nat} {s0 x : State} {u : Src}
    (hw : 0x7fff0001fffffe00122088010c04000000000007ff80 &&& w = 0x7fff0001fffffe00122088010c04000000000007ff80)
    (h : Kept w s0 x) :
    Kept w s0 (State.unitStopped x u) := by
  unfold State.unitStopped
  extract_lets v0 v1 v2 v3 v4
  have hv0 : Kept w s0 v0 := by
    unfold v0
    refine State.unitOut_kept (maskSub rfl hw) ?_
    exact h
  clear_value v0
  have hv3 : Kept w s0 v3 := by
    unfold v3
    refine State.changeMirror_kept (maskSub (unitMask_all _) (maskSub rfl hw)) (maskSub (srcMask_all _) (maskSub rfl hw)) ?_
    with_reducible assumption
  clear_value v3
  have hv4 : Kept w s0 v4 := by
    unfold v4
    refine State.releaseUnitClaims_kept (maskSub rfl hw) ?_
    with_reducible assumption
  clear_value v4
  with_reducible apply Kept.ite
  · refine State.unitBegun_kept (maskSub rfl hw) ?_
    with_reducible assumption
  · with_reducible assumption

theorem State.hibNext_kept {w : Nat} {s0 x : State}
    (hw : 0x7fff0001ffff88203a2400c00cc400000000001dedc0 &&& w = 0x7fff0001ffff88203a2400c00cc400000000001dedc0)
    (h : Kept w s0 x) :
    Kept w s0 (State.hibNext x) := by
  unfold State.hibNext
  extract_lets v0 v1
  have hv0 : Kept w s0 v0 := by
    unfold v0
    refine State.snEndQueued_kept (maskSub rfl hw) ?_
    exact h
  clear_value v0
  have hv1 : Kept w s0 v1 := by
    unfold v1
    refine State.p_kept (maskSub rfl hw) ?_
    with_reducible assumption
  clear_value v1
  with_reducible apply Kept.ite
  · exact h
  · split
    · rename_i u2 u3 u4
      refine State.unitStopping_kept (maskSub rfl hw) ?_
      exact h
    · rename_i u5 u6
      with_reducible apply Kept.ite
      · with_reducible assumption
      · refine State.modDev_kept (maskSub rfl hw) ?_
        refine State.modPw_kept (maskSub rfl hw) ?_
        with_reducible assumption

theorem execStopStepsDone_kept {w : Nat} {s0 x : State} {u : Src}
    (hw : 0x7fff0001fffffe203a2488c10cc400000000001fffc0 &&& w = 0x7fff0001fffffe203a2488c10cc400000000001fffc0)
    (h : Kept w s0 x) :
    KeptO w s0 (execStopStepsDone u x) := by
  unfold execStopStepsDone
  with_reducible apply KeptO.ite
  · refine KeptO.next ?_
    refine State.hibNext_kept (maskSub rfl hw) ?_
    refine State.unitStopped_kept (maskSub rfl hw) ?_
    refine State.settle_kept (maskSub rfl hw) ?_
    exact h
  · refine KeptO.next ?_
    exact h

theorem State.govStop_kept {w : Nat} {s0 x : State} {u : Src}
    (hw : 0x7fff0001ffff88203a2400c00c84000000000015ed80 &&& w = 0x7fff0001ffff88203a2400c00c84000000000015ed80)
    (h : Kept w s0 x) :
    Kept w s0 (State.govStop x u) := by
  unfold State.govStop
  with_reducible apply Kept.ite
  · refine State.unitStopping_kept (maskSub rfl hw) ?_
    exact h
  · exact h

theorem State.govPermit_kept {w : Nat} {s0 x : State} {u : Src}
    (hw : 0x7fff0001ffff00000000000000000000000000001000 &&& w = 0x7fff0001ffff00000000000000000000000000001000)
    (h : Kept w s0 x) :
    Kept w s0 (State.govPermit x u) := by
  unfold State.govPermit
  with_reducible apply Kept.ite
  · exact h
  · split
    · rename_i u0 u1
      refine State.unitBegin_kept (maskSub rfl hw) ?_
      exact h
    · rename_i u2 u3
      refine State.changeMirror_kept (maskSub (unitMask_all _) (maskSub rfl hw)) (maskSub (srcMask_all _) (maskSub rfl hw)) ?_
      exact h
    · rename_i u4 u5 u6
      refine State.changeMirror_kept (maskSub (unitMask_all _) (maskSub rfl hw)) (maskSub (srcMask_all _) (maskSub rfl hw)) ?_
      exact h

theorem State.autoStart_kept {w : Nat} {s0 x : State} {u : Src}
    (hw : 0x7fff0001ffff00000000000000000000000000001000 &&& w = 0x7fff0001ffff00000000000000000000000000001000)
    (h : Kept w s0 x) :
    Kept w s0 (State.autoStart x u) := by
  unfold State.autoStart
  split
  · rename_i u0 u1 u2
    with_reducible apply Kept.ite
    · refine State.changeMirror_kept (maskSub (unitMask_all _) (maskSub rfl hw)) (maskSub (srcMask_all _) (maskSub rfl hw)) ?_
      refine Kept.of2 ?_ u2
      refine State.cmdStart_kept (maskSub rfl hw) ?_
      exact h
    · refine Kept.of2 ?_ u2
      refine State.cmdStart_kept (maskSub rfl hw) ?_
      exact h
  · rename_i u3 u4 u5 u6 u7
    refine Kept.of2 ?_ u7
    refine State.cmdStart_kept (maskSub rfl hw) ?_
    exact h

theorem State.ownCmd_kept {w : Nat} {s0 x : State} {u : Src} {cmd arg : Nat}
    (hw : 0x107b0000107b02007b000800020000000000001bd980 &&& w = 0x107b0000107b02007b000800020000000000001bd980)
    (h : Kept w s0 x) :
    Kept w s0 (State.ownCmd x u cmd arg).2 := by
  unfold State.ownCmd
  split
  · rename_i u0
    refine State.gyUnitCmd_kept (maskSub rfl hw) ?_
    exact h
  · rename_i u1
    refine State.lnUnitCmd_kept (maskSub rfl hw) ?_
    exact h
  · rename_i u2
    refine State.obUnitCmd_kept (maskSub rfl hw) ?_
    exact h
  · rename_i u3
    refine State.rcUnitCmd_kept (maskSub rfl hw) ?_
    exact h
  · rename_i u4
    refine State.opUnitCmd_kept (maskSub rfl hw) ?_
    exact h
  · rename_i u5
    refine State.opUnitCmd_kept (maskSub rfl hw) ?_
    exact h
  · rename_i u6
    refine State.sfUnitCmd_kept (maskSub rfl hw) ?_
    exact h
  · rename_i u7
    refine State.rngUnitCmd_kept (maskSub rfl hw) ?_
    exact h
  · rename_i u8
    refine State.snUnitCmd_kept (maskSub rfl hw) ?_
    exact h
  · rename_i u9 u10 u11 u12 u13 u14 u15 u16 u17 u18
    exact h

theorem State.revoke_kept {w : Nat} {s0 x : State} {r : Nat}
    (hw : 0x4000000000000000000000000c040000000000000080 &&& w = 0x4000000000000000000000000c040000000000000080)
    (h : Kept w s0 x) :
    Kept w s0 (State.revoke x r) := by
  unfold State.revoke
  extract_lets v0 v1
  with_reducible apply Kept.ite
  · refine State.raise_kept (maskSub rfl hw) ?_
    refine State.freeClaim_kept (maskSub rfl hw) ?_
    exact h
  · exact h

theorem State.hostClaim_kept {w : Nat} {s0 x : State} {t r f : Nat}
    (hw : 0x40000000000000000 &&& w = 0x40000000000000000) (h : Kept w s0 x) :
    Kept w s0 (State.hostClaim x t r f) := by
  unfold State.hostClaim
  refine State.ps_kept (maskSub rfl hw) ?_
  exact h

theorem State.claimCmd_kept {w : Nat} {s0 x : State} {t op : Nat}
    (hw : 0xc040000000000000088 &&& w = 0xc040000000000000088) (h : Kept w s0 x) :
    Kept w s0 (x.claimCmd t op).2 := by
  unfold State.claimCmd
  extract_lets a r f o holder y
  have hy : Kept w s0 y := Kept.ite (Kept.ite (State.hostClaim_kept (maskSub rfl hw) h) (State.freeClaim_kept (maskSub rfl hw) h)) h
  exact State.modSel_kept (maskSub rfl hw) hy

theorem State.claimsDisable_kept {w : Nat} {s0 x : State} {t : Nat}
    (hw : 0xc040000000000000080 &&& w = 0xc040000000000000080) (h : Kept w s0 x) :
    Kept w s0 (State.claimsDisable x t) := by
  unfold State.claimsDisable
  refine Kept.foldl ?_ ?_
  · intro i0 i1 i2
    with_reducible apply Kept.ite
    · refine State.freeClaim_kept (maskSub rfl hw) ?_
      with_reducible assumption
    · with_reducible assumption
  · exact h

theorem State.rtcSync_kept {w : Nat} {s0 x : State} (hw : 0x400000000000080000 &&& w = 0x400000000000080000)
    (h : Kept w s0 x) :
    Kept w s0 (State.rtcSync x) := by
  unfold State.rtcSync
  extract_lets v0 v1
  refine State.modPw_kept (maskSub rfl hw) ?_
  refine State.ps_kept (maskSub rfl hw) ?_
  exact h

theorem State.rtcSkip_kept {w : Nat} {s0 x : State} {n : Nat}
    (hw : 0x400000000000080000 &&& w = 0x400000000000080000) (h : Kept w s0 x) :
    Kept w s0 (State.rtcSkip x n) := by
  unfold State.rtcSkip
  extract_lets v0
  with_reducible apply Kept.ite
  · exact h
  · refine State.modPw_kept (maskSub rfl hw) ?_
    refine State.ps_kept (maskSub rfl hw) ?_
    exact h

theorem State.emberLand_kept {w : Nat} {s0 x : State} {e : Nat} {w_ : Word}
    (hw : 0x400000000000080000 &&& w = 0x400000000000080000) (h : Kept w s0 x) :
    Kept w s0 (State.emberLand x e w_) := by
  unfold State.emberLand
  with_reducible apply Kept.ite
  · refine State.modPw_kept (maskSub rfl hw) ?_
    refine State.p_kept (maskSub rfl hw) ?_
    refine State.wr_kept (maskSub rfl hw) ?_
    exact h
  · refine State.wr_kept (maskSub rfl hw) ?_
    exact h

theorem execPwEmberCommit_kept {w : Nat} {s0 x : State} (hw : 0x400000000000080000 &&& w = 0x400000000000080000)
    (h : Kept w s0 x) :
    KeptO w s0 (execPwEmberCommit x) := by
  unfold execPwEmberCommit
  split
  · rename_i u0 u1
    refine KeptO.next ?_
    exact h
  · rename_i u2 u3 u4 u5
    extract_lets v6
    have hv6 : Kept w s0 v6 := by
      unfold v6
      refine State.modPw_kept (maskSub rfl hw) ?_
      refine State.advanceTo_kept (maskSub rfl hw) ?_
      exact h
    clear_value v6
    refine KeptO.next ?_
    refine State.emberLand_kept (maskSub rfl hw) ?_
    with_reducible assumption

theorem State.emberCommit_kept {w : Nat} {s0 x : State} {e : Nat} {w_ : Word}
    (hw : 0x400000000000080000 &&& w = 0x400000000000080000) (h : Kept w s0 x) :
    Kept w s0 (State.emberCommit x e w_).2 := by
  unfold State.emberCommit
  extract_lets v0 v1
  have hv0 : Kept w s0 v0 := by
    unfold v0
    refine State.rtcSync_kept (maskSub rfl hw) ?_
    exact h
  clear_value v0
  with_reducible apply Kept.ite2
  · with_reducible assumption
  · with_reducible apply Kept.ite2
    · with_reducible assumption
    · dsimp only
      refine State.modPw_kept (maskSub rfl hw) ?_
      with_reducible assumption

theorem execDoor_kept {w : Nat} {s0 x : State} {level : Bool}
    (hw : 0x8000000000000000000000000000000000000080000 &&& w = 0x8000000000000000000000000000000000000080000)
    (h : Kept w s0 x) :
    KeptO w s0 (execDoor level x) := by
  unfold execDoor
  extract_lets v0
  have hv0 : Kept w s0 v0 := by
    unfold v0
    refine State.modPw_kept (maskSub rfl hw) ?_
    exact h
  clear_value v0
  with_reducible apply KeptO.ite
  · refine KeptO.next ?_
    exact h
  · refine KeptO.next ?_
    with_reducible apply Kept.ite
    · refine State.raiseCommon_kept (maskSub rfl hw) ?_
      with_reducible assumption
    · with_reducible assumption

theorem execRtcAlarm_kept {w : Nat} {s0 x : State}
    (hw : 0x8000000000000000000000000400000000000080000 &&& w = 0x8000000000000000000000000400000000000080000)
    (h : Kept w s0 x) :
    KeptO w s0 (execRtcAlarm x) := by
  unfold execRtcAlarm
  extract_lets v0 v1 v2 v3 v4
  have hv3 : Kept w s0 v3 := by
    unfold v3
    refine State.rtcSync_kept (maskSub rfl hw) ?_
    refine State.advanceTo_kept (maskSub rfl hw) ?_
    exact h
  clear_value v3
  have hv4 : Kept w s0 v4 := by
    unfold v4
    refine State.modPw_kept (maskSub rfl hw) ?_
    with_reducible assumption
  clear_value v4
  with_reducible apply KeptO.ite
  · refine KeptO.next ?_
    exact h
  · with_reducible apply KeptO.ite
    · refine KeptO.next ?_
      exact h
    · refine KeptO.next ?_
      with_reducible apply Kept.ite
      · refine State.raiseCommon_kept (maskSub rfl hw) ?_
        with_reducible assumption
      · with_reducible assumption

theorem execX32Fail_kept {w : Nat} {s0 x : State} (hw : 0x400000000000080000 &&& w = 0x400000000000080000)
    (h : Kept w s0 x) :
    KeptO w s0 (execX32Fail x) := by
  unfold execX32Fail
  refine KeptO.next ?_
  refine State.p_kept (maskSub rfl hw) ?_
  refine State.rtcSync_kept (maskSub rfl hw) ?_
  exact h

theorem State.toReset_kept {w : Nat} {s0 x : State} {phase : Phase} {cause : Nat}
    (hw : 0xffffffffffffffffffffffffffffffffffffffffffffffff &&& w = 0xffffffffffffffffffffffffffffffffffffffffffffffff) (h : Kept w s0 x) :
    Kept w s0 (x.toReset phase cause) := by
  unfold State.toReset
  extract_lets a b laps t
  have ha : Kept w s0 a := State.p_kept (maskSub rfl hw) (State.rtcSync_kept (maskSub rfl hw) (State.snCollapse_kept (maskSub rfl hw) h))
  have hb : Kept w s0 b := Kept.foldl (fun y r hy => State.emberLand_kept (maskSub rfl hw) hy) ha
  refine State.p_kept (maskSub rfl hw) (hb.trans (Kept.mono hw (Kept.all rfl (Nat.le_refl _) (fun k => ⟨?_, ?_, ?_⟩))))
  · exact cellsWf_filter _ k.1
  · exact k.2.1
  · exact reset_logsWf

theorem State.emberLose_kept {w : Nat} {s0 x : State}
    (hw : 0xffffffffffffffffffffffffffffffffffffffffffffffff &&& w = 0xffffffffffffffffffffffffffffffffffffffffffffffff) (h : Kept w s0 x) :
    Kept w s0 x.emberLose := by
  refine h.trans (Kept.mono hw (Kept.all rfl (Nat.le_refl _) (fun k => ⟨cellsWf_filter _ k.1, k.2.1, k.2.2⟩)))

theorem execPowerOnReset_kept {w : Nat} {s0 x : State} {inRange kept test : Bool} {aon : Nat}
    (hw : 0xffffffffffffffffffffffffffffffffffffffffffffffff &&& w = 0xffffffffffffffffffffffffffffffffffffffffffffffff) (h : Kept w s0 x) :
    KeptO w s0 (execPowerOnReset inRange kept test aon x) := by
  unfold execPowerOnReset
  extract_lets v0 v1 v2 v3 v4
  have hv0 : Kept w s0 v0 := by
    unfold v0
    with_reducible apply Kept.ite
    · refine State.rtcSkip_kept (maskSub rfl hw) ?_
      exact h
    · refine State.emberLose_kept (maskSub rfl hw) ?_
      exact h
  clear_value v0
  have hv2 : Kept w s0 v2 := by
    unfold v2
    refine State.modDev_kept (maskSub rfl hw) ?_
    with_reducible assumption
  clear_value v2
  have hv4 : Kept w s0 v4 := by
    unfold v4
    with_reducible apply Kept.ite
    · exact h
    · refine State.emberLose_kept (maskSub rfl hw) ?_
      exact h
  clear_value v4
  with_reducible apply KeptO.ite
  · with_reducible apply KeptO.ite
    · refine KeptO.next ?_
      exact h
    · refine KeptO.next ?_
      refine State.toReset_kept (maskSub rfl hw) ?_
      with_reducible assumption
  · refine KeptO.next ?_
    refine State.modDev_kept (maskSub rfl hw) ?_
    refine State.toReset_kept (maskSub rfl hw) ?_
    with_reducible assumption

theorem execResetN_kept {w : Nat} {s0 x : State} {low : Bool}
    (hw : 0xffffffffffffffffffffffffffffffffffffffffffffffff &&& w = 0xffffffffffffffffffffffffffffffffffffffffffffffff) (h : Kept w s0 x) :
    KeptO w s0 (execResetN low x) := by
  unfold execResetN
  with_reducible apply KeptO.ite
  · refine KeptO.next ?_
    exact h
  · with_reducible apply KeptO.ite
    · refine KeptO.next ?_
      refine State.toReset_kept (maskSub rfl hw) ?_
      exact h
    · with_reducible apply KeptO.ite
      · refine KeptO.next ?_
        refine State.toReset_kept (maskSub rfl hw) ?_
        exact h
      · refine KeptO.next ?_
        exact h

theorem execClockFail_kept {w : Nat} {s0 x : State}
    (hw : 0xffffffffffffffffffffffffffffffffffffffffffffffff &&& w = 0xffffffffffffffffffffffffffffffffffffffffffffffff) (h : Kept w s0 x) :
    KeptO w s0 (execClockFail x) := by
  unfold execClockFail
  with_reducible apply KeptO.ite
  · refine KeptO.next ?_
    exact h
  · refine KeptO.next ?_
    refine State.toReset_kept (maskSub rfl hw) ?_
    exact h

theorem execWakeSource_kept {w : Nat} {s0 x : State} {w_ : Fin 3}
    (hw : 0x400000000000080000 &&& w = 0x400000000000080000) (h : Kept w s0 x) :
    KeptO w s0 (execWakeSource w_ x) := by
  unfold execWakeSource
  extract_lets v0 v1 v2 v3
  have hv3 : Kept w s0 v3 := by
    unfold v3
    with_reducible apply Kept.ite
    · refine State.modPw_kept (maskSub rfl hw) ?_
      exact h
    · exact h
  clear_value v3
  with_reducible apply KeptO.ite
  · refine KeptO.next ?_
    refine State.modPw_kept (maskSub rfl hw) ?_
    refine State.p_kept (maskSub rfl hw) ?_
    with_reducible assumption
  · refine KeptO.next ?_
    with_reducible assumption

theorem execHibernateTimeout_kept {w : Nat} {s0 x : State}
    (hw : 0xffffffffffffffffffffffffffffffffffffffffffffffff &&& w = 0xffffffffffffffffffffffffffffffffffffffffffffffff) (h : Kept w s0 x) :
    KeptO w s0 (execHibernateTimeout x) := by
  unfold execHibernateTimeout
  extract_lets v0
  have hv0 : Kept w s0 v0 := by
    unfold v0
    refine State.toReset_kept (maskSub rfl hw) ?_
    refine State.advanceTo_kept (maskSub rfl hw) ?_
    exact h
  clear_value v0
  with_reducible apply KeptO.ite
  · refine KeptO.next ?_
    exact h
  · refine KeptO.next ?_
    refine State.modPw_kept (maskSub rfl hw) ?_
    with_reducible assumption

theorem execBlackHoldExpire_kept {w : Nat} {s0 x : State}
    (hw : 0xffffffffffffffffffffffffffffffffffffffffffffffff &&& w = 0xffffffffffffffffffffffffffffffffffffffffffffffff) (h : Kept w s0 x) :
    KeptO w s0 (execBlackHoldExpire x) := by
  unfold execBlackHoldExpire
  extract_lets v0
  have hv0 : Kept w s0 v0 := by
    unfold v0
    refine State.toReset_kept (maskSub rfl hw) ?_
    refine State.rtcSkip_kept (maskSub rfl hw) ?_
    exact h
  clear_value v0
  with_reducible apply KeptO.ite
  · refine KeptO.next ?_
    exact h
  · refine KeptO.next ?_
    refine State.modPw_kept (maskSub rfl hw) ?_
    with_reducible assumption

theorem execRail_kept {w : Nat} {s0 x : State} {r : Fin 4} {bad : Bool}
    (hw : 0x8000000000000000000000000000000000000000040 &&& w = 0x8000000000000000000000000000000000000000040)
    (h : Kept w s0 x) :
    KeptO w s0 (execRail r bad x) := by
  unfold execRail
  extract_lets v0 v1
  have hv1 : Kept w s0 v1 := by
    unfold v1
    refine State.modDev_kept (maskSub rfl hw) ?_
    exact h
  clear_value v1
  with_reducible apply KeptO.ite
  · refine KeptO.next ?_
    exact h
  · refine KeptO.next ?_
    with_reducible apply Kept.ite
    · refine State.raiseCommon_kept (maskSub rfl hw) ?_
      with_reducible assumption
    · with_reducible assumption

theorem execRailBadPersist_kept {w : Nat} {s0 x : State} {r : Fin 4}
    (hw : 0x7fff0001fffffe203a2488c10c84000000000017ef80 &&& w = 0x7fff0001fffffe203a2488c10c84000000000017ef80)
    (h : Kept w s0 x) :
    KeptO w s0 (execRailBadPersist r x) := by
  unfold execRailBadPersist
  extract_lets v0
  have hv0 : Kept w s0 v0 := by
    unfold v0
    refine State.advanceTo_kept (maskSub rfl hw) ?_
    exact h
  clear_value v0
  with_reducible apply KeptO.ite
  · refine KeptO.next ?_
    refine Kept.foldl ?_ ?_
    · intro i1 i2 i3
      extract_lets v4
      with_reducible apply Kept.ite
      · refine State.unitFault_kept (maskSub rfl hw) ?_
        with_reducible assumption
      · with_reducible assumption
    · with_reducible assumption
  · refine KeptO.next ?_
    exact h

theorem State.govFall_kept {w : Nat} {s0 x : State} {new cause : Nat}
    (hw : 0x18000000100000000000000000200000000000080000 &&& w = 0x18000000100000000000000000200000000000080000)
    (h : Kept w s0 x) :
    Kept w s0 (State.govFall x new cause) := by
  unfold State.govFall
  extract_lets v0 v1 v2 v3
  have hv1 : Kept w s0 v1 := by
    unfold v1
    refine State.modPw_kept (maskSub rfl hw) ?_
    exact h
  clear_value v1
  have hv2 : Kept w s0 v2 := by
    unfold v2
    refine State.bump_kept (maskSub rfl hw) ?_
    with_reducible assumption
  clear_value v2
  have hv3 : Kept w s0 v3 := by
    unfold v3
    with_reducible apply Kept.ite
    · with_reducible assumption
    · refine State.raiseCommon_kept (maskSub rfl hw) ?_
      with_reducible assumption
  clear_value v3
  with_reducible apply Kept.ite
  · exact h
  · refine State.snSub_kept (maskSub rfl hw) ?_
    with_reducible assumption

theorem State.govFirst_kept {w : Nat} {s0 x : State} {feed hold : Nat}
    (hw : 0x10000000100000000000000000000000000000080000 &&& w = 0x10000000100000000000000000000000000000080000)
    (h : Kept w s0 x) :
    Kept w s0 (State.govFirst x feed hold) := by
  unfold State.govFirst
  extract_lets v0 v1 v2 v3 v4 v5
  refine State.snSub_kept (maskSub rfl hw) ?_
  refine State.modPw_kept (maskSub rfl hw) ?_
  exact h

theorem State.govMean_kept {w : Nat} {s0 x : State} {feed hold : Nat}
    (hw : 0x18000000100000000000000000200000000000080000 &&& w = 0x18000000100000000000000000200000000000080000)
    (h : Kept w s0 x) :
    Kept w s0 (State.govMean x feed hold) := by
  unfold State.govMean
  extract_lets v0 v1 v2 v3 v4 v5 v6 v7 v8 v9
  have hv2 : Kept w s0 v2 := by
    unfold v2
    refine State.ps_kept (maskSub rfl hw) ?_
    exact h
  clear_value v2
  have hv4 : Kept w s0 v4 := by
    unfold v4
    refine State.modPw_kept (maskSub rfl hw) ?_
    with_reducible assumption
  clear_value v4
  have hv6 : Kept w s0 v6 := by
    unfold v6
    with_reducible apply Kept.ite
    · refine State.govFall_kept (maskSub rfl hw) ?_
      with_reducible assumption
    · with_reducible assumption
  clear_value v6
  have hv7 : Kept w s0 v7 := by
    unfold v7
    with_reducible apply Kept.ite
    · refine State.govFall_kept (maskSub rfl hw) ?_
      with_reducible assumption
    · with_reducible assumption
  clear_value v7
  have hv8 : Kept w s0 v8 := by
    unfold v8
    with_reducible apply Kept.ite
    · refine State.govFall_kept (maskSub rfl hw) ?_
      with_reducible assumption
    · with_reducible assumption
  clear_value v8
  with_reducible apply Kept.ite
  · refine State.govFirst_kept (maskSub rfl hw) ?_
    with_reducible assumption
  · with_reducible apply Kept.ite
    · with_reducible assumption
    · refine State.modPw_kept (maskSub rfl hw) ?_
      with_reducible assumption

theorem execGovSample_kept {w : Nat} {s0 x : State} {mean : Bool} {feed hold : Nat}
    (hw : 0x18000000100000000000000000200000000000080000 &&& w = 0x18000000100000000000000000200000000000080000)
    (h : Kept w s0 x) :
    KeptO w s0 (execGovSample mean feed hold x) := by
  unfold execGovSample
  extract_lets v0 v1
  have hv1 : Kept w s0 v1 := by
    unfold v1
    refine State.modPw_kept (maskSub rfl hw) ?_
    exact h
  clear_value v1
  with_reducible apply KeptO.ite
  · refine KeptO.next ?_
    exact h
  · with_reducible apply KeptO.ite
    · refine KeptO.next ?_
      refine State.govMean_kept (maskSub rfl hw) ?_
      exact h
    · refine KeptO.next ?_
      with_reducible apply Kept.ite
      · refine State.govFall_kept (maskSub rfl hw) ?_
        with_reducible assumption
      · with_reducible assumption

theorem execPfailN_kept {w : Nat} {s0 x : State} {low : Bool}
    (hw : 0x18000000100000000000000000200000000000080000 &&& w = 0x18000000100000000000000000200000000000080000)
    (h : Kept w s0 x) :
    KeptO w s0 (execPfailN low x) := by
  unfold execPfailN
  extract_lets v0
  have hv0 : Kept w s0 v0 := by
    unfold v0
    refine State.modPw_kept (maskSub rfl hw) ?_
    exact h
  clear_value v0
  refine KeptO.next ?_
  with_reducible apply Kept.ite
  · refine State.govFall_kept (maskSub rfl hw) ?_
    with_reducible assumption
  · with_reducible assumption

theorem execThermal_kept {w : Nat} {s0 x : State} {t : Int}
    (hw : 0x18040000100400000000000000200000000000080400 &&& w = 0x18040000100400000000000000200000000000080400)
    (h : Kept w s0 x) :
    KeptO w s0 (execThermal t x) := by
  unfold execThermal
  extract_lets v0 v1 v2 v3 v4 v5
  have hv0 : Kept w s0 v0 := by
    unfold v0
    refine State.p_kept (maskSub rfl hw) ?_
    exact h
  clear_value v0
  have hv4 : Kept w s0 v4 := by
    unfold v4
    with_reducible apply Kept.ite
    · with_reducible assumption
    · refine State.cjCap_kept (maskSub rfl hw) ?_
      refine State.kernCharge_kept (maskSub rfl hw) ?_
      with_reducible assumption
  clear_value v4
  have hv5 : Kept w s0 v5 := by
    unfold v5
    refine State.raiseCommon_kept (maskSub rfl hw) ?_
    refine State.modPw_kept (maskSub rfl hw) ?_
    with_reducible assumption
  clear_value v5
  with_reducible apply KeptO.ite
  · refine KeptO.next ?_
    exact h
  · with_reducible apply KeptO.ite
    · refine KeptO.next ?_
      with_reducible assumption
    · refine KeptO.next ?_
      with_reducible apply Kept.ite
      · refine State.govFall_kept (maskSub rfl hw) ?_
        with_reducible assumption
      · with_reducible assumption

theorem State.govStep_kept {w : Nat} {s0 x : State} {k : Nat} {on : Bool}
    (hw : 0x7fff0001ffffae203aa580c00c84000000000017ff80 &&& w = 0x7fff0001ffffae203aa580c00c84000000000017ff80)
    (h : Kept w s0 x) :
    Kept w s0 (State.govStep x k on) := by
  unfold State.govStep
  extract_lets v0
  have hv0 : Kept w s0 v0 := by
    unfold v0
    refine State.cjShed_kept (maskSub rfl hw) ?_
    exact h
  clear_value v0
  split
  · rename_i u1
    with_reducible apply Kept.ite
    · refine Kept.foldl ?_ ?_
      · intro i2 i3 i4
        refine State.revoke_kept (maskSub rfl hw) ?_
        with_reducible assumption
      · with_reducible assumption
    · with_reducible assumption
  · rename_i u5
    refine State.rcShed_kept (maskSub rfl hw) ?_
    exact h
  · rename_i u6
    with_reducible apply Kept.ite
    · refine State.opGov_kept (maskSub rfl hw) ?_
      refine State.govStop_kept (maskSub rfl hw) ?_
      exact h
    · refine State.govPermit_kept (maskSub rfl hw) ?_
      refine State.opGov_kept (maskSub rfl hw) ?_
      exact h
  · rename_i u7
    with_reducible apply Kept.ite
    · refine State.sfLowRate_kept (maskSub rfl hw) ?_
      refine State.revoke_kept (maskSub rfl hw) ?_
      exact h
    · refine State.sfLowRate_kept (maskSub rfl hw) ?_
      exact h
  · rename_i u8
    refine State.snSub_kept (maskSub rfl hw) ?_
    exact h
  · rename_i u9 u10 u11 u12 u13 u14
    refine State.llPause_kept (maskSub rfl hw) ?_
    refine State.cjSetKonly_kept (maskSub rfl hw) ?_
    refine State.kernCharge_kept (maskSub rfl hw) ?_
    exact h

theorem State.govSteps_kept {w : Nat} {s0 x : State} {n : Nat}
    (hw : 0x7fff0001ffffae203aa580c00c8400000000001fff80 &&& w = 0x7fff0001ffffae203aa580c00c8400000000001fff80)
    (h : Kept w s0 x) :
    Kept w s0 (State.govSteps n x) := by
  induction n generalizing x with
  | zero => exact h
  | succ n ih =>
    exact Kept.ite (ih (State.advance_kept (State.govStep_kept (maskSub rfl hw) (State.modPw_kept (maskSub rfl hw) h))))
      (Kept.ite (ih (State.advance_kept (State.govStep_kept (maskSub rfl hw) (State.modPw_kept (maskSub rfl hw) h)))) h)

theorem execGovLevelFall_kept {w : Nat} {s0 x : State}
    (hw : 0x7fff0001ffffae203aa580c00c8400000000001fff80 &&& w = 0x7fff0001ffffae203aa580c00c8400000000001fff80)
    (h : Kept w s0 x) :
    KeptO w s0 (execGovLevelFall x) := by
  unfold execGovLevelFall
  refine KeptO.next ?_
  with_reducible apply Kept.ite
  · refine State.govSteps_kept (maskSub rfl hw) ?_
    exact h
  · exact h

theorem execGovLevelRise_kept {w : Nat} {s0 x : State}
    (hw : 0x7fff0001ffffae203aa580c00c8400000000001fff80 &&& w = 0x7fff0001ffffae203aa580c00c8400000000001fff80)
    (h : Kept w s0 x) :
    KeptO w s0 (execGovLevelRise x) := by
  unfold execGovLevelRise
  extract_lets v0 v1
  have hv1 : Kept w s0 v1 := by
    unfold v1
    split
    · rename_i u2 u3
      exact h
    · rename_i u4 u5 u6
      extract_lets v7
      have hv7 : Kept w s0 v7 := by
        unfold v7
        refine State.modPw_kept (maskSub rfl hw) ?_
        refine State.advanceTo_kept (maskSub rfl hw) ?_
        exact h
      clear_value v7
      with_reducible apply Kept.ite
      · refine State.snSub_kept (maskSub rfl hw) ?_
        refine State.raiseCommon_kept (maskSub rfl hw) ?_
        with_reducible assumption
      · exact h
  refine KeptO.next ?_
  with_reducible apply Kept.ite
  · refine State.govSteps_kept (maskSub rfl hw) ?_
    with_reducible assumption
  · with_reducible assumption

theorem execBlack_kept {w : Nat} {s0 x : State}
    (hw : 0xffffffffffffffffffffffffffffffffffffffffffffffff &&& w = 0xffffffffffffffffffffffffffffffffffffffffffffffff) (h : Kept w s0 x) :
    KeptO w s0 (execBlack x) := by
  unfold execBlack
  extract_lets v0 v1
  have hv0 : Kept w s0 v0 := by
    unfold v0
    refine State.snLastGasp_kept (maskSub rfl hw) ?_
    refine State.rtcSync_kept (maskSub rfl hw) ?_
    refine State.modPw_kept (maskSub rfl hw) ?_
    exact h
  clear_value v0
  have hv1 : Kept w s0 v1 := by
    unfold v1
    refine State.advance_kept ?_
    refine State.p_kept (maskSub rfl hw) ?_
    with_reducible assumption
  clear_value v1
  with_reducible apply KeptO.ite
  · refine KeptO.next ?_
    exact h
  · refine KeptO.next ?_
    refine State.modPw_kept (maskSub rfl hw) ?_
    refine State.toReset_kept (maskSub rfl hw) ?_
    with_reducible assumption

theorem State.govCmd_kept {w : Nat} {s0 x : State} {cmd arg : Nat}
    (hw : 0x7fff0001ffff88203a2400c00ce400000000001dedc0 &&& w = 0x7fff0001ffff88203a2400c00ce400000000001dedc0)
    (h : Kept w s0 x) :
    Kept w s0 (State.govCmd x cmd arg).2 := by
  unfold State.govCmd
  extract_lets v0 v1 v2
  with_reducible apply Kept.ite2
  · with_reducible apply Kept.ite2
    · dsimp only
      refine State.hibNext_kept (maskSub rfl hw) ?_
      refine State.modDev_kept (maskSub rfl hw) ?_
      exact h
    · exact h
  · with_reducible apply Kept.ite2
    · with_reducible apply Kept.ite2
      · dsimp only
        refine State.govFall_kept (maskSub rfl hw) ?_
        refine State.modPw_kept (maskSub rfl hw) ?_
        exact h
      · exact h
    · exact h

theorem State.govCommit_kept {w : Nat} {s0 x : State} {e : Nat} {w_ : Word}
    (hw : 0x18000000100000000000000000200000000000080000 &&& w = 0x18000000100000000000000000200000000000080000)
    (h : Kept w s0 x) :
    Kept w s0 (State.govCommit x e w_).2 := by
  unfold State.govCommit
  extract_lets v0 v1 v2
  have hv2 : Kept w s0 v2 := by
    unfold v2
    refine State.wr_kept (maskSub rfl hw) ?_
    exact h
  clear_value v2
  with_reducible apply Kept.ite2
  · exact h
  · with_reducible apply Kept.ite2
    · exact h
    · dsimp only
      with_reducible apply Kept.ite
      · refine State.govFall_kept (maskSub rfl hw) ?_
        with_reducible assumption
      · with_reducible assumption

theorem execSinterTxnDone_kept {w : Nat} {s0 x : State}
    (hw : 0x7fff0001ffff88203a2400c00cc400000000003dedc0 &&& w = 0x7fff0001ffff88203a2400c00cc400000000003dedc0)
    (h : Kept w s0 x) :
    KeptO w s0 (execSinterTxnDone x) := by
  unfold execSinterTxnDone
  split
  · rename_i u0 u1
    refine KeptO.next ?_
    exact h
  · rename_i u2 u3 u4
    refine KeptO.next ?_
    refine State.hibNext_kept (maskSub rfl hw) ?_
    refine State.snSub_kept (maskSub rfl hw) ?_
    refine State.snFinish_kept (maskSub rfl hw) ?_
    refine State.advanceTo_kept (maskSub rfl hw) ?_
    exact h

theorem State.unitCmd_kept {w : Nat} {s0 x : State} {u : Src} {cmd arg : Nat}
    (hw : 0x7fff0001ffff8a207b2408c00ee400000000001ffdc0 &&& w = 0x7fff0001ffff8a207b2408c00ee400000000001ffdc0)
    (h : Kept w s0 x) :
    Kept w s0 (State.unitCmd x u cmd arg).2 := by
  unfold State.unitCmd
  with_reducible apply Kept.ite2
  · refine State.cmdStart_kept (maskSub rfl hw) ?_
    exact h
  · with_reducible apply Kept.ite2
    · refine State.cmdStop_kept (maskSub rfl hw) ?_
      exact h
    · with_reducible apply Kept.ite2
      · refine State.cmdReset_kept (maskSub rfl hw) ?_
        exact h
      · with_reducible apply Kept.ite2
        · refine State.cmdForce_kept (maskSub rfl hw) ?_
          exact h
        · with_reducible apply Kept.ite2
          · exact h
          · with_reducible apply Kept.ite2
            · refine State.govCmd_kept (maskSub rfl hw) ?_
              exact h
            · refine State.ownCmd_kept (maskSub rfl hw) ?_
              exact h

theorem State.unitWrite_kept {w : Nat} {s0 x : State} {t : Nat} {data : Half}
    (hw : 0x7fff0001ffff8a207b2408c00ee400000000001ffdc0 &&& w = 0x7fff0001ffff8a207b2408c00ee400000000001ffdc0)
    (h : Kept w s0 x) :
    Kept w s0 (State.unitWrite x t data).2 := by
  unfold State.unitWrite
  extract_lets v0
  with_reducible apply Kept.ite2
  · exact h
  · split
    · rename_i u1 u2
      exact h
    · rename_i u3 u4 u5
      extract_lets v6 v7
      have hv6 : Kept w s0 v6.2 := by
        unfold v6
        refine State.unitCmd_kept (maskSub rfl hw) ?_
        exact h
      clear_value v6
      with_reducible apply Kept.ite2
      · exact h
      · with_reducible assumption

end Sys2Proof.Machine
end

