-- ==== Sys2Proof/Laws/KeptHost.lean ====
section
/-! SUPPORT. What each operation of the host ports, the boundaries, the frames and start-up keeps and leaves alone (`Kept`, Laws/Kept.lean). -/

namespace Sys2Proof.Machine

open Sys2Proof

theorem State.afterRead_kept {w : Nat} {s0 x : State} {t e : Nat}
    (hw : 0x200000000000000000 &&& w = 0x200000000000000000) (h : Kept w s0 x) :
    Kept w s0 (State.afterRead x t e) := by
  unfold State.afterRead
  with_reducible apply Kept.ite
  · refine State.p_kept (maskSub rfl hw) ?_
    exact h
  · exact h

theorem State.viewStart_kept {w : Nat} {s0 x : State} {t : Nat} (hw : 16 &&& w = 16) (h : Kept w s0 x) :
    Kept w s0 (x.viewStart t) := by
  exact Kept.ofViews (maskSub rfl hw) h rfl (fun hv => logsWf_vmod _ _ hv (Nat.zero_le _))

theorem State.snDisable_kept {w : Nat} {s0 x : State} {t : Nat}
    (hw : 0x10000000000000000000000000800000000000100000 &&& w = 0x10000000000000000000000000800000000000100000)
    (h : Kept w s0 x) :
    Kept w s0 (State.snDisable x t) := by
  unfold State.snDisable
  extract_lets v0 v1
  have hv0 : Kept w s0 v0 := by
    unfold v0
    refine Kept.foldl ?_ ?_
    · intro i2 i3 i4
      refine State.snEnd_kept (maskSub rfl hw) ?_
      with_reducible assumption
    · exact h
  clear_value v0
  have hv1 : Kept w s0 v1 := by
    unfold v1
    refine State.modSn_kept (maskSub rfl hw) ?_
    with_reducible assumption
  clear_value v1
  refine Kept.foldl ?_ ?_
  · intro i5 i6 i7
    with_reducible apply Kept.ite
    · refine State.wr_kept (maskSub rfl hw) ?_
      with_reducible assumption
    · with_reducible assumption
  · with_reducible assumption

theorem State.tenantOff_kept {w : Nat} {s0 x : State} {t : Nat}
    (hw : 0x101e000000000860382602c00c84000000000011cd93 &&& w = 0x101e000000000860382602c00c84000000000011cd93)
    (h : Kept w s0 x) :
    Kept w s0 (x.tenantOff t) := by
  unfold State.tenantOff
  extract_lets a b
  have ha : Kept w s0 a := State.cjDisable_kept (maskSub rfl hw) (State.obDisable_kept (maskSub rfl hw) (State.opDisable_kept (maskSub rfl hw) (State.rcDisable_kept (maskSub rfl hw)
    (State.lnDisable_kept (maskSub rfl hw) h))))
  clear_value a
  have hb : Kept w s0 b := State.viewStart_kept (maskSub rfl hw) (State.claimsDisable_kept (maskSub rfl hw) (State.snDisable_kept (maskSub rfl hw) ha))
  clear_value b
  refine hb.trans ?_
  have h0 : w.testBit 0 = true := mask_bit (maskSub rfl hw)
  have h1 : w.testBit 1 = true := mask_bit (maskSub rfl hw)
  constructor
  case port0 => intro k; rw [h0] at k; cases k
  case port1 => intro k; rw [h1] at k; cases k
  all_goals (intros; first | rfl | exact Nat.le_refl _ | assumption)

theorem State.tenantsCommit_kept {w : Nat} {s0 x : State} {e : Nat} {w_ : Word}
    (hw : 0x101e000000000860382602c00c86000000000011cd93 &&& w = 0x101e000000000860382602c00c86000000000011cd93)
    (h : Kept w s0 x) :
    Kept w s0 (State.tenantsCommit x e w_).2 := by
  unfold State.tenantsCommit
  extract_lets v0 v1 v2 v3
  have hv3 : Kept w s0 v3 := by
    unfold v3
    refine State.wr_kept (maskSub rfl hw) ?_
    exact h
  clear_value v3
  with_reducible apply Kept.ite2
  · exact h
  · with_reducible apply Kept.ite2
    · with_reducible assumption
    · with_reducible apply Kept.ite2
      · dsimp only
        refine State.viewStart_kept (maskSub rfl hw) ?_
        refine State.bump_kept (maskSub rfl hw) ?_
        with_reducible assumption
      · dsimp only
        refine State.tenantOff_kept (maskSub rfl hw) ?_
        with_reducible assumption

theorem State.evsubCommit_kept {w : Nat} {s0 x : State} {e who : Nat} {w_ : Word}
    (hw : 0x100000000000000000 &&& w = 0x100000000000000000) (h : Kept w s0 x) :
    Kept w s0 (State.evsubCommit x e who w_).2 := by
  unfold State.evsubCommit
  extract_lets v0 v1 v2 v3 v4
  with_reducible apply Kept.ite2
  · exact h
  · with_reducible apply Kept.ite2
    · dsimp only
      refine State.wr_kept (maskSub rfl hw) ?_
      exact h
    · exact h

theorem State.keepCj_kept {w : Nat} {s0 : State} {who : Nat} {d : Word} {r : Oc × State}
    (hw : 0x2000000000000000000000000 &&& w = 0x2000000000000000000000000) (h : Kept w s0 r.2) :
    Kept w s0 (State.keepCj who d r).2 := by
  unfold State.keepCj
  exact Kept.ite2 (State.wr_kept (maskSub rfl hw) h) h

theorem State.commit_kept {w : Nat} {s0 x : State} {t e who : Nat} {w_ : Word}
    (hw : 0x1a1f00001001ffffffffffffffff00000000003bff93 &&& w = 0x1a1f00001001ffffffffffffffff00000000003bff93)
    (h : Kept w s0 x) :
    Kept w s0 (State.commit x t e who w_).2 := by
  unfold State.commit
  extract_lets v0
  have hv0 : Kept w s0 v0.2 := by
    unfold v0
    refine State.cjCommitPage_kept (maskSub rfl hw) ?_
    exact h
  clear_value v0
  split
  · rename_i u1
    refine State.tenantsCommit_kept (maskSub rfl hw) ?_
    exact h
  · rename_i u2
    refine State.evsubCommit_kept (maskSub rfl hw) ?_
    exact h
  · rename_i u3
    refine State.govCommit_kept (maskSub rfl hw) ?_
    exact h
  · rename_i u4
    refine State.emberCommit_kept (maskSub rfl hw) ?_
    exact h
  · rename_i u5
    refine State.snCommitEntry_kept (maskSub rfl hw) ?_
    exact h
  · rename_i u6
    refine State.gyCommitCfg_kept (maskSub rfl hw) ?_
    exact h
  · rename_i u7
    refine State.gyCommitRef_kept (maskSub rfl hw) ?_
    exact h
  · rename_i u8
    refine State.ascCommit_kept (maskSub rfl hw) ?_
    exact h
  · rename_i u9
    refine State.cmpCommit_kept (maskSub rfl hw) ?_
    exact h
  · rename_i u10
    refine State.lsCommitCfg_kept (maskSub rfl hw) ?_
    exact h
  · rename_i u11
    refine State.lsCommitTones_kept (maskSub rfl hw) ?_
    exact h
  · rename_i u12
    refine State.lsCommitMap_kept (maskSub rfl hw) ?_
    exact h
  · rename_i u13
    refine State.lnCommitCfg_kept (maskSub rfl hw) ?_
    exact h
  · rename_i u14
    refine State.lnCommitNbr_kept (maskSub rfl hw) ?_
    exact h
  · rename_i u15
    refine State.lnCommitTenant_kept (maskSub rfl hw) ?_
    exact h
  · rename_i u16
    refine State.lnCommitTxq_kept (maskSub rfl hw) ?_
    exact h
  · rename_i u17
    refine State.lnCommitStage_kept (maskSub rfl hw) ?_
    exact h
  · rename_i u18
    refine State.lnCommitRx_kept (maskSub rfl hw) ?_
    exact h
  · rename_i u19
    refine State.llCommitCfg_kept (maskSub rfl hw) ?_
    exact h
  · rename_i u20
    refine State.llCommitMaps_kept (maskSub rfl hw) ?_
    exact h
  · rename_i u21
    refine State.cjCommitCfg_kept (maskSub rfl hw) ?_
    exact h
  · rename_i u22
    with_reducible apply Kept.ite2
    · refine State.keepCj_kept (maskSub rfl hw) ?_
      refine State.cjCommitQ_kept (maskSub rfl hw) ?_
      exact h
    · refine State.cjCommitQ_kept (maskSub rfl hw) ?_
      exact h
  · rename_i u23
    refine State.cjCommitStat_kept (maskSub rfl hw) ?_
    exact h
  · rename_i u24
    refine State.cjCommitTenant_kept (maskSub rfl hw) ?_
    exact h
  · rename_i u25
    with_reducible apply Kept.ite2
    · dsimp only
      refine State.msPageGone_kept (maskSub rfl hw) ?_
      with_reducible assumption
    · with_reducible assumption
  · rename_i u26
    refine State.cjCommitMem_kept (maskSub rfl hw) ?_
    exact h
  · rename_i u27
    refine State.obCommitCfg_kept (maskSub rfl hw) ?_
    exact h
  · rename_i u28
    refine State.slotCommit_kept (maskSub rfl hw) ?_
    exact h
  · rename_i u29
    dsimp only
    refine State.wr_kept (maskSub rfl hw) ?_
    exact h
  · rename_i u30
    refine State.obCommitQ_kept (maskSub rfl hw) ?_
    exact h
  · rename_i u31
    refine State.obCommitData_kept (maskSub rfl hw) ?_
    exact h
  · rename_i u32
    refine State.obCommitTenant_kept (maskSub rfl hw) ?_
    exact h
  · rename_i u33
    refine State.rngCommit_kept (maskSub rfl hw) ?_
    exact h
  · rename_i u34
    refine State.rcCommitCfg_kept (maskSub rfl hw) ?_
    exact h
  · rename_i u35
    refine State.rcCommitFixed_kept (maskSub rfl hw) ?_
    exact h
  · rename_i u36
    refine State.rcCommitFixed_kept (maskSub rfl hw) ?_
    exact h
  · rename_i u37
    refine State.rcCommitBand_kept (maskSub rfl hw) ?_
    exact h
  · rename_i u38
    refine State.rcCommitTag_kept (maskSub rfl hw) ?_
    exact h
  · rename_i u39
    refine State.rcCommitTxq_kept (maskSub rfl hw) ?_
    exact h
  · rename_i u40
    refine State.rcCommitFrame_kept (maskSub rfl hw) ?_
    exact h
  · rename_i u41
    refine State.rcCommitTenant_kept (maskSub rfl hw) ?_
    exact h
  · rename_i u42
    refine State.opCommitCfg_kept (maskSub rfl hw) ?_
    exact h
  · rename_i u43
    refine State.opCommitLaser_kept (maskSub rfl hw) ?_
    exact h
  · rename_i u44
    refine State.opCommitCell_kept (maskSub rfl hw) ?_
    exact h
  · rename_i u45
    refine State.sfCommit_kept (maskSub rfl hw) ?_
    exact h
  · rename_i u46
    refine State.lpCommit_kept (maskSub rfl hw) ?_
    exact h
  · rename_i u47
    refine State.msCommit_kept (maskSub rfl hw) ?_
    exact h
  · rename_i u48 u49 u50 u51 u52 u53 u54 u55 u56 u57 u58 u59 u60 u61 u62 u63 u64 u65 u66 u67 u68 u69 u70 u71 u72 u73 u74 u75 u76 u77 u78 u79 u80 u81 u82 u83 u84 u85 u86 u87 u88 u89 u90 u91 u92 u93 u94 u95
    exact h

theorem State.commitAt_kept {w : Nat} {s0 x : State} {t e who : Nat} {w_ : Word}
    (hw : 0x1a1f00001001ffffffffffffffff00000000003bff93 &&& w = 0x1a1f00001001ffffffffffffffff00000000003bff93)
    (h : Kept w s0 x) :
    Kept w s0 (State.commitAt x t e who w_).2 := by
  unfold State.commitAt
  split
  · rename_i u0 u1
    exact h
  · rename_i u2 u3 u4
    refine State.commit_kept (maskSub rfl hw) ?_
    exact h

theorem execTapInstruction_kept {w : Nat} {s0 x : State} {code : Fin 32} (hw : 0x18040 &&& w = 0x18040)
    (h : Kept w s0 x) :
    KeptO w s0 (execTapInstruction code x) := by
  unfold execTapInstruction
  refine KeptO.ite (KeptO.next h) ?_
  extract_lets a off
  have ha : Kept w s0 a := State.modDev_kept (maskSub rfl hw) h
  refine KeptO.next (ha.trans ?_)
  have h1 : w.testBit 15 = true := mask_bit (maskSub rfl hw)
  have h2 : w.testBit 16 = true := mask_bit (maskSub rfl hw)
  constructor
  case op1 => intro k; rw [h1] at k; cases k
  case op2 => intro k; rw [h2] at k; cases k
  all_goals (intros; first | rfl | exact Nat.le_refl _ | assumption)

theorem State.modWin_kept {w : Nat} {s0 x : State} {p : PortId} {n : Nat} {f : Win → Win} (hw : 3 &&& w = 3)
    (h : Kept w s0 x) :
    Kept w s0 (State.modWin x p n f) := by
  unfold State.modWin
  refine State.modPort_kept (maskSub rfl hw) ?_
  exact h

theorem State.winDone_kept {w : Nat} {s0 x : State} {p : PortId} {n : Nat} {o : Oc} {adv : Bool} (hw : 3 &&& w = 3)
    (h : Kept w s0 x) :
    Kept w s0 (State.winDone x p n o adv) := by
  unfold State.winDone
  refine State.modWin_kept (maskSub rfl hw) ?_
  exact h

theorem State.winRead_kept {w : Nat} {s0 x : State} {p : PortId} {n who : Nat} {cont : Bool}
    (hw : 0x7fff0001fffffe203a2588c10ca4000000000017ef83 &&& w = 0x7fff0001fffffe203a2588c10ca4000000000017ef83)
    (h : Kept w s0 x) :
    Kept w s0 (State.winRead x p n who cont).2.2 := by
  unfold State.winRead
  extract_lets v0 v1
  with_reducible apply Kept.ite3
  · exact h
  · split
    · rename_i u2 u3
      dsimp only
      refine State.winDone_kept (maskSub rfl hw) ?_
      exact h
    · rename_i u4 u5 u6
      extract_lets v7 v8 v9 v10 v11
      have hv7 : Kept w s0 v7 := by
        unfold v7
        with_reducible apply Kept.ite
        · refine State.cjInternal_kept (maskSub rfl hw) ?_
          exact h
        · refine State.cjDetect_kept (maskSub rfl hw) ?_
          exact h
      clear_value v7
      have hv9 : Kept w s0 v9 := by
        unfold v9
        refine State.afterRead_kept (maskSub rfl hw) ?_
        exact h
      clear_value v9
      have hv11 : Kept w s0 v11 := by
        unfold v11
        refine State.modWin_kept (maskSub rfl hw) ?_
        with_reducible assumption
      clear_value v11
      with_reducible apply Kept.ite3
      · with_reducible apply Kept.ite3
        · dsimp only
          refine State.winDone_kept (maskSub rfl hw) ?_
          with_reducible assumption
        · dsimp only
          refine State.winDone_kept (maskSub rfl hw) ?_
          with_reducible assumption
      · with_reducible apply Kept.ite3
        · dsimp only
          refine State.winDone_kept (maskSub rfl hw) ?_
          refine State.modWin_kept (maskSub rfl hw) ?_
          exact h
        · split
          · rename_i u12 u13
            dsimp only
            refine State.winDone_kept (maskSub rfl hw) ?_
            exact h
          · rename_i u14 u15 u16
            extract_lets v17
            have hv17 : Kept w s0 v17 := by
              unfold v17
              refine State.modWin_kept (maskSub rfl hw) ?_
              exact h
            clear_value v17
            with_reducible apply Kept.ite3
            · dsimp only
              refine State.winDone_kept (maskSub rfl hw) ?_
              exact h
            · dsimp only
              refine State.winDone_kept (maskSub rfl hw) ?_
              with_reducible assumption

theorem State.winWrite_kept {w : Nat} {s0 x : State} {p : PortId} {n who : Nat} {data : Half}
    (hw : 0x1a1f00001001ffffffffffffffff00000000003bff93 &&& w = 0x1a1f00001001ffffffffffffffff00000000003bff93)
    (h : Kept w s0 x) :
    Kept w s0 (State.winWrite x p n who data).2 := by
  unfold State.winWrite
  extract_lets v0 v1
  with_reducible apply Kept.ite2
  · exact h
  · split
    · rename_i u2 u3
      dsimp only
      refine State.winDone_kept (maskSub rfl hw) ?_
      exact h
    · rename_i u4 u5 u6
      extract_lets v7 v8
      have hv8 : Kept w s0 v8.2 := by
        unfold v8
        refine State.commit_kept (maskSub rfl hw) ?_
        refine State.modWin_kept (maskSub rfl hw) ?_
        exact h
      clear_value v8
      with_reducible apply Kept.ite2
      · dsimp only
        refine State.winDone_kept (maskSub rfl hw) ?_
        refine State.modWin_kept (maskSub rfl hw) ?_
        exact h
      · dsimp only
        refine State.winDone_kept (maskSub rfl hw) ?_
        with_reducible assumption

theorem State.winSelect_kept {w : Nat} {s0 x : State} {p : PortId} {n who : Nat} {data : Half} (hw : 3 &&& w = 3)
    (h : Kept w s0 x) :
    Kept w s0 (State.winSelect x p n who data) := by
  unfold State.winSelect
  refine State.modWin_kept (maskSub rfl hw) ?_
  exact h

theorem State.winIndex_kept {w : Nat} {s0 x : State} {p : PortId} {n : Nat} {data : Half} (hw : 3 &&& w = 3)
    (h : Kept w s0 x) :
    Kept w s0 (State.winIndex x p n data) := by
  unfold State.winIndex
  extract_lets v0
  refine State.modWin_kept (maskSub rfl hw) ?_
  exact h

theorem State.winRegRead_kept {w : Nat} {s0 x : State} {p : PortId} {n k who : Nat} {cont : Bool}
    (hw : 0x7fff0001fffffe203a2588c10ca4000000000017ef83 &&& w = 0x7fff0001fffffe203a2588c10ca4000000000017ef83)
    (h : Kept w s0 x) :
    Kept w s0 (State.winRegRead x p n k who cont).2.2 := by
  unfold State.winRegRead
  extract_lets v0
  with_reducible apply Kept.ite3
  · refine State.winRead_kept (maskSub rfl hw) ?_
    exact h
  · with_reducible apply Kept.ite3
    · exact h
    · exact h

theorem State.winRegWrite_kept {w : Nat} {s0 x : State} {p : PortId} {n k who : Nat} {data : Half}
    (hw : 0x1a1f00001001ffffffffffffffff00000000003bff93 &&& w = 0x1a1f00001001ffffffffffffffff00000000003bff93)
    (h : Kept w s0 x) :
    Kept w s0 (State.winRegWrite x p n k who data).2 := by
  unfold State.winRegWrite
  with_reducible apply Kept.ite2
  · dsimp only
    refine State.winSelect_kept (maskSub rfl hw) ?_
    exact h
  · with_reducible apply Kept.ite2
    · refine State.winWrite_kept (maskSub rfl hw) ?_
      exact h
    · with_reducible apply Kept.ite2
      · exact h
      · with_reducible apply Kept.ite2
        · dsimp only
          refine State.winIndex_kept (maskSub rfl hw) ?_
          exact h
        · dsimp only
          refine State.modWin_kept (maskSub rfl hw) ?_
          exact h

theorem State.takeSnap_kept {w : Nat} {s0 x : State} {p : PortId} {x_ : TopSnap} (hw : 3 &&& w = 3)
    (h : Kept w s0 x) :
    Kept w s0 (State.takeSnap x p x_) := by
  unfold State.takeSnap
  refine State.modPort_kept (maskSub rfl hw) ?_
  exact h

theorem State.snapRead_kept {w : Nat} {s0 x : State} {p : PortId} {who : Nat} {pick : TopSnap → Option (Half × Nat)}
    (hw : 3 &&& w = 3) (h : Kept w s0 x) :
    Kept w s0 (State.snapRead x p who pick).2.2 := by
  unfold State.snapRead
  split
  · rename_i u0 u1
    exact h
  · rename_i u2 u3 u4
    with_reducible apply Kept.ite3
    · exact h
    · split
      · rename_i u5 u6
        exact h
      · rename_i u7 u8 u9 u10
        dsimp only
        refine State.modPort_kept (maskSub rfl hw) ?_
        exact h

theorem State.unitStateRead_kept {w : Nat} {s0 x : State} {p : PortId} {who : Nat} {cont : Bool} (hw : 3 &&& w = 3)
    (h : Kept w s0 x) :
    Kept w s0 (State.unitStateRead x p who cont).2.2 := by
  unfold State.unitStateRead
  extract_lets v0 v1
  with_reducible apply Kept.ite3
  · refine State.snapRead_kept (maskSub rfl hw) ?_
    exact h
  · dsimp only
    refine State.takeSnap_kept (maskSub rfl hw) ?_
    exact h

theorem State.gySnap_kept {w : Nat} {s0 x : State} {p : PortId} {who : Nat} {cont : Bool} (hw : 3 &&& w = 3)
    (h : Kept w s0 x) :
    Kept w s0 (State.gySnap x p who cont).2.2 := by
  unfold State.gySnap
  with_reducible apply Kept.ite3
  · refine State.snapRead_kept (maskSub rfl hw) ?_
    exact h
  · dsimp only
    refine State.takeSnap_kept (maskSub rfl hw) ?_
    exact h

theorem State.setPos_kept {w : Nat} {s0 x : State} {p : PortId} {who k : Nat} (hw : 3 &&& w = 3) (h : Kept w s0 x) :
    Kept w s0 (State.setPos x p who k) := by
  unfold State.setPos
  refine State.modPort_kept (maskSub rfl hw) ?_
  exact h

theorem State.evtData_kept {w : Nat} {s0 x : State} {p : PortId} {who : Nat} {cont : Bool} (hw : 3 &&& w = 3)
    (h : Kept w s0 x) :
    Kept w s0 (State.evtData x p who cont).2.2 := by
  unfold State.evtData
  extract_lets v0 v1
  split
  · rename_i u2 u3 u4 u5
    exact h
  · rename_i u6 u7 u8
    extract_lets v9 v10
    have hv10 : Kept w s0 v10.2.2 := by
      unfold v10
      refine State.snapRead_kept (maskSub rfl hw) ?_
      exact h
    clear_value v10
    with_reducible apply Kept.ite3
    · dsimp only
      refine State.setPos_kept (maskSub rfl hw) ?_
      refine State.takeSnap_kept (maskSub rfl hw) ?_
      exact h
    · with_reducible apply Kept.ite3
      · dsimp only
        refine State.setPos_kept (maskSub rfl hw) ?_
        with_reducible assumption
      · with_reducible assumption

theorem State.evtPop_kept {w : Nat} {s0 x : State} {p : PortId} {who : Nat} (hw : 19 &&& w = 19) (h : Kept w s0 x) :
    Kept w s0 (x.evtPop p who).2.2 := by
  unfold State.evtPop
  split
  · exact h
  · next r rest hl =>
    refine State.setPos_kept (maskSub rfl hw) (Kept.ofViews (maskSub rfl hw) h rfl (fun hv => logsWf_vmod _ _ hv ?_))
    have := hv who
    rw [hl, List.length_cons] at this
    dsimp only
    omega

theorem State.evtLost_kept {w : Nat} {s0 x : State} {who : Nat} (hw : 16 &&& w = 16) (h : Kept w s0 x) :
    Kept w s0 (x.evtLost who).2.2 := by
  exact Kept.ofViews (maskSub rfl hw) h rfl (fun hv => logsWf_vmod _ _ hv (hv who))

theorem State.hostGone_kept {w : Nat} {s0 x : State}
    (hw : 0x20120000001200000000000000000000000000004040 &&& w = 0x20120000001200000000000000000000000000004040)
    (h : Kept w s0 x) :
    Kept w s0 (State.hostGone x) := by
  unfold State.hostGone
  extract_lets v0 v1
  have hv0 : Kept w s0 v0 := by
    unfold v0
    refine State.raiseCommon_kept (maskSub rfl hw) ?_
    refine State.modDev_kept (maskSub rfl hw) ?_
    exact h
  clear_value v0
  have hv1 : Kept w s0 v1 := by
    unfold v1
    with_reducible apply Kept.ite
    · refine State.lnHostless_kept (maskSub rfl hw) ?_
      with_reducible assumption
    · with_reducible assumption
  clear_value v1
  with_reducible apply Kept.ite
  · refine State.rcNoack_kept (maskSub rfl hw) ?_
    with_reducible assumption
  · with_reducible assumption

theorem State.wdogDue_kept {w : Nat} {s0 x : State}
    (hw : 0x20120000001200000000000000000000000000004040 &&& w = 0x20120000001200000000000000000000000000004040)
    (h : Kept w s0 x) :
    Kept w s0 (State.wdogDue x) := by
  unfold State.wdogDue
  split
  · rename_i u0 u1 u2
    with_reducible apply Kept.ite
    · refine State.hostGone_kept (maskSub rfl hw) ?_
      exact h
    · exact h
  · rename_i u3 u4
    exact h

theorem State.wdogKick_kept {w : Nat} {s0 x : State}
    (hw : 0x20100000001000000000000000000000000000004040 &&& w = 0x20100000001000000000000000000000000000004040)
    (h : Kept w s0 x) :
    Kept w s0 (State.wdogKick x) := by
  unfold State.wdogKick
  extract_lets v0 v1
  have hv0 : Kept w s0 v0 := by
    unfold v0
    refine State.modDev_kept (maskSub rfl hw) ?_
    exact h
  clear_value v0
  have hv1 : Kept w s0 v1 := by
    unfold v1
    refine State.raiseCommon_kept (maskSub rfl hw) ?_
    refine State.modDev_kept (maskSub rfl hw) ?_
    with_reducible assumption
  clear_value v1
  with_reducible apply Kept.ite
  · with_reducible apply Kept.ite
    · refine State.rcNoack_kept (maskSub rfl hw) ?_
      with_reducible assumption
    · with_reducible assumption
  · with_reducible assumption

theorem State.wdogWrite_kept {w : Nat} {s0 x : State} {p : PortId} {who : Nat} {data : Half}
    (hw : 0x20100000001000000000000000000000000000004040 &&& w = 0x20100000001000000000000000000000000000004040)
    (h : Kept w s0 x) :
    Kept w s0 (State.wdogWrite x p who data).2 := by
  unfold State.wdogWrite
  extract_lets v0
  with_reducible apply Kept.ite2
  · dsimp only
    refine State.wdogKick_kept (maskSub rfl hw) ?_
    exact h
  · exact h

theorem execHostLost_kept {w : Nat} {s0 x : State}
    (hw : 0x20120000001200000000000000000000000000004040 &&& w = 0x20120000001200000000000000000000000000004040)
    (h : Kept w s0 x) :
    KeptO w s0 (execHostLost x) := by
  unfold execHostLost
  split
  · rename_i u0 u1 u2
    refine KeptO.next ?_
    refine State.hostGone_kept (maskSub rfl hw) ?_
    refine State.advanceTo_kept (maskSub rfl hw) ?_
    exact h
  · rename_i u3 u4
    refine KeptO.next ?_
    exact h

theorem State.hpBindWrite_kept {w : Nat} {s0 x : State} {data : Half}
    (hw : 0x20000000000000040 &&& w = 0x20000000000000040) (h : Kept w s0 x) :
    Kept w s0 (State.hpBindWrite x data).2 := by
  unfold State.hpBindWrite
  extract_lets v0 v1 v2
  have hv2 : Kept w s0 v2 := by
    unfold v2
    refine State.modDev_kept (maskSub rfl hw) ?_
    exact h
  clear_value v2
  with_reducible apply Kept.ite2
  · exact h
  · dsimp only
    with_reducible apply Kept.ite
    · refine State.ps_kept (maskSub rfl hw) ?_
      with_reducible assumption
    · with_reducible assumption

theorem State.hpCfgSet_kept {w : Nat} {s0 x : State} {d : Nat} (hw : 68 &&& w = 68) (h : Kept w s0 x) :
    Kept w s0 (x.hpCfgSet d) := by
  unfold State.hpCfgSet
  extract_lets on y
  exact State.modDev_kept (maskSub rfl hw) (Kept.ite (State.modTux_kept (f := fun _ => {}) (maskSub rfl hw) h) h)

theorem State.hpCfgWrite_kept {w : Nat} {s0 x : State} {p : PortId} {data : Half}
    (hw : 0x20100000001000000000000000000000000000004044 &&& w = 0x20100000001000000000000000000000000000004044)
    (h : Kept w s0 x) :
    Kept w s0 (State.hpCfgWrite x p data).2 := by
  unfold State.hpCfgWrite
  extract_lets v0
  with_reducible apply Kept.ite2
  · exact h
  · dsimp only
    refine State.wdogKick_kept (maskSub rfl hw) ?_
    refine State.hpCfgSet_kept (maskSub rfl hw) ?_
    exact h

theorem State.regRead_kept {w : Nat} {s0 x : State} {p : PortId} {addr : Nat} {cont : Bool}
    (hw : 0x7fff0001fffffe203a2588c10ca4000000000017ff93 &&& w = 0x7fff0001fffffe203a2588c10ca4000000000017ff93)
    (h : Kept w s0 x) :
    Kept w s0 (State.regRead x p addr cont).2.2 := by
  unfold State.regRead
  extract_lets v0
  with_reducible apply Kept.ite3
  · refine State.winRegRead_kept (maskSub rfl hw) ?_
    exact h
  · split
    · rename_i u1
      exact h
    · rename_i u2
      exact h
    · rename_i u3
      exact h
    · rename_i u4
      exact h
    · rename_i u5
      with_reducible apply Kept.ite3
      · exact h
      · exact h
    · rename_i u6
      exact h
    · rename_i u7
      exact h
    · rename_i u8
      exact h
    · rename_i u9
      exact h
    · rename_i u10
      refine State.evtData_kept (maskSub rfl hw) ?_
      exact h
    · rename_i u11
      refine State.evtPop_kept (maskSub rfl hw) ?_
      exact h
    · rename_i u12
      exact h
    · rename_i u13
      exact h
    · rename_i u14
      exact h
    · rename_i u15
      refine State.evtLost_kept (maskSub rfl hw) ?_
      exact h
    · rename_i u16
      exact h
    · rename_i u17
      exact h
    · rename_i u18
      exact h
    · rename_i u19
      refine State.unitStateRead_kept (maskSub rfl hw) ?_
      exact h
    · rename_i u20
      refine State.snapRead_kept (maskSub rfl hw) ?_
      exact h
    · rename_i u21
      exact h
    · rename_i u22
      exact h
    · rename_i u23
      exact h
    · rename_i u24
      exact h
    · rename_i u25
      exact h
    · rename_i u26
      refine State.gySnap_kept (maskSub rfl hw) ?_
      exact h
    · rename_i u27
      refine State.snapRead_kept (maskSub rfl hw) ?_
      exact h
    · rename_i u28
      refine State.snapRead_kept (maskSub rfl hw) ?_
      exact h
    · rename_i u29
      refine State.snapRead_kept (maskSub rfl hw) ?_
      exact h
    · rename_i u30
      exact h
    · rename_i u31
      exact h
    · rename_i u32
      refine State.rngRead_kept (maskSub rfl hw) ?_
      exact h
    · rename_i u33 u34 u35 u36 u37 u38 u39 u40 u41 u42 u43 u44 u45 u46 u47 u48 u49 u50 u51 u52 u53 u54 u55 u56 u57 u58 u59 u60 u61 u62 u63 u64 u65
      exact h

theorem State.regWrite_kept {w : Nat} {s0 x : State} {p : PortId} {addr : Nat} {data : Half}
    (hw : 0x7fff0001ffffffffffffffffffff00000000003fffdf &&& w = 0x7fff0001ffffffffffffffffffff00000000003fffdf)
    (h : Kept w s0 x) :
    Kept w s0 (x.regWrite p addr data).2 := by
  unfold State.regWrite
  extract_lets who
  refine Kept.ite2 (State.winRegWrite_kept (maskSub rfl hw) h) ?_
  split
  · cases p
    · dsimp only; exact State.modPort_kept (maskSub rfl hw) h
    · exact h
  · dsimp only; exact State.modPort_kept (maskSub rfl hw) h
  · exact Kept.ite2 (State.hpBindWrite_kept (maskSub rfl hw) h) h
  · dsimp only; exact State.modPort_kept (maskSub rfl hw) h
  · exact Kept.ite2 (State.hpCfgWrite_kept (maskSub rfl hw) h) h
  · exact Kept.ofViews (maskSub rfl hw) h rfl (fun hv => logsWf_vmod _ _ hv (hv who))
  · exact Kept.ofViews (maskSub rfl hw) h rfl (fun hv => logsWf_vmod _ _ hv (hv who))
  · exact State.wdogWrite_kept (maskSub rfl hw) h
  · exact Kept.ite2 (by dsimp only; exact State.modSel_kept (maskSub rfl hw) h) h
  · exact State.unitWrite_kept (maskSub rfl hw) h
  · dsimp only; exact State.modSel_kept (maskSub rfl hw) h
  · exact State.claimCmd_kept (maskSub rfl hw) h
  · exact h

theorem State.serve_kept {w : Nat} {s0 x : State} {p : PortId} {addr : Nat} {data : Option Half} {cont : Bool}
    (hw : 0x7fff0001ffffffffffffffffffff00000000003fffdf &&& w = 0x7fff0001ffffffffffffffffffff00000000003fffdf)
    (h : Kept w s0 x) :
    Kept w s0 (State.serve x p addr data cont).2.2 := by
  unfold State.serve
  extract_lets v0
  have hv0 : Kept w s0 v0.2.2 := by
    unfold v0
    with_reducible apply Kept.ite3
    · split
      · rename_i u1
        refine State.regRead_kept (maskSub rfl hw) ?_
        exact h
      · rename_i u2 u3
        dsimp only
        refine State.regWrite_kept (maskSub rfl hw) ?_
        exact h
    · exact h
  clear_value v0
  with_reducible apply Kept.ite3
  · with_reducible assumption
  · exact h

theorem State.noted_kept {w : Nat} {s0 x : State} {p : PortId} {addr : Nat} {o : Oc} {hd : Option Half}
    (hw : 3 &&& w = 3) (h : Kept w s0 x) :
    Kept w s0 (State.noted x p addr o hd) := by
  unfold State.noted
  refine State.modPort_kept (maskSub rfl hw) ?_
  exact h

theorem State.access_kept {w : Nat} {s0 x : State} {p : PortId} {addr : Nat} {data : Option Half} {cont : Bool}
    (hw : 0x7fff0001ffffffffffffffffffff00000000003fffdf &&& w = 0x7fff0001ffffffffffffffffffff00000000003fffdf)
    (h : Kept w s0 x) :
    Kept w s0 (State.access x p addr data cont).2.2 := by
  unfold State.access
  extract_lets v0 v1
  have hv0 : Kept w s0 v0 := by
    unfold v0
    refine State.wdogDue_kept (maskSub rfl hw) ?_
    refine State.advance_kept ?_
    exact h
  clear_value v0
  have hv1 : Kept w s0 v1.2.2 := by
    unfold v1
    refine State.serve_kept (maskSub rfl hw) ?_
    with_reducible assumption
  clear_value v1
  dsimp only
  refine State.advance_kept ?_
  refine State.noted_kept (maskSub rfl hw) ?_
  with_reducible assumption

theorem State.awaitCore_kept {w : Nat} {s0 x : State} (hw : 0 &&& w = 0) (h : Kept w s0 x) :
    Kept w s0 (State.awaitCore x) := by
  unfold State.awaitCore
  with_reducible apply Kept.ite
  · exact h
  · refine State.advanceTo_kept (maskSub rfl hw) ?_
    exact h

theorem State.bus_kept {w : Nat} {s0 x : State} {p : PortId} {addr : Nat} {data : Option Half}
    (hw : 0x7fff0001ffffffffffffffffffff00000000003fffdf &&& w = 0x7fff0001ffffffffffffffffffff00000000003fffdf)
    (h : Kept w s0 x) :
    Kept w s0 (State.bus x p addr data) := by
  unfold State.bus
  split
  · rename_i u0
    with_reducible apply Kept.ite
    · refine State.access_kept (maskSub rfl hw) ?_
      refine State.awaitCore_kept (maskSub rfl hw) ?_
      exact h
    · exact h
  · rename_i u1
    with_reducible apply Kept.ite
    · refine State.access_kept (maskSub rfl hw) ?_
      exact h
    · exact h

theorem execRegisterWrite_kept {w : Nat} {s0 x : State} {p : PortId} {addr : Nat} {data : Option Half}
    (hw : 0x7fff0001ffffffffffffffffffff00000000003fffdf &&& w = 0x7fff0001ffffffffffffffffffff00000000003fffdf)
    (h : Kept w s0 x) :
    KeptO w s0 (execRegisterWrite p addr data x) := by
  unfold execRegisterWrite
  refine KeptO.next ?_
  refine State.bus_kept (maskSub rfl hw) ?_
  exact h

theorem execUndefinedAddressAccess_kept {w : Nat} {s0 x : State} {addr : Nat} {write : Bool}
    (hw : 0x7fff0001ffffffffffffffffffff00000000003fffdf &&& w = 0x7fff0001ffffffffffffffffffff00000000003fffdf)
    (h : Kept w s0 x) :
    KeptO w s0 (execUndefinedAddressAccess addr write x) := by
  unfold execUndefinedAddressAccess
  refine KeptO.next ?_
  refine State.bus_kept (maskSub rfl hw) ?_
  exact h

theorem execWinSelWrite_kept {w : Nat} {s0 x : State} {p : PortId} {win : Fin 4} {data : Half}
    (hw : 0x7fff0001ffffffffffffffffffff00000000003fffdf &&& w = 0x7fff0001ffffffffffffffffffff00000000003fffdf)
    (h : Kept w s0 x) :
    KeptO w s0 (execWinSelWrite p win data x) := by
  unfold execWinSelWrite
  refine KeptO.next ?_
  refine State.bus_kept (maskSub rfl hw) ?_
  exact h

theorem execWinIdxWrite_kept {w : Nat} {s0 x : State} {p : PortId} {win : Fin 4} {data : Half}
    (hw : 0x7fff0001ffffffffffffffffffff00000000003fffdf &&& w = 0x7fff0001ffffffffffffffffffff00000000003fffdf)
    (h : Kept w s0 x) :
    KeptO w s0 (execWinIdxWrite p win data x) := by
  unfold execWinIdxWrite
  refine KeptO.next ?_
  refine State.bus_kept (maskSub rfl hw) ?_
  exact h

theorem execWinDataRead_kept {w : Nat} {s0 x : State} {p : PortId} {win : Fin 4}
    (hw : 0x7fff0001ffffffffffffffffffff00000000003fffdf &&& w = 0x7fff0001ffffffffffffffffffff00000000003fffdf)
    (h : Kept w s0 x) :
    KeptO w s0 (execWinDataRead p win x) := by
  unfold execWinDataRead
  refine KeptO.next ?_
  refine State.bus_kept (maskSub rfl hw) ?_
  exact h

theorem execWinDataWrite_kept {w : Nat} {s0 x : State} {p : PortId} {win : Fin 4} {data : Half}
    (hw : 0x7fff0001ffffffffffffffffffff00000000003fffdf &&& w = 0x7fff0001ffffffffffffffffffff00000000003fffdf)
    (h : Kept w s0 x) :
    KeptO w s0 (execWinDataWrite p win data x) := by
  unfold execWinDataWrite
  refine KeptO.next ?_
  refine State.bus_kept (maskSub rfl hw) ?_
  exact h

theorem execWinCommit_kept {w : Nat} {s0 x : State} {p : PortId} {win : Fin 4} {data : Half}
    (hw : 0x7fff0001ffffffffffffffffffff00000000003fffdf &&& w = 0x7fff0001ffffffffffffffffffff00000000003fffdf)
    (h : Kept w s0 x) :
    KeptO w s0 (execWinCommit p win data x) := by
  unfold execWinCommit
  refine KeptO.next ?_
  refine State.bus_kept (maskSub rfl hw) ?_
  exact h

theorem execHpBindWrite_kept {w : Nat} {s0 x : State} {p : PortId} {data : Half}
    (hw : 0x7fff0001ffffffffffffffffffff00000000003fffdf &&& w = 0x7fff0001ffffffffffffffffffff00000000003fffdf)
    (h : Kept w s0 x) :
    KeptO w s0 (execHpBindWrite p data x) := by
  unfold execHpBindWrite
  refine KeptO.next ?_
  refine State.bus_kept (maskSub rfl hw) ?_
  exact h

theorem execHpCfgWrite_kept {w : Nat} {s0 x : State} {p : PortId} {data : Half}
    (hw : 0x7fff0001ffffffffffffffffffff00000000003fffdf &&& w = 0x7fff0001ffffffffffffffffffff00000000003fffdf)
    (h : Kept w s0 x) :
    KeptO w s0 (execHpCfgWrite p data x) := by
  unfold execHpCfgWrite
  refine KeptO.next ?_
  refine State.bus_kept (maskSub rfl hw) ?_
  exact h

theorem execHostWdogKick_kept {w : Nat} {s0 x : State} {p : PortId} {data : Half}
    (hw : 0x7fff0001ffffffffffffffffffff00000000003fffdf &&& w = 0x7fff0001ffffffffffffffffffff00000000003fffdf)
    (h : Kept w s0 x) :
    KeptO w s0 (execHostWdogKick p data x) := by
  unfold execHostWdogKick
  refine KeptO.next ?_
  refine State.bus_kept (maskSub rfl hw) ?_
  exact h

theorem execUnitStateRead_kept {w : Nat} {s0 x : State} {p : PortId}
    (hw : 0x7fff0001ffffffffffffffffffff00000000003fffdf &&& w = 0x7fff0001ffffffffffffffffffff00000000003fffdf)
    (h : Kept w s0 x) :
    KeptO w s0 (execUnitStateRead p x) := by
  unfold execUnitStateRead
  refine KeptO.next ?_
  refine State.bus_kept (maskSub rfl hw) ?_
  exact h

theorem execEvtDataRead_kept {w : Nat} {s0 x : State} {p : PortId}
    (hw : 0x7fff0001ffffffffffffffffffff00000000003fffdf &&& w = 0x7fff0001ffffffffffffffffffff00000000003fffdf)
    (h : Kept w s0 x) :
    KeptO w s0 (execEvtDataRead p x) := by
  unfold execEvtDataRead
  refine KeptO.next ?_
  refine State.bus_kept (maskSub rfl hw) ?_
  exact h

theorem execEvtPop_kept {w : Nat} {s0 x : State} {p : PortId}
    (hw : 0x7fff0001ffffffffffffffffffff00000000003fffdf &&& w = 0x7fff0001ffffffffffffffffffff00000000003fffdf)
    (h : Kept w s0 x) :
    KeptO w s0 (execEvtPop p x) := by
  unfold execEvtPop
  refine KeptO.next ?_
  refine State.bus_kept (maskSub rfl hw) ?_
  exact h

theorem execEvtLostRead_kept {w : Nat} {s0 x : State} {p : PortId}
    (hw : 0x7fff0001ffffffffffffffffffff00000000003fffdf &&& w = 0x7fff0001ffffffffffffffffffff00000000003fffdf)
    (h : Kept w s0 x) :
    KeptO w s0 (execEvtLostRead p x) := by
  unfold execEvtLostRead
  refine KeptO.next ?_
  refine State.bus_kept (maskSub rfl hw) ?_
  exact h

theorem execIrqClr_kept {w : Nat} {s0 x : State} {p : PortId} {data : Half}
    (hw : 0x7fff0001ffffffffffffffffffff00000000003fffdf &&& w = 0x7fff0001ffffffffffffffffffff00000000003fffdf)
    (h : Kept w s0 x) :
    KeptO w s0 (execIrqClr p data x) := by
  unfold execIrqClr
  refine KeptO.next ?_
  refine State.bus_kept (maskSub rfl hw) ?_
  exact h

theorem execClaim_kept {w : Nat} {s0 x : State} {p : PortId}
    (hw : 0x7fff0001ffffffffffffffffffff00000000003fffdf &&& w = 0x7fff0001ffffffffffffffffffff00000000003fffdf)
    (h : Kept w s0 x) :
    KeptO w s0 (execClaim p x) := by
  unfold execClaim
  refine KeptO.next ?_
  refine State.bus_kept (maskSub rfl hw) ?_
  exact h

theorem execRelease_kept {w : Nat} {s0 x : State} {p : PortId}
    (hw : 0x7fff0001ffffffffffffffffffff00000000003fffdf &&& w = 0x7fff0001ffffffffffffffffffff00000000003fffdf)
    (h : Kept w s0 x) :
    KeptO w s0 (execRelease p x) := by
  unfold execRelease
  refine KeptO.next ?_
  refine State.bus_kept (maskSub rfl hw) ?_
  exact h

theorem execGySnapRead_kept {w : Nat} {s0 x : State} {p : PortId}
    (hw : 0x7fff0001ffffffffffffffffffff00000000003fffdf &&& w = 0x7fff0001ffffffffffffffffffff00000000003fffdf)
    (h : Kept w s0 x) :
    KeptO w s0 (execGySnapRead p x) := by
  unfold execGySnapRead
  refine KeptO.next ?_
  refine State.bus_kept (maskSub rfl hw) ?_
  exact h

theorem execRngDataRead_kept {w : Nat} {s0 x : State} {p : PortId}
    (hw : 0x7fff0001ffffffffffffffffffff00000000003fffdf &&& w = 0x7fff0001ffffffffffffffffffff00000000003fffdf)
    (h : Kept w s0 x) :
    KeptO w s0 (execRngDataRead p x) := by
  unfold execRngDataRead
  refine KeptO.next ?_
  refine State.bus_kept (maskSub rfl hw) ?_
  exact h

theorem State.unitRow_kept {w : Nat} {s0 x : State} {p : PortId} {u : Src} {cmd : Nat} {gen : Byte} {check : Bool}
    {arg : Nat}
    (hw : 0x7fff0001ffffffffffffffffffff00000000003fffdf &&& w = 0x7fff0001ffffffffffffffffffff00000000003fffdf)
    (h : Kept w s0 x) :
    Kept w s0 (State.unitRow x p u cmd gen check arg) := by
  unfold State.unitRow
  refine State.bus_kept (maskSub rfl hw) ?_
  refine State.bus_kept (maskSub rfl hw) ?_
  exact h

theorem execUnitStart_kept {w : Nat} {s0 x : State} {p : PortId} {check : Bool}
    (hw : 0x7fff0001ffffffffffffffffffff00000000003fffdf &&& w = 0x7fff0001ffffffffffffffffffff00000000003fffdf)
    (h : Kept w s0 x) :
    KeptO w s0 (execUnitStart p check x) := by
  unfold execUnitStart
  refine KeptO.next ?_
  refine State.bus_kept (maskSub rfl hw) ?_
  exact h

theorem execUnitStop_kept {w : Nat} {s0 x : State} {p : PortId} {check : Bool}
    (hw : 0x7fff0001ffffffffffffffffffff00000000003fffdf &&& w = 0x7fff0001ffffffffffffffffffff00000000003fffdf)
    (h : Kept w s0 x) :
    KeptO w s0 (execUnitStop p check x) := by
  unfold execUnitStop
  refine KeptO.next ?_
  refine State.bus_kept (maskSub rfl hw) ?_
  exact h

theorem execUnitReset_kept {w : Nat} {s0 x : State} {p : PortId} {check : Bool}
    (hw : 0x7fff0001ffffffffffffffffffff00000000003fffdf &&& w = 0x7fff0001ffffffffffffffffffff00000000003fffdf)
    (h : Kept w s0 x) :
    KeptO w s0 (execUnitReset p check x) := by
  unfold execUnitReset
  refine KeptO.next ?_
  refine State.bus_kept (maskSub rfl hw) ?_
  exact h

theorem execUnitForce_kept {w : Nat} {s0 x : State} {p : PortId} {check : Bool} {arg : Byte}
    (hw : 0x7fff0001ffffffffffffffffffff00000000003fffdf &&& w = 0x7fff0001ffffffffffffffffffff00000000003fffdf)
    (h : Kept w s0 x) :
    KeptO w s0 (execUnitForce p check arg x) := by
  unfold execUnitForce
  refine KeptO.next ?_
  refine State.bus_kept (maskSub rfl hw) ?_
  exact h

theorem execGyRealign_kept {w : Nat} {s0 x : State} {p : PortId} {gen : Byte} {check : Bool}
    (hw : 0x7fff0001ffffffffffffffffffff00000000003fffdf &&& w = 0x7fff0001ffffffffffffffffffff00000000003fffdf)
    (h : Kept w s0 x) :
    KeptO w s0 (execGyRealign p gen check x) := by
  unfold execGyRealign
  refine KeptO.next ?_
  refine State.unitRow_kept (maskSub rfl hw) ?_
  exact h

theorem execGyRelearn_kept {w : Nat} {s0 x : State} {p : PortId} {gen : Byte} {check : Bool}
    (hw : 0x7fff0001ffffffffffffffffffff00000000003fffdf &&& w = 0x7fff0001ffffffffffffffffffff00000000003fffdf)
    (h : Kept w s0 x) :
    KeptO w s0 (execGyRelearn p gen check x) := by
  unfold execGyRelearn
  refine KeptO.next ?_
  refine State.unitRow_kept (maskSub rfl hw) ?_
  exact h

theorem execResume_kept {w : Nat} {s0 x : State} {p : PortId} {gen : Byte} {check : Bool}
    (hw : 0x7fff0001ffffffffffffffffffff00000000003fffdf &&& w = 0x7fff0001ffffffffffffffffffff00000000003fffdf)
    (h : Kept w s0 x) :
    KeptO w s0 (execResume p gen check x) := by
  unfold execResume
  refine KeptO.next ?_
  refine State.unitRow_kept (maskSub rfl hw) ?_
  exact h

theorem execDormant_kept {w : Nat} {s0 x : State} {p : PortId} {gen : Byte} {check : Bool} {arg : Byte}
    (hw : 0x7fff0001ffffffffffffffffffff00000000003fffdf &&& w = 0x7fff0001ffffffffffffffffffff00000000003fffdf)
    (h : Kept w s0 x) :
    KeptO w s0 (execDormant p gen check arg x) := by
  unfold execDormant
  refine KeptO.next ?_
  refine State.unitRow_kept (maskSub rfl hw) ?_
  exact h

theorem execWake_kept {w : Nat} {s0 x : State} {p : PortId} {gen : Byte} {check : Bool}
    (hw : 0x7fff0001ffffffffffffffffffff00000000003fffdf &&& w = 0x7fff0001ffffffffffffffffffff00000000003fffdf)
    (h : Kept w s0 x) :
    KeptO w s0 (execWake p gen check x) := by
  unfold execWake
  refine KeptO.next ?_
  refine State.unitRow_kept (maskSub rfl hw) ?_
  exact h

theorem execProvClose_kept {w : Nat} {s0 x : State} {p : PortId} {gen : Byte} {check : Bool}
    (hw : 0x7fff0001ffffffffffffffffffff00000000003fffdf &&& w = 0x7fff0001ffffffffffffffffffff00000000003fffdf)
    (h : Kept w s0 x) :
    KeptO w s0 (execProvClose p gen check x) := by
  unfold execProvClose
  refine KeptO.next ?_
  refine State.unitRow_kept (maskSub rfl hw) ?_
  exact h

theorem execZeroize_kept {w : Nat} {s0 x : State} {p : PortId} {gen : Byte} {check : Bool} {arg : Byte}
    (hw : 0x7fff0001ffffffffffffffffffff00000000003fffdf &&& w = 0x7fff0001ffffffffffffffffffff00000000003fffdf)
    (h : Kept w s0 x) :
    KeptO w s0 (execZeroize p gen check arg x) := by
  unfold execZeroize
  refine KeptO.next ?_
  refine State.unitRow_kept (maskSub rfl hw) ?_
  exact h

theorem execReseed_kept {w : Nat} {s0 x : State} {p : PortId} {gen : Byte} {check : Bool}
    (hw : 0x7fff0001ffffffffffffffffffff00000000003fffdf &&& w = 0x7fff0001ffffffffffffffffffff00000000003fffdf)
    (h : Kept w s0 x) :
    KeptO w s0 (execReseed p gen check x) := by
  unfold execReseed
  refine KeptO.next ?_
  refine State.unitRow_kept (maskSub rfl hw) ?_
  exact h

theorem execJoinOpen_kept {w : Nat} {s0 x : State} {p : PortId} {gen : Byte} {check : Bool} {arg : Byte}
    (hw : 0x7fff0001ffffffffffffffffffff00000000003fffdf &&& w = 0x7fff0001ffffffffffffffffffff00000000003fffdf)
    (h : Kept w s0 x) :
    KeptO w s0 (execJoinOpen p gen check arg x) := by
  unfold execJoinOpen
  refine KeptO.next ?_
  refine State.unitRow_kept (maskSub rfl hw) ?_
  exact h

theorem execRfReset_kept {w : Nat} {s0 x : State} {p : PortId} {gen : Byte} {check : Bool}
    (hw : 0x7fff0001ffffffffffffffffffff00000000003fffdf &&& w = 0x7fff0001ffffffffffffffffffff00000000003fffdf)
    (h : Kept w s0 x) :
    KeptO w s0 (execRfReset p gen check x) := by
  unfold execRfReset
  refine KeptO.next ?_
  refine State.unitRow_kept (maskSub rfl hw) ?_
  exact h

theorem execOptRestart_kept {w : Nat} {s0 x : State} {p : PortId} {n : Fin 2} {gen : Byte} {check : Bool}
    (hw : 0x7fff0001ffffffffffffffffffff00000000003fffdf &&& w = 0x7fff0001ffffffffffffffffffff00000000003fffdf)
    (h : Kept w s0 x) :
    KeptO w s0 (execOptRestart p n gen check x) := by
  unfold execOptRestart
  refine KeptO.next ?_
  refine State.unitRow_kept (maskSub rfl hw) ?_
  exact h

theorem execOptTest_kept {w : Nat} {s0 x : State} {p : PortId} {n : Fin 2} {gen : Byte} {check : Bool} {arg : Byte}
    (hw : 0x7fff0001ffffffffffffffffffff00000000003fffdf &&& w = 0x7fff0001ffffffffffffffffffff00000000003fffdf)
    (h : Kept w s0 x) :
    KeptO w s0 (execOptTest p n gen check arg x) := by
  unfold execOptTest
  refine KeptO.next ?_
  refine State.unitRow_kept (maskSub rfl hw) ?_
  exact h

theorem execCalibrate_kept {w : Nat} {s0 x : State} {p : PortId} {n : Fin 2} {gen : Byte} {check : Bool}
    {arg : Byte}
    (hw : 0x7fff0001ffffffffffffffffffff00000000003fffdf &&& w = 0x7fff0001ffffffffffffffffffff00000000003fffdf)
    (h : Kept w s0 x) :
    KeptO w s0 (execCalibrate p n gen check arg x) := by
  unfold execCalibrate
  refine KeptO.next ?_
  refine State.unitRow_kept (maskSub rfl hw) ?_
  exact h

theorem execClear_kept {w : Nat} {s0 x : State} {p : PortId} {n : Fin 2} {gen : Byte} {check : Bool} {arg : Byte}
    (hw : 0x7fff0001ffffffffffffffffffff00000000003fffdf &&& w = 0x7fff0001ffffffffffffffffffff00000000003fffdf)
    (h : Kept w s0 x) :
    KeptO w s0 (execClear p n gen check arg x) := by
  unfold execClear
  refine KeptO.next ?_
  refine State.unitRow_kept (maskSub rfl hw) ?_
  exact h

theorem execImpCheck_kept {w : Nat} {s0 x : State} {p : PortId} {gen : Byte} {check : Bool} {arg : Byte}
    (hw : 0x7fff0001ffffffffffffffffffff00000000003fffdf &&& w = 0x7fff0001ffffffffffffffffffff00000000003fffdf)
    (h : Kept w s0 x) :
    KeptO w s0 (execImpCheck p gen check arg x) := by
  unfold execImpCheck
  refine KeptO.next ?_
  refine State.unitRow_kept (maskSub rfl hw) ?_
  exact h

theorem execHibernate_kept {w : Nat} {s0 x : State} {p : PortId} {gen : Byte} {check : Bool} {arg : Byte}
    (hw : 0x7fff0001ffffffffffffffffffff00000000003fffdf &&& w = 0x7fff0001ffffffffffffffffffff00000000003fffdf)
    (h : Kept w s0 x) :
    KeptO w s0 (execHibernate p gen check arg x) := by
  unfold execHibernate
  refine KeptO.next ?_
  refine State.unitRow_kept (maskSub rfl hw) ?_
  exact h

theorem execFloor_kept {w : Nat} {s0 x : State} {p : PortId} {gen : Byte} {check : Bool} {arg : Byte}
    (hw : 0x7fff0001ffffffffffffffffffff00000000003fffdf &&& w = 0x7fff0001ffffffffffffffffffff00000000003fffdf)
    (h : Kept w s0 x) :
    KeptO w s0 (execFloor p gen check arg x) := by
  unfold execFloor
  refine KeptO.next ?_
  refine State.unitRow_kept (maskSub rfl hw) ?_
  exact h

theorem execCompact_kept {w : Nat} {s0 x : State} {p : PortId} {gen : Byte} {check : Bool}
    (hw : 0x7fff0001ffffffffffffffffffff00000000003fffdf &&& w = 0x7fff0001ffffffffffffffffffff00000000003fffdf)
    (h : Kept w s0 x) :
    KeptO w s0 (execCompact p gen check x) := by
  unfold execCompact
  refine KeptO.next ?_
  refine State.unitRow_kept (maskSub rfl hw) ?_
  exact h

theorem State.stage_kept {w : Nat} {s0 x : State} {p : PortId} {n t e : Nat} {w_ : Word} (hw : 3 &&& w = 3)
    (h : Kept w s0 x) :
    Kept w s0 (State.stage x p n t e w_) := by
  unfold State.stage
  with_reducible apply Kept.ite
  · refine State.modWin_kept (maskSub rfl hw) ?_
    exact h
  · exact h

theorem State.entryRow_kept {w : Nat} {s0 x : State} {p : PortId} {n : Fin 4} {t e : Nat} {w_ : Word}
    (hw : 0x7fff0001ffffffffffffffffffff00000000003fffdf &&& w = 0x7fff0001ffffffffffffffffffff00000000003fffdf)
    (h : Kept w s0 x) :
    Kept w s0 (State.entryRow x p n t e w_) := by
  unfold State.entryRow
  extract_lets v0
  have hv0 : ∀ a0, Kept w s0 a0 → Kept w s0 (v0 a0) := by
    unfold v0
    intro i1 i2
    refine State.bus_kept (maskSub rfl hw) ?_
    refine State.stage_kept (maskSub rfl hw) ?_
    with_reducible assumption
  clear_value v0
  split
  · rename_i u3
    with_reducible apply hv0
    exact h
  · rename_i u4
    with_reducible apply Kept.ite
    · with_reducible apply hv0
      exact h
    · exact h

theorem execTenantEnable_kept {w : Nat} {s0 x : State} {p : PortId} {win : Fin 4} {t : Nat} {label : BitVec 64}
    (hw : 0x7fff0001ffffffffffffffffffff00000000003fffdf &&& w = 0x7fff0001ffffffffffffffffffff00000000003fffdf)
    (h : Kept w s0 x) :
    KeptO w s0 (execTenantEnable p win t label x) := by
  unfold execTenantEnable
  refine KeptO.next ?_
  refine State.entryRow_kept (maskSub rfl hw) ?_
  exact h

theorem execTenantDisable_kept {w : Nat} {s0 x : State} {p : PortId} {win : Fin 4} {t : Nat} {label : BitVec 64}
    (hw : 0x7fff0001ffffffffffffffffffff00000000003fffdf &&& w = 0x7fff0001ffffffffffffffffffff00000000003fffdf)
    (h : Kept w s0 x) :
    KeptO w s0 (execTenantDisable p win t label x) := by
  unfold execTenantDisable
  refine KeptO.next ?_
  refine State.entryRow_kept (maskSub rfl hw) ?_
  exact h

theorem execLineTxSubmit_kept {w : Nat} {s0 x : State} {p : PortId} {win : Fin 4} {word : Word}
    (hw : 0x7fff0001ffffffffffffffffffff00000000003fffdf &&& w = 0x7fff0001ffffffffffffffffffff00000000003fffdf)
    (h : Kept w s0 x) :
    KeptO w s0 (execLineTxSubmit p win word x) := by
  unfold execLineTxSubmit
  refine KeptO.next ?_
  refine State.entryRow_kept (maskSub rfl hw) ?_
  exact h

theorem execLineTxAbort_kept {w : Nat} {s0 x : State} {p : PortId} {win : Fin 4} {q : Nat}
    (hw : 0x7fff0001ffffffffffffffffffff00000000003fffdf &&& w = 0x7fff0001ffffffffffffffffffff00000000003fffdf)
    (h : Kept w s0 x) :
    KeptO w s0 (execLineTxAbort p win q x) := by
  unfold execLineTxAbort
  refine KeptO.next ?_
  refine State.entryRow_kept (maskSub rfl hw) ?_
  exact h

theorem execLineRxRelease_kept {w : Nat} {s0 x : State} {p : PortId} {win : Fin 4} {buf : Nat}
    (hw : 0x7fff0001ffffffffffffffffffff00000000003fffdf &&& w = 0x7fff0001ffffffffffffffffffff00000000003fffdf)
    (h : Kept w s0 x) :
    KeptO w s0 (execLineRxRelease p win buf x) := by
  unfold execLineRxRelease
  refine KeptO.next ?_
  refine State.entryRow_kept (maskSub rfl hw) ?_
  exact h

theorem execLlApprove_kept {w : Nat} {s0 x : State} {p : PortId} {win : Fin 4} {word : Word}
    (hw : 0x7fff0001ffffffffffffffffffff00000000003fffdf &&& w = 0x7fff0001ffffffffffffffffffff00000000003fffdf)
    (h : Kept w s0 x) :
    KeptO w s0 (execLlApprove p win word x) := by
  unfold execLlApprove
  refine KeptO.next ?_
  refine State.entryRow_kept (maskSub rfl hw) ?_
  exact h

theorem execOwnMapCommit_kept {w : Nat} {s0 x : State} {p : PortId} {win : Fin 4} {e : Nat} {word : Word}
    (hw : 0x7fff0001ffffffffffffffffffff00000000003fffdf &&& w = 0x7fff0001ffffffffffffffffffff00000000003fffdf)
    (h : Kept w s0 x) :
    KeptO w s0 (execOwnMapCommit p win e word x) := by
  unfold execOwnMapCommit
  refine KeptO.next ?_
  refine State.entryRow_kept (maskSub rfl hw) ?_
  exact h

theorem execLlClear_kept {w : Nat} {s0 x : State} {p : PortId} {win : Fin 4} {word : Word}
    (hw : 0x7fff0001ffffffffffffffffffff00000000003fffdf &&& w = 0x7fff0001ffffffffffffffffffff00000000003fffdf)
    (h : Kept w s0 x) :
    KeptO w s0 (execLlClear p win word x) := by
  unfold execLlClear
  refine KeptO.next ?_
  refine State.entryRow_kept (maskSub rfl hw) ?_
  exact h

theorem execCjSubmit_kept {w : Nat} {s0 x : State} {p : PortId} {win : Fin 4} {word : Word}
    (hw : 0x7fff0001ffffffffffffffffffff00000000003fffdf &&& w = 0x7fff0001ffffffffffffffffffff00000000003fffdf)
    (h : Kept w s0 x) :
    KeptO w s0 (execCjSubmit p win word x) := by
  unfold execCjSubmit
  refine KeptO.next ?_
  refine State.entryRow_kept (maskSub rfl hw) ?_
  exact h

theorem execCjAbort_kept {w : Nat} {s0 x : State} {p : PortId} {win : Fin 4} {q : Nat}
    (hw : 0x7fff0001ffffffffffffffffffff00000000003fffdf &&& w = 0x7fff0001ffffffffffffffffffff00000000003fffdf)
    (h : Kept w s0 x) :
    KeptO w s0 (execCjAbort p win q x) := by
  unfold execCjAbort
  refine KeptO.next ?_
  refine State.entryRow_kept (maskSub rfl hw) ?_
  exact h

theorem execCjRelease_kept {w : Nat} {s0 x : State} {p : PortId} {win : Fin 4} {q : Nat}
    (hw : 0x7fff0001ffffffffffffffffffff00000000003fffdf &&& w = 0x7fff0001ffffffffffffffffffff00000000003fffdf)
    (h : Kept w s0 x) :
    KeptO w s0 (execCjRelease p win q x) := by
  unfold execCjRelease
  refine KeptO.next ?_
  refine State.entryRow_kept (maskSub rfl hw) ?_
  exact h

theorem execCjPageCommit_kept {w : Nat} {s0 x : State} {p : PortId} {win : Fin 4} {page : Nat} {word : Word}
    (hw : 0x7fff0001ffffffffffffffffffff00000000003fffdf &&& w = 0x7fff0001ffffffffffffffffffff00000000003fffdf)
    (h : Kept w s0 x) :
    KeptO w s0 (execCjPageCommit p win page word x) := by
  unfold execCjPageCommit
  refine KeptO.next ?_
  refine State.entryRow_kept (maskSub rfl hw) ?_
  exact h

theorem execObLoad_kept {w : Nat} {s0 x : State} {p : PortId} {win : Fin 4} {slot : Nat} {usage : Byte}
    {persist : Bool} {klen : Nat}
    (hw : 0x7fff0001ffffffffffffffffffff00000000003fffdf &&& w = 0x7fff0001ffffffffffffffffffff00000000003fffdf)
    (h : Kept w s0 x) :
    KeptO w s0 (execObLoad p win slot usage persist klen x) := by
  unfold execObLoad
  refine KeptO.next ?_
  refine State.entryRow_kept (maskSub rfl hw) ?_
  exact h

theorem execObUnwrap_kept {w : Nat} {s0 x : State} {p : PortId} {win : Fin 4} {slot : Nat} {usage : Byte}
    {persist : Bool} {klen kek : Nat}
    (hw : 0x7fff0001ffffffffffffffffffff00000000003fffdf &&& w = 0x7fff0001ffffffffffffffffffff00000000003fffdf)
    (h : Kept w s0 x) :
    KeptO w s0 (execObUnwrap p win slot usage persist klen kek x) := by
  unfold execObUnwrap
  refine KeptO.next ?_
  refine State.entryRow_kept (maskSub rfl hw) ?_
  exact h

theorem execObGenerate_kept {w : Nat} {s0 x : State} {p : PortId} {win : Fin 4} {slot : Nat} {usage : Byte}
    {persist : Bool} {klen : Nat}
    (hw : 0x7fff0001ffffffffffffffffffff00000000003fffdf &&& w = 0x7fff0001ffffffffffffffffffff00000000003fffdf)
    (h : Kept w s0 x) :
    KeptO w s0 (execObGenerate p win slot usage persist klen x) := by
  unfold execObGenerate
  refine KeptO.next ?_
  refine State.entryRow_kept (maskSub rfl hw) ?_
  exact h

theorem execObErase_kept {w : Nat} {s0 x : State} {p : PortId} {win : Fin 4} {slot : Nat}
    (hw : 0x7fff0001ffffffffffffffffffff00000000003fffdf &&& w = 0x7fff0001ffffffffffffffffffff00000000003fffdf)
    (h : Kept w s0 x) :
    KeptO w s0 (execObErase p win slot x) := by
  unfold execObErase
  refine KeptO.next ?_
  refine State.entryRow_kept (maskSub rfl hw) ?_
  exact h

theorem execObRestrict_kept {w : Nat} {s0 x : State} {p : PortId} {win : Fin 4} {slot : Nat} {usage : Byte}
    (hw : 0x7fff0001ffffffffffffffffffff00000000003fffdf &&& w = 0x7fff0001ffffffffffffffffffff00000000003fffdf)
    (h : Kept w s0 x) :
    KeptO w s0 (execObRestrict p win slot usage x) := by
  unfold execObRestrict
  refine KeptO.next ?_
  refine State.entryRow_kept (maskSub rfl hw) ?_
  exact h

theorem execObPlace_kept {w : Nat} {s0 x : State} {p : PortId} {win : Fin 4} {word : Word}
    (hw : 0x7fff0001ffffffffffffffffffff00000000003fffdf &&& w = 0x7fff0001ffffffffffffffffffff00000000003fffdf)
    (h : Kept w s0 x) :
    KeptO w s0 (execObPlace p win word x) := by
  unfold execObPlace
  refine KeptO.next ?_
  refine State.entryRow_kept (maskSub rfl hw) ?_
  exact h

theorem execObGo_kept {w : Nat} {s0 x : State} {p : PortId} {win : Fin 4} {q : Nat}
    (hw : 0x7fff0001ffffffffffffffffffff00000000003fffdf &&& w = 0x7fff0001ffffffffffffffffffff00000000003fffdf)
    (h : Kept w s0 x) :
    KeptO w s0 (execObGo p win q x) := by
  unfold execObGo
  refine KeptO.next ?_
  refine State.entryRow_kept (maskSub rfl hw) ?_
  exact h

theorem execObAbort_kept {w : Nat} {s0 x : State} {p : PortId} {win : Fin 4} {q : Nat}
    (hw : 0x7fff0001ffffffffffffffffffff00000000003fffdf &&& w = 0x7fff0001ffffffffffffffffffff00000000003fffdf)
    (h : Kept w s0 x) :
    KeptO w s0 (execObAbort p win q x) := by
  unfold execObAbort
  refine KeptO.next ?_
  refine State.entryRow_kept (maskSub rfl hw) ?_
  exact h

theorem execObRelease_kept {w : Nat} {s0 x : State} {p : PortId} {win : Fin 4} {q : Nat}
    (hw : 0x7fff0001ffffffffffffffffffff00000000003fffdf &&& w = 0x7fff0001ffffffffffffffffffff00000000003fffdf)
    (h : Kept w s0 x) :
    KeptO w s0 (execObRelease p win q x) := by
  unfold execObRelease
  refine KeptO.next ?_
  refine State.entryRow_kept (maskSub rfl hw) ?_
  exact h

theorem execMsSubmit_kept {w : Nat} {s0 x : State} {p : PortId} {win : Fin 4} {word : Word}
    (hw : 0x7fff0001ffffffffffffffffffff00000000003fffdf &&& w = 0x7fff0001ffffffffffffffffffff00000000003fffdf)
    (h : Kept w s0 x) :
    KeptO w s0 (execMsSubmit p win word x) := by
  unfold execMsSubmit
  refine KeptO.next ?_
  refine State.entryRow_kept (maskSub rfl hw) ?_
  exact h

theorem execMsAbort_kept {w : Nat} {s0 x : State} {p : PortId} {win : Fin 4} {q : Nat}
    (hw : 0x7fff0001ffffffffffffffffffff00000000003fffdf &&& w = 0x7fff0001ffffffffffffffffffff00000000003fffdf)
    (h : Kept w s0 x) :
    KeptO w s0 (execMsAbort p win q x) := by
  unfold execMsAbort
  refine KeptO.next ?_
  refine State.entryRow_kept (maskSub rfl hw) ?_
  exact h

theorem execMsRelease_kept {w : Nat} {s0 x : State} {p : PortId} {win : Fin 4} {q : Nat}
    (hw : 0x7fff0001ffffffffffffffffffff00000000003fffdf &&& w = 0x7fff0001ffffffffffffffffffff00000000003fffdf)
    (h : Kept w s0 x) :
    KeptO w s0 (execMsRelease p win q x) := by
  unfold execMsRelease
  refine KeptO.next ?_
  refine State.entryRow_kept (maskSub rfl hw) ?_
  exact h

theorem execTagAllow_kept {w : Nat} {s0 x : State} {p : PortId} {win : Fin 4} {pair : Nat} {word : Word}
    (hw : 0x7fff0001ffffffffffffffffffff00000000003fffdf &&& w = 0x7fff0001ffffffffffffffffffff00000000003fffdf)
    (h : Kept w s0 x) :
    KeptO w s0 (execTagAllow p win pair word x) := by
  unfold execTagAllow
  refine KeptO.next ?_
  refine State.entryRow_kept (maskSub rfl hw) ?_
  exact h

theorem execTagFree_kept {w : Nat} {s0 x : State} {p : PortId} {win : Fin 4} {pair : Nat}
    (hw : 0x7fff0001ffffffffffffffffffff00000000003fffdf &&& w = 0x7fff0001ffffffffffffffffffff00000000003fffdf)
    (h : Kept w s0 x) :
    KeptO w s0 (execTagFree p win pair x) := by
  unfold execTagFree
  refine KeptO.next ?_
  refine State.entryRow_kept (maskSub rfl hw) ?_
  exact h

theorem execRadioTxSubmit_kept {w : Nat} {s0 x : State} {p : PortId} {win : Fin 4} {word : Word}
    (hw : 0x7fff0001ffffffffffffffffffff00000000003fffdf &&& w = 0x7fff0001ffffffffffffffffffff00000000003fffdf)
    (h : Kept w s0 x) :
    KeptO w s0 (execRadioTxSubmit p win word x) := by
  unfold execRadioTxSubmit
  refine KeptO.next ?_
  refine State.entryRow_kept (maskSub rfl hw) ?_
  exact h

theorem execRadioTxAbort_kept {w : Nat} {s0 x : State} {p : PortId} {win : Fin 4} {q : Nat}
    (hw : 0x7fff0001ffffffffffffffffffff00000000003fffdf &&& w = 0x7fff0001ffffffffffffffffffff00000000003fffdf)
    (h : Kept w s0 x) :
    KeptO w s0 (execRadioTxAbort p win q x) := by
  unfold execRadioTxAbort
  refine KeptO.next ?_
  refine State.entryRow_kept (maskSub rfl hw) ?_
  exact h

theorem execRadioTxRelease_kept {w : Nat} {s0 x : State} {p : PortId} {win : Fin 4} {q : Nat}
    (hw : 0x7fff0001ffffffffffffffffffff00000000003fffdf &&& w = 0x7fff0001ffffffffffffffffffff00000000003fffdf)
    (h : Kept w s0 x) :
    KeptO w s0 (execRadioTxRelease p win q x) := by
  unfold execRadioTxRelease
  refine KeptO.next ?_
  refine State.entryRow_kept (maskSub rfl hw) ?_
  exact h

theorem execRadioRxRelease_kept {w : Nat} {s0 x : State} {p : PortId} {win : Fin 4} {buf : Nat}
    (hw : 0x7fff0001ffffffffffffffffffff00000000003fffdf &&& w = 0x7fff0001ffffffffffffffffffff00000000003fffdf)
    (h : Kept w s0 x) :
    KeptO w s0 (execRadioRxRelease p win buf x) := by
  unfold execRadioRxRelease
  refine KeptO.next ?_
  refine State.entryRow_kept (maskSub rfl hw) ?_
  exact h

theorem execOptSubmit_kept {w : Nat} {s0 x : State} {p : PortId} {win : Fin 4} {n : Fin 2} {word : Word}
    (hw : 0x7fff0001ffffffffffffffffffff00000000003fffdf &&& w = 0x7fff0001ffffffffffffffffffff00000000003fffdf)
    (h : Kept w s0 x) :
    KeptO w s0 (execOptSubmit p win n word x) := by
  unfold execOptSubmit
  refine KeptO.next ?_
  refine State.entryRow_kept (maskSub rfl hw) ?_
  exact h

theorem execOptPayloadCommit_kept {w : Nat} {s0 x : State} {p : PortId} {win : Fin 4} {n : Fin 2} {buf : Fin 4}
    {word : Word}
    (hw : 0x7fff0001ffffffffffffffffffff00000000003fffdf &&& w = 0x7fff0001ffffffffffffffffffff00000000003fffdf)
    (h : Kept w s0 x) :
    KeptO w s0 (execOptPayloadCommit p win n buf word x) := by
  unfold execOptPayloadCommit
  refine KeptO.next ?_
  refine State.entryRow_kept (maskSub rfl hw) ?_
  exact h

theorem execOptCellAbort_kept {w : Nat} {s0 x : State} {p : PortId} {win : Fin 4} {n : Fin 2} {buf : Fin 4}
    (hw : 0x7fff0001ffffffffffffffffffff00000000003fffdf &&& w = 0x7fff0001ffffffffffffffffffff00000000003fffdf)
    (h : Kept w s0 x) :
    KeptO w s0 (execOptCellAbort p win n buf x) := by
  unfold execOptCellAbort
  extract_lets v0
  refine KeptO.next ?_
  refine State.entryRow_kept (maskSub rfl hw) ?_
  exact h

theorem execOptRxRelease_kept {w : Nat} {s0 x : State} {p : PortId} {win : Fin 4} {n : Fin 2} {buf : Fin 4}
    (hw : 0x7fff0001ffffffffffffffffffff00000000003fffdf &&& w = 0x7fff0001ffffffffffffffffffff00000000003fffdf)
    (h : Kept w s0 x) :
    KeptO w s0 (execOptRxRelease p win n buf x) := by
  unfold execOptRxRelease
  extract_lets v0
  refine KeptO.next ?_
  refine State.entryRow_kept (maskSub rfl hw) ?_
  exact h

theorem execSfLoad_kept {w : Nat} {s0 x : State} {p : PortId} {win : Fin 4} {n : Fin 4} {word : Word}
    (hw : 0x7fff0001ffffffffffffffffffff00000000003fffdf &&& w = 0x7fff0001ffffffffffffffffffff00000000003fffdf)
    (h : Kept w s0 x) :
    KeptO w s0 (execSfLoad p win n word x) := by
  unfold execSfLoad
  refine KeptO.next ?_
  refine State.entryRow_kept (maskSub rfl hw) ?_
  exact h

theorem execSinterSubmit_kept {w : Nat} {s0 x : State} {p : PortId} {win : Fin 4} {word : Word}
    (hw : 0x7fff0001ffffffffffffffffffff00000000003fffdf &&& w = 0x7fff0001ffffffffffffffffffff00000000003fffdf)
    (h : Kept w s0 x) :
    KeptO w s0 (execSinterSubmit p win word x) := by
  unfold execSinterSubmit
  refine KeptO.next ?_
  refine State.entryRow_kept (maskSub rfl hw) ?_
  exact h

theorem execSinterAbort_kept {w : Nat} {s0 x : State} {p : PortId} {win : Fin 4} {q : Nat}
    (hw : 0x7fff0001ffffffffffffffffffff00000000003fffdf &&& w = 0x7fff0001ffffffffffffffffffff00000000003fffdf)
    (h : Kept w s0 x) :
    KeptO w s0 (execSinterAbort p win q x) := by
  unfold execSinterAbort
  refine KeptO.next ?_
  refine State.entryRow_kept (maskSub rfl hw) ?_
  exact h

theorem execSinterRelease_kept {w : Nat} {s0 x : State} {p : PortId} {win : Fin 4} {q : Nat}
    (hw : 0x7fff0001ffffffffffffffffffff00000000003fffdf &&& w = 0x7fff0001ffffffffffffffffffff00000000003fffdf)
    (h : Kept w s0 x) :
    KeptO w s0 (execSinterRelease p win q x) := by
  unfold execSinterRelease
  refine KeptO.next ?_
  refine State.entryRow_kept (maskSub rfl hw) ?_
  exact h

theorem State.ascShift_kept {w : Nat} {s0 x : State} {old new : Nat}
    (hw : 0x4000000000000000000 &&& w = 0x4000000000000000000) (h : Kept w s0 x) :
    Kept w s0 (State.ascShift x old new) := by
  unfold State.ascShift
  refine Kept.foldl ?_ ?_
  · intro i0 i1 i2
    with_reducible apply Kept.ite
    · refine State.p_kept (maskSub rfl hw) ?_
      with_reducible assumption
    · with_reducible assumption
  · exact h

theorem State.cycleBoundary_kept {w : Nat} {s0 x : State}
    (hw : 0x70000000000000000f0050d000000000000020780 &&& w = 0x70000000000000000f0050d000000000000020780)
    (h : Kept w s0 x) :
    Kept w s0 (State.cycleBoundary x) := by
  unfold State.cycleBoundary
  extract_lets v0 v1 v2 v3 v4
  have hv0 : Kept w s0 v0 := by
    unfold v0
    refine State.modGy_kept (maskSub rfl hw) ?_
    exact h
  clear_value v0
  have hv2 : Kept w s0 v2 := by
    unfold v2
    refine State.gyCycle_kept (maskSub rfl hw) ?_
    refine State.llCycle_kept (maskSub rfl hw) ?_
    with_reducible assumption
  clear_value v2
  have hv3 : Kept w s0 v3 := by
    unfold v3
    with_reducible apply Kept.ite
    · with_reducible assumption
    · refine State.llGrid_kept (maskSub rfl hw) ?_
      refine State.ascShift_kept (maskSub rfl hw) ?_
      with_reducible assumption
  clear_value v3
  have hv4 : Kept w s0 v4 := by
    unfold v4
    refine State.sfCycle_kept (maskSub rfl hw) ?_
    with_reducible assumption
  clear_value v4
  with_reducible apply Kept.ite
  · refine State.cjBeacon_kept (maskSub rfl hw) ?_
    refine State.llBeacon_kept (maskSub rfl hw) ?_
    with_reducible assumption
  · with_reducible assumption

theorem State.lineWaits_kept {w : Nat} {s0 x : State}
    (hw : 0x30000000200000000800504000000000000000380 &&& w = 0x30000000200000000800504000000000000000380)
    (h : Kept w s0 x) :
    Kept w s0 (State.lineWaits x) := by
  unfold State.lineWaits
  extract_lets v0
  have hv0 : Kept w s0 v0 := by
    unfold v0
    refine State.lnApplyCfg_kept (maskSub rfl hw) ?_
    refine State.lsApplyCommon_kept (maskSub rfl hw) ?_
    exact h
  clear_value v0
  with_reducible apply Kept.ite
  · refine State.llApplyOwn_kept (maskSub rfl hw) ?_
    with_reducible assumption
  · with_reducible assumption

theorem State.forceDue_kept {w : Nat} {s0 x : State} {u : Src}
    (hw : 0x3ff000003ffa20000a508000c04000000000003e580 &&& w = 0x3ff000003ffa20000a508000c04000000000003e580)
    (h : Kept w s0 x) :
    Kept w s0 (State.forceDue x u) := by
  unfold State.forceDue
  split
  · rename_i u0 u1 u2
    with_reducible apply Kept.ite
    · refine State.applyForce_kept (maskSub rfl hw) ?_
      exact h
    · exact h
  · rename_i u3 u4
    exact h

theorem State.halfBoundary_kept {w : Nat} {s0 x : State}
    (hw : 0x3ff000003ffa20000ad8cd50e04000000000003e780 &&& w = 0x3ff000003ffa20000ad8cd50e04000000000003e780)
    (h : Kept w s0 x) :
    Kept w s0 (State.halfBoundary x) := by
  unfold State.halfBoundary
  extract_lets v0 v1
  have hv0 : Kept w s0 v0 := by
    unfold v0
    refine State.modGy_kept (maskSub rfl hw) ?_
    exact h
  clear_value v0
  have hv1 : Kept w s0 v1 := by
    unfold v1
    refine State.lineWaits_kept (maskSub rfl hw) ?_
    refine State.llHalf_kept (maskSub rfl hw) ?_
    refine State.cjHalf_kept (maskSub rfl hw) ?_
    refine State.gyHalf_kept (maskSub rfl hw) ?_
    refine State.lnHalf_kept (maskSub rfl hw) ?_
    with_reducible assumption
  clear_value v1
  refine State.forceDue_kept (maskSub rfl hw) ?_
  refine State.forceDue_kept (maskSub rfl hw) ?_
  with_reducible assumption

theorem State.nextCycle_kept {w : Nat} {s0 x : State} (hw : 0 &&& w = 0) (h : Kept w s0 x) :
    Kept w s0 (State.nextCycle x) := by
  unfold State.nextCycle
  with_reducible apply Kept.ite
  · refine State.advanceFrac_kept (maskSub rfl hw) ?_
    exact h
  · exact h

theorem State.nextHalfCycle_kept {w : Nat} {s0 x : State} (hw : 0 &&& w = 0) (h : Kept w s0 x) :
    Kept w s0 (State.nextHalfCycle x) := by
  unfold State.nextHalfCycle
  with_reducible apply Kept.ite
  · refine State.advanceFrac_kept (maskSub rfl hw) ?_
    exact h
  · exact h

theorem execCycleBoundary_kept {w : Nat} {s0 x : State}
    (hw : 0x70000000000000000f0050d000000000000020780 &&& w = 0x70000000000000000f0050d000000000000020780)
    (h : Kept w s0 x) :
    KeptO w s0 (execCycleBoundary x) := by
  unfold execCycleBoundary
  refine KeptO.next ?_
  refine State.cycleBoundary_kept (maskSub rfl hw) ?_
  refine State.nextCycle_kept (maskSub rfl hw) ?_
  exact h

theorem execHalfCycleBoundary_kept {w : Nat} {s0 x : State}
    (hw : 0x3ff000003ffa20000adfcd50f04000000000003e780 &&& w = 0x3ff000003ffa20000adfcd50f04000000000003e780)
    (h : Kept w s0 x) :
    KeptO w s0 (execHalfCycleBoundary x) := by
  unfold execHalfCycleBoundary
  extract_lets v0 v1
  have hv0 : Kept w s0 v0 := by
    unfold v0
    refine State.nextHalfCycle_kept (maskSub rfl hw) ?_
    exact h
  clear_value v0
  have hv1 : Kept w s0 v1 := by
    unfold v1
    with_reducible apply Kept.ite
    · refine State.cycleBoundary_kept (maskSub rfl hw) ?_
      with_reducible assumption
    · with_reducible assumption
  clear_value v1
  refine KeptO.next ?_
  refine State.halfBoundary_kept (maskSub rfl hw) ?_
  with_reducible assumption

theorem State.openBuf_kept {w : Nat} {s0 x : State} {u : Src} {e : Ev} (hw : 0x1c100 &&& w = 0x1c100)
    (h : Kept w s0 x) :
    Kept w s0 (State.openBuf x u e) := by
  unfold State.openBuf
  extract_lets v0 v1
  with_reducible apply Kept.ite
  · split
    · rename_i u2
      with_reducible apply Kept.ite
      · refine State.modLn_kept (maskSub rfl hw) ?_
        exact h
      · exact h
    · rename_i u3
      with_reducible apply Kept.ite
      · refine State.modRc_kept (maskSub rfl hw) ?_
        exact h
      · exact h
    · rename_i u4
      refine State.modOp_kept (maskSub rfl hw) ?_
      exact h
    · rename_i u5
      refine State.modOp_kept (maskSub rfl hw) ?_
      exact h
    · rename_i u6 u7 u8 u9 u10
      exact h
  · exact h

theorem State.grant_kept {w : Nat} {s0 x : State} {u : Src}
    (hw : 0x7fff000000000000000000000000000000000001c130 &&& w = 0x7fff000000000000000000000000000000000001c130)
    (h : Kept w s0 x) :
    Kept w s0 (x.grant u) := by
  unfold State.grant
  split
  · exact h
  · refine State.openBuf_kept (maskSub rfl hw) (h.trans ?_)
    have h4 : w.testBit 4 = true := mask_bit (maskSub rfl hw)
    have h5 : w.testBit 5 = true := mask_bit (maskSub rfl hw)
    have hs : w.testBit (160 + u.idx) = true := mask_bit (maskSub (srcMask_all u) (maskSub rfl hw))
    constructor
    case views => intro k; rw [h4] at k; cases k
    case granted => intro k; rw [h5] at k; cases k
    case src => intro v k; exact vget_vset_srcs hs k
    case wf => exact fun k => ⟨k.1, k.2.1, logsWf_admits _ _ _ k.2.2⟩
    all_goals (intros; first | exact Nat.le_refl _ | rfl)

theorem execEventGrant_kept {w : Nat} {s0 x : State}
    (hw : 0x7fff000000000000000000000000000000000001c130 &&& w = 0x7fff000000000000000000000000000000000001c130)
    (h : Kept w s0 x) :
    KeptO w s0 (execEventGrant x) := by
  unfold execEventGrant
  split
  · rename_i u0 u1
    refine KeptO.next ?_
    exact h
  · rename_i u2 u3 u4
    extract_lets v5
    have hv5 : Kept w s0 v5 := by
      unfold v5
      refine State.advanceTo_kept (maskSub rfl hw) ?_
      exact h
    clear_value v5
    split
    · rename_i u6 u7 u8
      refine KeptO.next ?_
      refine State.advance_kept ?_
      refine State.grant_kept (maskSub rfl hw) ?_
      with_reducible assumption
    · rename_i u9 u10
      refine KeptO.next ?_
      with_reducible assumption

theorem State.frameRun_kept {w : Nat} {s0 x : State} {cont : Bool} {step addr : Nat} {l : List (Option Half)}
    (hw : 0x7fff0001ffffffffffffffffffff00000000003fffdf &&& w = 0x7fff0001ffffffffffffffffffff00000000003fffdf)
    (h : Kept w s0 x) :
    Kept w s0 (State.frameRun cont step addr l x).2.2.2 := by
  induction l generalizing addr x with
  | nil => exact h
  | cons d t ih =>
    unfold State.frameRun
    dsimp only
    split
    · exact ih (State.access_kept (maskSub rfl hw) h)
    · exact State.advance_kept (State.access_kept (maskSub rfl hw) h)

theorem State.replyWith_kept {w : Nat} {s0 x : State} {st : Half} {body : List Half} (hw : 4 &&& w = 4)
    (h : Kept w s0 x) :
    Kept w s0 (State.replyWith x st body) := by
  unfold State.replyWith
  refine State.modTux_kept (maskSub rfl hw) ?_
  exact h

theorem State.frameExec_kept {w : Nat} {s0 x : State} {hws : List Half} {last : Option Reply}
    (hw : 0x7fff0001ffffffffffffffffffff00000000003fffdf &&& w = 0x7fff0001ffffffffffffffffffff00000000003fffdf)
    (h : Kept w s0 x) :
    Kept w s0 (State.frameExec x hws last) := by
  unfold State.frameExec
  extract_lets v0 v1 v2 v3 v4 v5 v6 v7 v8 v9 v10 v11 v12
  have hv8 : Kept w s0 v8 := by
    unfold v8
    refine State.modPort_kept (maskSub rfl hw) ?_
    refine State.modTux_kept (maskSub rfl hw) ?_
    exact h
  clear_value v8
  have hv11 : Kept w s0 v11.2.2.2 := by
    unfold v11
    refine State.frameRun_kept (maskSub rfl hw) ?_
    with_reducible assumption
  clear_value v11
  with_reducible apply Kept.ite
  · refine State.replyWith_kept (maskSub rfl hw) ?_
    with_reducible assumption
  · with_reducible apply Kept.ite
    · refine State.replyWith_kept (maskSub rfl hw) ?_
      with_reducible assumption
    · with_reducible apply Kept.ite
      · split
        · rename_i u13
          refine State.replyWith_kept (maskSub rfl hw) ?_
          with_reducible assumption
        · rename_i u14 u15
          refine State.replyWith_kept (maskSub rfl hw) ?_
          with_reducible assumption
      · refine State.replyWith_kept (maskSub rfl hw) ?_
        with_reducible assumption

theorem State.frameEarly_kept {w : Nat} {s0 x : State} {n : Nat} (hw : 4 &&& w = 4) (h : Kept w s0 x) :
    Kept w s0 (State.frameEarly x n) := by
  unfold State.frameEarly
  refine State.modTux_kept (maskSub rfl hw) ?_
  exact h

theorem State.runFrame_kept {w : Nat} {s0 x : State} {hws : List Half} {fraction : Bool}
    (hw : 0x7fff0001ffffffffffffffffffff00000000003fffdf &&& w = 0x7fff0001ffffffffffffffffffff00000000003fffdf)
    (h : Kept w s0 x) :
    Kept w s0 (State.runFrame x hws fraction) := by
  unfold State.runFrame
  extract_lets v0 v1 v2
  have hv1 : Kept w s0 v1 := by
    unfold v1
    refine State.modTux_kept (maskSub rfl hw) ?_
    exact h
  clear_value v1
  with_reducible apply Kept.ite
  · exact h
  · with_reducible apply Kept.ite
    · refine State.frameEarly_kept (maskSub rfl hw) ?_
      exact h
    · with_reducible apply Kept.ite
      · refine State.replyWith_kept (maskSub rfl hw) ?_
        with_reducible assumption
      · with_reducible apply Kept.ite
        · refine State.replyWith_kept (maskSub rfl hw) ?_
          with_reducible assumption
        · refine State.frameExec_kept (maskSub rfl hw) ?_
          with_reducible assumption

theorem execHostFrameNop_kept {w : Nat} {s0 x : State} {f : Frame}
    (hw : 0x7fff0001ffffffffffffffffffff00000000003fffdf &&& w = 0x7fff0001ffffffffffffffffffff00000000003fffdf)
    (h : Kept w s0 x) :
    KeptO w s0 (execHostFrameNop f x) := by
  unfold execHostFrameNop
  refine KeptO.next ?_
  refine State.runFrame_kept (maskSub rfl hw) ?_
  exact h

theorem execHostFrameRead_kept {w : Nat} {s0 x : State} {f : Frame}
    (hw : 0x7fff0001ffffffffffffffffffff00000000003fffdf &&& w = 0x7fff0001ffffffffffffffffffff00000000003fffdf)
    (h : Kept w s0 x) :
    KeptO w s0 (execHostFrameRead f x) := by
  unfold execHostFrameRead
  refine KeptO.next ?_
  refine State.runFrame_kept (maskSub rfl hw) ?_
  exact h

theorem execHostFrameWrite_kept {w : Nat} {s0 x : State} {f : Frame}
    (hw : 0x7fff0001ffffffffffffffffffff00000000003fffdf &&& w = 0x7fff0001ffffffffffffffffffff00000000003fffdf)
    (h : Kept w s0 x) :
    KeptO w s0 (execHostFrameWrite f x) := by
  unfold execHostFrameWrite
  refine KeptO.next ?_
  refine State.runFrame_kept (maskSub rfl hw) ?_
  exact h

theorem execHostFrameReplay_kept {w : Nat} {s0 x : State} {f : Frame}
    (hw : 0x7fff0001ffffffffffffffffffff00000000003fffdf &&& w = 0x7fff0001ffffffffffffffffffff00000000003fffdf)
    (h : Kept w s0 x) :
    KeptO w s0 (execHostFrameReplay f x) := by
  unfold execHostFrameReplay
  refine KeptO.next ?_
  refine State.runFrame_kept (maskSub rfl hw) ?_
  exact h

theorem execBadFrame_kept {w : Nat} {s0 x : State} {hws : List Half} {fraction : Bool}
    (hw : 0x7fff0001ffffffffffffffffffff00000000003fffdf &&& w = 0x7fff0001ffffffffffffffffffff00000000003fffdf)
    (h : Kept w s0 x) :
    KeptO w s0 (execBadFrame hws fraction x) := by
  unfold execBadFrame
  refine KeptO.next ?_
  refine State.runFrame_kept (maskSub rfl hw) ?_
  exact h

theorem execEarlyFrame_kept {w : Nat} {s0 x : State} {n : Nat} (hw : 4 &&& w = 4) (h : Kept w s0 x) :
    KeptO w s0 (execEarlyFrame n x) := by
  unfold execEarlyFrame
  refine KeptO.next ?_
  with_reducible apply Kept.ite
  · exact h
  · refine State.frameEarly_kept (maskSub rfl hw) ?_
    exact h

theorem State.imgRefused_kept {w : Nat} {s0 x : State} {o : Oc} {t e : Nat}
    (hw : 0x10000000000000000000000000800000000000000000 &&& w = 0x10000000000000000000000000800000000000000000)
    (h : Kept w s0 x) :
    Kept w s0 (State.imgRefused x o t e) := by
  unfold State.imgRefused
  refine State.raiseCommon_kept (maskSub rfl hw) ?_
  refine State.bumpSat_kept (maskSub rfl hw) ?_
  exact h

theorem State.counterResume_kept {w : Nat} {s0 x : State} {key : Nat}
    (hw : 0x100000040000000000000000104100 &&& w = 0x100000040000000000000000104100) (h : Kept w s0 x) :
    Kept w s0 (State.counterResume x key) := by
  unfold State.counterResume
  extract_lets v0 v1 v2
  have hv1 : Kept w s0 v1 := by
    unfold v1
    refine State.setFcMark_kept (maskSub rfl hw) ?_
    exact h
  clear_value v1
  have hv2 : Kept w s0 v2 := by
    unfold v2
    with_reducible apply Kept.ite
    · refine State.p_kept (maskSub rfl hw) ?_
      with_reducible assumption
    · refine State.p_kept (maskSub rfl hw) ?_
      with_reducible assumption
  clear_value v2
  with_reducible apply Kept.ite
  · refine State.snRaiseMark_kept (maskSub rfl hw) ?_
    with_reducible assumption
  · with_reducible assumption

theorem State.counterStep_kept {w : Nat} {s0 x : State}
    (hw : 0x80000000800100100040000000000000000104100 &&& w = 0x80000000800100100040000000000000000104100)
    (h : Kept w s0 x) :
    Kept w s0 (State.counterStep x) := by
  unfold State.counterStep
  extract_lets v0
  have hv0 : Kept w s0 v0 := by
    unfold v0
    refine State.setProv_kept (maskSub rfl hw) ?_
    exact h
  clear_value v0
  refine Kept.foldl ?_ ?_
  · intro i1 i2 i3
    refine State.counterResume_kept (maskSub rfl hw) ?_
    with_reducible assumption
  · with_reducible assumption

theorem State.bootApply_kept {w : Nat} {s0 x : State} {a b : Word}
    (hw : 0x10000000000000000000000000820000000000000044 &&& w = 0x10000000000000000000000000820000000000000044)
    (h : Kept w s0 x) :
    Kept w s0 (State.bootApply x a b) := by
  unfold State.bootApply
  extract_lets v0 v1 v2
  have hv1 : Kept w s0 v1 := by
    unfold v1
    with_reducible apply Kept.ite
    · refine State.imgRefused_kept (maskSub rfl hw) ?_
      exact h
    · refine State.hpCfgSet_kept (maskSub rfl hw) ?_
      exact h
  clear_value v1
  have hv2 : Kept w s0 v2 := by
    unfold v2
    refine Kept.foldl ?_ ?_
    · intro i3 i4 i5
      refine State.ps_kept (maskSub rfl hw) ?_
      with_reducible assumption
    · with_reducible assumption
  clear_value v2
  refine State.modDev_kept (maskSub rfl hw) ?_
  with_reducible assumption

theorem State.imageEntry_kept {w : Nat} {s0 x : State} {t e : Nat} {w_ : Word}
    (hw : 0x1a1f00001001ffffffffffffffff00000000003bffd3 &&& w = 0x1a1f00001001ffffffffffffffff00000000003bffd3)
    (h : Kept w s0 x) :
    Kept w s0 (State.imageEntry x t e w_) := by
  unfold State.imageEntry
  extract_lets v0
  have hv0 : Kept w s0 v0.2 := by
    unfold v0
    with_reducible apply Kept.ite2
    · refine State.commitAt_kept (maskSub rfl hw) ?_
      exact h
    · exact h
  clear_value v0
  with_reducible apply Kept.ite
  · refine State.modDev_kept (maskSub rfl hw) ?_
    with_reducible assumption
  · refine State.imgRefused_kept (maskSub rfl hw) ?_
    with_reducible assumption

theorem State.imageWords_kept {w : Nat} {s0 x : State} {t e : Nat} {l : List Word}
    (hw : 0x1a1f00001001ffffffffffffffff00000000003bffd3 &&& w = 0x1a1f00001001ffffffffffffffff00000000003bffd3)
    (h : Kept w s0 x) :
    Kept w s0 (State.imageWords t e l x) := by
  induction l generalizing e x with
  | nil => exact h
  | cons v l ih => exact ih (State.imageEntry_kept (maskSub rfl hw) h)

theorem State.imageStep_kept {w : Nat} {s0 x : State}
    (hw : 0x1a1f00001001ffffffffffffffff00000000003bffd7 &&& w = 0x1a1f00001001ffffffffffffffff00000000003bffd7)
    (h : Kept w s0 x) :
    Kept w s0 (State.imageStep x) := by
  unfold State.imageStep
  extract_lets v0
  have hv0 : Kept w s0 v0 := by
    unfold v0
    split
    · rename_i u1 u2
      exact h
    · rename_i u3 u4 u5 u6
      refine State.bootApply_kept (maskSub rfl hw) ?_
      exact h
  clear_value v0
  refine Kept.foldl ?_ ?_
  · intro i7 i8 i9
    refine State.imageWords_kept (maskSub rfl hw) ?_
    with_reducible assumption
  · with_reducible assumption

theorem State.readyStep_kept {w : Nat} {s0 x : State}
    (hw : 0x7fff0001ffff00000000000000000000000000101040 &&& w = 0x7fff0001ffff00000000000000000000000000101040)
    (h : Kept w s0 x) :
    Kept w s0 (State.readyStep x) := by
  unfold State.readyStep
  extract_lets v0 v1 v2
  have hv0 : Kept w s0 v0 := by
    unfold v0
    refine State.modDev_kept (maskSub rfl hw) ?_
    exact h
  clear_value v0
  have hv1 : Kept w s0 v1 := by
    unfold v1
    refine State.snScanEvent_kept (maskSub rfl hw) ?_
    with_reducible assumption
  clear_value v1
  have hv2 : Kept w s0 v2 := by
    unfold v2
    with_reducible apply Kept.ite
    · refine State.raiseCommon_kept (maskSub rfl hw) ?_
      with_reducible assumption
    · with_reducible assumption
  clear_value v2
  refine Kept.foldl ?_ ?_
  · intro i3 i4 i5
    refine State.advance_kept ?_
    refine State.autoStart_kept (maskSub rfl hw) ?_
    with_reducible assumption
  · with_reducible assumption

theorem State.emberRead_kept {w : Nat} {s0 x : State} (hw : 0x400000000000000040 &&& w = 0x400000000000000040)
    (h : Kept w s0 x) :
    Kept w s0 (State.emberRead x) := by
  unfold State.emberRead
  extract_lets v0 v1
  have hv1 : Kept w s0 v1 := by
    unfold v1
    refine State.ps_kept (maskSub rfl hw) ?_
    exact h
  clear_value v1
  refine State.modDev_kept (maskSub rfl hw) ?_
  with_reducible apply Kept.ite
  · refine State.bump_kept (maskSub rfl hw) ?_
    with_reducible assumption
  · with_reducible assumption

theorem State.startStep_kept {w : Nat} {s0 x : State} {k : Nat}
    (hw : 0x7fff0001ffffffffffffffffffff00000000003bffd7 &&& w = 0x7fff0001ffffffffffffffffffff00000000003bffd7)
    (h : Kept w s0 x) :
    Kept w s0 (State.startStep x k) := by
  unfold State.startStep
  extract_lets v0
  have hv0 : ∀ a0, Kept w s0 (v0 a0) := by
    unfold v0
    intro i1
    refine State.advanceTo_kept (maskSub rfl hw) ?_
    exact h
  clear_value v0
  split
  · rename_i u2
    with_reducible apply hv0
  · rename_i u3
    refine State.emberRead_kept (maskSub rfl hw) ?_
    exact h
  · rename_i u4
    refine State.unitBegin_kept (maskSub rfl hw) ?_
    exact h
  · rename_i u5
    refine State.unitBegin_kept (maskSub rfl hw) ?_
    refine State.unitBegin_kept (maskSub rfl hw) ?_
    with_reducible apply hv0
  · rename_i u6
    refine State.unitBegin_kept (maskSub rfl hw) ?_
    exact h
  · rename_i u7
    refine State.counterStep_kept (maskSub rfl hw) ?_
    with_reducible apply hv0
  · rename_i u8
    refine State.imageStep_kept (maskSub rfl hw) ?_
    with_reducible apply hv0
  · rename_i u9 u10 u11 u12 u13 u14 u15 u16
    refine State.readyStep_kept (maskSub rfl hw) ?_
    exact h

theorem execStartUp_kept {w : Nat} {s0 x : State}
    (hw : 0x7fff0001ffffffffffffffffffff00000000003bffd7 &&& w = 0x7fff0001ffffffffffffffffffff00000000003bffd7)
    (h : Kept w s0 x) :
    KeptO w s0 (execStartUp x) := by
  unfold execStartUp
  with_reducible apply KeptO.ite
  · refine KeptO.next ?_
    exact h
  · refine KeptO.next ?_
    refine State.modDev_kept (maskSub rfl hw) ?_
    refine State.startStep_kept (maskSub rfl hw) ?_
    exact h

end Sys2Proof.Machine
end

