-- ==== Sys2Proof/Laws/Mirror.lean ====
section
/-! SUPPORT. What raising an event and changing a mirror leave in the sources and the mirrors. -/

namespace Sys2Proof.Machine

open Sys2Proof

theorem src_idx_lt (u : Src) : u.idx < 15 := by cases u <;> decide

/-- The events a source holds after it raised one. -/
theorem State.raise_q (s : State) (u : Src) (e : Ev) :
    (vget (s.raise u e).src u.idx).q = (vget s.src u.idx).q ++ [e] := by
  unfold State.raise
  dsimp only
  rw [vget_vset_same _ _ _ (src_idx_lt u)]
  split
  · rename_i h
    rw [List.isEmpty_iff] at h
    rw [h]; rfl
  · rfl

theorem State.raise_src_ne (s : State) (u v : Src) (e : Ev) (h : u.idx ≠ v.idx) :
    vget (s.raise u e).src v.idx = vget s.src v.idx := by
  unfold State.raise
  dsimp only
  rw [vget_vset_ne _ _ _ _ h]

@[simp] theorem State.raise_mirror (s : State) (u v : Src) (e : Ev) : (s.raise u e).mirror v = s.mirror v := rfl

theorem State.changeMirror_src_ne (s : State) (u v : Src) (f : Mirror → Mirror) (h : u.idx ≠ v.idx) :
    vget (s.changeMirror u f).src v.idx = vget s.src v.idx := by
  unfold State.changeMirror
  dsimp only
  split
  · rfl
  · split
    · rw [vmod, vget_vset_ne _ _ _ _ h]
    · rw [State.raise_src_ne _ _ _ _ h]

theorem State.changeMirror_mirror_ne (s : State) (u v : Src) (f : Mirror → Mirror) (h : u.idx ≠ v.idx) :
    (s.changeMirror u f).mirror v = s.mirror v := by
  unfold State.changeMirror
  dsimp only
  split
  · simp only [State.mirror, vget_vset_ne _ _ _ _ h]
  · split
    · simp only [State.mirror, vget_vset_ne _ _ _ _ h]
    · rw [State.raise_mirror]; exact vget_vset_ne _ _ _ _ h

/-- Every visible field and every hidden one of a changed mirror but GEN and the model's counts. -/
theorem State.changeMirror_mirror (s : State) (u : Src) (f : Mirror → Mirror) (h : u.idx < 13) :
    ∃ g c a w, (s.changeMirror u f).mirror u = { f (s.mirror u) with gen := g, chg := c, chgAt := a, was := w } := by
  have key : ∀ m : Mirror, m = f (s.mirror u) ∨ (∃ g c a w, m = { f (s.mirror u) with gen := g, chg := c, chgAt := a, was := w }) →
      ∃ g c a w, m = { f (s.mirror u) with gen := g, chg := c, chgAt := a, was := w } := by
    intro m hm
    rcases hm with rfl | hm
    · exact ⟨_, _, _, _, rfl⟩
    · exact hm
  apply key
  unfold State.changeMirror
  dsimp only
  split
  · exact .inl (vget_vset_same _ _ _ h)
  · split
    · exact .inr ⟨_, _, _, _, vget_vset_same _ _ _ h⟩
    · rw [State.raise_mirror]
      exact .inr ⟨_, _, _, _, vget_vset_same _ _ _ h⟩

theorem State.changeMirror_st (s : State) (u : Src) (f : Mirror → Mirror) (h : u.idx < 13) :
    (s.changeMirror u f).st u = (f (s.mirror u)).st := by
  obtain ⟨g, c, a, w, e⟩ := s.changeMirror_mirror u f h
  rw [State.st, e]

theorem State.changeMirror_sub (s : State) (u : Src) (f : Mirror → Mirror) (h : u.idx < 13) :
    (s.changeMirror u f).sub u = (f (s.mirror u)).sub := by
  obtain ⟨g, c, a, w, e⟩ := s.changeMirror_mirror u f h
  rw [State.sub, e]

theorem State.setSub_sub (s : State) (u : Src) (v : Nat) (h : u.idx < 13) : (s.setSub u v).sub u = v % 256 := by
  rw [State.setSub, State.changeMirror_sub _ _ _ h]

theorem State.setSub_src_ne (s : State) (u v : Src) (x : Nat) (h : u.idx ≠ v.idx) :
    vget (s.setSub u x).src v.idx = vget s.src v.idx := State.changeMirror_src_ne _ _ _ _ h

theorem State.setSub_mirror_ne (s : State) (u v : Src) (x : Nat) (h : u.idx ≠ v.idx) :
    (s.setSub u x).mirror v = s.mirror v := State.changeMirror_mirror_ne _ _ _ _ h

end Sys2Proof.Machine
end

