-- ==== Sys2Proof/Laws/Touch.lean ====
section
/-! SUPPORT. What a mask of `Kept` says in the terms of `State.changesOnly`. -/

namespace Sys2Proof.Machine

open Sys2Proof

/-- The number with the bits of a list. -/
def bitsOf (l : List Nat) : Nat := l.foldr (fun i a => 2 ^ i ||| a) 0

theorem bitsOf_testBit (l : List Nat) (n : Nat) : (bitsOf l).testBit n = l.contains n := by
  induction l with
  | nil => simp [bitsOf]
  | cons i t ih =>
    have e : bitsOf (i :: t) = 2 ^ i ||| bitsOf t := rfl
    rw [e, Nat.testBit_or, ih, Nat.testBit_two_pow, List.contains_cons]
    congr 1
    by_cases h : i = n
    · subst h; simp
    · simp [h, Ne.symm h]

/-- The bit of a part in a mask. -/
def Part.bit : Part → Nat
  | .port0 => 0 | .port1 => 1 | .tux => 2 | .tsel => 3 | .views => 4 | .granted => 5 | .dev => 6 | .gy => 7 | .ln => 8
  | .ll => 9 | .cj => 10 | .ob => 11 | .rng => 12 | .ms => 13 | .rc => 14 | .op1 => 15 | .op2 => 16 | .sf => 17 | .lp => 18
  | .pw => 19 | .sn => 20 | .nv => 21

theorem Part.bit_lt (p : Part) : p.bit < 22 := by cases p <;> decide

theorem Part.bit_inj {p q : Part} (h : p.bit = q.bit) : p = q := by cases p <;> cases q <;> simp_all [Part.bit]

theorem Src.idx_lt (u : Src) : u.idx < 15 := by cases u <;> decide

theorem Src.idx_inj {u v : Src} (h : u.idx = v.idx) : u = v := by revert h; cases u <;> cases v <;> decide

/-- The bits of a mask that stand for nothing. -/
def spareBits : List Nat := (List.range 42).map (22 + ·) ++ ((List.range 17).map (143 + ·) ++ (List.range 17).map (175 + ·))

theorem mem_spare {n : Nat} (h : n ∈ spareBits) : (22 ≤ n ∧ n < 64) ∨ (143 ≤ n ∧ n < 160) ∨ 175 ≤ n := by
  simp only [spareBits, List.mem_append, List.mem_map, List.mem_range] at h
  rcases h with ⟨i, hi, rfl⟩ | ⟨i, hi, rfl⟩ | ⟨i, hi, rfl⟩ <;> omega

/-- The bits of what a command may change, and those that stand for nothing. -/
def Touch.bits (x : Touch) : List Nat :=
  spareBits ++ x.parts.map Part.bit ++ (x.tables.map (64 + · % 64) ++ (x.mirrors.map (fun u => 128 + u.idx) ++ x.events.map (fun u => 160 + u.idx)))

/-- The mask of what a command may change. -/
def Touch.mask (x : Touch) : Nat := bitsOf x.bits

theorem Touch.mask_part (x : Touch) (p : Part) (h : p ∉ x.parts) : x.mask.testBit p.bit = false := by
  rw [Touch.mask, bitsOf_testBit]
  have := p.bit_lt
  simp only [Touch.bits, List.contains_eq_mem, List.mem_append, List.mem_map, decide_eq_false_iff_not]
  rintro ((e | ⟨q, hq, e⟩) | ⟨n, hn, e⟩ | ⟨u, hu, e⟩ | ⟨u, hu, e⟩)
  · have := mem_spare e; omega
  · exact h (Part.bit_inj e ▸ hq)
  all_goals omega

theorem Touch.mask_tab (x : Touch) (n : Nat) (hn : n < 64) (hx : ∀ k ∈ x.tables, k < 64) (h : n ∉ x.tables) :
    x.mask.testBit (64 + n) = false := by
  rw [Touch.mask, bitsOf_testBit]
  simp only [Touch.bits, List.contains_eq_mem, List.mem_append, List.mem_map, decide_eq_false_iff_not]
  rintro ((e | ⟨q, hq, e⟩) | ⟨k, hk, e⟩ | ⟨u, hu, e⟩ | ⟨u, hu, e⟩)
  · have := mem_spare e; omega
  · have := q.bit_lt; omega
  · have := hx k hk
    have : k = n := by omega
    exact h (this ▸ hk)
  all_goals omega

theorem Touch.mask_unit (x : Touch) (u : Src) (h : u ∉ x.mirrors) : x.mask.testBit (128 + u.idx) = false := by
  rw [Touch.mask, bitsOf_testBit]
  have := Src.idx_lt u
  simp only [Touch.bits, List.contains_eq_mem, List.mem_append, List.mem_map, decide_eq_false_iff_not]
  rintro ((e | ⟨q, hq, e⟩) | ⟨k, hk, e⟩ | ⟨v, hv, e⟩ | ⟨v, hv, e⟩)
  · have := mem_spare e; omega
  · have := q.bit_lt; omega
  · omega
  · have : v = u := Src.idx_inj (by omega)
    exact h (this ▸ hv)
  · have := Src.idx_lt v; omega

theorem Touch.mask_src (x : Touch) (u : Src) (h : u ∉ x.events) : x.mask.testBit (160 + u.idx) = false := by
  rw [Touch.mask, bitsOf_testBit]
  have := Src.idx_lt u
  simp only [Touch.bits, List.contains_eq_mem, List.mem_append, List.mem_map, decide_eq_false_iff_not]
  rintro ((e | ⟨q, hq, e⟩) | ⟨k, hk, e⟩ | ⟨v, hv, e⟩ | ⟨v, hv, e⟩)
  · have := mem_spare e; omega
  · have := q.bit_lt; omega
  · omega
  · have := Src.idx_lt v; omega
  · have : v = u := Src.idx_inj (by omega)
    exact h (this ▸ hv)

set_option maxRecDepth 4000 in
/-- The mask of everything. -/
theorem Touch.all_mask : Touch.all.mask = 2 ^ 192 - 1 := by decide

/-- What is kept outside the mask of `x` changes only what `x` names. -/
theorem Kept.changesOnly {x : Touch} {s t : State} (h : Kept x.mask s t) (hw : s.wf) (hx : ∀ k ∈ x.tables, k < 64) :
    s.changesOnly t x := by
  refine ⟨?_, ?_, ?_, ?_⟩
  · intro p hp
    have b := x.mask_part p hp
    cases p with
    | port0 => exact h.port0 b
    | port1 => exact h.port1 b
    | tux => exact h.tux b
    | tsel => exact h.tsel b
    | views => exact h.views b
    | granted => exact h.granted b
    | dev => exact h.dev b
    | gy => exact h.gy b
    | ln => exact h.ln b
    | ll => exact h.ll b
    | cj => exact h.cj b
    | ob => exact h.ob b
    | rng => exact h.rng b
    | ms => exact h.ms b
    | rc => exact h.rc b
    | op1 => exact h.op1 b
    | op2 => exact h.op2 b
    | sf => exact h.sf b
    | lp => exact h.lp b
    | pw => exact h.pw b
    | sn => exact h.sn b
    | nv => exact h.nv b
  · intro n e hn ht
    exact h.tab n e hn (x.mask_tab n hn hx ht) hw
  · exact fun u hu => h.unit u (x.mask_unit u hu)
  · exact fun u hu => h.src u (x.mask_src u hu)

end Sys2Proof.Machine
end

