-- ==== Sys2Proof/WellFormed.lean ====
section
/-! DEFINITION. Well-formed commands: the operands that a sender of the spec can give. The machine runs on any command;
the checks say which operands a rule speaks of. -/

namespace Sys2Proof

/-- A value of the sensor's converter, 24 bits signed before clipping is judged (spec/14_sensor_front_end.md R522). -/
def adcValue (x : Int) : Bool := decide (-2147483648 ≤ x) && decide (x < 2147483648)

/-- A command is well formed. -/
def Instr.wf (i : Instr) : Bool :=
  match i with
  | .registerWrite _ addr _ => Nat.blt addr 0x60 && addr % 2 == 0
  | .undefinedAddressAccess addr _ => Nat.ble 0x60 addr && Nat.blt addr 0x80 && addr % 2 == 0
  | .hostFrameNop f => Nat.ble f.data.length 8
  | .hostFrameRead f => Nat.ble f.data.length 8
  | .hostFrameWrite f => Nat.ble f.data.length 8
  | .hostFrameReplay f => Nat.ble f.data.length 8
  | .badFrame _ _ => true
  | .earlyFrame _ => true
  | .winSelWrite _ _ _ => true
  | .winIdxWrite _ _ _ => true
  | .winDataRead _ _ => true
  | .winDataWrite _ _ _ => true
  | .winCommit _ _ _ => true
  | .tenantEnable _ _ t _ => Nat.blt t 64
  | .tenantDisable _ _ t _ => Nat.blt t 64
  | .hpBindWrite _ _ => true
  | .hpCfgWrite _ _ => true
  | .hostWdogKick _ _ => true
  | .hostLost => true
  | .unitStart _ _ => true
  | .unitStop _ _ => true
  | .unitReset _ _ => true
  | .unitForce _ _ _ => true
  | .forceBoundary _ => true
  | .startStepsDone _ => true
  | .stopStepsDone _ => true
  | .startStepFail _ _ => true
  | .unitStateRead _ => true
  | .eventGrant => true
  | .evtDataRead _ => true
  | .evtPop _ => true
  | .evtLostRead _ => true
  | .irqClr _ _ => true
  | .claim _ => true
  | .release _ => true
  | .zcEdge _ _ => true
  | .zcMissedTimeout _ => true
  | .acqMaxExpire => true
  | .holdMaxExpire => true
  | .netTimeTimeout => true
  | .halfCycleBoundary => true
  | .gyRealign _ _ _ => true
  | .gyRelearn _ _ _ => true
  | .gySnapRead _ => true
  | .cmp _ => true
  | .cmpPulseEnd _ => true
  | .agcStep _ peak => Nat.blt peak 16384
  | .commonMapApply => true
  | .lineTxSubmit _ _ _ => true
  | .lineGrant => true
  | .lineStageCheck => true
  | .lineTxAbort _ _ q => Nat.blt q 16
  | .lineContend _ _ _ => true
  | .lineOriginHalfCycle => true
  | .lineAttemptEnd _ => true
  | .lineHeaderRx _ _ _ _ _ _ => true
  | .lineFrameRx _ => true
  | .lineAckTx => true
  | .lineRelayCopy _ _ _ => true
  | .lineRxRelease _ _ buf => Nat.blt buf 2
  | .beaconQueue => true
  | .beaconRx _ _ _ => true
  | .laCfgApply => true
  | .bucketRefill => true
  | .resume _ _ _ => true
  | .alarmCredit => true
  | .dormant _ _ _ _ => true
  | .wake _ _ _ => true
  | .dormantProposeRx _ => true
  | .cancelRx _ => true
  | .dormantCommit => true
  | .wakeDetect n => Nat.ble n 16
  | .learnReady => true
  | .proposal => true
  | .llApprove _ _ _ => true
  | .ownMapCommit _ _ e _ => Nat.blt e 2
  | .llClear _ _ _ => true
  | .ownMapApply => true
  | .mapRepeat => true
  | .nbrMap _ => true
  | .nbrMapStale _ => true
  | .cjSubmit _ _ _ => true
  | .cjJobChoose => true
  | .cjJobDone => true
  | .cjPreempt => true
  | .cjBudgetCap => true
  | .cjAbort _ _ q => Nat.blt q 8
  | .cjRelease _ _ q => Nat.blt q 8
  | .cjPageCommit _ _ page _ => Nat.blt page 40
  | .kernelWindowOpen _ => true
  | .kernelWindowEnd _ => true
  | .kernelDone _ => true
  | .ecc word _ => Nat.blt word 4096
  | .scrub => true
  | .obLoad _ _ slot _ _ klen => Nat.blt slot 272 && Nat.blt klen 4
  | .obUnwrap _ _ slot _ _ klen kek => Nat.blt slot 272 && Nat.blt klen 4 && Nat.blt kek 272
  | .obGenerate _ _ slot _ _ klen => Nat.blt slot 272 && Nat.blt klen 4
  | .obErase _ _ slot => Nat.blt slot 272
  | .obRestrict _ _ slot _ => Nat.blt slot 272
  | .slotCmdDone slot => Nat.blt slot 272
  | .obPlace _ _ _ => true
  | .obGo _ _ q => Nat.ble 4 q && Nat.blt q 16
  | .obJobChoose => true
  | .obInlineJob _ _ => true
  | .obPreempt => true
  | .obJobDone _ => true
  | .obAbort _ _ q => Nat.ble 4 q && Nat.blt q 16
  | .obRelease _ _ q => Nat.ble 4 q && Nat.blt q 16
  | .provClose _ _ _ => true
  | .zeroize _ _ _ _ => true
  | .reseed _ _ _ => true
  | .rngSample _ _ => true
  | .rngReady _ => true
  | .rngPoolAdd => true
  | .drbgReseed => true
  | .rngDataRead _ => true
  | .msSubmit _ _ _ => true
  | .msEntryStart => true
  | .msReadyPoint _ _ => true
  | .rdyTimeout => true
  | .msEntryDone => true
  | .msAbort _ _ q => Nat.blt q 16
  | .msRelease _ _ q => Nat.blt q 16
  | .rfIrq _ => true
  | .rfSfd _ => true
  | .rfFault => true
  | .hopSlotStart => true
  | .beaconTx => true
  | .radioFrameRx => true
  | .radioAckTx => true
  | .joinRspTx => true
  | .tagAllow _ _ pair _ => Nat.blt pair 128
  | .tagFree _ _ pair => Nat.blt pair 128
  | .joinOpen _ _ _ _ => true
  | .joinOpenExpire => true
  | .rfReset _ _ _ => true
  | .radioTxSubmit _ _ _ => true
  | .radioGrant => true
  | .radioDeadline => true
  | .radioAnswerTx => true
  | .emptyAnswer => true
  | .radioAnswerAckTimeout => true
  | .wakeUpCall => true
  | .radioTxEnd => true
  | .budgetBinTurn _ _ => true
  | .radioTxAbort _ _ q => Nat.blt q 8
  | .radioTxRelease _ _ q => Nat.blt q 8
  | .radioRxRelease _ _ buf => Nat.blt buf 2
  | .radioDormant => true
  | .optCellTx _ _ => true
  | .timeCellDue _ => true
  | .optCellRx _ _ _ => true
  | .optSubmit _ _ _ _ => true
  | .optPayloadCommit _ _ _ _ _ => true
  | .optCellAbort _ _ _ _ => true
  | .optRxRelease _ _ _ _ => true
  | .laserFail _ cause => Nat.ble 1 cause && Nat.ble cause 2
  | .calWindowStart _ => true
  | .calDone _ mpd => mpd.length == 8
  | .los _ _ => true
  | .alsPulse _ => true
  | .alsPulseEnd _ => true
  | .optRestart _ _ _ _ => true
  | .optTest _ _ _ _ _ => true
  | .calibrate _ _ _ _ _ => true
  | .clear _ _ _ _ _ => true
  | .pwrAvgUpdate _ _ => true
  | .sinc3Output _ x _ _ => adcValue x
  | .cycleWindowEnd _ x _ _ => adcValue x
  | .auxConversion x _ => adcValue x
  | .sfChangeApply _ x _ => adcValue x
  | .excTrip _ cause => Nat.ble 1 cause && Nat.ble cause 3
  | .excRestore _ => true
  | .sfLoad _ _ _ _ => true
  | .impCheckDue _ => true
  | .impCheckStart => true
  | .impResult _ _ _ => true
  | .impCheck _ _ _ _ => true
  | .lowRate => true
  | .loopUpdate _ _ => true
  | .loopSrc => true
  | .powerOnReset _ _ _ _ => true
  | .resetN _ => true
  | .clockFail => true
  | .x32Fail => true
  | .startUp => true
  | .rail _ _ => true
  | .govSample _ _ _ => true
  | .pfailN _ => true
  | .govLevelFall => true
  | .govLevelRise => true
  | .black => true
  | .thermal t => decide (-32768 ≤ t) && decide (t < 32768)
  | .hibernate _ _ _ _ => true
  | .hibernateTimeout => true
  | .floor _ _ _ _ => true
  | .blackHoldExpire => true
  | .wakeSource _ => true
  | .door _ => true
  | .rtcAlarm => true
  | .pwEmberCommit => true
  | .sinterSubmit _ _ _ => true
  | .sinterTxnStart => true
  | .sinterTxnDone => true
  | .sinterAbort _ _ q => Nat.ble 1 q && Nat.ble q 4
  | .sinterRelease _ _ q => Nat.ble 1 q && Nat.ble q 4
  | .counterRaise key => Nat.ble key 128
  | .compaction => true
  | .compact _ _ _ => true
  | .tapInstruction _ => true
  | .cycleBoundary => true
  | .hostReservationWindow _ _ => true
  | .scriptDelay => true
  | .txEndTimeout => true
  | .railBadPersist _ => true

end Sys2Proof
end

