-- ==== Sys2Proof/Tests/Slice0.lean ====
section
/-! SUPPORT. The model's own tests: commands that the well-formedness checks refuse, a few single steps, and for every
statement of Certificates/Slice0/Obligations.lean states and operands that meet the hypotheses of its clauses (one theorem
met_<statement> each, which shows that the statement is not empty). -/

namespace Sys2Proof.Tests

open Sys2Proof Sys2Proof.Machine

/-- The state a command leaves. -/
def nx (c : Instr) (s : State) : State := match exec c s with | .next t => t | _ => s
/-- A device that is READY after reset. -/
def ready : State := { State.reset with dev := { State.reset.dev with ready := true, phase := .ready } }
/-- The same with units in a state. -/
def unitsIn (x : UState) (l : List Src) (s : State) : State :=
  { s with units := l.foldl (fun v u => vmod v u.idx (fun (m : Mirror) => { m with st := x })) s.units }
/-- Fields of entries set. -/
def withF (l : List (Fld × Nat × Nat)) (s : State) : State := l.foldl (fun s x => s.p x.1 x.2.1 x.2.2) s
/-- The invariant, computed. -/
def wfB (s : State) : Bool :=
  cellsWf s.cells && nvWf s.nv && (List.range 64).all fun t => decide ((vget s.views t).log.length ≤ 64)
/-- The computed invariant is the invariant. -/
theorem wf_of (s : State) (h : wfB s = true) : s.wf := by
  simp only [wfB, Bool.and_eq_true, List.all_eq_true, List.mem_range, decide_eq_true_eq] at h
  refine ⟨h.1.1, h.1.2, fun t => ?_⟩
  rcases Nat.lt_or_ge t 64 with ht | ht
  · exact h.2 t ht
  · simp [vget, Vector.getElem?_eq_none ht]; decide
/-- A common map. -/
def cmap : Word := BitVec.ofNat 128 0xC0C0C0C0C0C0C0C0C0C0C0C0C0C00000
/-- LINE, CALD and GY in ON. -/
def on := unitsIn .on [.line, .cald, .gy] ready
/-- A node of a network, its time base set. -/
def net : State :=
  ((fun (s : State) => (s.wr 0x12 0 cmap).wr 0x12 1 cmap) <|
    withF [(F.LA_CFG_ADDR, 0, 5), (F.LA_CFG_DOMAIN_ID, 0, 0x1234)] on).modGy fun g =>
      { g with netTime := true, beaconAt := some 0 }
/-- A request of class 1 to node 9. -/
def wreq : Word := [(F.LA_TXQ_DST, 9), (F.LA_TXQ_CLASS, 1), (F.LA_TXQ_TAG, 0x77), (F.LA_TXQ_LEN, 1)].foldl (fun w x => x.1.into x.2 w) 0

namespace W01

def win (sel entry hw : Nat) (s : State) : State := s.modWin .p0 1 fun w => { w with sel := sel, entry := entry, hw := hw, ainc := true, holder := 0 }
def rd0 := win 1 0 0 ready
def rd7 := match exec (.winDataRead .p0 1) rd0 with | .next t => win 1 0 7 t | _ => rd0

/-- RegisterAccessesTakeEffectInTheirLastTick: states and operands that meet the hypotheses of its clauses, one line group per clause. -/
theorem met_RegisterAccessesTakeEffectInTheirLastTick :
    (-- registerWrite
      ready.serves (.p0 : PortId) 16 = true ∧
      0x5E ∈ [0x00, 0x02, 0x0E, 0x30, 0x32, 0x34, 0x36, 0x3C, 0x44, 0x46, 0x4C, 0x4E, 0x50, 0x52, 0x5A, 0x5C, 0x5E]) ∧
    (-- registerWrite
      ready.serves (.p0 : PortId) 16 = true ∧
      ((0x00), (0x6408 : Half)) ∈ [(0x00, 0x6408), (0x02, 0x00A1), (0x04, BitVec.ofNat 16 (ready.acting (.p0 : PortId))), (0x06, (ready.port (.p0 : PortId)).accStat), (0x0A, (ready.port (.p0 : PortId)).scratch), (0x0C, ready.hpCfg), (0x0E, ready.devStat), (0x36, (vget ready.views (ready.acting (.p0 : PortId))).pend.setWidth 16), (0x38, (vget ready.views (ready.acting (.p0 : PortId))).en.setWidth 16), (0x40, (vget ready.tsel (ready.acting (.p0 : PortId))).unitSel), (0x48, (vget ready.tsel (ready.acting (.p0 : PortId))).claimSel), (0x4C, (vget ready.tsel (ready.acting (.p0 : PortId))).claimStat), (0x4E, ready.govStat), (0x5A, ready.gy.freq), (0x5C, ready.rngStat)]) ∧
    (-- undefinedAddressAccess
      ready.serves (PortId.p0) 16 = true ∧ (PortId.p0) = .p0) :=
  ⟨by decide, by decide, by decide⟩

/-- WindowSelectionAndDataAccess: states and operands that meet the hypotheses of its clauses, one line group per clause. -/
theorem met_WindowSelectionAndDataAccess :
    (-- winIdxWrite
      ready.serves (.p0 : PortId) 16 = true ∧ (ready.winOf (.p0 : PortId) (3 : Fin 4)).holder = ready.acting (.p0 : PortId)) ∧
    (-- winDataRead
      rd0.serves (.p0 : PortId) 48 = true ∧ (rd0.winOf (.p0 : PortId) (1 : Fin 4)).holder = rd0.acting (.p0 : PortId) ∧
      rd0.reach (rd0.winOf (.p0 : PortId) (1 : Fin 4)).sel (rd0.winOf (.p0 : PortId) (1 : Fin 4)).entry (rd0.acting (.p0 : PortId)) false = some (0) ∧
      (rd0.winOf (.p0 : PortId) (1 : Fin 4)).hw = 0 ∧ rd0.winBad (rd0.winOf (.p0 : PortId) (1 : Fin 4)).sel (0) = false ∧
      readClears (rd0.winOf (.p0 : PortId) (1 : Fin 4)).sel (0) = false) ∧
    (-- winDataRead
      rd7.serves (.p0 : PortId) 48 = true ∧ (rd7.winOf (.p0 : PortId) (1 : Fin 4)).holder = rd7.acting (.p0 : PortId) ∧
      rd7.reach (rd7.winOf (.p0 : PortId) (1 : Fin 4)).sel (rd7.winOf (.p0 : PortId) (1 : Fin 4)).entry (rd7.acting (.p0 : PortId)) false = some (0) ∧
      (rd7.winOf (.p0 : PortId) (1 : Fin 4)).hw ∈ [1, 2, 3, 4, 5, 6, 7] ∧
      rd7.closed (rd7.winOf (.p0 : PortId) (1 : Fin 4)).sel (0) = false ∧
      (rd7.winOf (.p0 : PortId) (1 : Fin 4)).snap = some ((rd7.winOf .p0 1).snap.get (by decide)) ∧
      ((rd7.winOf .p0 1).snap.get (by decide)).tenant = rd7.acting (.p0 : PortId)) ∧
    (-- winDataWrite
      (win 1 63 6 ready).serves (.p0 : PortId) 48 = true ∧
      (((win 1 63 6 ready)).winOf (.p0 : PortId) (1 : Fin 4)).holder = (win 1 63 6 ready).acting (.p0 : PortId) ∧
      (win 1 63 6 ready).reach (((win 1 63 6 ready)).winOf (.p0 : PortId) (1 : Fin 4)).sel (((win 1 63 6 ready)).winOf (.p0 : PortId) (1 : Fin 4)).entry (((win 1 63 6 ready)).acting (.p0 : PortId)) true = some (63) ∧
      (((win 1 63 6 ready)).winOf (.p0 : PortId) (1 : Fin 4)).hw ∈ [0, 1, 2, 3, 4, 5, 6]) :=
  ⟨by decide, by decide, by decide, by decide⟩

/-- WindowCommitWritesTheStagedWordInOneStep: states and operands that meet the hypotheses of its clauses, one line group per clause. -/
theorem met_WindowCommitWritesTheStagedWordInOneStep :
    (-- winCommit
      (win 1 0 7 ready).serves (.p0 : PortId) 48 = true ∧
      (((win 1 0 7 ready)).winOf (.p0 : PortId) (1 : Fin 4)).holder = (win 1 0 7 ready).acting (.p0 : PortId) ∧
      (((win 1 0 7 ready)).winOf (.p0 : PortId) (1 : Fin 4)).hw = 7 ∧
      (win 1 0 7 ready).reach (((win 1 0 7 ready)).winOf (.p0 : PortId) (1 : Fin 4)).sel (((win 1 0 7 ready)).winOf (.p0 : PortId) (1 : Fin 4)).entry (((win 1 0 7 ready)).acting (.p0 : PortId)) true = some (0) ∧
      (((win 1 0 7 ready)).winOf (.p0 : PortId) (1 : Fin 4)).sel = 0x01 ∧ (win 1 0 7 ready).enabled (0) = true ∧
      F.TENANTS_ENABLE.of (((win 1 0 7 ready)).merged 0x01 (0) (((((win 1 0 7 ready)).winOf (.p0 : PortId) (1 : Fin 4)).staging.getD (State.content (((win 1 0 7 ready)).advance 47) (((win 1 0 7 ready)).winOf (.p0 : PortId) (1 : Fin 4)).sel (0) (((win 1 0 7 ready)).acting (.p0 : PortId)))).setHalf 7 (0x8000 : Half))) = 1) :=
  by decide

end W01

namespace W02

def t63 := withF [(F.TENANTS_ENABLE, 63, 1)] ready

/-- TenantEnableAndDisableRestartTheView: states and operands that meet the hypotheses of its clauses, one line group per clause. -/
theorem met_TenantEnableAndDisableRestartTheView :
    (-- tenantEnable
      ready.wf ∧ ready.serves (.p0 : PortId) 48 = true ∧ ready.acting (.p0 : PortId) = 0 ∧ 0 < 63 ∧ 63 < 64 ∧ ready.enabled 63 = false) ∧
    (-- tenantDisable
      t63.wf ∧ t63.serves (.p0 : PortId) 48 = true ∧ t63.acting (.p0 : PortId) = 0 ∧ 0 < 63 ∧ 63 < 64 ∧ t63.enabled 63 = true) :=
  ⟨⟨wf_of _ (by decide), by decide⟩, ⟨wf_of _ (by decide), by decide⟩⟩

/-- PortConfigurationAndTheHostWatchdog: states and operands that meet the hypotheses of its clauses, one line group per clause. -/
theorem met_PortConfigurationAndTheHostWatchdog :
    (-- hpBindWrite
      ready.wf ∧ ready.serves (.p0 : PortId) 16 = true ∧ ready.acting (.p0 : PortId) = 0 ∧ bitOf (0x83BF : Half).toNat 15 = true ∧
      ((0x83BF : Half).toNat % 64 ≠ 0 ∨ bitOf (0x83BF : Half).toNat 8 = true)) ∧
    (-- hpCfgWrite
      ready.wf ∧ ready.serves (.p0 : PortId) 16 = true ∧ ready.acting (.p0 : PortId) = 0 ∧ 256 ≤ (0x0100 : Half).toNat ∧
      ((.p0 : PortId) = .p0 ∨ bitOf (0x0100 : Half).toNat 0 = true) ∧ ready.dev.hostLost = false) ∧
    (-- hostWdogKick
      ({ ready with dev := { ready.dev with hostLost := true } }).wf ∧
      ({ ready with dev := { ready.dev with hostLost := true } }).serves (.p0 : PortId) 16 = true ∧
      ((.p0 : PortId) = .p0 ∨ ({ ready with dev := { ready.dev with hostLost := true } }).acting (.p0 : PortId) = 0) ∧
      ({ ready with dev := { ready.dev with hostLost := true } }).dev.hostLost = true) ∧
    (-- hostLost
      (({ on with dev := { on.dev with wdogEnd := some 500 } }).dev.wdogEnd).isSome = true ∧
      ({ on with dev := { on.dev with wdogEnd := some 500 } }).tick ≤ (({ on with dev := { on.dev with wdogEnd := some 500 } }).dev.wdogEnd).get! ∧
      ({ on with dev := { on.dev with wdogEnd := some 500 } }).isOn .line = true) :=
  ⟨⟨wf_of _ (by decide), by decide⟩, ⟨wf_of _ (by decide), by decide⟩, ⟨wf_of _ (by decide), by decide⟩, by decide⟩

end W02

namespace W03

def ev : Ev := { common := true, tenant := 0, sev := 2, code := 0x10, arg := 5, ref := 0 }
def e0 := { ready with src := vmod ready.src Src.obs.idx (fun x => { x with q := [ev] }) }
def vw (l : List Word) : State := { ready with views := vmod ready.views 0 (fun v => { v with log := l }) }
def sel (v : Nat) (s : State) : State := { s with tsel := vmod s.tsel 0 (fun x => { x with unitSel := BitVec.ofNat 16 v }) }
def csel (v : Nat) (s : State) : State := { s with tsel := vmod s.tsel 0 (fun x => { x with claimSel := BitVec.ofNat 16 v }) }
def rg := ((unitsIn .on [.rng] ready).changeMirror .rng (fun m => {m with sub := 1})).modPort .p0 fun q => {q with rngBlk := some { tenant := 0, word := 0xABC, left := 1 }}
def cl := csel 0x1F ready
def ch := csel 0x28 ready

/-- EventsAreGrantedAdmittedOrCountedLost: states and operands that meet the hypotheses of its clauses, one line group per clause. -/
theorem met_EventsAreGrantedAdmittedOrCountedLost :
    (-- eventGrant
      e0.wf ∧ e0.arbPick.isSome = true ∧ e0.nextPresented = some e0.tick ∧
      (vget e0.src e0.arbPick.get!.idx).q = ((vget e0.src e0.arbPick.get!.idx).q).head! :: ((vget e0.src e0.arbPick.get!.idx).q).tail) ∧
    (-- a record admitted
      3 < 4 ∧ (7 : Word).extractLsb' 112 16 = 0 ∧ (7 : Word).getLsbD 33 = false ∧
      ({ (default : View) with log := List.replicate 63 7 }).log.length < 64) ∧
    (-- a record lost
      3 < 4 ∧ (7 : Word).extractLsb' 112 16 = 0 ∧ (7 : Word).getLsbD 33 = false ∧
      64 ≤ ({ (default : View) with log := List.replicate 64 7 }).log.length) :=
  ⟨⟨wf_of _ (by decide), by decide⟩, by decide, by decide⟩

/-- EventRegistersAndTopLevelSnapshots: states and operands that meet the hypotheses of its clauses, one line group per clause. -/
theorem met_EventRegistersAndTopLevelSnapshots :
    (-- evtDataRead
      (vw (List.replicate 64 7)).serves (.p0 : PortId) 48 = true ∧ (vw (List.replicate 64 7)).acting (.p0 : PortId) < 64 ∧
      (vget (vw (List.replicate 64 7)).views (((vw (List.replicate 64 7))).acting (.p0 : PortId))).log = ((vget (vw (List.replicate 64 7)).views (((vw (List.replicate 64 7))).acting (.p0 : PortId))).log).head! :: ((vget (vw (List.replicate 64 7)).views (((vw (List.replicate 64 7))).acting (.p0 : PortId))).log).tail ∧
      vget (((vw (List.replicate 64 7))).port (.p0 : PortId)).pos (((vw (List.replicate 64 7))).acting (.p0 : PortId)) = 0) ∧
    (-- evtPop
      (vw [7]).serves (.p0 : PortId) 48 = true ∧ (vw [7]).acting (.p0 : PortId) < 64 ∧
      (vget (vw [7]).views (((vw [7])).acting (.p0 : PortId))).log = ((vget (vw [7]).views (((vw [7])).acting (.p0 : PortId))).log).head! :: ((vget (vw [7]).views (((vw [7])).acting (.p0 : PortId))).log).tail) ∧
    (-- evtLostRead
      ready.serves (.p0 : PortId) 48 = true ∧ ready.acting (.p0 : PortId) < 64) ∧
    (-- unitStateRead
      (sel 12 ready).serves (.p0 : PortId) 48 = true ∧
      (Src.unitOf ((vget (sel 12 ready).tsel (((sel 12 ready)).acting (.p0 : PortId))).unitSel.toNat % 256)).isSome = true) ∧
    (-- rngDataRead
      rg.serves (.p0 : PortId) 48 = true ∧ rg.rngReady = true ∧ rg.rngFailed = false ∧ ((rg.port (.p0 : PortId)).rngBlk).isSome = true ∧
      ((rg.port (.p0 : PortId)).rngBlk).get!.tenant = rg.acting (.p0 : PortId) ∧ 0 < ((rg.port (.p0 : PortId)).rngBlk).get!.left) :=
  ⟨by decide, by decide, by decide, by decide, by decide⟩

/-- ClaimTakesAndReleaseFreesAResource: states and operands that meet the hypotheses of its clauses, one line group per clause. -/
theorem met_ClaimTakesAndReleaseFreesAResource :
    (-- claim
      cl.wf ∧ cl.serves (.p0 : PortId) 16 = true ∧ cl.acting (.p0 : PortId) < 64 ∧
      cl.claimJudge (cl.acting (.p0 : PortId)) ((vget cl.tsel (cl.acting (.p0 : PortId))).claimSel.toNat % 64) ((vget cl.tsel (cl.acting (.p0 : PortId))).claimSel.toNat / 256) = .ok) ∧
    (-- release
      (nx (.claim .p0) cl).wf ∧ (nx (.claim .p0) cl).serves (.p0 : PortId) 16 = true ∧ (nx (.claim .p0) cl).acting (.p0 : PortId) < 64 ∧
      (nx (.claim .p0) cl).releaseJudge (((nx (.claim .p0) cl)).acting (.p0 : PortId)) ((vget (nx (.claim .p0) cl).tsel (((nx (.claim .p0) cl)).acting (.p0 : PortId))).claimSel.toNat % 64) = .ok ∧
      0x10 ≤ ((vget (nx (.claim .p0) cl).tsel (((nx (.claim .p0) cl)).acting (.p0 : PortId))).claimSel.toNat % 64) ∧
      ((vget (nx (.claim .p0) cl).tsel (((nx (.claim .p0) cl)).acting (.p0 : PortId))).claimSel.toNat % 64) ≤ 0x1F) ∧
    (-- release
      (nx (.claim .p0) ch).wf ∧ (nx (.claim .p0) ch).serves (.p0 : PortId) 16 = true ∧ (nx (.claim .p0) ch).acting (.p0 : PortId) < 64 ∧
      (nx (.claim .p0) ch).releaseJudge (((nx (.claim .p0) ch)).acting (.p0 : PortId)) ((vget (nx (.claim .p0) ch).tsel (((nx (.claim .p0) ch)).acting (.p0 : PortId))).claimSel.toNat % 64) = .ok ∧
      0x28 ≤ ((vget (nx (.claim .p0) ch).tsel (((nx (.claim .p0) ch)).acting (.p0 : PortId))).claimSel.toNat % 64) ∧
      ((vget (nx (.claim .p0) ch).tsel (((nx (.claim .p0) ch)).acting (.p0 : PortId))).claimSel.toNat % 64) ≤ 0x2F) :=
  ⟨⟨wf_of _ (by decide), by decide⟩, ⟨wf_of _ (by decide), by decide⟩, ⟨wf_of _ (by decide), by decide⟩⟩

end W03

namespace W04

def l1 := (withF [(F.TENANTS_BIND_P1, 0, 1)] { ready with dev := { ready.dev with p1En := true } })
def fr (a : Nat) (d : List Half) : Frame := { (default : Frame) with addr := a, data := d, alive := 3 }

/-- FramesAreExecutedAnsweredOrDropped: states and operands that meet the hypotheses of its clauses, one line group per clause. -/
theorem met_FramesAreExecutedAnsweredOrDropped :
    (-- hostFrameNop
      l1.outOfReset = true ∧ l1.coreRuns = true ∧ l1.dev.ready = true ∧ l1.dev.p1En = true ∧
      ((fr 0 (List.replicate 8 0)) : Frame).h0bit0 = false ∧ l1.tux.alive ≠ some ((fr 0 (List.replicate 8 0)) : Frame).alive.toNat ∧
      ((fr 0 (List.replicate 8 0)) : Frame).data.length ≤ 8) ∧
    (-- hostFrameReplay
      ({ l1 with tux := { l1.tux with shifted := some { status := 5, body := [1] }, alive := some 2 } }).outOfReset = true ∧
      ({ l1 with tux := { l1.tux with shifted := some { status := 5, body := [1] }, alive := some 2 } }).coreRuns = true ∧
      ({ l1 with tux := { l1.tux with shifted := some { status := 5, body := [1] }, alive := some 2 } }).dev.ready = true ∧
      ({ l1 with tux := { l1.tux with shifted := some { status := 5, body := [1] }, alive := some 2 } }).dev.p1En = true ∧
      ((fr 0 []) : Frame).h0bit0 = false ∧
      ({ l1 with tux := { l1.tux with shifted := some { status := 5, body := [1] }, alive := some 2 } }).tux.alive ≠ some ((fr 0 []) : Frame).alive.toNat ∧
      ((fr 0 []) : Frame).data.length ≤ 8 ∧
      ({ l1 with tux := { l1.tux with shifted := some { status := 5, body := [1] }, alive := some 2 } }).tux.shifted = some ((({ l1 with tux := { l1.tux with shifted := some { status := 5, body := [1] }, alive := some 2 } })).tux.shifted).get!) ∧
    (-- hostFrameRead
      l1.outOfReset = true ∧ l1.coreRuns = true ∧ l1.dev.ready = true ∧ l1.dev.p1En = true ∧ ((fr 0x0A []) : Frame).h0bit0 = false ∧
      l1.tux.alive ≠ some ((fr 0x0A []) : Frame).alive.toNat ∧ ((fr 0x0A []) : Frame).h1top = 0 ∧ ((fr 0x0A []) : Frame).rcnt = 0 ∧
      ((fr 0x0A []) : Frame).addr = 0x0A ∧ l1.enabled ((fr 0x0A []) : Frame).tenant.toNat = true ∧
      l1.b F.TENANTS_BIND_P1 ((fr 0x0A []) : Frame).tenant.toNat = true ∧ l1.dev.wdogEnd = none ∧ ((fr 0x0A []) : Frame).data = []) ∧
    (-- hostFrameWrite
      l1.outOfReset = true ∧ l1.coreRuns = true ∧ l1.dev.ready = true ∧ l1.dev.p1En = true ∧ ((fr 0x0A [0xBEEF]) : Frame).h0bit0 = false ∧
      l1.tux.alive ≠ some ((fr 0x0A [0xBEEF]) : Frame).alive.toNat ∧ ((fr 0x0A [0xBEEF]) : Frame).h1top = 0 ∧
      ((fr 0x0A [0xBEEF]) : Frame).rcnt = 0 ∧ ((fr 0x0A [0xBEEF]) : Frame).addr = 0x0A ∧
      l1.enabled ((fr 0x0A [0xBEEF]) : Frame).tenant.toNat = true ∧
      l1.b F.TENANTS_BIND_P1 ((fr 0x0A [0xBEEF]) : Frame).tenant.toNat = true ∧ l1.dev.wdogEnd = none ∧
      ((fr 0x0A [0xBEEF]) : Frame).data = [(((fr 0x0A [0xBEEF]) : Frame).data).head!]) ∧
    (-- badFrame
      l1.outOfReset = true ∧ l1.coreRuns = true ∧ l1.dev.ready = true ∧ l1.dev.p1En = true ∧ frameBad ([] : List Half) (true : Bool) = true) :=
  ⟨by decide, by decide, by decide, by decide, by decide⟩

end W04

namespace W05

def sel (v : Nat) (s : State) : State := { s with tsel := vmod s.tsel 0 (fun x => { x with unitSel := BitVec.ofNat 16 v }) }
def st (x : UState) (u : Src) (s : State) : State := s.changeMirror u fun m => { m with st := x }
def ten := withF [(F.TENANTS_ENABLE, 1, 1), (F.TENANTS_BIND_P0, 1, 1)] (ready.modPort .p0 fun q => {q with ctx := 1})
def f (u : Src) (a : Nat) : State := (st .on u ready).changeMirror u fun m => { m with forced := true, pend := some a }

/-- UnitCommandsDriveTheStateMachine: states and operands that meet the hypotheses of its clauses, one line group per clause. -/
theorem met_UnitCommandsDriveTheStateMachine :
    (-- unitStart
      (sel 1 ready).serves (.p0 : PortId) 16 = true ∧ (sel 1 ready).acting (.p0 : PortId) = 0 ∧
      (Src.unitOf ((vget (sel 1 ready).tsel 0).unitSel.toNat % 256)).isSome = true ∧
      ((true : Bool) = true → (((sel 1 ready)).mirror (Src.unitOf ((vget (sel 1 ready).tsel 0).unitSel.toNat % 256)).get!).gen.toNat = (vget (sel 1 ready).tsel 0).unitSel.toNat / 256) ∧
      (sel 1 ready).st (Src.unitOf ((vget (sel 1 ready).tsel 0).unitSel.toNat % 256)).get! = .off ∧
      (((sel 1 ready)).mirror (Src.unitOf ((vget (sel 1 ready).tsel 0).unitSel.toNat % 256)).get!).govHeld = false ∧
      (sel 1 ready).forbids (Src.unitOf ((vget (sel 1 ready).tsel 0).unitSel.toNat % 256)).get! = false) ∧
    (-- unitStop
      (sel 0x101 (st .on .gy ready)).serves (.p0 : PortId) 16 = true ∧ (sel 0x101 (st .on .gy ready)).acting (.p0 : PortId) = 0 ∧
      (Src.unitOf ((vget (sel 0x101 (st .on .gy ready)).tsel 0).unitSel.toNat % 256)).isSome = true ∧
      ((true : Bool) = true → (((sel 0x101 (st .on .gy ready))).mirror (Src.unitOf ((vget (sel 0x101 (st .on .gy ready)).tsel 0).unitSel.toNat % 256)).get!).gen.toNat = (vget (sel 0x101 (st .on .gy ready)).tsel 0).unitSel.toNat / 256) ∧
      (sel 0x101 (st .on .gy ready)).st (Src.unitOf ((vget (sel 0x101 (st .on .gy ready)).tsel 0).unitSel.toNat % 256)).get! = .on) ∧
    (-- unitReset
      (sel 0x101 (st .fault .gy ready)).serves (.p0 : PortId) 16 = true ∧ (sel 0x101 (st .fault .gy ready)).acting (.p0 : PortId) = 0 ∧
      (Src.unitOf ((vget (sel 0x101 (st .fault .gy ready)).tsel 0).unitSel.toNat % 256)).isSome = true ∧
      ((true : Bool) = true → (((sel 0x101 (st .fault .gy ready))).mirror (Src.unitOf ((vget (sel 0x101 (st .fault .gy ready)).tsel 0).unitSel.toNat % 256)).get!).gen.toNat = (vget (sel 0x101 (st .fault .gy ready)).tsel 0).unitSel.toNat / 256) ∧
      (sel 0x101 (st .fault .gy ready)).st (Src.unitOf ((vget (sel 0x101 (st .fault .gy ready)).tsel 0).unitSel.toNat % 256)).get! = .fault) ∧
    (-- unitForce
      (sel 0x10A (st .on .msp ready)).serves (.p0 : PortId) 16 = true ∧ (sel 0x10A (st .on .msp ready)).acting (.p0 : PortId) = 0 ∧
      (Src.unitOf ((vget (sel 0x10A (st .on .msp ready)).tsel 0).unitSel.toNat % 256)).isSome = true ∧
      ((false : Bool) = true → (((sel 0x10A (st .on .msp ready))).mirror (Src.unitOf ((vget (sel 0x10A (st .on .msp ready)).tsel 0).unitSel.toNat % 256)).get!).gen.toNat = (vget (sel 0x10A (st .on .msp ready)).tsel 0).unitSel.toNat / 256) ∧
      (sel 0x10A (st .on .msp ready)).st (Src.unitOf ((vget (sel 0x10A (st .on .msp ready)).tsel 0).unitSel.toNat % 256)).get! = .on ∧
      (1 : Byte).toNat ∈ forceArgs (Src.unitOf ((vget (sel 0x10A (st .on .msp ready)).tsel 0).unitSel.toNat % 256)).get! ∧
      (Src.unitOf ((vget (sel 0x10A (st .on .msp ready)).tsel 0).unitSel.toNat % 256)).get! ≠ .opt1 ∧
      (Src.unitOf ((vget (sel 0x10A (st .on .msp ready)).tsel 0).unitSel.toNat % 256)).get! ≠ .opt2) :=
  ⟨by decide, by decide, by decide, by decide⟩

/-- UnitCommandRefusalsAndForcedSubstates: states and operands that meet the hypotheses of its clauses, one line group per clause. -/
theorem met_UnitCommandRefusalsAndForcedSubstates :
    (-- registerWrite
      ten.serves (.p0 : PortId) 16 = true ∧ ten.acting (.p0 : PortId) ≠ 0) ∧
    (-- registerWrite
      ready.serves (.p0 : PortId) 16 = true ∧ ready.acting (.p0 : PortId) = 0 ∧
      (Src.unitOf ((vget ready.tsel 0).unitSel.toNat % 256) = none ∨ (0xFFF7 : Half).toNat % 16 ∈ [0, 5, 6, 7])) ∧
    (-- registerWrite
      (sel 0xFF01 ready).serves (.p0 : PortId) 16 = true ∧ (sel 0xFF01 ready).acting (.p0 : PortId) = 0 ∧
      (Src.unitOf ((vget (sel 0xFF01 ready).tsel 0).unitSel.toNat % 256)).isSome = true ∧ (0x13 : Half).toNat % 16 ∈ [1, 2, 3] ∧
      bitOf (0x13 : Half).toNat 4 = true ∧
      (((sel 0xFF01 ready)).mirror (Src.unitOf ((vget (sel 0xFF01 ready).tsel 0).unitSel.toNat % 256)).get!).gen.toNat ≠ (vget (sel 0xFF01 ready).tsel 0).unitSel.toNat / 256) ∧
    (-- forceBoundary
      (f .obs 1).isOn (.obs : Src) = true ∧ (((f .obs 1)).mirror (.obs : Src)).forced = true ∧
      (((f .obs 1)).mirror (.obs : Src)).pend = some (((f .obs 1).mirror (.obs : Src)).pend).get! ∧ (.obs : Src) = .obs ∧
      (f .obs 1).ob.running = none) ∧
    (-- forceBoundary
      (f .loop 2).isOn (.loop : Src) = true ∧ (((f .loop 2)).mirror (.loop : Src)).forced = true ∧
      (((f .loop 2)).mirror (.loop : Src)).pend = some (((f .loop 2).mirror (.loop : Src)).pend).get! ∧ (.loop : Src) = .loop) ∧
    (-- forceBoundary
      (f .msp 1).isOn (.msp : Src) = true ∧ (((f .msp 1)).mirror (.msp : Src)).forced = true ∧
      (((f .msp 1)).mirror (.msp : Src)).pend = some (((f .msp 1).mirror (.msp : Src)).pend).get! ∧ (.msp : Src) = .msp ∧
      (f .msp 1).ms.chain = []) :=
  ⟨by decide, by decide, by decide, by decide, by decide, by decide⟩

/-- StartAndStopStepsCompleteOrFail: states and operands that meet the hypotheses of its clauses, one line group per clause. -/
theorem met_StartAndStopStepsCompleteOrFail :
    (-- startStepsDone
      (st .starting .gy ready).wf ∧ (.gy : Src).idx < 13 ∧ (st .starting .gy ready).st (.gy : Src) = .starting ∧
      ((.gy : Src) = .gy ∨ (.gy : Src) = .msp ∧ (st .starting .gy ready).msDecoded = false)) ∧
    (-- stopStepsDone
      (st .stopping .msp ready).wf ∧ (.msp : Src).idx < 13 ∧ (st .stopping .msp ready).st (.msp : Src) = .stopping ∧
      (st .stopping .msp ready).stopReady (.msp : Src) = true ∧ (st .stopping .msp ready).dev.hibReq = false ∧
      (((st .stopping .msp ready)).mirror (.msp : Src)).rearm = false) ∧
    (-- stopStepsDone
      ((st .stopping .msp ready).changeMirror .msp fun m => {m with rearm := true}).wf ∧ (.msp : Src).idx < 13 ∧
      ((st .stopping .msp ready).changeMirror .msp fun m => {m with rearm := true}).st (.msp : Src) = .stopping ∧
      ((st .stopping .msp ready).changeMirror .msp fun m => {m with rearm := true}).stopReady (.msp : Src) = true ∧
      ((st .stopping .msp ready).changeMirror .msp fun m => {m with rearm := true}).dev.hibReq = false ∧
      ((((st .stopping .msp ready).changeMirror .msp fun m => {m with rearm := true})).mirror (.msp : Src)).rearm = true ∧
      ((st .stopping .msp ready).changeMirror .msp fun m => {m with rearm := true}).forbids (.msp : Src) = false) :=
  ⟨⟨wf_of _ (by decide), by decide⟩, ⟨wf_of _ (by decide), by decide⟩, ⟨wf_of _ (by decide), by decide⟩⟩

end W05

namespace W06

def gyZc (s : State) : State := s.modGy fun g => { g with zc := vset g.zc 1 { last := some 100, prev := 3932160, periods := [3932160, 3932160] } }
def s1 := { (gyZc ready) with tick := 100 + 3932160 + 500 }
def s2 := withF [(F.GY_REFS_GOOD, 1, 30), (F.GY_REFS_QSTATE, 1, 2)] s1
def s3 := (unitsIn .on [.gy] { ready with units := vmod ready.units 0 (fun (m : Mirror) => { m with sub := 0 }) }).modGy fun g => { g with since := 300 }
def s3b := s3.modGy fun g => { g with lockRates := List.replicate 64 0x04444440 }
def s4 := (withF [(F.GY_CFG_HOLD_MAX, 0, 200)] s3b).setSub .gy 2
def s5 := { ready with gy := { ready.gy with beaconAt := some 0, netTime := true, stamp := BitVec.ofNat 80 (600 * 2^48 + 77) } }
def s6 := withF [(F.GY_CFG_REALIGN_EN, 0, 1), (F.GY_REFS_PHASE_ID, 1, 2), (F.GY_REFS_OFFSET, 1, 20), (F.GY_REFS_OFS_VALID, 1, 1)] (s3.modGy fun g => { g with ref := 2 })
def s7 := withF [(F.GY_CMP_MODE, 3, 1), (F.GY_CMP_CYCLE, 3, 2), (F.GY_CMP_ANGLE, 3, 77), (F.GY_CMP_PIN, 3, 1), (F.GY_CMP_EVT, 3, 1), (F.GY_CMP_PW, 3, 5), (F.CLAIMS_HELD, 0x13, 1), (F.CLAIMS_HOLDER, 0x13, 0xE), (F.CLAIMS_TENANT, 0x13, 9)] ready
def s9 := s5.modGy fun g => { g with stamp := BitVec.ofNat 80 (767 * 2^48 + 77), gridNew := some 40, gridHeard := some 700, cycDone := 767 }
def s10 := s5.modGy fun g => { g with cycleLoad := some (-3), cycDone := 600 }
def s11 := (unitsIn .on [.loop] s3).changeMirror .loop fun m => {m with forced := true, pend := some 2}
def s12 := s3.modGy fun g => { g with cfgOld := some (s3.rd 8 0) }
def s13 := s3.modGy fun g => { g with realign := true, err := 4294967296*500 + 7 }

/-- MainsEdgesQualifyAndDisqualifyInputs: states and operands that meet the hypotheses of its clauses, one line group per clause. -/
theorem met_MainsEdgesQualifyAndDisqualifyInputs :
    (-- zcEdge
      (vget s1.gy.zc 0).last = none) ∧
    (-- zcEdge
      ((vget s1.gy.zc 1).last).isSome = true ∧ s1.gyQual (1 + 1) = false ∧ 0 < (vget s1.gy.zc 1).prev ∧
      20 * (max (s1.tick - 100 - ((vget s1.gy.zc 1).last).get!) (vget s1.gy.zc 1).prev - min (s1.tick - 100 - ((vget s1.gy.zc 1).last).get!) (vget s1.gy.zc 1).prev) ≤ (vget s1.gy.zc 1).prev ∧
      45 * (s1.tick - 100 - ((vget s1.gy.zc 1).last).get!) ≤ 196608000 ∧ 196608000 ≤ 66 * (s1.tick - 100 - ((vget s1.gy.zc 1).last).get!)) ∧
    (-- zcMissedTimeout
      ((vget s2.gy.zc 1).last).isSome = true ∧ 0 < (if s2.gyQual (1 + 1) then (vget s2.gy.zc 1).periods.sum else (vget s2.gy.zc 1).prev) ∧
      0 < (if s2.gyQual (1 + 1) then (vget s2.gy.zc 1).periods.length else 1) ∧ s2.gyQual (1 + 1) = true) :=
  ⟨by decide, by decide, by decide⟩

/-- GeyserLockTimersAndUnitCommands: states and operands that meet the hypotheses of its clauses, one line group per clause. -/
theorem met_GeyserLockTimersAndUnitCommands :
    (-- acqMaxExpire
      s3b.isOn .gy = true ∧ s3b.sub .gy = 0 ∧ s3b.gyBest = none ∧ (s3b.mirror .gy).held = 0 ∧ s3b.gyc F.GY_CFG_ACQ_MAX ≤ s3b.gy.since ∧
      s3b.gyHeldOk = true) ∧
    (-- acqMaxExpire
      s3.isOn .gy = true ∧ s3.sub .gy = 0 ∧ s3.gyBest = none ∧ (s3.mirror .gy).held = 0 ∧ s3.gyc F.GY_CFG_ACQ_MAX ≤ s3.gy.since ∧
      s3.gyHeldOk = false) ∧
    (-- holdMaxExpire
      s4.isOn .gy = true ∧ s4.sub .gy = 2 ∧ (s4.mirror .gy).held = 0 ∧ s4.gyc F.GY_CFG_HOLD_MAX ≠ 0 ∧ s4.gyc F.GY_CFG_HOLD_MAX ≤ s4.gy.since) ∧
    (-- netTimeTimeout
      s5.gy.beaconAt.isSome = true ∧ s5.isMaster = false ∧ 512 ≤ (s5.cycle + 2 ^ 32 - s5.gy.beaconAt.get!.toNat) % 2 ^ 32 ∧
      s5.gy.netTime = true) ∧
    (-- netTimeTimeout
      (s5.modGy fun g => { g with netTime := false }).gy.beaconAt = some (((s5.modGy fun g => { g with netTime := false })).gy.beaconAt).get! ∧
      (s5.modGy fun g => { g with netTime := false }).isMaster = false ∧
      512 ≤ (((s5.modGy fun g => { g with netTime := false })).cycle + 2 ^ 32 - (((s5.modGy fun g => { g with netTime := false })).gy.beaconAt).get!.toNat) % 2 ^ 32 ∧
      (s5.modGy fun g => { g with netTime := false }).gy.netTime = false) ∧
    (-- gyRealign
      s6.ownerRow (.p0 : PortId) .gy (0 : Byte) (true : Bool) = true ∧ s6.isOn .gy = true ∧ s6.gyc F.GY_CFG_REALIGN_EN ≠ 0 ∧ s6.gy.ref ≠ 0 ∧
      s6.gy.ref ≠ 7) ∧
    (-- gyRelearn
      ({ s6 with cells := (withF [(F.TENANTS_BIND_P1, 0, 1)] s6).cells, dev := { s6.dev with p1En := true } }).ownerRow (.p1 : PortId) .gy (0 : Byte) (true : Bool) = true ∧
      ({ s6 with cells := (withF [(F.TENANTS_BIND_P1, 0, 1)] s6).cells, dev := { s6.dev with p1En := true } }).isOn .gy = true ∧
      ({ s6 with cells := (withF [(F.TENANTS_BIND_P1, 0, 1)] s6).cells, dev := { s6.dev with p1En := true } }).gyc F.GY_CFG_OFS_MODE = 0) :=
  ⟨by decide, by decide, by decide, by decide, by decide, by decide, by decide⟩

/-- ComparatorsFireAndTheirPulsesEnd: states and operands that meet the hypotheses of its clauses, one line group per clause. -/
theorem met_ComparatorsFireAndTheirPulsesEnd :
    (-- cmp
      s7.g F.GY_CMP_MODE 3 ≠ 0 ∧ ((s7.g F.GY_CMP_MODE 3) = 1 → s7.b F.GY_CMP_FIRED 3 = false) ∧
      ((s7.g F.GY_CMP_MODE 3) ≠ 1 → vget s7.gy.cmpDone 3 ≠ cmpSlot (s7.g F.GY_CMP_MODE 3) (s7.g F.GY_CMP_ANGLE 3) (if (s7.g F.GY_CMP_MODE 3) = 1 then s7.advanceFrac (s7.fracUntil (s7.cmpTarget 3)) else s7.advanceFrac (s7.fracTo (s7.g F.GY_CMP_ANGLE 3) (if (s7.g F.GY_CMP_MODE 3) = 3 then 32768 else 65536))).stamp48 + 1) ∧
      (s7.g F.GY_CMP_MODE 3) = 1) ∧
    (-- cmp
      s7.g F.GY_CMP_MODE 3 ≠ 0 ∧ ((s7.g F.GY_CMP_MODE 3) = 1 → s7.b F.GY_CMP_FIRED 3 = false) ∧
      ((s7.g F.GY_CMP_MODE 3) ≠ 1 → vget s7.gy.cmpDone 3 ≠ cmpSlot (s7.g F.GY_CMP_MODE 3) (s7.g F.GY_CMP_ANGLE 3) (if (s7.g F.GY_CMP_MODE 3) = 1 then s7.advanceFrac (s7.fracUntil (s7.cmpTarget 3)) else s7.advanceFrac (s7.fracTo (s7.g F.GY_CMP_ANGLE 3) (if (s7.g F.GY_CMP_MODE 3) = 3 then 32768 else 65536))).stamp48 + 1) ∧
      s7.b F.GY_CMP_PIN 3 = true) ∧
    (-- cmp
      s7.g F.GY_CMP_MODE 3 ≠ 0 ∧ ((s7.g F.GY_CMP_MODE 3) = 1 → s7.b F.GY_CMP_FIRED 3 = false) ∧
      ((s7.g F.GY_CMP_MODE 3) ≠ 1 → vget s7.gy.cmpDone 3 ≠ cmpSlot (s7.g F.GY_CMP_MODE 3) (s7.g F.GY_CMP_ANGLE 3) (if (s7.g F.GY_CMP_MODE 3) = 1 then s7.advanceFrac (s7.fracUntil (s7.cmpTarget 3)) else s7.advanceFrac (s7.fracTo (s7.g F.GY_CMP_ANGLE 3) (if (s7.g F.GY_CMP_MODE 3) = 3 then 32768 else 65536))).stamp48 + 1) ∧
      s7.b F.GY_CMP_EVT 3 = true ∧ s7.claimed (0x10 + 3) = true ∧ s7.g F.CLAIMS_HOLDER (0x10 + 3) = 0x0E) ∧
    (-- cmpPulseEnd
      (vget (s7.modGy fun g => {g with pulse := vset g.pulse 3 (some 99)}).gy.pulse 3).isSome = true) :=
  ⟨by decide, by decide, by decide, by decide⟩

set_option maxRecDepth 100000 in
/-- CycleAndHalfCycleBoundariesApplyChanges: states and operands that meet the hypotheses of its clauses, one line group per clause. -/
theorem met_CycleAndHalfCycleBoundariesApplyChanges :
    (-- cycleBoundary
      s3.gy.gridNew = none ∧ s3.gy.cycleLoad = none) ∧
    (-- cycleBoundary
      s9.wf ∧ s9.gy.gridNew.isSome = true ∧ s9.gy.gridHeard.isSome = true ∧ s9.gy.cycleLoad = none ∧ s9.nextCycle.cycle % 256 = 0 ∧
      2 ≤ (s9.nextCycle.cycle + 2 ^ 32 - s9.gy.gridHeard.get! % 2 ^ 32) % 2 ^ 32) ∧
    (-- cycleBoundary
      s10.gy.gridNew = none ∧ s10.gy.cycleLoad.isSome = true ∧ s10.ln.frame = none) ∧
    (-- halfCycleBoundary
      s11.nextHalfCycle.cycle % 2 ^ 32 = s11.nextHalfCycle.gy.cycDone.toNat ∧ s11.isOn .loop = true ∧
      ((s11.mirror .loop).pend).isSome = true) ∧
    (-- halfCycleBoundary
      s12.nextHalfCycle.cycle % 2 ^ 32 = s12.nextHalfCycle.gy.cycDone.toNat ∧ s12.ln.frame = none ∧ s12.gy.cfgOld.isSome = true ∧
      s12.gy.realign = false ∧ (s12.mirror .gy).pend = none) ∧
    (-- halfCycleBoundary
      s13.nextHalfCycle.cycle % 2 ^ 32 = s13.nextHalfCycle.gy.cycDone.toNat ∧ s13.ln.frame = none ∧ s13.gy.cfgOld = none ∧
      s13.gy.realign = true ∧ (s13.mirror .gy).pend = none) :=
  ⟨by decide, ⟨wf_of _ (by decide), by decide⟩, by decide, by decide, by decide, by decide⟩

end W06

namespace W07

def on := unitsIn .on [.line, .cald, .gy] ready
def a1 := (withF [(F.LS_RXSTAT_GAIN, 1, 3)] on)
def a2 := a1.modLn fun l => { l with agc := vset l.agc 1 { quiet := 7 } }
def cmap : Word := BitVec.ofNat 128 0xC0C0C0C0C0C0C0C0C0C0C0C0C0C00000
def net : State := (fun (s : State) => (s.wr 0x12 0 cmap).wr 0x12 1 cmap) <| (withF [(F.LA_CFG_ADDR, 0, 5), (F.LA_CFG_DOMAIN_ID, 0, 0x1234)] on).modGy fun g => { g with netTime := true, beaconAt := some 0 }
def w : Word := [(F.LA_TXQ_DST, 9), (F.LA_TXQ_CLASS, 1), (F.LA_TXQ_TAG, 0x77), (F.LA_TXQ_LEN, 1)].foldl (fun w x => x.1.into x.2 w) 0
def net2 := match exec (.lineTxSubmit .p0 1 w) net with | .next t => t | _ => net
def dmap : Word := BitVec.ofNat 128 0x65656565656565656565656565650000
def net4 := (((withF [(F.LA_TXQ_STATE, 1, 1), (F.LA_TXQ_CLASS, 1, 1), (F.LA_TXQ_DST, 1, 9), (F.LA_TXQ_LEN, 1, 0), (F.LA_TXQ_TAG, 1, 0x77), (F.LA_TENANT_BKT_MAX, 0, 500), (F.LA_TENANT_LEVEL, 0, 400)] net).modLn fun l => { l with order := [1] }).wr 0x12 0 dmap).wr 0x12 1 dmap
def net5 := net2.modLn fun l => { l with h0 := 1 }
def net6 := (withF [(F.LA_RX_HEADER, 9, 5)] net).modLn fun l => { l with bufs := vset l.bufs 1 { full := true, seen := true } }
def net7 := net.modLn fun l => { l with cmapNew := some (17, 18) }
def net8 := net.modLn fun l => { l with cfgOld := some 0 }
def net9 := net7.modLl fun l => { l with ownCommon := false }

/-- LineGainMapsAndSettings: states and operands that meet the hypotheses of its clauses, one line group per clause. -/
theorem met_LineGainMapsAndSettings :
    (-- agcStep
      (a2.modLn fun l => { l with ltxen := 1 }).isOn .line = true ∧
      bitOf (((a2.modLn fun l => { l with ltxen := 1 })).g F.LS_CFG_PH_EN 0) 1 = true ∧ 100 < 2 ^ 14 ∧
      (a2.modLn fun l => { l with ltxen := 1 }).ln.ltxen ≠ 0) ∧
    (-- agcStep
      (withF [(F.LS_CFG_AGC_EN, 0, 0), (F.LS_CFG_GAIN2, 0, 6)] a2).isOn .line = true ∧
      bitOf (((withF [(F.LS_CFG_AGC_EN, 0, 0), (F.LS_CFG_GAIN2, 0, 6)] a2)).g F.LS_CFG_PH_EN 0) 1 = true ∧ 100 < 2 ^ 14 ∧
      (withF [(F.LS_CFG_AGC_EN, 0, 0), (F.LS_CFG_GAIN2, 0, 6)] a2).ln.ltxen = 0 ∧
      (withF [(F.LS_CFG_AGC_EN, 0, 0), (F.LS_CFG_GAIN2, 0, 6)] a2).b F.LS_CFG_AGC_EN 0 = false) ∧
    (-- agcStep
      a1.isOn .line = true ∧ bitOf (a1.g F.LS_CFG_PH_EN 0) 1 = true ∧ 6000 < 2 ^ 14 ∧ a1.ln.ltxen = 0 ∧ a1.b F.LS_CFG_AGC_EN 0 = true ∧
      5799 < 6000 ∧ 0 < a1.g F.LS_RXSTAT_GAIN 1) ∧
    (-- agcStep
      a2.isOn .line = true ∧ bitOf (a2.g F.LS_CFG_PH_EN 0) 1 = true ∧ 100 < 2 ^ 14 ∧ a2.ln.ltxen = 0 ∧ a2.b F.LS_CFG_AGC_EN 0 = true ∧
      100 < 730 ∧ 7 ≤ (vget a2.ln.agc 1).quiet ∧ a2.g F.LS_RXSTAT_GAIN 1 < 7 ∧ a2.ln.frame = none) ∧
    (-- commonMapApply
      net7.ln.cmapNew.isSome = true ∧ net7.ln.frame = none ∧ net7.ll.ownCommon = true) ∧
    (-- commonMapApply
      net9.ln.cmapNew.isSome = true ∧ net9.ln.frame = none ∧ net9.ll.ownCommon = false) ∧
    (-- commonMapApply
      (net7.modLn fun l => { l with frame := some {} }).ln.frame.isSome = true) ∧
    (-- laCfgApply
      (net8.modLn fun l => { l with frame := some {} }).ln.frame.isSome = true) ∧
    (-- laCfgApply
      net8.ln.cfgOld.isSome = true ∧ net8.ln.frame = none) :=
  ⟨by decide, by decide, by decide, by decide, by decide, by decide, by decide, by decide, by decide⟩

/-- LineSubmissionQueuesOrRefuses: states and operands that meet the hypotheses of its clauses, one line group per clause. -/
theorem met_LineSubmissionQueuesOrRefuses :
    (-- lineTxSubmit
      net2.serves (.p0 : PortId) 48 = true ∧ net2.lnJudge (net2.acting (.p0 : PortId)) (w : Word) = .ok ∧
      ((List.range 16).find? (fun k => !net2.lnLive k)).isSome = true ∧ net2.ln.granted.isSome = true ∧
      (F.LA_TXQ_CLASS.of (w : Word) = 3 → net2.lnDorm = 0)) ∧
    (-- lineTxSubmit
      net.serves (.p0 : PortId) 48 = true ∧ net.lnJudge (net.acting (.p0 : PortId)) (w : Word) = .ok ∧
      ((List.range 16).find? (fun k => !net.lnLive k)).isSome = true ∧ net.ln.granted = none ∧ net.ln.order = [] ∧ net.lnDorm = 0 ∧
      net.g F.LA_TENANT_BKT_MAX (net.acting (.p0 : PortId)) = 0 ∧ net.acting (.p0 : PortId) < 64) ∧
    (-- lineTxSubmit
      net2.serves (.p0 : PortId) 48 = true ∧ (net2.lnJudge (net2.acting (.p0 : PortId)) (0 : Word)) ≠ .ok) :=
  ⟨by decide, by decide, by decide⟩

set_option maxRecDepth 100000 in
/-- LineGrantsFillOrUnderrun: states and operands that meet the hypotheses of its clauses, one line group per clause. -/
theorem met_LineGrantsFillOrUnderrun :
    (-- lineGrant
      net2.isOn .line = true ∧ net2.lnDorm ≠ 2 ∧ (0) < 16 ∧ net2.ln.granted.isSome = true) ∧
    (-- lineGrant
      net4.isOn .line = true ∧ net4.lnDorm ≠ 2 ∧ net4.ln.order.head! < 16 ∧ net4.ln.granted = none ∧ net4.ln.order = [net4.ln.order.head!] ∧
      net4.lnGrantable net4.ln.order.head! = true ∧
      net4.lnCharged (net4.lnOwner net4.ln.order.head!) (net4.g F.LA_TXQ_CLASS net4.ln.order.head!) = true) ∧
    (-- lineStageCheck
      net5.ln.granted.isSome = true ∧ net5.ln.granted.get! < 16 ∧ net5.lnMaySend = true ∧ net5.toHalf.lnFreeNext = true ∧
      net5.ln.unknown = false ∧ net5.ln.locked = false ∧ net5.lnFilled net5.ln.granted.get! = false ∧ net5.ln.h0 ≤ net5.toHalf.hcIndex + 1) ∧
    (-- lineStageCheck
      (net5.modLn fun l => { l with filled := 0xFFFF }).ln.granted = some (((net5.modLn fun l => { l with filled := 0xFFFF })).ln.granted).get! ∧
      (((net5.modLn fun l => { l with filled := 0xFFFF })).ln.granted).get! < 16 ∧
      (net5.modLn fun l => { l with filled := 0xFFFF }).lnFilled (((net5.modLn fun l => { l with filled := 0xFFFF })).ln.granted).get! = true) :=
  ⟨by decide, by decide +kernel, by decide, by decide⟩

/-- LineAbortAndRelease: states and operands that meet the hypotheses of its clauses, one line group per clause. -/
theorem met_LineAbortAndRelease :
    (-- lineTxAbort
      net2.serves (.p0 : PortId) 48 = true ∧ 0 < 16 ∧ net2.lnOwner 0 = net2.acting (.p0 : PortId) ∧
      (net2.g F.LA_TXQ_STATE 0 = 1 ∨ net2.g F.LA_TXQ_STATE 0 = 2)) ∧
    (-- lineTxAbort
      (withF [(F.LA_TXQ_STATE, 0, 3)] net2).serves (.p0 : PortId) 48 = true ∧ 0 < 16 ∧
      (withF [(F.LA_TXQ_STATE, 0, 3)] net2).lnOwner 0 = (withF [(F.LA_TXQ_STATE, 0, 3)] net2).acting (.p0 : PortId) ∧
      (withF [(F.LA_TXQ_STATE, 0, 3)] net2).g F.LA_TXQ_STATE 0 = 3) ∧
    (-- lineRxRelease
      net6.serves (.p0 : PortId) 48 = true ∧ 1 < 2 ∧ (vget net6.ln.bufs 1).full = true ∧ (vget net6.ln.bufs 1).seen = true ∧
      (vget net6.ln.bufs 1).tenant = net6.acting (.p0 : PortId)) :=
  ⟨by decide, by decide, by decide⟩

end W07

namespace W08

def net2 : State := match exec (.lineTxSubmit .p0 1 wreq) net with | .next t => t.modLn (fun l => { l with filled := 3, h0 := 0 }) | _ => net
def own : LineFrame := { own := true, entry := 0, header := 0x40905010402a#48, h := 1, k := 93, map0 := cmap, map1 := cmap, cmap0 := cmap, cmap1 := cmap, payload := List.replicate 280 true, phases := 7, started := true }
def net3 := (withF [(F.LA_TXQ_STATE, 0, 3), (F.LA_TXQ_ATTEMPTS, 0, 1), (F.LA_TXQ_CLASS, 0, 1), (F.LA_TXQ_DST, 0, 9), (F.LA_TXQ_LEN, 0, 1)] net).modLn fun l => { l with frame := some own }
def fra := { own with header := 0x409050104224#48 }
def net3a := (withF [(F.LA_STAT_TEC, 0, 7)] net3).modLn fun l => { l with frame := some fra }
def hd : BitVec 48 := 0x405090100ee0#48
def rx := withF [(F.LA_STAT_REC, 0, 4)] net
def fr2 : LineFrame := { own := false, header := hd, h := 0, k := 56, done := 0, cmap0 := cmap, cmap1 := cmap, phases := 7, copies := 1, started := true }
def rx2 := rx.modLn fun l => { l with frame := some fr2 }
def sec := clearSection 0 [0xABCDEF]
def rx3 := rx.modLn fun l => { l with frame := some { fr2 with done := 56, acked := true } }
def rp := withF [(F.LA_CFG_ROLE, 0, 2)] net
def mr := withF [(F.LA_CFG_ROLE, 0, 1), (F.LA_CFG_DOM_TIERS, 0, 1)] net
def bw : Word := BitVec.ofNat 128 (0x1234 * 2^112 + 0 * 2^80 + 100 * 2^64)
def bh : BitVec 48 := 0x4ff030200c90#48
def bx := rx.modLn fun l => { l with frame := some { own := false, header := bh, h := 0, k := 56, done := 0, cmap0 := cmap, cmap1 := cmap, phases := 7, copies := 1, started := true } }
def bsec := clearSection 1 [bw]

set_option maxRecDepth 100000 in
/-- ContentionOriginAndAcknowledgementHalfCycles: states and operands that meet the hypotheses of its clauses, one line group per clause. -/
theorem met_ContentionOriginAndAcknowledgementHalfCycles :
    (-- lineContend
      (net2.modLn fun l => {l with backoff := 3}).lnMaySend = true ∧ (net2.modLn fun l => {l with backoff := 3}).ln.frame = none ∧
      (((net2.modLn fun l => {l with backoff := 3}).toHalf).modLn (fun l => { l with idleSeen := true, unknown := false })).lnContender (((net2.modLn fun l => {l with backoff := 3})).toHalf).hcIndex = some (.req 0) ∧
      (net2.modLn fun l => {l with backoff := 3}).b F.LA_TXQ_SECURE 0 = false ∧
      (net2.modLn fun l => {l with backoff := 3}).b F.LA_TXQ_MAPSEL 0 = false ∧ 0 < 16 ∧
      (net2.modLn fun l => {l with backoff := 3}).ln.backoff ≠ 0) ∧
    (-- lineContend
      net2.lnMaySend = true ∧ net2.ln.frame = none ∧
      (net2.toHalf.modLn (fun l => { l with idleSeen := true, unknown := false })).lnContender net2.toHalf.hcIndex = some (.req 0) ∧
      net2.b F.LA_TXQ_SECURE 0 = false ∧ net2.b F.LA_TXQ_MAPSEL 0 = false ∧ 0 < 16 ∧ net2.ln.backoff = 0 ∧
      (((some 1) : Option (Fin 4))).isSome = true ∧ ((some 1) : Option (Fin 4)).get!.val < 3 - net2.g F.LA_TXQ_CLASS 0) ∧
    (-- lineContend
      net2.lnMaySend = true ∧ net2.ln.frame = none ∧
      (net2.toHalf.modLn (fun l => { l with idleSeen := true, unknown := false })).lnContender net2.toHalf.hcIndex = some (.req 0) ∧
      net2.b F.LA_TXQ_SECURE 0 = false ∧ net2.b F.LA_TXQ_MAPSEL 0 = false ∧ 0 < 16 ∧ net2.ln.backoff = 0 ∧ (none : Option (Fin 4)) = none) ∧
    (-- lineOriginHalfCycle
      net3.ln.frame.isSome = true ∧ net3.ln.frame.get!.own = true ∧ net3.ln.frame.get!.done < net3.ln.frame.get!.k ∧
      (net3.toHalfIndex (net3.ln.frame.get!.h + net3.ln.frame.get!.done * (hdrTiers net3.ln.frame.get!.header + 1))).hcIndex = net3.ln.frame.get!.h + net3.ln.frame.get!.done * (hdrTiers net3.ln.frame.get!.header + 1)) ∧
    (-- lineAckTx
      rx3.ln.frame.isSome = true ∧ rx3.ln.frame.get!.own = false ∧ rx3.ln.frame.get!.acked = true ∧
      (rx3.toHalfIndex rx3.ln.frame.get!.ackAt).hcIndex = rx3.ln.frame.get!.ackAt) :=
  ⟨by decide, by decide, by decide, by decide, by decide⟩

set_option maxRecDepth 100000 in
/-- AttemptsEndByTheirAcknowledgement: states and operands that meet the hypotheses of its clauses, one line group per clause. -/
theorem met_AttemptsEndByTheirAcknowledgement :
    (-- lineAttemptEnd
      net3a.ln.frame.isSome = true ∧ net3a.ln.frame.get!.own = true ∧ net3a.ln.frame.get!.dev = none ∧
      net3a.lnLive net3a.ln.frame.get!.entry = true ∧ net3a.ln.frame.get!.entry < 16 ∧ net3a.ln.frame.get!.muted = false ∧
      net3a.g F.LA_STAT_TEC 0 < 88 ∧ net3a.g F.LA_STAT_REC 0 < 96 ∧ net3a.lnConf = 0 ∧ hdrAckreq net3a.ln.frame.get!.header = true ∧
      ((some (BitVec.ofNat 9 (ackBits 0 0))) : Option (BitVec 9)).bind (ackCode (hdrSeq net3a.ln.frame.get!.header)) = some 0) ∧
    (-- lineAttemptEnd
      net3.ln.frame.isSome = true ∧ net3.ln.frame.get!.own = true ∧ net3.ln.frame.get!.dev = none ∧
      net3.lnLive net3.ln.frame.get!.entry = true ∧ net3.ln.frame.get!.entry < 16 ∧ net3.ln.frame.get!.muted = false ∧
      net3.g F.LA_STAT_TEC 0 < 88 ∧ net3.g F.LA_STAT_REC 0 < 96 ∧ net3.lnConf = 0 ∧ hdrAckreq net3.ln.frame.get!.header = false) ∧
    (-- lineAttemptEnd
      net3a.ln.frame.isSome = true ∧ net3a.ln.frame.get!.own = true ∧ net3a.ln.frame.get!.dev = none ∧
      net3a.lnLive net3a.ln.frame.get!.entry = true ∧ net3a.ln.frame.get!.entry < 16 ∧ net3a.ln.frame.get!.muted = false ∧
      net3a.g F.LA_STAT_TEC 0 < 88 ∧ net3a.g F.LA_STAT_REC 0 < 96 ∧ net3a.lnConf = 0 ∧ hdrAckreq net3a.ln.frame.get!.header = true ∧
      (none : Option (BitVec 9)) = none ∧ net3a.g F.LA_TXQ_ATTEMPTS net3a.ln.frame.get!.entry < net3a.lac F.LA_CFG_RETRY_MAX ∧
      net3a.g F.LA_TENANT_BKT_MAX (net3a.lnOwner net3a.ln.frame.get!.entry) = 0) :=
  ⟨by decide, by decide, by decide⟩

set_option maxRecDepth 100000 in
/-- HeadersAndFramesAreReceived: states and operands that meet the hypotheses of its clauses, one line group per clause. -/
theorem met_HeadersAndFramesAreReceived :
    (-- lineHeaderRx
      rx.lnHears = true ∧ rx.ln.frame = none ∧ rx.g F.LA_STAT_TEC 0 < 96 ∧ rx.g F.LA_STAT_REC 0 < 95 ∧ rx.lnConf = 0 ∧
      hdrCrcOk ((hd + 1) : BitVec 48) = false) ∧
    (-- lineHeaderRx
      rx.lnHears = true ∧ rx.ln.frame = none ∧ rx.g F.LA_STAT_TEC 0 < 96 ∧ rx.g F.LA_STAT_REC 0 < 95 ∧ rx.lnConf = 0 ∧
      hdrCrcOk ((mkHeader (domTag 0x1235) 5 9 0 1 0 false 0 3 true false) : BitVec 48) = true ∧
      hdrTag ((mkHeader (domTag 0x1235) 5 9 0 1 0 false 0 3 true false) : BitVec 48) ≠ domTag (rx.lac F.LA_CFG_DOMAIN_ID)) ∧
    (-- lineHeaderRx
      rx.lnHears = true ∧ rx.ln.frame = none ∧ rx.g F.LA_STAT_TEC 0 < 96 ∧ rx.g F.LA_STAT_REC 0 < 95 ∧ rx.lnConf = 0 ∧
      hdrCrcOk (hd : BitVec 48) = true ∧ hdrTag (hd : BitVec 48) = domTag (rx.lac F.LA_CFG_DOMAIN_ID) ∧ hdrIllegal (hd : BitVec 48) = false) ∧
    (-- lineFrameRx
      rx2.lnDue.isSome = true ∧ rx2.enabled (hdrTenant rx2.lnDue.get!.header) = true ∧ hdrSecure rx2.lnDue.get!.header = false ∧
      rx2.lnHostGone = false ∧ sectionOk rx2.lnDue.get!.header (sec : List Bool) = true ∧ sectionType (sec : List Bool) = 0 ∧
      rx2.lnBuffer.isSome = true ∧ rx2.lnBuffer.get! < 2 ∧
      (rx2.toHalfIndex rx2.lnDue.get!.ackAt).lnDup (rx2.nbrOf (hdrSrc rx2.lnDue.get!.header)) (hdrSeq rx2.lnDue.get!.header) = false) ∧
    (-- lineFrameRx
      rx2.lnDue.isSome = true ∧ rx2.enabled (hdrTenant rx2.lnDue.get!.header) = true ∧ hdrSecure rx2.lnDue.get!.header = false ∧
      rx2.lnHostGone = false ∧ sectionOk rx2.lnDue.get!.header ((sec.map not) : List Bool) = false) :=
  ⟨by decide, by decide, by decide, by decide, by decide⟩

set_option maxRecDepth 100000 in
/-- RepeatersAndBeacons: states and operands that meet the hypotheses of its clauses, one line group per clause. -/
theorem met_RepeatersAndBeacons :
    (-- lineRelayCopy
      rp.lnHears = true ∧ rp.lac F.LA_CFG_ROLE = 2 ∧ rp.lac F.LA_CFG_TIER ≤ 1 ∧ rp.ln.frame = none ∧
      ([(3, 4), (5, 1)] : List (Fin 16 × Fin 8)) ≠ []) ∧
    (-- beaconQueue
      mr.lnHears = true ∧ mr.isMaster = true ∧ mr.lnAlarmOnly = false) ∧
    (-- beaconQueue
      net.isMaster = false) ∧
    (-- beaconRx
      (bx.lnInternal 1 (bsec : List Bool)).isSome = true ∧
      ((bx.lnInternal 1 (bsec : List Bool)).get!.2.headD 0).bits 112 16 = bx.lac F.LA_CFG_DOMAIN_ID ∧ bx.isMaster = false ∧
      (bx.gy.master = 0 ∨ bx.gy.master = hdrSrc (bx.lnInternal 1 (bsec : List Bool)).get!.1.header) ∧
      ((bx.lnInternal 1 (bsec : List Bool)).get!.2.headD 0).bits 52 1 = 0) :=
  ⟨by decide, by decide, by decide, by decide⟩

end W08

namespace W09

def mu := withF [(F.LA_STAT_CONF, 0, 3)] { net with tick := 61 * secTicks }
def mr := withF [(F.LA_CFG_ROLE, 0, 1), (F.LA_CFG_DOM_TIERS, 0, 1)] net
def cw (c : Nat) : Word := BitVec.ofNat 128 (0x1234 * 2^112 + c / 2 * 2^80 + c % 2 * 2^79)
def bh : BitVec 48 := 0x4ff030200c90#48
def bf : LineFrame := { own := false, header := bh, h := 0, k := 56, done := 0, cmap0 := cmap, cmap1 := cmap, phases := 7, copies := 1, started := true }
def bx := net.modLn fun l => { l with frame := some bf }
def pe := (withF [(F.LA_DORM_DSTATE, 0, 1)] bx).modLn fun l => { l with commit := some 301 }
def wt := withF [(F.LA_DORM_DSTATE, 0, 2)] net
def le := withF [(F.LL_MAPS_OBS, 2, 3000)] net
def rdy := withF [(F.LL_MAPS_LSTATE, 2, 1), (F.LL_CFG_AUTO, 0, 0), (F.LL_MAPS_PVER, 2, 255)] (net.wr 0x1F 1 5)
def apw := F.LL_MAPS_APPROVE.into 1 (F.LL_MAPS_APPROVE_VER.into 255 0)
def ow := net.modLl fun l => { l with own := some (1, 2, false), actCycle := 3 }
def mh : BitVec 48 := 0x4ff030208c19#48
def mx := (withF [(F.LA_NBR_ADDR, 4, 3)] net).modLn fun l => { l with frame := some { bf with header := mh } }
def mw : Word := BitVec.ofNat 128 (0x1234 * 2^112 + mx.setsCrc * 2^96 + 0 * 2^64 + 9 * 2^56)

/-- MutedStationsResumeAndGetCredits: states and operands that meet the hypotheses of its clauses, one line group per clause. -/
theorem met_MutedStationsResumeAndGetCredits :
    (-- resume
      mu.ownerRow (.p0 : PortId) .line (0 : Byte) (true : Bool) = true ∧ mu.isOn .line = true ∧ mu.lnConf = 3 ∧
      mu.ln.mutedAt + 60 * secTicks ≤ mu.tick + 31) ∧
    (-- resume
      (mu.modLn fun l => {l with mutedAt := 61*secTicks}).ownerRow (.p0 : PortId) .line (0 : Byte) (true : Bool) = true ∧
      (mu.modLn fun l => {l with mutedAt := 61*secTicks}).isOn .line = true ∧
      (mu.modLn fun l => {l with mutedAt := 61*secTicks}).lnConf = 3 ∧
      (mu.modLn fun l => {l with mutedAt := 61*secTicks}).tick + 31 < (mu.modLn fun l => {l with mutedAt := 61*secTicks}).ln.mutedAt + 60 * secTicks) ∧
    (-- alarmCredit
      mu.lnConf = 3 ∧ 0 < mu.lac F.LA_CFG_ALARM_CREDIT ∧ mu.ln.mutedAt ≤ mu.tick) :=
  ⟨by decide, by decide, by decide⟩

set_option maxRecDepth 100000 in
/-- DormancyIsProposedBegunAndEnded: states and operands that meet the hypotheses of its clauses, one line group per clause. -/
theorem met_DormancyIsProposedBegunAndEnded :
    (-- dormant
      mr.ownerRow (.p0 : PortId) .line (0 : Byte) (true : Bool) = true ∧ mr.isOn .line = true ∧ mr.isMaster = true ∧
      13 ≤ (13 : Byte).toNat ∧ mr.ln.commit = none ∧ mr.lnDorm ≠ 2 ∧
      mr.ln.cancelled ≠ some ((mr.commanding (.p0 : PortId) .line (0 : Byte)).hcIndex + 16 * (13 : Byte).toNat)) ∧
    (-- dormantProposeRx
      (bx.lnInternal 3 ((clearSection 3 [cw 301]) : List Bool)).isSome = true ∧
      ((bx.lnInternal 3 ((clearSection 3 [cw 301]) : List Bool)).get!.2.headD 0).bits 112 16 = bx.lac F.LA_CFG_DOMAIN_ID ∧
      bx.ln.cancelled ≠ some (commitOf ((bx.lnInternal 3 ((clearSection 3 [cw 301]) : List Bool)).get!.2.headD 0)) ∧ bx.ln.commit = none ∧
      bx.lnDorm ≠ 2) ∧
    (-- cancelRx
      (pe.lnInternal 4 ((clearSection 4 [cw 301]) : List Bool)).isSome = true ∧
      ((pe.lnInternal 4 ((clearSection 4 [cw 301]) : List Bool)).get!.2.headD 0).bits 112 16 = pe.lac F.LA_CFG_DOMAIN_ID ∧
      pe.hcIndex < commitOf ((pe.lnInternal 4 ((clearSection 4 [cw 301]) : List Bool)).get!.2.headD 0) ∧
      pe.ln.commit = some (commitOf ((pe.lnInternal 4 ((clearSection 4 [cw 301]) : List Bool)).get!.2.headD 0)) ∧ pe.lnDorm = 1) ∧
    (-- dormantCommit
      pe.ln.commit.isSome = true ∧ pe.ln.commit.get! ≤ (pe.toHalfIndex pe.ln.commit.get!).hcIndex ∧ pe.lnDorm = 1 ∧
      pe.ln.queue.any (fun f => f.ftype == 4) = false ∧ pe.ln.wakeLeft = 0) ∧
    (-- wakeDetect
      8 ≤ 8 ∧ wt.isOn .line = true ∧ wt.lnDorm = 2) ∧
    (-- wakeDetect
      7 < 8) :=
  ⟨by decide, by decide, by decide, by decide, by decide, by decide⟩

/-- LearnerBecomesReadyAndProposes: states and operands that meet the hypotheses of its clauses, one line group per clause. -/
theorem met_LearnerBecomesReadyAndProposes :
    (-- learnReady
      le.llState = 0 ∧ 3000 ≤ le.g F.LL_MAPS_OBS 2) ∧
    (-- learnReady
      (withF [(F.LL_MAPS_OBS, 2, 2999)] net).g F.LL_MAPS_OBS 2 < 3000) ∧
    (-- proposal
      rdy.isOn .line = true ∧ rdy.llState = 1 ∧ rdy.ll.shed = false ∧ rdy.b F.LL_CFG_AUTO 0 = false) ∧
    (-- proposal
      net.llState ≠ 1) :=
  ⟨by decide, by decide, by decide, by decide⟩

set_option maxRecDepth 100000 in
/-- OwnAndNeighbourMapsArePublishedAndTakeEffect: states and operands that meet the hypotheses of its clauses, one line group per clause. -/
theorem met_OwnAndNeighbourMapsArePublishedAndTakeEffect :
    (-- llApprove
      rdy.serves (.p0 : PortId) 48 = true ∧ rdy.acting (.p0 : PortId) = 0 ∧ F.LL_MAPS_APPROVE.of (apw : Word) = 1 ∧
      F.LL_MAPS_APPROVE_VER.of (apw : Word) = rdy.g F.LL_MAPS_PVER 2 ∧ rdy.b F.LL_CFG_AUTO 0 = false ∧ rdy.llState ≠ 0 ∧
      (rdy.rd 0x1F 0, rdy.rd 0x1F 1) ≠ rdy.ownMap) ∧
    (-- ownMapCommit
      rdy.serves (.p0 : PortId) 48 = true ∧ rdy.acting (.p0 : PortId) = 0 ∧ rdy.mapWordOk false (0 : Word) = true ∧
      rdy.b F.LL_CFG_AUTO 0 = false ∧ rdy.llState ≠ 0) ∧
    (-- llClear
      le.serves (.p0 : PortId) 48 = true ∧ le.acting (.p0 : PortId) = 0 ∧ 2 ≤ le.g F.LL_CFG_ALPHA_SH 0 ∧ le.g F.LL_CFG_ALPHA_SH 0 ≤ 12 ∧
      le.g F.LL_CFG_PUB_GAP 0 ≠ 0 ∧ le.g F.LL_CFG_REPEAT 0 ≠ 0 ∧ le.g F.LL_CFG_REPEAT 0 < le.g F.LL_CFG_MAP_TTL 0 ∧
      3 ≤ le.g F.LL_CFG_IMP_DB 0 ∧ le.g F.LL_CFG_IMP_LO 0 ≤ le.g F.LL_CFG_IMP_HI 0 ∧ le.g F.LL_CFG_THR_R6 0 ≤ le.g F.LL_CFG_THR_R4 0 ∧
      le.g F.LL_CFG_THR_R4 0 ≤ le.g F.LL_CFG_THR_F4 0 ∧ le.g F.LL_CFG_THR_F4 0 ≤ le.g F.LL_CFG_THR_F8 0 ∧
      le.g F.LL_CFG_THR_F8 0 ≤ le.g F.LL_CFG_THR_F16 0 ∧ le.g F.LL_CFG_THR_F16 0 ≤ le.g F.LL_CFG_THR_T8 0) ∧
    (-- ownMapApply
      ow.ll.own = some (ow.ll.own.get!.1, ow.ll.own.get!.2.1, ow.ll.own.get!.2.2) ∧ ow.ln.frame = none) ∧
    (-- mapRepeat
      net.isOn .line = true ∧ net.ll.firstMap = false ∧ net.ll.repeatIn = 0 ∧ net.ln.queue.any (fun f => f.ftype == 2) = false) ∧
    (-- nbrMap
      (mx.lnInternal 2 ((clearSection 2 [mw, 7, 8]) : List Bool)).isSome = true ∧
      ((mx.lnInternal 2 ((clearSection 2 [mw, 7, 8]) : List Bool)).get!.2.getD 0 0).bits 112 16 = mx.lac F.LA_CFG_DOMAIN_ID ∧
      ((mx.lnInternal 2 ((clearSection 2 [mw, 7, 8]) : List Bool)).get!.2.getD 0 0).bits 96 16 = mx.setsCrc ∧
      (mx.nbrOf (hdrSrc (mx.lnInternal 2 ((clearSection 2 [mw, 7, 8]) : List Bool)).get!.1.header)).isSome = true ∧
      (mx.nbrOf (hdrSrc (mx.lnInternal 2 ((clearSection 2 [mw, 7, 8]) : List Bool)).get!.1.header)).get! < 32 ∧
      stampLater (((mx.lnInternal 2 ((clearSection 2 [mw, 7, 8]) : List Bool)).get!.2.getD 0 0).bits 64 32 * 65536) mx.stamp48 = false) ∧
    (-- nbrMapStale
      (withF [(F.LL_NBR_NSTATE, nbrEnt 4, 1), (F.LL_NBR_AGE, nbrEnt 4, 65)] net).g F.LL_CFG_MAP_TTL 0 < (withF [(F.LL_NBR_NSTATE, nbrEnt 4, 1), (F.LL_NBR_AGE, nbrEnt 4, 65)] net).g F.LL_NBR_AGE (nbrEnt 4) ∧
      (withF [(F.LL_NBR_NSTATE, nbrEnt 4, 1), (F.LL_NBR_AGE, nbrEnt 4, 65)] net).g F.LL_NBR_NSTATE (nbrEnt 4) = 1) :=
  ⟨by decide, by decide, by decide, by decide, by decide, by decide +kernel, by decide⟩

end W09

namespace W10

def jw : Word := [(F.CJ_Q_OP, 5), (F.CJ_Q_COUNT, 4), (F.CJ_Q_ADDR_A, 0x600), (F.CJ_Q_ADDR_Y, 0x610), (F.CJ_Q_ADDR_P, 0x620), (F.CJ_Q_TAG, 0x5A)].foldl (fun w x => x.1.into x.2 w) 0
def cs := (withF [(F.CJ_PAGE_ASSIGNED, 0, 1)] on).changeMirror .cald (fun m => {m with sub := 0})
def cs1 := nx (.cjSubmit .p0 1 jw) cs
def cs2 := nx (.cjAbort .p0 1 0) cs1
def cs3 := nx .cjJobDone cs1
def cs4 := nx (.cjSubmit .p0 1 jw) cs1
def cs5 := nx .cjJobDone cs4
def cs5b := { cs5 with cells := (withF [(F.CJ_PAGE_ASSIGNED, 0, 0)] cs5).cells }
def pw0 : Word := (F.CJ_PAGE_TENANT.into 3 (F.CJ_PAGE_ASSIGNED.into 1 0))
def hoff := cs1.changeMirror .cald (fun m => {m with sub := 4})
def wt := (withF [(F.CJ_TENANT_WEIGHT, 0, 1)] cs1).modCj fun x => { x with deficit := vset x.deficit 0 10 }
def bc := (withF [(F.CJ_TENANT_HC_BUDGET, 0, 1)] cs1).modCj fun x => { x with hcUsed := vset x.hcUsed 0 250}
def rw0 := withF [(F.ASCHED_VALID, 58, 1), (F.ASCHED_START, 58, 100), (F.ASCHED_LEN, 58, 50)] cs
def rw1 := nx (.hostReservationWindow 2 true) rw0
def rw2 := withF [(F.CLAIMS_HELD, 0x2A, 1), (F.CLAIMS_HOLDER, 0x2A, 0xE)] (rw1.modCjob 0 fun x => {x with left := 100000000})
def rw3 := ((rw2.wr 0x21 0 (F.CJ_Q_RSV.into 2 (F.CJ_Q_BOUND.into 1 jw))).modCj fun x => {x with running := some 0, order := [0]}).p F.CJ_QSTAT_STATE 0 2
def cs6 := nx .cjPreempt wt

/-- CalderaHostCommandsMoveJobsAndPages: states and operands that meet the hypotheses of its clauses, one line group per clause. -/
theorem met_CalderaHostCommandsMoveJobsAndPages :
    (-- cjSubmit
      cs1.serves (.p0 : PortId) 48 = true ∧ cs1.cjFreeEntry.get! < 8 ∧ cs1.cjJudge (cs1.acting (.p0 : PortId)) (jw : Word) = .ok ∧
      cs1.cjFreeEntry.isSome = true ∧ cs1.cj.running.isSome = true ∧ cs1.cj.running.get! ≠ cs1.cjFreeEntry.get!) ∧
    (-- cjSubmit
      cs.serves (.p0 : PortId) 48 = true ∧ cs.cjFreeEntry.get! < 8 ∧ cs.cjJudge (cs.acting (.p0 : PortId)) (jw : Word) = .ok ∧
      cs.cjFreeEntry.isSome = true ∧ cs.cjIdle = true ∧ cs.cj.order = [] ∧ F.CJ_Q_BOUND.of (jw : Word) = 0 ∧
      vget cs.cj.capped (cs.acting (.p0 : PortId)) = false) ∧
    (-- cjSubmit
      cs1.serves (.p0 : PortId) 48 = true ∧ 0 < 8 ∧ (cs1.cjJudge (cs1.acting (.p0 : PortId)) (0 : Word)) ≠ .ok) ∧
    (-- cjAbort
      cs4.serves (.p0 : PortId) 48 = true ∧ 1 < 8 ∧ (cs4.cjob 1).tenant = cs4.acting (.p0 : PortId) ∧
      (cs4.g F.CJ_QSTAT_STATE 1 = 1 ∨ cs4.g F.CJ_QSTAT_STATE 1 = 3)) ∧
    (-- cjAbort
      cs1.serves (.p0 : PortId) 48 = true ∧ 0 < 8 ∧ (cs1.cjob 0).tenant = cs1.acting (.p0 : PortId) ∧ cs1.g F.CJ_QSTAT_STATE 0 = 2) ∧
    (-- cjRelease
      cs3.serves (.p0 : PortId) 48 = true ∧ 0 < 8 ∧ (cs3.cjob 0).tenant = cs3.acting (.p0 : PortId) ∧ cs3.g F.CJ_QSTAT_STATE 0 = 4) ∧
    (-- cjPageCommit
      cs.serves (.p0 : PortId) 48 = true ∧ 0 < 8 ∧ cs.acting (.p0 : PortId) = 0 ∧ 0 < 40 ∧ cs.merged 0x24 0 (pw0 : Word) ≠ cs.rd 0x24 0 ∧
      (cs.b F.CJ_PAGE_ASSIGNED 0 = false ∨ cs.cjNaming (cs.g F.CJ_PAGE_TENANT 0) 0 = [])) ∧
    (-- cjPageCommit
      cs1.serves (.p0 : PortId) 48 = true ∧ (cs1.cjNaming (cs1.g F.CJ_PAGE_TENANT 0) 0).head! < 8 ∧ cs1.acting (.p0 : PortId) = 0 ∧ 0 < 40 ∧
      cs1.merged 0x24 0 (pw0 : Word) ≠ cs1.rd 0x24 0 ∧ cs1.b F.CJ_PAGE_ASSIGNED 0 = true ∧
      cs1.cjNaming (cs1.g F.CJ_PAGE_TENANT 0) 0 = [(cs1.cjNaming (cs1.g F.CJ_PAGE_TENANT 0) 0).head!]) :=
  ⟨by decide, by decide, by decide, by decide, by decide, by decide, by decide, by decide⟩

/-- CalderaEngineServesHostJobs: states and operands that meet the hypotheses of its clauses, one line group per clause. -/
theorem met_CalderaEngineServesHostJobs :
    (-- cjJobChoose
      0 < 8 ∧ cs1.cjIdle = false) ∧
    (-- cjJobChoose
      cs5.cj.order.head! < 8 ∧ cs5.cjIdle = true ∧ cs5.cj.order = [cs5.cj.order.head!] ∧ cs5.g F.CJ_QSTAT_STATE cs5.cj.order.head! ≠ 2 ∧
      cs5.cjUnbound cs5.cj.order.head! = true ∧ vget cs5.cj.capped (cs5.cjob cs5.cj.order.head!).tenant = false ∧
      (cs5.cjob cs5.cj.order.head!).phase = 0 ∧ cs5.cjAllowed cs5.cj.order.head! = true) ∧
    (-- cjJobChoose
      cs5b.cj.order.head! < 8 ∧ cs5b.cjIdle = true ∧ cs5b.cj.order = [cs5b.cj.order.head!] ∧
      cs5b.g F.CJ_QSTAT_STATE cs5b.cj.order.head! ≠ 2 ∧ cs5b.cjUnbound cs5b.cj.order.head! = true ∧
      vget cs5b.cj.capped (cs5b.cjob cs5b.cj.order.head!).tenant = false ∧ (cs5b.cjob cs5b.cj.order.head!).phase = 0 ∧
      cs5b.cjAllowed cs5b.cj.order.head! = false) ∧
    (-- cjJobChoose
      cs6.cj.order.head! < 8 ∧ cs6.cjIdle = true ∧ cs6.cj.order = [cs6.cj.order.head!] ∧ cs6.g F.CJ_QSTAT_STATE cs6.cj.order.head! ≠ 2 ∧
      cs6.cjUnbound cs6.cj.order.head! = true ∧ vget cs6.cj.capped (cs6.cjob cs6.cj.order.head!).tenant = false ∧
      (cs6.cjob cs6.cj.order.head!).phase ≠ 0) ∧
    (-- cjJobDone
      cs1.cj.running.get! < 8 ∧ cs1.cj.running.isSome = true ∧ cs1.cj.capNew = none ∧ (cs1.cjob cs1.cj.running.get!).abort = false ∧
      (cs1.cjob cs1.cj.running.get!).left ≤ cs1.cjAllow cs1.cj.running.get! ∧ (cs1.cjob cs1.cj.running.get!).phase ≠ 2 ∧ cs1.cj.bad = []) ∧
    (-- cjJobDone
      (((nx .cjJobChoose cs5b)).cj.running).get! < 8 ∧ (nx .cjJobChoose cs5b).cj.running = some (((nx .cjJobChoose cs5b)).cj.running).get! ∧
      (nx .cjJobChoose cs5b).cj.capNew = none ∧ (((nx .cjJobChoose cs5b)).cjob (((nx .cjJobChoose cs5b)).cj.running).get!).abort = false ∧
      (((nx .cjJobChoose cs5b)).cjob (((nx .cjJobChoose cs5b)).cj.running).get!).left ≤ (nx .cjJobChoose cs5b).cjAllow (((nx .cjJobChoose cs5b)).cj.running).get! ∧
      (((nx .cjJobChoose cs5b)).cjob (((nx .cjJobChoose cs5b)).cj.running).get!).phase = 2) ∧
    (-- cjJobDone
      cs2.cj.running.get! < 8 ∧ cs2.cj.running.isSome = true ∧ cs2.cj.capNew = none ∧ (cs2.cjob cs2.cj.running.get!).abort = true) ∧
    (-- cjPreempt
      hoff.cj.running.get! < 8 ∧ hoff.cj.running.isSome = true ∧ hoff.cj.capNew = none ∧ (hoff.cjob hoff.cj.running.get!).abort = false ∧
      (hoff.cjHostOff = true ∨ hoff.cj.kernels ≠ [])) ∧
    (-- cjPreempt
      wt.cj.running.get! < 8 ∧ wt.cj.running.isSome = true ∧ wt.cj.capNew = none ∧ (wt.cjob wt.cj.running.get!).abort = false ∧
      wt.cjHostOff = false ∧ wt.cj.kernels = [] ∧ (wt.cjd wt.cj.running.get!).bound = false ∧
      (∀ i ∈ wt.cj.order, wt.cjBoundReady i = false) ∧ wt.g F.CJ_TENANT_WEIGHT (wt.cjob wt.cj.running.get!).tenant ≠ 0 ∧
      (vget wt.cj.deficit (wt.cjob wt.cj.running.get!).tenant).toNat < (wt.cjob wt.cj.running.get!).left) ∧
    (-- cjBudgetCap
      bc.cj.running.get! < 8 ∧ bc.cj.running.isSome = true ∧ bc.cj.capNew = none ∧ (bc.cjob bc.cj.running.get!).abort = false ∧
      ((bc.cjob bc.cj.running.get!).tenant) < 64 ∧ (bc.g F.CJ_TENANT_HC_BUDGET ((bc.cjob bc.cj.running.get!).tenant) * 256) ≠ 0 ∧
      bc.cjBoundReady bc.cj.running.get! = false ∧ (bc.cjob bc.cj.running.get!).phase ≠ 2 ∧
      (bc.g F.CJ_TENANT_HC_BUDGET ((bc.cjob bc.cj.running.get!).tenant) * 256) - vget bc.cj.hcUsed ((bc.cjob bc.cj.running.get!).tenant) ≤ (bc.cjob bc.cj.running.get!).left) ∧
    (-- hostReservationWindow
      0 < 8 ∧ cs.b F.ASCHED_VALID (56 + 2) = false) ∧
    (-- hostReservationWindow
      0 < 8 ∧ rw0.b F.ASCHED_VALID (56 + 2) = true ∧ rw0.g F.ASCHED_PERIOD (56 + 2) = 0 ∧ rw0.cj.running = none) ∧
    (-- hostReservationWindow
      (((rw3.modCjob 0 fun x => {x with start := rw3.tick})).cj.running).get! < 8 ∧
      (rw3.modCjob 0 fun x => {x with start := rw3.tick}).b F.ASCHED_VALID (56 + 2) = true ∧
      (rw3.modCjob 0 fun x => {x with start := rw3.tick}).g F.ASCHED_PERIOD (56 + 2) = 0 ∧
      (rw3.modCjob 0 fun x => {x with start := rw3.tick}).cj.running = some (((rw3.modCjob 0 fun x => {x with start := rw3.tick})).cj.running).get! ∧
      (false : Bool) = false ∧
      (((rw3.modCjob 0 fun x => {x with start := rw3.tick})).cjd (((rw3.modCjob 0 fun x => {x with start := rw3.tick})).cj.running).get!).bound = true ∧
      (((rw3.modCjob 0 fun x => {x with start := rw3.tick})).cjd (((rw3.modCjob 0 fun x => {x with start := rw3.tick})).cj.running).get!).rsv = 2 ∧
      (((rw3.modCjob 0 fun x => {x with start := rw3.tick})).cjob (((rw3.modCjob 0 fun x => {x with start := rw3.tick})).cj.running).get!).phase ≠ 2 ∧
      (((rw3.modCjob 0 fun x => {x with start := rw3.tick})).cjob (((rw3.modCjob 0 fun x => {x with start := rw3.tick})).cj.running).get!).abort = false ∧
      (rw3.modCjob 0 fun x => {x with start := rw3.tick}).cj.capNew = none ∧
      (if bitOf (rw3.modCjob 0 fun x => {x with start := rw3.tick}).cj.openMask 2 = (false : Bool) then (rw3.modCjob 0 fun x => {x with start := rw3.tick}) else (rw3.modCjob 0 fun x => {x with start := rw3.tick}).advanceFrac (((rw3.modCjob 0 fun x => {x with start := rw3.tick})).fracTo (((rw3.modCjob 0 fun x => {x with start := rw3.tick})).g F.ASCHED_START (56 + 2) + (if (false : Bool) then 0 else (rw3.modCjob 0 fun x => {x with start := rw3.tick}).g F.ASCHED_LEN (56 + 2))) 32768)).cjElapsed (((rw3.modCjob 0 fun x => {x with start := rw3.tick})).cj.running).get! = false) :=
  ⟨by decide, by decide, by decide, by decide, by decide, by decide, by decide, by decide, by decide, by decide, by
   decide, by decide, by decide⟩

end W10

namespace W11

def k0 := (unitsIn .on [.sens, .opt1] (withF [(F.ASCHED_VALID, 3, 1), (F.ASCHED_KIND, 3, 1), (F.ASCHED_START, 3, 300), (F.ASCHED_LEN, 3, 100), (F.ASCHED_VALID, 38, 1), (F.ASCHED_KIND, 38, 1), (F.ASCHED_START, 38, 30), (F.ASCHED_LEN, 38, 9), (F.ASCHED_VALID, 39, 1), (F.ASCHED_KIND, 39, 1), (F.ASCHED_START, 39, 33), (F.ASCHED_LEN, 39, 100),(F.ASCHED_VALID, 36, 1), (F.ASCHED_KIND, 36, 1), (F.ASCHED_START, 36, 33), (F.ASCHED_LEN, 36, 100),(F.ASCHED_VALID, 23, 1), (F.ASCHED_KIND, 23, 1), (F.ASCHED_START, 23, 33), (F.ASCHED_LEN, 23, 100)] on)).changeMirror .cald (fun m => {m with sub := 0})
def k1 := nx (.kernelWindowOpen 3) k0
def k2 := nx (.kernelWindowOpen 38) k0
def k3 := nx (.kernelWindowOpen 39) k0
def kk := k0.changeMirror .cald (fun m => {m with sub := 2})
def k4 := k0.modCj fun x => {x with kernels := [{row := 7, kern := 2, idx := 36, left := 9}]}
def k5 := (k0.modCj fun x => {x with running := some 2, order := [2]}).modCjob 2 fun x => {x with left := 10000000, phase := 1}
def k6 := (withF [(F.CJ_CFG_SCRUB, 0, 1)] k0)
def k7 := k6.modCj fun x => {x with scrubAt := 4095, bad := [4095]}
def k8 := (withF [(F.ASCHED_VALID, 40, 1), (F.ASCHED_KIND, 40, 1), (F.ASCHED_START, 40, 33), (F.ASCHED_LEN, 40, 9)] k0).modSf fun x => {x with check := some 1}
def k9 := nx (.kernelWindowOpen 40) k8

set_option maxRecDepth 100000 in
/-- KernelWindowsAndMemoryErrors: states and operands that meet the hypotheses of its clauses, one line group per clause. -/
theorem met_KernelWindowsAndMemoryErrors :
    (-- kernelWindowOpen
      k0.isOn .cald = true ∧ k0.kernWin 3 = true ∧ k0.cj.kernels = [] ∧ k0.cj.running = none ∧
      ((kernRow 3).2 = 5 → k0.sf.check.isSome = true) ∧ (k0.cjKonly = true → (kernRow 3).2 = 1 ∨ (kernRow 3).2 = 4) ∧ (kernRow 3).2 ≠ 4) ∧
    (-- kernelWindowOpen
      k0.isOn .cald = true ∧ k0.kernWin 39 = true ∧ k0.cj.kernels = [] ∧ k0.cj.running = none ∧
      ((kernRow 39).2 = 5 → k0.sf.check.isSome = true) ∧ (k0.cjKonly = true → (kernRow 39).2 = 1 ∨ (kernRow 39).2 = 4) ∧ (kernRow 39).2 = 4) ∧
    (-- kernelWindowOpen
      k5.isOn .cald = true ∧ k5.kernWin 3 = true ∧ (kernRow 3).2 = 1 ∧ k5.cj.kernels = [] ∧ k5.cj.running.isSome = true ∧
      k5.cj.running.get! < 8 ∧ (k5.cjob k5.cj.running.get!).abort = false ∧ k5.cj.capNew = none ∧
      (k5.toMark (k5.winMark 3 false).1 (k5.winMark 3 false).2).cjElapsed k5.cj.running.get! = false) ∧
    (-- kernelWindowOpen
      kk.isOn .cald = true ∧ kk.kernWin 23 = true ∧ kk.cj.kernels = [] ∧ kk.cjKonly = true ∧ ((kernRow 23).2 = 2 ∨ (kernRow 23).2 = 3) ∧
      (kernRow 23).2 = 2) ∧
    (-- kernelWindowOpen
      kk.isOn .cald = true ∧ kk.kernWin 38 = true ∧ kk.cj.kernels = [] ∧ kk.cjKonly = true ∧ ((kernRow 38).2 = 2 ∨ (kernRow 38).2 = 3) ∧
      (kernRow 38).2 = 3) ∧
    (-- kernelWindowEnd
      k4.kernWin 36 = true ∧ k4.cj.kernels = [k4.cj.kernels.head!] ∧ k4.cj.kernels.head!.idx = 36 ∧ k4.cj.kernels.head!.late = false ∧
      ((k4.cj.kernels.head!.row = 6 ∧ k4.cj.kernels.head!.begun = false) ∨ k4.cj.kernels.head!.row = 7)) ∧
    (-- kernelWindowEnd
      k1.kernWin 3 = true ∧ k1.cj.kernels = [k1.cj.kernels.head!] ∧ k1.cj.kernels.head!.idx = 3 ∧ k1.cj.kernels.head!.late = false ∧
      (¬((k1.cj.kernels.head!.row = 6 ∧ k1.cj.kernels.head!.begun = false) ∨ k1.cj.kernels.head!.row = 7))) ∧
    (-- kernelDone
      k1.cj.kernels = [k1.cj.kernels.head!] ∧ (k1.cj.kernels.head!.row = 6 → ({} : KernelData).samples = [])) ∧
    (-- kernelDone
      ({k2 with units := vmod k2.units Src.opt2.idx (fun (m : Mirror) => {m with sub := 16})}).cj.kernels = [(({k2 with units := vmod k2.units Src.opt2.idx (fun (m : Mirror) => {m with sub := 16})}).cj.kernels).head!] ∧
      ((({k2 with units := vmod k2.units Src.opt2.idx (fun (m : Mirror) => {m with sub := 16})}).cj.kernels).head!.row = 6 → ({i := -300} : KernelData).samples = []) ∧
      ({k2 with units := vmod k2.units Src.opt2.idx (fun (m : Mirror) => {m with sub := 16})}).kernWin (({k2 with units := vmod k2.units Src.opt2.idx (fun (m : Mirror) => {m with sub := 16})}).cj.kernels).head!.idx = true ∧
      (({k2 with units := vmod k2.units Src.opt2.idx (fun (m : Mirror) => {m with sub := 16})}).cj.kernels).head!.row ≠ 6 ∧
      (({k2 with units := vmod k2.units Src.opt2.idx (fun (m : Mirror) => {m with sub := 16})}).cj.kernels).head!.kern = 3 ∧
      (({k2 with units := vmod k2.units Src.opt2.idx (fun (m : Mirror) => {m with sub := 16})}).op ((({k2 with units := vmod k2.units Src.opt2.idx (fun (m : Mirror) => {m with sub := 16})}).cj.kernels).head!.idx - 37)).rxCal = false ∧
      ({k2 with units := vmod k2.units Src.opt2.idx (fun (m : Mirror) => {m with sub := 16})}).opBit ((({k2 with units := vmod k2.units Src.opt2.idx (fun (m : Mirror) => {m with sub := 16})}).cj.kernels).head!.idx - 37) 4 = true ∧
      (({k2 with units := vmod k2.units Src.opt2.idx (fun (m : Mirror) => {m with sub := 16})}).cj.kernels).head!.idx < 39) ∧
    (-- kernelDone
      k3.cj.kernels = [k3.cj.kernels.head!] ∧ (k3.cj.kernels.head!.row = 6 → ({} : KernelData).samples = []) ∧
      k3.kernWin k3.cj.kernels.head!.idx = true ∧ k3.cj.kernels.head!.row ≠ 6 ∧ k3.cj.kernels.head!.kern = 4) ∧
    (-- kernelDone
      k9.cj.kernels = [k9.cj.kernels.head!] ∧ (k9.cj.kernels.head!.row = 6 → ({} : KernelData).samples = []) ∧
      k9.kernWin k9.cj.kernels.head!.idx = true ∧ k9.cj.kernels.head!.row ≠ 6 ∧ k9.cj.kernels.head!.kern = 5 ∧ k9.sf.check.isSome = true) ∧
    (-- ecc
      (k0.modCj fun x => {x with eccRaised := true}).cj.eccRaised = true) ∧
    (-- ecc
      k0.cj.eccRaised = false) ∧
    (-- ecc
      (5000 % 4096) < 0x600 ∧ k0.st .cald ≠ .fault) ∧
    (-- ecc
      0x600 ≤ (3000 % 4096)) ∧
    (-- scrub
      (0) = (0) % 4096 ∧ k6.isOn .cald = true ∧ k6.b F.CJ_CFG_SCRUB 0 = true ∧ k6.cj.running = none ∧ k6.cj.kernels = [] ∧
      k6.cj.scrubAt ∉ k6.cj.bad) ∧
    (-- scrub
      (4095) = (4095) % 4096 ∧ k7.isOn .cald = true ∧ k7.b F.CJ_CFG_SCRUB 0 = true ∧ k7.cj.running = none ∧ k7.cj.kernels = [] ∧
      k7.cj.scrubAt ∈ k7.cj.bad) ∧
    (-- scrub
      (0) = (0) % 4096 ∧ (withF [(F.CJ_CFG_SCRUB, 0, 0)] k0).b F.CJ_CFG_SCRUB 0 = false) :=
  ⟨by decide, by decide, by decide, by decide, by decide, by decide, by decide, by decide, by decide, by decide, by
   decide, by decide, by decide, by decide, by decide, by decide, by decide, by decide⟩

end W11

namespace W12

def o0 := withF [(F.OB_CFG_PROV_OPEN, 0, 1)] (unitsIn .on [.obs, .rng, .sinter] ready)
def o1 := ((o0.wr 0x2A 0 0x000102030405060708090a0b0c0d0e0f).wr 0x2A 1 0x55).modPw fun x => {x with level := 0}
def o2 := nx (.obLoad .p0 1 6 0xFF false 0) o1
def o3 := (withF [(F.OB_SLOT_USAGE, 0, 0xFF)] o2).modOb fun x => {x with keys := x.keys ++ [{slot := 0, key := (List.range 16).map (BitVec.ofNat 8)}]}
def o4 := { o3 with units := vmod o3.units Src.rng.idx (fun (m : Mirror) => {m with sub := 1}) }
def o5 := o3.modOb fun x => {x with cmds := [{slot := 9, cmd := 2, key := [1,2,3], klen := 0, usage := 5}]}
def o6 := (withF [(F.OB_Q_STATE, 5, 2)] o3).modOb fun x => {x with ready := [5]}
def n0 := o1.modPort .p0 fun q => {q with ctx := 1}
def n1 := withF [(F.TENANTS_ENABLE, 1, 1)] n0
def bz := withF [(F.OB_Q_STATE, 5, 3), (F.OB_Q_SLOT, 5, 6)] o2

/-- SlotCommandsChangeTheSlotOrAreRefused: states and operands that meet the hypotheses of its clauses, one line group per clause. -/
theorem met_SlotCommandsChangeTheSlotOrAreRefused :
    (-- c
      n1.serves (.p0) 48 = true ∧ (0) < 3 ∧ (0) < 512 ∧
      ((4), (.obErase .p0 1 6)) ∈ [(1, Instr.obLoad (.p0) (1) (6) (0) (false) (0)), (2, .obUnwrap (.p0) (1) (6) (0) (false) (0) (0)), (3, .obGenerate (.p0) (1) (6) (0) (false) (0)), (4, .obErase (.p0) (1) (6)), (5, .obRestrict (.p0) (1) (6) (0))] ∧
      n1.acting (.p0) ≠ 0) ∧
    (-- c
      o2.serves (.p0) 48 = true ∧ (0) < 3 ∧ (0) < 512 ∧
      ((4), (.obErase .p0 1 256)) ∈ [(1, Instr.obLoad (.p0) (1) (256) (0) (false) (0)), (2, .obUnwrap (.p0) (1) (256) (0) (false) (0) (0)), (3, .obGenerate (.p0) (1) (256) (0) (false) (0)), (4, .obErase (.p0) (1) (256)), (5, .obRestrict (.p0) (1) (256) (0))] ∧
      o2.acting (.p0) = 0 ∧ (256) < 272 ∧
      o2.slotJudge 0 (256) (if (4) = 4 then slotWord 4 0 false 0 0 else if (4) = 5 then slotWord 5 (0) false 0 0 else slotWord (4) (0) (false) (0) (if (4) = 2 then (0) else 0)) = (Oc.param) ∧
      (Oc.param) ≠ .ok) ∧
    (-- c
      o1.serves (.p0) 48 = true ∧ (2) < 3 ∧ (0) < 512 ∧
      ((1), (.obLoad .p0 1 7 0x1F true 2)) ∈ [(1, Instr.obLoad (.p0) (1) (7) (0x1F) (true) (2)), (2, .obUnwrap (.p0) (1) (7) (0x1F) (true) (2) (0)), (3, .obGenerate (.p0) (1) (7) (0x1F) (true) (2)), (4, .obErase (.p0) (1) (7)), (5, .obRestrict (.p0) (1) (7) (0x1F))] ∧
      o1.acting (.p0) = 0 ∧ (7) < 272 ∧
      o1.slotJudge 0 (7) (if (1) = 4 then slotWord 4 0 false 0 0 else if (1) = 5 then slotWord 5 (0x1F) false 0 0 else slotWord (1) (0x1F) (true) (2) (if (1) = 2 then (0) else 0)) = .ok ∧
      ((o1.b F.OB_SLOT_PERSIST (7)) = true ∨ (1) = 2 ∨ (1) = 3 ∨ ((1) = 1 ∧ (true) = true))) ∧
    (-- c
      bz.serves (.p0) 48 = true ∧ (0) < 3 ∧ (0) < 512 ∧
      ((4), (.obErase .p0 1 6)) ∈ [(1, Instr.obLoad (.p0) (1) (6) (0) (false) (0)), (2, .obUnwrap (.p0) (1) (6) (0) (false) (0) (0)), (3, .obGenerate (.p0) (1) (6) (0) (false) (0)), (4, .obErase (.p0) (1) (6)), (5, .obRestrict (.p0) (1) (6) (0))] ∧
      bz.acting (.p0) = 0 ∧ (6) < 272 ∧
      bz.slotJudge 0 (6) (if (4) = 4 then slotWord 4 0 false 0 0 else if (4) = 5 then slotWord 5 (0) false 0 0 else slotWord (4) (0) (false) (0) (if (4) = 2 then (0) else 0)) = .ok ∧
      (bz.b F.OB_SLOT_PERSIST (6)) = false ∧ bz.slotBusy (6) = true ∧ ((4) = 4 ∨ (4) = 5 ∨ ((4) = 1 ∧ (false) = false))) ∧
    (-- c
      o2.serves (.p0) 48 = true ∧ (0) < 3 ∧ (0) < 512 ∧
      ((4), (.obErase .p0 1 6)) ∈ [(1, Instr.obLoad (.p0) (1) (6) (0) (false) (0)), (2, .obUnwrap (.p0) (1) (6) (0) (false) (0) (0)), (3, .obGenerate (.p0) (1) (6) (0) (false) (0)), (4, .obErase (.p0) (1) (6)), (5, .obRestrict (.p0) (1) (6) (0))] ∧
      o2.acting (.p0) = 0 ∧ (6) < 272 ∧
      o2.slotJudge 0 (6) (if (4) = 4 then slotWord 4 0 false 0 0 else if (4) = 5 then slotWord 5 (0) false 0 0 else slotWord (4) (0) (false) (0) (if (4) = 2 then (0) else 0)) = .ok ∧
      (o2.b F.OB_SLOT_PERSIST (6)) = false ∧ o2.slotBusy (6) = false ∧ ((4) = 4 ∨ (4) = 5 ∨ ((4) = 1 ∧ (false) = false)) ∧
      o2.isOn .obs = true) ∧
    (-- c
      o2.serves (.p0) 48 = true ∧ (0) < 3 ∧ (0) < 512 ∧
      ((5), (.obRestrict .p0 1 6 0x31)) ∈ [(1, Instr.obLoad (.p0) (1) (6) (0x31) (false) (0)), (2, .obUnwrap (.p0) (1) (6) (0x31) (false) (0) (0)), (3, .obGenerate (.p0) (1) (6) (0x31) (false) (0)), (4, .obErase (.p0) (1) (6)), (5, .obRestrict (.p0) (1) (6) (0x31))] ∧
      o2.acting (.p0) = 0 ∧ (6) < 272 ∧
      o2.slotJudge 0 (6) (if (5) = 4 then slotWord 4 0 false 0 0 else if (5) = 5 then slotWord 5 (0x31) false 0 0 else slotWord (5) (0x31) (false) (0) (if (5) = 2 then (0) else 0)) = .ok ∧
      (o2.b F.OB_SLOT_PERSIST (6)) = false ∧ o2.slotBusy (6) = false ∧ ((5) = 4 ∨ (5) = 5 ∨ ((5) = 1 ∧ (false) = false)) ∧
      o2.isOn .obs = true) ∧
    (-- c
      o1.serves (.p0) 48 = true ∧ (0) < 3 ∧ (0) < 512 ∧
      ((1), (.obLoad .p0 1 6 0x1F false 0)) ∈ [(1, Instr.obLoad (.p0) (1) (6) (0x1F) (false) (0)), (2, .obUnwrap (.p0) (1) (6) (0x1F) (false) (0) (0)), (3, .obGenerate (.p0) (1) (6) (0x1F) (false) (0)), (4, .obErase (.p0) (1) (6)), (5, .obRestrict (.p0) (1) (6) (0x1F))] ∧
      o1.acting (.p0) = 0 ∧ (6) < 272 ∧
      o1.slotJudge 0 (6) (if (1) = 4 then slotWord 4 0 false 0 0 else if (1) = 5 then slotWord 5 (0x1F) false 0 0 else slotWord (1) (0x1F) (false) (0) (if (1) = 2 then (0) else 0)) = .ok ∧
      (o1.b F.OB_SLOT_PERSIST (6)) = false ∧ o1.slotBusy (6) = false ∧ ((1) = 4 ∨ (1) = 5 ∨ ((1) = 1 ∧ (false) = false)) ∧
      o1.isOn .obs = true) ∧
    (-- slotCmdDone
      (o3.modOb fun x => {x with cmds := [{slot := 9, cmd := 4}]}).ob.cmds = [(((o3.modOb fun x => {x with cmds := [{slot := 9, cmd := 4}]})).ob.cmds).head!] ∧
      (((o3.modOb fun x => {x with cmds := [{slot := 9, cmd := 4}]})).ob.cmds).head!.slot < 272 ∧
      (((o3.modOb fun x => {x with cmds := [{slot := 9, cmd := 4}]})).ob.cmds).head!.engine = false ∧
      (((o3.modOb fun x => {x with cmds := [{slot := 9, cmd := 4}]})).ob.cmds).head!.store = false ∧
      (((o3.modOb fun x => {x with cmds := [{slot := 9, cmd := 4}]})).ob.cmds).head!.quiet = false ∧
      (((o3.modOb fun x => {x with cmds := [{slot := 9, cmd := 4}]})).ob.cmds).head!.result = 0 ∧
      (o3.modOb fun x => {x with cmds := [{slot := 9, cmd := 4}]}).isOn .obs = true ∧
      (((o3.modOb fun x => {x with cmds := [{slot := 9, cmd := 4}]})).ob.cmds).head!.cmd = 4) ∧
    (-- slotCmdDone
      (o3.modOb fun x => {x with cmds := [{slot := 9, cmd := 5, usage := 5}]}).ob.cmds = [(((o3.modOb fun x => {x with cmds := [{slot := 9, cmd := 5, usage := 5}]})).ob.cmds).head!] ∧
      (((o3.modOb fun x => {x with cmds := [{slot := 9, cmd := 5, usage := 5}]})).ob.cmds).head!.slot < 272 ∧
      (((o3.modOb fun x => {x with cmds := [{slot := 9, cmd := 5, usage := 5}]})).ob.cmds).head!.engine = false ∧
      (((o3.modOb fun x => {x with cmds := [{slot := 9, cmd := 5, usage := 5}]})).ob.cmds).head!.store = false ∧
      (((o3.modOb fun x => {x with cmds := [{slot := 9, cmd := 5, usage := 5}]})).ob.cmds).head!.quiet = false ∧
      (((o3.modOb fun x => {x with cmds := [{slot := 9, cmd := 5, usage := 5}]})).ob.cmds).head!.result = 0 ∧
      (o3.modOb fun x => {x with cmds := [{slot := 9, cmd := 5, usage := 5}]}).isOn .obs = true ∧
      (((o3.modOb fun x => {x with cmds := [{slot := 9, cmd := 5, usage := 5}]})).ob.cmds).head!.cmd = 5) ∧
    (-- slotCmdDone
      o5.ob.cmds = [o5.ob.cmds.head!] ∧ o5.ob.cmds.head!.slot < 272 ∧ o5.ob.cmds.head!.engine = false ∧ o5.ob.cmds.head!.store = false ∧
      o5.ob.cmds.head!.quiet = false ∧ o5.ob.cmds.head!.result = 0 ∧ o5.isOn .obs = true ∧
      (1 ≤ o5.ob.cmds.head!.cmd ∧ o5.ob.cmds.head!.cmd ≤ 3)) ∧
    (-- slotCmdDone
      (o3.modOb fun x => {x with cmds := [{slot := 9, cmd := 2, result := Oc.badFrame.code}]}).ob.cmds = [(((o3.modOb fun x => {x with cmds := [{slot := 9, cmd := 2, result := Oc.badFrame.code}]})).ob.cmds).head!] ∧
      (((o3.modOb fun x => {x with cmds := [{slot := 9, cmd := 2, result := Oc.badFrame.code}]})).ob.cmds).head!.slot < 272 ∧
      (((o3.modOb fun x => {x with cmds := [{slot := 9, cmd := 2, result := Oc.badFrame.code}]})).ob.cmds).head!.engine = false ∧
      (((o3.modOb fun x => {x with cmds := [{slot := 9, cmd := 2, result := Oc.badFrame.code}]})).ob.cmds).head!.store = false ∧
      (((o3.modOb fun x => {x with cmds := [{slot := 9, cmd := 2, result := Oc.badFrame.code}]})).ob.cmds).head!.quiet = false ∧
      (((o3.modOb fun x => {x with cmds := [{slot := 9, cmd := 2, result := Oc.badFrame.code}]})).ob.cmds).head!.result = Oc.badFrame.code) :=
  ⟨by decide, by decide, by decide, by decide, by decide, by decide, by decide, by decide, by decide, by decide, by
   decide⟩

/-- CipherAndRngUnitCommands: states and operands that meet the hypotheses of its clauses, one line group per clause. -/
theorem met_CipherAndRngUnitCommands :
    (-- provClose
      o3.ownerRow (.p0 : PortId) .obs (0 : Byte) (true : Bool) = true ∧ o3.isOn .obs = true ∧ o3.b F.OB_CFG_PROV_OPEN 0 = true ∧
      o3.snAccepts = true) ∧
    (-- zeroize
      o6.ownerRow (.p0 : PortId) .obs (0 : Byte) (true : Bool) = true ∧ o6.snAccepts = true) ∧
    (-- zeroize
      o6.ownerRow (.p0 : PortId) .obs (0 : Byte) (true : Bool) = true ∧ (0xA4 : Byte) ≠ 0xA5) ∧
    (-- reseed
      o4.ownerRow (.p0 : PortId) .rng (0 : Byte) (true : Bool) = true ∧ o4.rngReady = true ∧ o4.rng.blocks.length < 3) :=
  ⟨by decide, by decide, by decide, by decide⟩

end W12

namespace W13

def o0 := (withF [(F.OB_CFG_PROV_OPEN, 0, 1), (F.OB_SLOT_USAGE, 1, 0xFF)] (unitsIn .on [.obs, .rng, .sinter] ready)).modOb fun x => {x with keys := [{slot := 1, key := (List.range 16).map (BitVec.ofNat 8)}]}
def jw : Word := [(F.OB_Q_MODE, 1), (F.OB_Q_SLOT, 1), (F.OB_Q_LEN, 16), (F.OB_Q_TAG, 0x99)].foldl (fun w x => x.1.into x.2 w) 0
def o1 := (nx (.obPlace .p0 2 jw) o0).wr 0x2C 2 0x00112233445566778899aabbccddeeff
def o2 := nx (.obGo .p0 2 4) o1
def o2b := (nx (.obPlace .p0 2 (F.OB_Q_LEN.into 48 jw)) o0).modOb fun x => {x with ready := [4]}
def o2c := (nx .obJobChoose o2b).modOb fun x => {x with ready := [0]}
def o4 := nx (.obJobDone 0) o2
def o5 := (withF [(F.OB_Q_MODE, 4, 6), (F.OB_Q_DIR, 4, 1), (F.OB_Q_LEN, 4, 24)] o2)
def xi : Inline := {mode := 1, slot := 1, msg := (List.range 16).map (BitVec.ofNat 8)}

set_option maxRecDepth 100000 in
/-- CipherJobsArePlacedStartedAbortedAndReleased: states and operands that meet the hypotheses of its clauses, one line group per clause. -/
theorem met_CipherJobsArePlacedStartedAbortedAndReleased :
    (-- obPlace
      o0.serves (.p0 : PortId) 48 = true ∧ 4 ≤ o0.obFreeEntry.get! ∧ o0.obFreeEntry.get! < 16 ∧
      o0.obPlaceJudge (o0.acting (.p0 : PortId)) (jw : Word) = .ok ∧ o0.obFreeEntry.isSome = true) ∧
    (-- obPlace
      o0.serves (.p0 : PortId) 48 = true ∧ 4 ≤ (4) ∧ (4) < 16 ∧ (o0.obPlaceJudge (o0.acting (.p0 : PortId)) (0 : Word)) ≠ .ok) ∧
    (-- obGo
      (o1.modOb fun x => {x with running := some 5}).serves (.p0 : PortId) 48 = true ∧ 4 ≤ 4 ∧ 4 < 16 ∧
      vget (o1.modOb fun x => {x with running := some 5}).ob.owner 4 = (o1.modOb fun x => {x with running := some 5}).acting (.p0 : PortId) ∧
      (o1.modOb fun x => {x with running := some 5}).g F.OB_Q_STATE 4 = 1 ∧
      (o1.modOb fun x => {x with running := some 5}).isOn .obs = true ∧
      ((o1.modOb fun x => {x with running := some 5}).ob.running ≠ none ∨ (o1.modOb fun x => {x with running := some 5}).ob.ready ≠ [])) ∧
    (-- obGo
      o1.serves (.p0 : PortId) 48 = true ∧ 4 ≤ 4 ∧ 4 < 16 ∧ vget o1.ob.owner 4 = o1.acting (.p0 : PortId) ∧ o1.g F.OB_Q_STATE 4 = 1 ∧
      o1.isOn .obs = true ∧ o1.ob.running = none ∧ o1.ob.held = none ∧ o1.ob.ready = [] ∧ o1.hostHold = false) ∧
    (-- obAbort
      o1.serves (.p0 : PortId) 48 = true ∧ 4 ≤ 4 ∧ 4 < 16 ∧ vget o1.ob.owner 4 = o1.acting (.p0 : PortId) ∧
      (o1.g F.OB_Q_STATE 4 = 1 ∨ o1.g F.OB_Q_STATE 4 = 2 ∨ o1.g F.OB_Q_STATE 4 = 4)) ∧
    (-- obAbort
      o2.serves (.p0 : PortId) 48 = true ∧ 4 ≤ 4 ∧ 4 < 16 ∧ vget o2.ob.owner 4 = o2.acting (.p0 : PortId) ∧ o2.g F.OB_Q_STATE 4 = 3) ∧
    (-- obRelease
      o4.serves (.p0 : PortId) 48 = true ∧ 4 ≤ 4 ∧ 4 < 16 ∧ vget o4.ob.owner 4 = o4.acting (.p0 : PortId) ∧ o4.g F.OB_Q_STATE 4 = 5) :=
  ⟨by decide, by decide, by decide, by decide, by decide, by decide, by decide⟩

set_option maxRecDepth 100000 in
/-- CipherEngineServesJobs: states and operands that meet the hypotheses of its clauses, one line group per clause. -/
theorem met_CipherEngineServesJobs :
    (-- obJobChoose
      (nx .obPreempt o2c).isOn .obs = true ∧ (nx .obPreempt o2c).ob.running = none ∧ 0 ∈ (nx .obPreempt o2c).ob.ready) ∧
    (-- obJobChoose
      o2b.isOn .obs = true ∧ 4 ≤ o2b.ob.ready.head! ∧ o2b.ob.ready.head! < 16 ∧ o2b.ob.running = none ∧ o2b.ob.held = none ∧
      o2b.ob.ready = [o2b.ob.ready.head!] ∧ o2b.hostHold = false ∧
      (slotNamable (vget o2b.ob.owner o2b.ob.ready.head!) (o2b.g F.OB_Q_SLOT o2b.ob.ready.head!) && o2b.slotAllows (o2b.g F.OB_Q_SLOT o2b.ob.ready.head!) (8 + opUsage (o2b.g F.OB_Q_MODE o2b.ob.ready.head!) (o2b.g F.OB_Q_DIR o2b.ob.ready.head!))) = true) ∧
    (-- obJobChoose
      ({ o2b with cells := (withF [(F.OB_SLOT_USAGE, 1, 0xF0)] o2b).cells }).isOn .obs = true ∧
      4 ≤ (({ o2b with cells := (withF [(F.OB_SLOT_USAGE, 1, 0xF0)] o2b).cells }).ob.ready).head! ∧
      (({ o2b with cells := (withF [(F.OB_SLOT_USAGE, 1, 0xF0)] o2b).cells }).ob.ready).head! < 16 ∧
      ({ o2b with cells := (withF [(F.OB_SLOT_USAGE, 1, 0xF0)] o2b).cells }).ob.running = none ∧
      ({ o2b with cells := (withF [(F.OB_SLOT_USAGE, 1, 0xF0)] o2b).cells }).ob.held = none ∧
      ({ o2b with cells := (withF [(F.OB_SLOT_USAGE, 1, 0xF0)] o2b).cells }).ob.ready = [(({ o2b with cells := (withF [(F.OB_SLOT_USAGE, 1, 0xF0)] o2b).cells }).ob.ready).head!] ∧
      ({ o2b with cells := (withF [(F.OB_SLOT_USAGE, 1, 0xF0)] o2b).cells }).hostHold = false ∧
      (slotNamable (vget ({ o2b with cells := (withF [(F.OB_SLOT_USAGE, 1, 0xF0)] o2b).cells }).ob.owner (({ o2b with cells := (withF [(F.OB_SLOT_USAGE, 1, 0xF0)] o2b).cells }).ob.ready).head!) (({ o2b with cells := (withF [(F.OB_SLOT_USAGE, 1, 0xF0)] o2b).cells }).g F.OB_Q_SLOT (({ o2b with cells := (withF [(F.OB_SLOT_USAGE, 1, 0xF0)] o2b).cells }).ob.ready).head!) && ({ o2b with cells := (withF [(F.OB_SLOT_USAGE, 1, 0xF0)] o2b).cells }).slotAllows (({ o2b with cells := (withF [(F.OB_SLOT_USAGE, 1, 0xF0)] o2b).cells }).g F.OB_Q_SLOT (({ o2b with cells := (withF [(F.OB_SLOT_USAGE, 1, 0xF0)] o2b).cells }).ob.ready).head!) (8 + opUsage (({ o2b with cells := (withF [(F.OB_SLOT_USAGE, 1, 0xF0)] o2b).cells }).g F.OB_Q_MODE (({ o2b with cells := (withF [(F.OB_SLOT_USAGE, 1, 0xF0)] o2b).cells }).ob.ready).head!) (({ o2b with cells := (withF [(F.OB_SLOT_USAGE, 1, 0xF0)] o2b).cells }).g F.OB_Q_DIR (({ o2b with cells := (withF [(F.OB_SLOT_USAGE, 1, 0xF0)] o2b).cells }).ob.ready).head!))) = false) ∧
    (-- obJobChoose
      (o2b.changeMirror .obs fun m => {m with sub := 2}).isOn .obs = true ∧
      (o2b.changeMirror .obs fun m => {m with sub := 2}).ob.running = none ∧
      (o2b.changeMirror .obs fun m => {m with sub := 2}).hostHold = true ∧
      (∀ i ∈ (o2b.changeMirror .obs fun m => {m with sub := 2}).ob.ready, 4 ≤ i)) ∧
    (-- obInlineJob
      (withF [(F.OB_SLOT_USAGE, 1, 0xF0)] o0).isOn .obs = true ∧ (withF [(F.OB_SLOT_USAGE, 1, 0xF0)] o0).ob.running = none ∧
      (withF [(F.OB_SLOT_USAGE, 1, 0xF0)] o0).ob.held = none ∧ (withF [(F.OB_SLOT_USAGE, 1, 0xF0)] o0).ob.ready = [] ∧
      (withF [(F.OB_SLOT_USAGE, 1, 0xF0)] o0).slotAllows (xi : Inline).slot (inlineBit 1 + opUsage (xi : Inline).mode (xi : Inline).dir) = false) ∧
    (-- obInlineJob
      o0.isOn .obs = true ∧ o0.ob.running = none ∧ o0.ob.held = none ∧ o0.ob.ready = [] ∧
      o0.slotAllows (xi : Inline).slot (inlineBit 1 + opUsage (xi : Inline).mode (xi : Inline).dir) = true) ∧
    (-- obPreempt
      o2c.isOn .obs = true ∧ o2c.ob.running.isSome = true ∧ 4 ≤ o2c.ob.running.get! ∧ o2c.ob.running.get! < 16 ∧
      (o2c.hostHold = true ∨ 0 ∈ o2c.ob.ready) ∧ (o2c.obBoundary o2c.ob.running.get!).isSome = true) ∧
    (-- obJobDone
      o2.isOn .obs = true ∧ o2.ob.running.isSome = true ∧ 4 ≤ o2.ob.running.get! ∧ o2.ob.running.get! < 16 ∧ o2.ob.cmds = [] ∧
      o2.enabled (vget o2.ob.owner o2.ob.running.get!) = true ∧ (o2.job o2.ob.running.get!).abort = false ∧
      (o2.job o2.ob.running.get!).phase ≠ 2 ∧ (o2.obCompute o2.ob.running.get!).isSome = true) ∧
    (-- obJobDone
      (withF [(F.OB_Q_MODE, 4, 3)] o2).isOn .obs = true ∧
      (withF [(F.OB_Q_MODE, 4, 3)] o2).ob.running = some (((withF [(F.OB_Q_MODE, 4, 3)] o2)).ob.running).get! ∧
      4 ≤ (((withF [(F.OB_Q_MODE, 4, 3)] o2)).ob.running).get! ∧ (((withF [(F.OB_Q_MODE, 4, 3)] o2)).ob.running).get! < 16 ∧
      (withF [(F.OB_Q_MODE, 4, 3)] o2).ob.cmds = [] ∧
      (withF [(F.OB_Q_MODE, 4, 3)] o2).enabled (vget (withF [(F.OB_Q_MODE, 4, 3)] o2).ob.owner (((withF [(F.OB_Q_MODE, 4, 3)] o2)).ob.running).get!) = true ∧
      (((withF [(F.OB_Q_MODE, 4, 3)] o2)).job (((withF [(F.OB_Q_MODE, 4, 3)] o2)).ob.running).get!).abort = false ∧
      (((withF [(F.OB_Q_MODE, 4, 3)] o2)).job (((withF [(F.OB_Q_MODE, 4, 3)] o2)).ob.running).get!).phase ≠ 2 ∧
      (withF [(F.OB_Q_MODE, 4, 3)] o2).obCompute (((withF [(F.OB_Q_MODE, 4, 3)] o2)).ob.running).get! = some (((withF [(F.OB_Q_MODE, 4, 3)] o2)).obCompute (((withF [(F.OB_Q_MODE, 4, 3)] o2)).ob.running).get!).get! ∧
      ((withF [(F.OB_Q_MODE, 4, 3)] o2).g F.OB_Q_MODE (((withF [(F.OB_Q_MODE, 4, 3)] o2)).ob.running).get! ∈ [3, 4] ∨ (((withF [(F.OB_Q_MODE, 4, 3)] o2)).g F.OB_Q_MODE (((withF [(F.OB_Q_MODE, 4, 3)] o2)).ob.running).get! = 5 ∧ (withF [(F.OB_Q_MODE, 4, 3)] o2).g F.OB_Q_DIR (((withF [(F.OB_Q_MODE, 4, 3)] o2)).ob.running).get! = 0))) ∧
    (-- obJobDone
      o5.isOn .obs = true ∧ o5.ob.running.isSome = true ∧ 4 ≤ o5.ob.running.get! ∧ o5.ob.running.get! < 16 ∧ o5.ob.cmds = [] ∧
      o5.enabled (vget o5.ob.owner o5.ob.running.get!) = true ∧ (o5.job o5.ob.running.get!).abort = false ∧
      (o5.job o5.ob.running.get!).phase ≠ 2 ∧ o5.obCompute o5.ob.running.get! = none) ∧
    (-- obJobDone
      (nx .obJobChoose { o2b with cells := (withF [(F.OB_SLOT_USAGE, 1, 0xF0)] o2b).cells }).isOn .obs = true ∧
      (nx .obJobChoose { o2b with cells := (withF [(F.OB_SLOT_USAGE, 1, 0xF0)] o2b).cells }).ob.running = some (((nx .obJobChoose { o2b with cells := (withF [(F.OB_SLOT_USAGE, 1, 0xF0)] o2b).cells })).ob.running).get! ∧
      4 ≤ (((nx .obJobChoose { o2b with cells := (withF [(F.OB_SLOT_USAGE, 1, 0xF0)] o2b).cells })).ob.running).get! ∧
      (((nx .obJobChoose { o2b with cells := (withF [(F.OB_SLOT_USAGE, 1, 0xF0)] o2b).cells })).ob.running).get! < 16 ∧
      (nx .obJobChoose { o2b with cells := (withF [(F.OB_SLOT_USAGE, 1, 0xF0)] o2b).cells }).ob.cmds = [] ∧
      (nx .obJobChoose { o2b with cells := (withF [(F.OB_SLOT_USAGE, 1, 0xF0)] o2b).cells }).enabled (vget (nx .obJobChoose { o2b with cells := (withF [(F.OB_SLOT_USAGE, 1, 0xF0)] o2b).cells }).ob.owner (((nx .obJobChoose { o2b with cells := (withF [(F.OB_SLOT_USAGE, 1, 0xF0)] o2b).cells })).ob.running).get!) = true ∧
      (((nx .obJobChoose { o2b with cells := (withF [(F.OB_SLOT_USAGE, 1, 0xF0)] o2b).cells })).job (((nx .obJobChoose { o2b with cells := (withF [(F.OB_SLOT_USAGE, 1, 0xF0)] o2b).cells })).ob.running).get!).abort = false ∧
      (((nx .obJobChoose { o2b with cells := (withF [(F.OB_SLOT_USAGE, 1, 0xF0)] o2b).cells })).job (((nx .obJobChoose { o2b with cells := (withF [(F.OB_SLOT_USAGE, 1, 0xF0)] o2b).cells })).ob.running).get!).phase = 2) ∧
    (-- obJobDone
      o2.isOn .obs = true ∧ o2.ob.running.isSome = true ∧ 4 ≤ o2.ob.running.get! ∧ o2.ob.running.get! < 16 ∧ o2.ob.cmds = [] ∧
      o2.enabled (vget o2.ob.owner o2.ob.running.get!) = true ∧ (2 : Fin 4) ≠ 0 ∧ (o2.job o2.ob.running.get!).abort = false ∧
      (o2.job o2.ob.running.get!).phase ≠ 2) ∧
    (-- obJobDone
      (nx (.obInlineJob 1 xi) o0).isOn .obs = true ∧
      (nx (.obInlineJob 1 xi) o0).ob.running = some (((nx (.obInlineJob 1 xi) o0)).ob.running).get! ∧
      (((nx (.obInlineJob 1 xi) o0)).ob.running).get! < 4 ∧ (nx (.obInlineJob 1 xi) o0).ob.cmds = [] ∧
      (((nx (.obInlineJob 1 xi) o0)).job (((nx (.obInlineJob 1 xi) o0)).ob.running).get!).abort = false ∧
      (((nx (.obInlineJob 1 xi) o0)).job (((nx (.obInlineJob 1 xi) o0)).ob.running).get!).phase ≠ 2) :=
  ⟨by decide, by decide, by decide, by decide, by decide, by decide, by decide, by decide, by decide, by decide, by
   decide, by decide, by decide⟩

end W13

namespace W14

def r0 := { (unitsIn .on [.rng] ready) with units := vmod (unitsIn .on [.rng] ready).units Src.rng.idx (fun (m : Mirror) => {m with sub := 0}) }
def r1 := r0.modRng fun x => {x with samples := 1500, lastBit := true, repRun := r0.g F.RNG_CFG_RCT_C 0 - 1, aptPos := 5, aptBit := true, aptCount := 2}
def r2 := r0.modRng fun x => {x with samples := 2560, blocks := [1,2,3]}
def r3 := nx (.rngReady true) r2
def r4 := r3.modRng fun x => {x with due := true, blocks := [4,5,6]}
def m0 := (withF [(F.CLAIMS_HELD, 9, 1), (F.CLAIMS_HOLDER, 9, 0xE)] (unitsIn .on [.msp] ready)).changeMirror .msp fun m => {m with sub := 0}
def mw : Word := [(F.MS_E_SEL, 1), (F.MS_E_WLEN, 8), (F.MS_E_TXD, 0xA5), (F.MS_E_TAG, 0x42)].foldl (fun w x => x.1.into x.2 w) 0
def m1 := nx (.msSubmit .p0 1 mw) m0
def m2 := nx (.msSubmit .p0 1 mw) m1
def bits := [true, false, false, true, true, false, true, false]
def m3 := nx (.msReadyPoint 0 bits) m1
def m4 := nx .msEntryDone (m2.modMs fun x => {x with chunk := 1})
def m5 := (withF [(F.MS_E_LONG, msEnt 4, 1), (F.MS_E_WLEN, msEnt 4, 0), (F.MS_E_LEN, msEnt 4, 100)] m1)

set_option maxRecDepth 100000 in
/-- RngSamplesSeedTheGenerator: states and operands that meet the hypotheses of its clauses, one line group per clause. -/
theorem met_RngSamplesSeedTheGenerator :
    (-- rngSample
      (unitsIn .off [.rng] r0).st .rng ≠ .starting ∧ (unitsIn .off [.rng] r0).st .rng ≠ .on) ∧
    (-- rngSample
      r1.isOn .rng = true ∧
      (r1.g F.RNG_CFG_RCT_C 0 ≤ (if r1.rng.samples ≠ 0 ∧ (true : Bool) = r1.rng.lastBit then r1.rng.repRun + 1 else 1))) ∧
    (-- rngSample
      (r1.modRng fun x => {x with repRun := 0, aptCount := 900}).isOn .rng = true ∧
      ((if (r1.modRng fun x => {x with repRun := 0, aptCount := 900}).rng.samples ≠ 0 ∧ (true : Bool) = (r1.modRng fun x => {x with repRun := 0, aptCount := 900}).rng.lastBit then (r1.modRng fun x => {x with repRun := 0, aptCount := 900}).rng.repRun + 1 else 1) < (r1.modRng fun x => {x with repRun := 0, aptCount := 900}).g F.RNG_CFG_RCT_C 0) ∧
      (r1.modRng fun x => {x with repRun := 0, aptCount := 900}).g F.RNG_CFG_APT_C 0 ≤ (if (r1.modRng fun x => {x with repRun := 0, aptCount := 900}).rng.aptPos = 0 then 1 else (r1.modRng fun x => {x with repRun := 0, aptCount := 900}).rng.aptCount + b2n ((true : Bool) == (r1.modRng fun x => {x with repRun := 0, aptCount := 900}).rng.aptBit))) ∧
    (-- rngSample
      r0.isOn .rng = true ∧
      ((if r0.rng.samples ≠ 0 ∧ (true : Bool) = r0.rng.lastBit then r0.rng.repRun + 1 else 1) < r0.g F.RNG_CFG_RCT_C 0) ∧
      (if r0.rng.aptPos = 0 then 1 else r0.rng.aptCount + b2n ((true : Bool) == r0.rng.aptBit)) < r0.g F.RNG_CFG_APT_C 0 ∧
      r0.rng.samples < 1024) ∧
    (-- rngSample
      r1.isOn .rng = true ∧
      ((if r1.rng.samples ≠ 0 ∧ (false : Bool) = r1.rng.lastBit then r1.rng.repRun + 1 else 1) < r1.g F.RNG_CFG_RCT_C 0) ∧
      (if r1.rng.aptPos = 0 then 1 else r1.rng.aptCount + b2n ((false : Bool) == r1.rng.aptBit)) < r1.g F.RNG_CFG_APT_C 0 ∧
      1024 ≤ r1.rng.samples ∧ r1.rng.bits.length < 511) ∧
    (-- rngSample
      (r1.modRng fun x => {x with bits := List.replicate 511 true}).isOn .rng = true ∧
      ((if (r1.modRng fun x => {x with bits := List.replicate 511 true}).rng.samples ≠ 0 ∧ (false : Bool) = (r1.modRng fun x => {x with bits := List.replicate 511 true}).rng.lastBit then (r1.modRng fun x => {x with bits := List.replicate 511 true}).rng.repRun + 1 else 1) < (r1.modRng fun x => {x with bits := List.replicate 511 true}).g F.RNG_CFG_RCT_C 0) ∧
      (if (r1.modRng fun x => {x with bits := List.replicate 511 true}).rng.aptPos = 0 then 1 else (r1.modRng fun x => {x with bits := List.replicate 511 true}).rng.aptCount + b2n ((false : Bool) == (r1.modRng fun x => {x with bits := List.replicate 511 true}).rng.aptBit)) < (r1.modRng fun x => {x with bits := List.replicate 511 true}).g F.RNG_CFG_APT_C 0 ∧
      1024 ≤ (r1.modRng fun x => {x with bits := List.replicate 511 true}).rng.samples ∧
      (r1.modRng fun x => {x with bits := List.replicate 511 true}).rng.bits.length = 511 ∧
      (r1.modRng fun x => {x with bits := List.replicate 511 true}).rng.blocks.length < 3) ∧
    (-- rngReady
      r2.isOn .rng = true ∧ r2.sub .rng = 0 ∧ 2560 ≤ r2.rng.samples ∧ 3 ≤ r2.rng.blocks.length) ∧
    (-- rngPoolAdd
      r3.rngReady = true ∧ r3.rng.due = false ∧ r3.rng.pool.length < 8) ∧
    (-- rngPoolAdd
      ((nx .rngPoolAdd r3).modRng fun x => {x with due := false, pool := (List.replicate 8 x.pool).flatten}).rngReady = true ∧
      ((nx .rngPoolAdd r3).modRng fun x => {x with due := false, pool := (List.replicate 8 x.pool).flatten}).rng.due = false ∧
      8 ≤ ((nx .rngPoolAdd r3).modRng fun x => {x with due := false, pool := (List.replicate 8 x.pool).flatten}).rng.pool.length) ∧
    (-- drbgReseed
      r4.rngReady = true ∧ r4.rng.due = true ∧ 3 ≤ r4.rng.blocks.length) :=
  ⟨by decide, by decide, by decide, by decide, by decide, by decide, by decide, by decide, by decide, by decide⟩

/-- MasterSerialEntriesRunToTheirEnd: states and operands that meet the hypotheses of its clauses, one line group per clause. -/
theorem met_MasterSerialEntriesRunToTheirEnd :
    (-- msSubmit
      m1.serves (.p0 : PortId) 48 = true ∧ m1.acting (.p0 : PortId) = 0 ∧
      4 ≤ (((List.range 12).map (4 + ·)).find? (fun k => m1.g F.MS_E_STATE (msEnt k) == 0)).get! ∧
      (((List.range 12).map (4 + ·)).find? (fun k => m1.g F.MS_E_STATE (msEnt k) == 0)).get! < 16 ∧ m1.msJudge (mw : Word) = .ok ∧
      (((List.range 12).map (4 + ·)).find? (fun k => m1.g F.MS_E_STATE (msEnt k) == 0)).isSome = true ∧ m1.ms.chain ≠ []) ∧
    (-- msSubmit
      m0.serves (.p0 : PortId) 48 = true ∧ m0.acting (.p0 : PortId) = 0 ∧
      4 ≤ (((List.range 12).map (4 + ·)).find? (fun k => m0.g F.MS_E_STATE (msEnt k) == 0)).get! ∧
      (((List.range 12).map (4 + ·)).find? (fun k => m0.g F.MS_E_STATE (msEnt k) == 0)).get! < 16 ∧ m0.msJudge (mw : Word) = .ok ∧
      (((List.range 12).map (4 + ·)).find? (fun k => m0.g F.MS_E_STATE (msEnt k) == 0)).isSome = true ∧ m0.ms.chain = [] ∧
      m0.ms.order = [] ∧ m0.ms.readyAt ≤ m0.tick + 47 ∧ F.MS_E_CONT.of (mw : Word) = 0 ∧ F.MS_E_LONG.of (mw : Word) = 0) ∧
    (-- msSubmit
      m1.serves (.p0 : PortId) 48 = true ∧ m1.acting (.p0 : PortId) = 0 ∧ 4 ≤ (4) ∧ (4) < 16 ∧ (m1.msJudge (0 : Word)) ≠ .ok) ∧
    (-- msAbort
      m2.serves (.p0 : PortId) 48 = true ∧ m2.acting (.p0 : PortId) = 0 ∧ 4 ≤ 5 ∧ 5 < 16 ∧ m2.ms.order = [5] ∧
      m2.g F.MS_E_STATE (msEnt 5) = 1) ∧
    (-- msAbort
      m1.serves (.p0 : PortId) 48 = true ∧ m1.acting (.p0 : PortId) = 0 ∧ 4 ≤ 4 ∧ 4 < 16 ∧ m1.g F.MS_E_STATE (msEnt 4) = 2 ∧
      m1.b F.MS_E_LONG (msEnt 4) = false) ∧
    (-- msAbort
      m5.serves (.p0 : PortId) 48 = true ∧ m5.acting (.p0 : PortId) = 0 ∧ 4 ≤ 4 ∧ 4 < 16 ∧ m5.g F.MS_E_STATE (msEnt 4) = 2 ∧
      m5.b F.MS_E_LONG (msEnt 4) = true ∧ m5.ms.chunk < m5.msChunks 4) ∧
    (-- msRelease
      (nx .msEntryDone m3).serves (.p0 : PortId) 48 = true ∧ (nx .msEntryDone m3).acting (.p0 : PortId) = 0 ∧ 4 ≤ 4 ∧ 4 < 16 ∧
      (nx .msEntryDone m3).g F.MS_E_STATE (msEnt 4) = 3) ∧
    (-- msEntryStart
      4 ≤ m4.ms.order.head! ∧ m4.ms.order.head! < 16 ∧ m4.rc.waiting ≠ 1 ∧ m4.isOn .msp = true ∧ m4.ms.chain = [] ∧
      m4.ms.order = [m4.ms.order.head!] ∧ m4.msHold = false ∧ m4.b F.MS_E_CONT (msEnt m4.ms.order.head!) = false ∧
      m4.msAllowed m4.ms.order.head! = true) ∧
    (-- msEntryStart
      4 ≤ (((withF [(F.CLAIMS_HELD, 9, 0)] m4)).ms.order).head! ∧ (((withF [(F.CLAIMS_HELD, 9, 0)] m4)).ms.order).head! < 16 ∧
      (withF [(F.CLAIMS_HELD, 9, 0)] m4).rc.waiting ≠ 1 ∧ (withF [(F.CLAIMS_HELD, 9, 0)] m4).isOn .msp = true ∧
      (withF [(F.CLAIMS_HELD, 9, 0)] m4).ms.chain = [] ∧
      (withF [(F.CLAIMS_HELD, 9, 0)] m4).ms.order = [(((withF [(F.CLAIMS_HELD, 9, 0)] m4)).ms.order).head!] ∧
      (withF [(F.CLAIMS_HELD, 9, 0)] m4).msHold = false ∧
      (withF [(F.CLAIMS_HELD, 9, 0)] m4).b F.MS_E_CONT (msEnt (((withF [(F.CLAIMS_HELD, 9, 0)] m4)).ms.order).head!) = false ∧
      (withF [(F.CLAIMS_HELD, 9, 0)] m4).msAllowed (((withF [(F.CLAIMS_HELD, 9, 0)] m4)).ms.order).head! = false) ∧
    (-- msReadyPoint
      4 ≤ m1.ms.chain.head! ∧ m1.ms.chain.head! < 16 ∧ m1.rc.waiting ≠ 1 ∧ m1.ms.chain = [m1.ms.chain.head!] ∧ m1.ms.abort = false ∧
      m1.ms.stopping = false ∧ m1.ms.fault = false ∧ m1.cj.bad = [] ∧ m1.ms.chunk < m1.msChunks m1.ms.chain.head! ∧ 7 ≤ m1.msTo) ∧
    (-- msEntryDone
      4 ≤ m3.ms.chain.head! ∧ m3.ms.chain.head! < 16 ∧ m3.rc.waiting ≠ 1 ∧ m3.ms.chain = [m3.ms.chain.head!] ∧
      m3.msChunks m3.ms.chain.head! ≤ m3.ms.chunk ∧ m3.ms.fault = false ∧ m3.b F.MS_E_LONG (msEnt m3.ms.chain.head!) = false ∧
      m3.ms.freeClaim = none) ∧
    (-- rdyTimeout
      4 ≤ (((m1.modMs fun x => {x with prof := F.MS_PROF_RDY_EN.into 1 x.prof})).ms.chain).head! ∧
      (((m1.modMs fun x => {x with prof := F.MS_PROF_RDY_EN.into 1 x.prof})).ms.chain).head! < 16 ∧
      (m1.modMs fun x => {x with prof := F.MS_PROF_RDY_EN.into 1 x.prof}).rc.waiting ≠ 1 ∧
      (m1.modMs fun x => {x with prof := F.MS_PROF_RDY_EN.into 1 x.prof}).ms.chain = [(((m1.modMs fun x => {x with prof := F.MS_PROF_RDY_EN.into 1 x.prof})).ms.chain).head!] ∧
      F.MS_PROF_RDY_EN.of (m1.modMs fun x => {x with prof := F.MS_PROF_RDY_EN.into 1 x.prof}).ms.prof = 1 ∧
      (m1.modMs fun x => {x with prof := F.MS_PROF_RDY_EN.into 1 x.prof}).ms.chunk < (m1.modMs fun x => {x with prof := F.MS_PROF_RDY_EN.into 1 x.prof}).msChunks (((m1.modMs fun x => {x with prof := F.MS_PROF_RDY_EN.into 1 x.prof})).ms.chain).head! ∧
      (m1.modMs fun x => {x with prof := F.MS_PROF_RDY_EN.into 1 x.prof}).ms.abort = false ∧
      (m1.modMs fun x => {x with prof := F.MS_PROF_RDY_EN.into 1 x.prof}).ms.stopping = false ∧
      (m1.modMs fun x => {x with prof := F.MS_PROF_RDY_EN.into 1 x.prof}).ms.fault = false) :=
  ⟨by decide, by decide, by decide, by decide, by decide, by decide, by decide, by decide, by decide, by decide, by
   decide, by decide⟩

end W14

namespace W15

def a0 := ((withF [(F.RC_TAG_STATE, 8, 3), (F.RC_TAG_EUI, 8, 0x1234), (F.RC_TAG_TENANT, 8, 0), (F.RC_HOP_EN, 2, 1), (F.RC_BAND_DUTY_MS, 0, 1000), (F.RC_BAND_DWELL_MS, 0, 400), (F.RC_TENANT_SHARE, 0, 200), (F.RC_TAG_LISTEN_MS, 9, 100)] (unitsIn .on [.radio, .sinter] ready)).modRc fun x => {x with initOk := true, lastScript := 1, hopEnt := 2}).changeMirror .radio fun m => {m with sub := 0}
def a1 := nx (.joinOpen .p0 0 false 2) a0
def rw0 : Word := [(F.RC_TXQ_DST, 5), (F.RC_TXQ_BYTES, 10), (F.RC_TXQ_TAG, 0x31), (F.RC_TXQ_WAKE, 1)].foldl (fun w x => x.1.into x.2 w) 0
def a2 := nx (.radioTxSubmit .p0 1 rw0) a0
def a3 := (withF [(F.RC_RX_SRC, 17, 5)] a0).modRc fun x => {x with bufs := vset x.bufs 1 {full := true, seen := true}}
def po : Poll := {addr := 5, tp := a2.tick, answered := false}
def b0 := (a2.modRc fun x => {x with polls := [po], callDue := []})
def b1 := nx .radioGrant b0
def b2 := b1.modRc fun x => {x with filled := 255}
def b3 := withF [(F.RC_BAND_DUTY_MS, 0, 0)] b2
def b4 := (withF [(F.RC_TXQ_STATE, 0, 3), (F.RC_TXQ_ATTEMPTS, 0, 3)] a2).modRc fun x => {x with ackWait := some 0, ackEnd := 5000, order := []}
def b5 := (withF [(F.RC_TAG_WU_ENT, 8, 2), (F.RC_CFG_WUC_MS, 1, 5)] a2).modRc fun x => {x with slotTick := a2.tick}

/-- RadioHostCommands: states and operands that meet the hypotheses of its clauses, one line group per clause. -/
theorem met_RadioHostCommands :
    (-- tagAllow
      a0.serves (.p0 : PortId) 48 = true ∧ a0.acting (.p0 : PortId) = 0 ∧ 7 < 128) ∧
    (-- tagFree
      (withF [(F.RC_TXQ_STATE, 3, 1), (F.RC_TXQ_DST, 3, 5), (F.RC_TAG_TX_FC, 9, 77)] a0).serves (.p0 : PortId) 48 = true ∧
      (withF [(F.RC_TXQ_STATE, 3, 1), (F.RC_TXQ_DST, 3, 5), (F.RC_TAG_TX_FC, 9, 77)] a0).acting (.p0 : PortId) = 0 ∧ 4 < 128) ∧
    (-- joinOpen
      a0.ownerRow (.p0 : PortId) .radio (0 : Byte) (false : Bool) = true ∧ a0.isOn .radio = true) ∧
    (-- joinOpenExpire
      a1.rc.joinUntil.isSome = true) ∧
    (-- radioTxSubmit
      a0.serves (.p0 : PortId) 48 = true ∧ a0.rcJudge (a0.acting (.p0 : PortId)) (rw0 : Word) = .ok ∧
      ((List.range 8).find? (fun k => a0.g F.RC_TXQ_STATE k == 0)).isSome = true ∧ a0.rc.polls = [] ∧
      a0.rc.granted ≠ some ((List.range 8).find? (fun k => a0.g F.RC_TXQ_STATE k == 0)).get!) ∧
    (-- radioTxSubmit
      a2.serves (.p0 : PortId) 48 = true ∧ (a2.rcJudge (a2.acting (.p0 : PortId)) (0 : Word)) ≠ .ok) ∧
    (-- radioTxAbort
      a2.serves (.p0 : PortId) 48 = true ∧ 0 < 8 ∧ a2.rcOwner 0 = a2.acting (.p0 : PortId) ∧ bitOf a2.rc.toOwner 0 = false ∧
      (a2.g F.RC_TXQ_STATE 0 = 1 ∨ a2.g F.RC_TXQ_STATE 0 = 2)) ∧
    (-- radioTxAbort
      (withF [(F.RC_TXQ_STATE, 0, 3)] a2).serves (.p0 : PortId) 48 = true ∧ 0 < 8 ∧
      (withF [(F.RC_TXQ_STATE, 0, 3)] a2).rcOwner 0 = (withF [(F.RC_TXQ_STATE, 0, 3)] a2).acting (.p0 : PortId) ∧
      bitOf (withF [(F.RC_TXQ_STATE, 0, 3)] a2).rc.toOwner 0 = false ∧ (withF [(F.RC_TXQ_STATE, 0, 3)] a2).g F.RC_TXQ_STATE 0 = 3) ∧
    (-- radioTxRelease
      (nx (.radioTxAbort .p0 1 0) a2).serves (.p0 : PortId) 48 = true ∧ 0 < 8 ∧
      (nx (.radioTxAbort .p0 1 0) a2).rcOwner 0 = (nx (.radioTxAbort .p0 1 0) a2).acting (.p0 : PortId) ∧
      bitOf (nx (.radioTxAbort .p0 1 0) a2).rc.toOwner 0 = false ∧ (nx (.radioTxAbort .p0 1 0) a2).g F.RC_TXQ_STATE 0 = 4) ∧
    (-- radioRxRelease
      a3.serves (.p0 : PortId) 48 = true ∧ 1 < 2 ∧ (vget a3.rc.bufs 1).full = true ∧ (vget a3.rc.bufs 1).seen = true ∧
      (vget a3.rc.bufs 1).tenant = a3.acting (.p0 : PortId)) :=
  ⟨by decide, by decide, by decide, by decide, by decide, by decide, by decide, by decide, by decide, by decide⟩

/-- RadioDownlinksAreAnsweredOrReturned: states and operands that meet the hypotheses of its clauses, one line group per clause. -/
theorem met_RadioDownlinksAreAnsweredOrReturned :
    (-- radioGrant
      b0.rc.order.head! < 8 ∧ b0.rcMayGrant = true ∧ b0.rc.polls = [b0.rc.polls.head!] ∧ b0.rc.polls.head!.answered = false ∧
      b0.rc.order = [b0.rc.order.head!] ∧ b0.g F.RC_TXQ_DST b0.rc.order.head! = b0.rc.polls.head!.addr ∧
      b0.tick < b0.rcD b0.rc.polls.head! b0.rc.order.head! ∧ b0.rc.order.head! ∉ b0.rc.callDue) ∧
    (-- radioGrant
      0 < 8 ∧ a2.rc.polls = []) ∧
    (-- radioDeadline
      b1.rc.granted.get! < 8 ∧ b1.rc.granted.isSome = true ∧ b1.g F.RC_TXQ_STATE b1.rc.granted.get! = 2 ∧
      b1.rcFilled b1.rc.granted.get! = false) ∧
    (-- radioAnswerTx
      b2.rc.granted.get! < 8 ∧ b2.rc.granted.isSome = true ∧ (b2.rcPoll (b2.g F.RC_TXQ_DST b2.rc.granted.get!)).isSome = true ∧
      b2.g F.RC_TXQ_STATE b2.rc.granted.get! = 2 ∧ b2.rcFilled b2.rc.granted.get! = true ∧ b2.rcWorks = true ∧ b2.rcBit 2 = false ∧
      b2.rcIdle = true ∧ b2.rc.txBusy = false ∧ b2.tick ≤ b2.rc.deadline ∧ b2.b F.RC_TXQ_SEC b2.rc.granted.get! = false ∧
      b2.rcBudget b2.rc.hopEnt (b2.rcEst (b2.rcReqLen b2.rc.granted.get!)) (some (b2.rcOwner b2.rc.granted.get!)) = none) ∧
    (-- radioAnswerTx
      b3.rc.granted.get! < 8 ∧ b3.rc.granted.isSome = true ∧ (b3.rcPoll (b3.g F.RC_TXQ_DST b3.rc.granted.get!)).isSome = true ∧
      b3.g F.RC_TXQ_STATE b3.rc.granted.get! = 2 ∧ b3.rcFilled b3.rc.granted.get! = true ∧ b3.rcWorks = true ∧ b3.rcBit 2 = false ∧
      b3.rcIdle = true ∧ b3.rc.txBusy = false ∧ b3.tick ≤ b3.rc.deadline ∧ b3.b F.RC_TXQ_SEC b3.rc.granted.get! = false ∧
      (b3.rcBudget b3.rc.hopEnt (b3.rcEst (b3.rcReqLen b3.rc.granted.get!)) (some (b3.rcOwner b3.rc.granted.get!))).isSome = true) ∧
    (-- emptyAnswer
      0 < 8 ∧ b0.rc.polls = [b0.rc.polls.head!] ∧ b0.rc.polls.head!.answered = false ∧ b0.rcIdle = true ∧ b0.rc.txBusy = false ∧
      b0.rcBit 2 = false ∧ b0.rcWorks = true ∧ b0.rcBudget b0.rc.hopEnt (b0.rcEst 6) none = none ∧ b0.rc.granted = none) ∧
    (-- emptyAnswer
      b1.rc.granted.get! < 8 ∧ b1.rc.polls = [b1.rc.polls.head!] ∧ b1.rc.polls.head!.answered = false ∧ b1.rcIdle = true ∧
      b1.rc.txBusy = false ∧ b1.rcBit 2 = false ∧ b1.rcWorks = true ∧ b1.rcBudget b1.rc.hopEnt (b1.rcEst 6) none = none ∧
      b1.rc.granted.isSome = true ∧ b1.g F.RC_TXQ_STATE b1.rc.granted.get! = 2 ∧
      b1.g F.RC_TXQ_DST b1.rc.granted.get! = b1.rc.polls.head!.addr) ∧
    (-- radioAnswerAckTimeout
      b4.rc.ackWait.get! < 8 ∧ b4.rc.ackWait.isSome = true ∧ b4.g F.RC_TXQ_ATTEMPTS b4.rc.ackWait.get! < 4) ∧
    (-- radioAnswerAckTimeout
      (((withF [(F.RC_TXQ_ATTEMPTS, 0, 4)] b4)).rc.ackWait).get! < 8 ∧
      (withF [(F.RC_TXQ_ATTEMPTS, 0, 4)] b4).rc.ackWait = some (((withF [(F.RC_TXQ_ATTEMPTS, 0, 4)] b4)).rc.ackWait).get! ∧
      4 ≤ (withF [(F.RC_TXQ_ATTEMPTS, 0, 4)] b4).g F.RC_TXQ_ATTEMPTS (((withF [(F.RC_TXQ_ATTEMPTS, 0, 4)] b4)).rc.ackWait).get!) ∧
    (-- wakeUpCall
      b5.rc.callDue.head! < 8 ∧ b5.rc.callDue = b5.rc.callDue.head! :: b5.rc.callDue.tail ∧ b5.rcWorks = true ∧ b5.rcBit 2 = false ∧
      b5.rc.exchange = false ∧ b5.rcIdle = true ∧ b5.rc.txBusy = false ∧ b5.tick = b5.rc.slotTick ∧
      (b5.rcBudget (b5.g F.RC_TAG_WU_ENT (2 * pairOf (b5.g F.RC_TXQ_DST b5.rc.callDue.head!))) (1000 * b5.g F.RC_CFG_WUC_MS 1) (some (b5.rcOwner b5.rc.callDue.head!))) = none) ∧
    (-- wakeUpCall
      (((withF [(F.RC_BAND_DUTY_MS, 0, 0)] b5)).rc.callDue).head! < 8 ∧
      (withF [(F.RC_BAND_DUTY_MS, 0, 0)] b5).rc.callDue = (((withF [(F.RC_BAND_DUTY_MS, 0, 0)] b5)).rc.callDue).head! :: (((withF [(F.RC_BAND_DUTY_MS, 0, 0)] b5)).rc.callDue).tail ∧
      (withF [(F.RC_BAND_DUTY_MS, 0, 0)] b5).rcWorks = true ∧ (withF [(F.RC_BAND_DUTY_MS, 0, 0)] b5).rcBit 2 = false ∧
      (withF [(F.RC_BAND_DUTY_MS, 0, 0)] b5).rc.exchange = false ∧ (withF [(F.RC_BAND_DUTY_MS, 0, 0)] b5).rcIdle = true ∧
      (withF [(F.RC_BAND_DUTY_MS, 0, 0)] b5).rc.txBusy = false ∧
      (withF [(F.RC_BAND_DUTY_MS, 0, 0)] b5).tick = (withF [(F.RC_BAND_DUTY_MS, 0, 0)] b5).rc.slotTick ∧
      ((((withF [(F.RC_BAND_DUTY_MS, 0, 0)] b5)).rcBudget (((withF [(F.RC_BAND_DUTY_MS, 0, 0)] b5)).g F.RC_TAG_WU_ENT (2 * pairOf (((withF [(F.RC_BAND_DUTY_MS, 0, 0)] b5)).g F.RC_TXQ_DST (((withF [(F.RC_BAND_DUTY_MS, 0, 0)] b5)).rc.callDue).head!))) (1000 * (withF [(F.RC_BAND_DUTY_MS, 0, 0)] b5).g F.RC_CFG_WUC_MS 1) (some (((withF [(F.RC_BAND_DUTY_MS, 0, 0)] b5)).rcOwner (((withF [(F.RC_BAND_DUTY_MS, 0, 0)] b5)).rc.callDue).head!)))).isSome = true) :=
  ⟨by decide, by decide, by decide, by decide, by decide, by decide, by decide, by decide, by decide, by decide, by
   decide⟩

end W15

namespace W16

def a0 := ((withF [(F.RC_TAG_STATE, 8, 3), (F.RC_TAG_EUI, 8, 0x1234), (F.RC_TAG_TENANT, 8, 0), (F.RC_HOP_EN, 2, 1), (F.RC_BAND_DUTY_MS, 0, 1000), (F.RC_BAND_DWELL_MS, 0, 400), (F.RC_TENANT_SHARE, 0, 200), (F.RC_TAG_LISTEN_MS, 9, 100)] (unitsIn .on [.radio, .sinter] ready)).modRc fun x => {x with initOk := true, lastScript := 1, hopEnt := 2}).changeMirror .radio fun m => {m with sub := 0}
def f0 := a0.modRc fun x => {x with waiting := 2, waitEnd := 99999, script := some 5}
def t0 := (withF [(F.RC_TXQ_STATE, 3, 3)] a0).modRc fun x => {x with txBusy := true, irq := true, txSince := 10, irqTick := 400000, txEst := 700, loaded := some {bytes := [], kind := 1, tenant := 0, entry := 3}}
def b0 := a0.modRc fun x => {x with duty := vset x.duty 0 {bins := [5,6]}, dwell := vset x.dwell 2 {bins := [5,6]}}
def b1 := (withF [(F.RC_BAND_DUTY_WIN_S, 0, 100), (F.RC_BAND_DWELL_WIN_S, 0, 10)] b0)
def d0 := (withF [(F.RC_CFG_FOLLOW_LINE, 0, 1)] a0).modLn fun l => l
def d2 := withF [(F.LA_DORM_DSTATE, 0, 0)] (nx .radioDormant (withF [(F.LA_DORM_DSTATE, 0, 2)] d0))
def h0 := nx .hopSlotStart a0
def rx (l : List Nat) := a0.modRc fun x => {x with rxDue := true, rxBytes := ofNatBytes l, irqTick := a0.tick}
def j0 := withF [(F.RC_TAG_STATE, 8, 2)] (rx ([0x60, 0, 0, 0, 0, 0xFE] ++ [0,0,0,0,0,0,0x12,0x34] ++ [0xAB, 0xCD]))
def j1 := nx .radioFrameRx j0
def k0 := rx ([0x28, 9, 0, 0, 0, 5] ++ [1,2,3])
def k1 := nx .radioFrameRx k0
def h1 := h0.modGy fun x => {x with stamp := x.stamp + BitVec.ofNat 80 (2 ^ (h0.g F.RC_CFG_SLOT_EXP 0 - 1) * 4294967296)}

/-- RadioTransceiverAndScripts: states and operands that meet the hypotheses of its clauses, one line group per clause. -/
theorem met_RadioTransceiverAndScripts :
    (-- rfIrq
      a0.rc.waiting ≠ 2 ∧ ((false : Bool) = false ∨ a0.rc.irq = true ∨ a0.rcWorks = false ∨ a0.rcIdle = false ∨ a0.rc.lastScript ≠ 1)) ∧
    (-- rfIrq
      a0.rc.waiting ≠ 2 ∧ a0.rc.irq = false ∧ a0.rcWorks = true ∧ a0.rcIdle = true ∧ a0.rc.lastScript = 1) ∧
    (-- rfFault
      (f0.rc.waiting = 2 ∨ (f0.rc.waiting = 1 ∧ f0.rc.xferOk = some false ∧ f0.isOn .radio = true)) ∧
      ((f0.rc.script.getD f0.rc.lastScript) ≠ 0 ∨ f0.rc.initFails < 2)) ∧
    (-- rfFault
      ((f0.modRc fun x => {x with script := some 0, initFails := 2}).rc.waiting = 2 ∨ (((f0.modRc fun x => {x with script := some 0, initFails := 2})).rc.waiting = 1 ∧ (f0.modRc fun x => {x with script := some 0, initFails := 2}).rc.xferOk = some false ∧ (f0.modRc fun x => {x with script := some 0, initFails := 2}).isOn .radio = true)) ∧
      (((f0.modRc fun x => {x with script := some 0, initFails := 2})).rc.script.getD (f0.modRc fun x => {x with script := some 0, initFails := 2}).rc.lastScript) = 0 ∧
      2 ≤ (f0.modRc fun x => {x with script := some 0, initFails := 2}).rc.initFails) ∧
    (-- scriptDelay
      (nx .rfFault f0).rc.rst = 1) ∧
    (-- scriptDelay
      (nx .scriptDelay (nx .rfFault f0)).rc.rst = 2 ∧ (nx .scriptDelay (nx .rfFault f0)).rc.script = none ∧
      (nx .scriptDelay (nx .rfFault f0)).rc.plan = []) ∧
    (-- scriptDelay
      (f0.modRc fun x => {x with waiting := 3}).rc.rst = 0 ∧
      ((f0.modRc fun x => {x with waiting := 3}).rc.waiting = 3 ∨ (f0.modRc fun x => {x with waiting := 3}).rc.waiting = 4)) ∧
    (-- radioTxEnd
      t0.rc.txBusy = true ∧ t0.rc.irq = true ∧ t0.rc.txSince ≤ t0.rc.irqTick ∧ t0.rc.hopEnt < 64) ∧
    (-- txEndTimeout
      (t0.modRc fun x => {x with irq := false, lastScript := 2}).rc.txBusy = true ∧
      (t0.modRc fun x => {x with irq := false, lastScript := 2}).rc.irq = false ∧
      (t0.modRc fun x => {x with irq := false, lastScript := 2}).rc.hopEnt < 64 ∧
      (t0.modRc fun x => {x with irq := false, lastScript := 2}).rc.script = none ∧
      (t0.modRc fun x => {x with irq := false, lastScript := 2}).rc.lastScript = 2) ∧
    (-- budgetBinTurn
      b1.isOn .radio = true ∧ b1.rcBinTicks true 0 ≠ 0) ∧
    (-- budgetBinTurn
      b1.isOn .radio = true ∧ b1.rcBinTicks false 0 ≠ 0) ∧
    (-- radioDormant
      (withF [(F.LA_DORM_DSTATE, 0, 2)] d0).isOn .radio = true ∧ (withF [(F.LA_DORM_DSTATE, 0, 2)] d0).rc.exchange = false ∧
      (withF [(F.LA_DORM_DSTATE, 0, 2)] d0).lnDorm = 2 ∧ (withF [(F.LA_DORM_DSTATE, 0, 2)] d0).b F.RC_CFG_FOLLOW_LINE 0 = true ∧
      (withF [(F.LA_DORM_DSTATE, 0, 2)] d0).rc.followed = false ∧ (withF [(F.LA_DORM_DSTATE, 0, 2)] d0).rcBit 0 = false) ∧
    (-- radioDormant
      d2.isOn .radio = true ∧ d2.rc.exchange = false ∧ d2.lnDorm ≠ 2 ∧ d2.rc.followed = true ∧ (d2.mirror .radio).held ≠ 1 ∧
      d2.rcBit 0 = true) :=
  ⟨by decide, by decide, by decide, by decide, by decide, by decide, by decide, by decide, by decide, by decide, by
   decide, by decide, by decide⟩

/-- RadioBeaconsReceptionsAndAcks: states and operands that meet the hypotheses of its clauses, one line group per clause. -/
theorem met_RadioBeaconsReceptionsAndAcks :
    (-- hopSlotStart
      (unitsIn .off [.radio] a0).isOn .radio = false) ∧
    (-- hopSlotStart
      a0.isOn .radio = true ∧ a0.rc.exchange = false ∧ a0.rc.noackOff = false ∧ a0.rcBit 0 = false ∧ a0.rcIdle = true ∧
      a0.rc.txBusy = false ∧ a0.rc.callDue = []) ∧
    (-- beaconTx
      h1.rcWorks = true ∧ h1.rc.beaconDue = true ∧ h1.rcIdle = true ∧ h1.rc.txBusy = false ∧
      2 ^ (h1.g F.RC_CFG_SLOT_EXP 0 - 1) ≤ h1.stamp48 % 2 ^ h1.g F.RC_CFG_SLOT_EXP 0) ∧
    (-- beaconTx
      h0.rcWorks = true ∧ h0.rc.beaconDue = true ∧ h0.rcIdle = true ∧ h0.rc.txBusy = false ∧
      h0.stamp48 % 2 ^ h0.g F.RC_CFG_SLOT_EXP 0 < 2 ^ (h0.g F.RC_CFG_SLOT_EXP 0 - 1) ∧ h0.rc.exchange = false ∧
      h0.rcBudget h0.rc.hopEnt (h0.rcEst h0.rcBeacon.length) none = none) ∧
    (-- beaconTx
      (withF [(F.RC_BAND_DUTY_MS, 0, 0)] h0).rcWorks = true ∧ (withF [(F.RC_BAND_DUTY_MS, 0, 0)] h0).rc.beaconDue = true ∧
      (withF [(F.RC_BAND_DUTY_MS, 0, 0)] h0).rcIdle = true ∧ (withF [(F.RC_BAND_DUTY_MS, 0, 0)] h0).rc.txBusy = false ∧
      (withF [(F.RC_BAND_DUTY_MS, 0, 0)] h0).stamp48 % 2 ^ (withF [(F.RC_BAND_DUTY_MS, 0, 0)] h0).g F.RC_CFG_SLOT_EXP 0 < 2 ^ (((withF [(F.RC_BAND_DUTY_MS, 0, 0)] h0)).g F.RC_CFG_SLOT_EXP 0 - 1) ∧
      (withF [(F.RC_BAND_DUTY_MS, 0, 0)] h0).rc.exchange = false ∧
      (((withF [(F.RC_BAND_DUTY_MS, 0, 0)] h0)).rcBudget (withF [(F.RC_BAND_DUTY_MS, 0, 0)] h0).rc.hopEnt (((withF [(F.RC_BAND_DUTY_MS, 0, 0)] h0)).rcEst (withF [(F.RC_BAND_DUTY_MS, 0, 0)] h0).rcBeacon.length) none).isSome = true) ∧
    (-- radioFrameRx
      (rx [1,2,3]).rc.rxDue = true ∧ (rx [1,2,3]).rcWorks = true ∧ (rx [1,2,3]).tick ≤ (rx [1,2,3]).rc.irqTick + (rx [1,2,3]).rcAckDly ∧
      ((natBytes (rx [1,2,3]).rc.rxBytes).length < 6 ∨ beNat (((natBytes (rx [1,2,3]).rc.rxBytes).drop 2).take 2) ≠ (rx [1,2,3]).g F.RC_CFG_NET_ID 0)) ∧
    (-- radioFrameRx
      j0.rc.rxDue = true ∧ j0.rcWorks = true ∧ j0.tick ≤ j0.rc.irqTick + j0.rcAckDly ∧
      ((List.range 128).find? (fun k => decide (2 ≤ j0.tagState k) && j0.g F.RC_TAG_EUI (2 * k) == beNat (((natBytes j0.rc.rxBytes).drop 6).take 8))).get! < 128 ∧
      (natBytes j0.rc.rxBytes).length = 16 ∧ beNat (((natBytes j0.rc.rxBytes).drop 2).take 2) = j0.g F.RC_CFG_NET_ID 0 ∧
      rxByte (natBytes j0.rc.rxBytes) 0 / 32 = 3 ∧ rxByte (natBytes j0.rc.rxBytes) 4 = 0 ∧ rxByte (natBytes j0.rc.rxBytes) 5 = 0xFE ∧
      j0.rcBit 1 = false ∧
      ((List.range 128).find? (fun k => decide (2 ≤ j0.tagState k) && j0.g F.RC_TAG_EUI (2 * k) == beNat (((natBytes j0.rc.rxBytes).drop 6).take 8))).isSome = true) ∧
    (-- radioFrameRx
      k0.rc.rxDue = true ∧ k0.rcWorks = true ∧ k0.tick ≤ k0.rc.irqTick + k0.rcAckDly ∧ (4) < 128 ∧ 6 ≤ (natBytes k0.rc.rxBytes).length ∧
      (natBytes k0.rc.rxBytes).length ≤ 134 ∧ beNat (((natBytes k0.rc.rxBytes).drop 2).take 2) = k0.g F.RC_CFG_NET_ID 0 ∧
      rxByte (natBytes k0.rc.rxBytes) 0 / 32 = 1 ∧ bitOf (rxByte (natBytes k0.rc.rxBytes) 0) 4 = false ∧
      rxByte (natBytes k0.rc.rxBytes) 4 = 0 ∧ rxByte (natBytes k0.rc.rxBytes) 5 = (4) + 1 ∧ k0.tagState (4) = 3 ∧
      k0.b F.RC_TAG_SEQ_VALID (2 * (4) + 1) = false ∧ k0.rc.nextBuf < 2 ∧ (vget k0.rc.bufs k0.rc.nextBuf).full = false ∧
      bitOf (rxByte (natBytes k0.rc.rxBytes) 0) 3 = true ∧ k0.rcBit 1 = false) ∧
    (-- radioAckTx
      k1.rc.ackDue.isSome = true ∧ k1.rcIdle = true ∧ k1.rc.txBusy = false ∧ k1.rcBudget k1.rc.hopEnt (k1.rcEst 6) none = none) ∧
    (-- radioAckTx
      (withF [(F.RC_BAND_DUTY_MS, 0, 0)] k1).rc.ackDue = some (((withF [(F.RC_BAND_DUTY_MS, 0, 0)] k1).rc.ackDue).get!.1, (((withF [(F.RC_BAND_DUTY_MS, 0, 0)] k1)).rc.ackDue).get!.2) ∧
      (withF [(F.RC_BAND_DUTY_MS, 0, 0)] k1).rcIdle = true ∧ (withF [(F.RC_BAND_DUTY_MS, 0, 0)] k1).rc.txBusy = false ∧
      (((withF [(F.RC_BAND_DUTY_MS, 0, 0)] k1)).rcBudget (withF [(F.RC_BAND_DUTY_MS, 0, 0)] k1).rc.hopEnt (((withF [(F.RC_BAND_DUTY_MS, 0, 0)] k1)).rcEst 6) none).isSome = true) ∧
    (-- joinRspTx
      j1.rc.joinDue.isSome = true ∧ j1.rcIdle = true ∧ j1.rc.txBusy = false ∧ j1.rcBudget j1.rc.hopEnt (j1.rcEst 15) none = none) :=
  ⟨by decide, by decide, by decide, by decide, by decide, by decide, by decide, by decide, by decide, by decide, by
   decide⟩

end W16

namespace W17

def sub (n v : Nat) (s : State) : State := { s with units := vmod s.units (opU n).idx (fun (m : Mirror) => {m with sub := v}) }
def p0 := sub 0 0 (unitsIn .on [.opt1, .obs, .cald] ready)
def p1 := withF [(F.OP_CFG_ALS_EN, 0, 1)] p0
def ps := sub 0 1 p1
def pl := nx (.los 0 true) p1
def pf := (withF [(F.OP_LASER_BIAS_MAX, 0, 300), (F.OP_LASER_BIAS_EOL, 0, 200), (F.OP_LASER_BIAS, 0, 250), (F.OP_LASER_BIAS_MAX, 1, 300)] p1).modOp 0 fun x => {x with lit := true}
def pd := withF [(F.OP_LASER_FAILED, 1, 1), (F.OP_CELL_STATE, 2, 2)] pf
def pc := nx (.calibrate .p0 0 0 false 1) pf
def pc0 := nx (.calibrate .p0 0 0 false 0) pf
def pw0 := withF [(F.OP_LASER_BIAS_EOL, 1, 4000),(F.OP_LASER_BIAS_MAX, 1, 4000), (F.OP_LASER_MPD_SET, 1, 200)] (nx (.calWindowStart 0) pc)
def mp := [0, 0, 500, 1000, 1500, 2000, 2500, 3000]
def cw : Word := [(F.OP_CELL_TYPE, 2), (F.OP_CELL_HOP, 3)].foldl (fun w x => x.1.into x.2 w) 0
def c1 := nx (.optSubmit .p0 1 0 cw) p1
def c2 := (nx (.optPayloadCommit .p0 1 0 0 0x1234) c1).modOp 0 fun x => {x with lit := true, txSeq := 5}
def c3 := (withF [(F.OP_CFG_TIME_TX, 0, 1)] (unitsIn .on [.gy] c2)).modOp 0 fun x => {x with timeDue := true}
def c4 := c3.modGy fun x => {x with netTime := true}
def gc := cellOf (cellBody 1 0 0 5 0 0x77) 0
def r0 := p1.modOp 0 fun x => {x with rxLock := 0}
def r1 := nx (.optCellRx 0 gc 5) r0
def r2 := nx (.optCellRx 0 gc 5) r1
def r3 := (nx (.optCellRx 0 gc 5) r2).modOp 0 fun x => {x with rxNext := 5}
def r4 := (nx (.optCellRx 0 gc 5) r3).modOp 0 fun x => {x with bufs := vset x.bufs 0 {full := true, seen := true}}
def gi := cellOf (cellBody 0 0 0 15 0 0) 0
def r5 := r3.modOp 0 fun x => {x with rxNext := 15, rxTrack := true, prevOn := true, rxAuth := true, rxGseq := 8, prevCause := 2}
def rg0 := withF [(F.OB_SLOT_USAGE, 1, 0xFF)] (r5.modOb fun x => {x with keys := [{slot := 1, key := (List.range 16).map (BitVec.ofNat 8)}]})
def rg1 := rg0.modOp 0 fun x => {x with prevCause := 0, rxPrev := List.replicate 8 ⟨7, 0, false⟩, rxKey := 1}
def rtag : Nat := (rg1.opTag 0 (rg1.op 0).rxKey ((rg1.op 0).rxPrev.map (fun c => c.body))).2
def rg2 := rg1.modOp 0 fun x => {x with rxGroup := (List.range 7).map fun k => ⟨9, BitVec.ofNat 16 (rtag / 2 ^ (112 - 16 * k)), false⟩}
def gt := cellOf (cellBody 0 0 0 15 0 0) rtag

/-- OpticalLasersFailCalibrateAndShutDown: states and operands that meet the hypotheses of its clauses, one line group per clause. -/
theorem met_OpticalLasersFailCalibrateAndShutDown :
    (-- optRestart
      ps.ownerRow (.p0 : PortId) (opU 0) (0 : Byte) (false : Bool) = true ∧ ps.isOn (opU 0) = true ∧ ps.opAls 0 = 1 ∧
      ps.opc 0 F.OP_CFG_ALS_EN = 1) ∧
    (-- calibrate
      p1.ownerRow (.p0 : PortId) (opU 0) (0 : Byte) (false : Bool) = true ∧ p1.isOn (opU 0) = true ∧ (1 : Byte).toNat < 2 ∧
      p1.b F.OP_LASER_FAILED (2 * 0 + (1 : Byte).toNat) = false ∧ (p1.op 0).calLaser = none ∧ p1.opAls 0 = 0 ∧ p1.opShed 0 = false ∧
      (p1.opBit 0 6 = true ∨ p1.opUsable 0 (1 - p1.opLive 0) = true)) ∧
    (-- clear
      (withF [(F.OP_LASER_FAILED, 1, 1), (F.OP_LASER_FCAUSE, 1, 2)] p1).ownerRow (.p0 : PortId) (opU 0) (0 : Byte) (false : Bool) = true ∧
      (withF [(F.OP_LASER_FAILED, 1, 1), (F.OP_LASER_FCAUSE, 1, 2)] p1).isOn (opU 0) = true ∧ (1 : Byte).toNat < 2 ∧
      (withF [(F.OP_LASER_FAILED, 1, 1), (F.OP_LASER_FCAUSE, 1, 2)] p1).b F.OP_LASER_FAILED (2 * 0 + (1 : Byte).toNat) = true) ∧
    (-- los
      p1.isOn (opU 0) = true ∧ p1.opBit 0 5 ≠ (true : Bool) ∧ (true : Bool) = true ∧ p1.opc 0 F.OP_CFG_ALS_EN = 1 ∧ p1.opAls 0 = 0 ∧
      (p1.op 0).calLaser = none) ∧
    (-- los
      pl.isOn (opU 0) = true ∧ pl.opBit 0 5 ≠ (false : Bool) ∧ (false : Bool) = false) ∧
    (-- alsPulse
      pl.isOn (opU 0) = true ∧ pl.opAls 0 = 1 ∧ (pl.mirror (opU 0)).held ≠ 3) ∧
    (-- alsPulseEnd
      (nx (.optTest .p0 0 0 false 0x5A) ps).isOn (opU 0) = true ∧
      ((nx (.optTest .p0 0 0 false 0x5A) ps).opAls 0 = 2 ∨ (nx (.optTest .p0 0 0 false 0x5A) ps).opAls 0 = 3) ∧
      (nx (.optTest .p0 0 0 false 0x5A) ps).opAls 0 = 3) ∧
    (-- alsPulseEnd
      (nx (.alsPulse 0) pl).isOn (opU 0) = true ∧ ((nx (.alsPulse 0) pl).opAls 0 = 2 ∨ (nx (.alsPulse 0) pl).opAls 0 = 3) ∧
      (nx (.alsPulse 0) pl).opAls 0 = 2) ∧
    (-- laserFail
      pf.isOn (opU 0) = true ∧ (pf.op 0).lit = true ∧ (pf.op 0).calLaser = none ∧
      ((2 = 1 ∧ pf.g F.OP_LASER_BIAS (2 * 0 + (pf.opLive 0)) = pf.opl 0 (pf.opLive 0) F.OP_LASER_BIAS_MAX) ∨ (2 = 2 ∧ pf.opl 0 (pf.opLive 0) F.OP_LASER_BIAS_EOL < pf.g F.OP_LASER_BIAS (2 * 0 + (pf.opLive 0)))) ∧
      pf.opUsable 0 (1 - (pf.opLive 0)) = true ∧ pf.opShed 0 = false) ∧
    (-- laserFail
      pd.isOn (opU 0) = true ∧ (pd.op 0).lit = true ∧ (pd.op 0).calLaser = none ∧
      ((2 = 1 ∧ pd.g F.OP_LASER_BIAS (2 * 0 + (pd.opLive 0)) = pd.opl 0 (pd.opLive 0) F.OP_LASER_BIAS_MAX) ∨ (2 = 2 ∧ pd.opl 0 (pd.opLive 0) F.OP_LASER_BIAS_EOL < pd.g F.OP_LASER_BIAS (2 * 0 + (pd.opLive 0)))) ∧
      pd.opUsable 0 (1 - (pd.opLive 0)) = false) ∧
    (-- calWindowStart
      (pc.modOp 1 fun x => {x with calLaser := some 0}).isOn (opU 0) = true ∧
      (((pc.modOp 1 fun x => {x with calLaser := some 0})).op 0).calLaser = none ∧
      (((pc.modOp 1 fun x => {x with calLaser := some 0})).op 0).calReq = (((pc.modOp 1 fun x => {x with calLaser := some 0}).op 0).calReq).head! :: (((pc.modOp 1 fun x => {x with calLaser := some 0}).op 0).calReq).tail ∧
      (((pc.modOp 1 fun x => {x with calLaser := some 0}).op 0).calReq).head! < 2 ∧
      (((pc.modOp 1 fun x => {x with calLaser := some 0})).op (1 - 0)).calLaser ≠ none) ∧
    (-- calWindowStart
      (sub 0 1 pc).isOn (opU 0) = true ∧ (((sub 0 1 pc)).op 0).calLaser = none ∧
      (((sub 0 1 pc)).op 0).calReq = (((sub 0 1 pc).op 0).calReq).head! :: (((sub 0 1 pc).op 0).calReq).tail ∧
      (((sub 0 1 pc).op 0).calReq).head! < 2 ∧ (((sub 0 1 pc)).op (1 - 0)).calLaser = none ∧ (sub 0 1 pc).opAls 0 ≠ 0) ∧
    (-- calWindowStart
      pc.isOn (opU 0) = true ∧ (pc.op 0).calLaser = none ∧ (pc.op 0).calReq = ((pc.op 0).calReq).head! :: ((pc.op 0).calReq).tail ∧
      ((pc.op 0).calReq).head! < 2 ∧ (pc.op (1 - 0)).calLaser = none ∧ pc.opAls 0 = 0 ∧ pc.opShed 0 = false ∧
      pc.opLive 0 ≠ ((pc.op 0).calReq).head!) ∧
    (-- calWindowStart
      pc0.isOn (opU 0) = true ∧ (pc0.op 0).calLaser = none ∧ (pc0.op 0).calReq = ((pc0.op 0).calReq).head! :: ((pc0.op 0).calReq).tail ∧
      ((pc0.op 0).calReq).head! < 2 ∧ (pc0.op (1 - 0)).calLaser = none ∧ pc0.opAls 0 = 0 ∧ pc0.opShed 0 = false ∧
      pc0.opLive 0 = ((pc0.op 0).calReq).head! ∧ pc0.opBit 0 6 = false ∧ pc0.opUsable 0 (1 - ((pc0.op 0).calReq).head!) = true) ∧
    (-- calDone
      ((pw0.op 0).calLaser).isSome = true ∧ ((pw0.op 0).calLaser).get! < 2 ∧ (pw0.op 0).calOff = false ∧
      (pw0.opFit 0 ((pw0.op 0).calLaser).get! ([] : List Nat)).1 = none) ∧
    (-- calDone
      ((pw0.op 0).calLaser).isSome = true ∧ ((pw0.op 0).calLaser).get! < 2 ∧ (pw0.op 0).calOff = false ∧
      (pw0.opFit 0 ((pw0.op 0).calLaser).get! (mp : List Nat)).1 = some (((pw0.opFit 0 ((pw0.op 0).calLaser).get! (mp : List Nat)).1).get!.1, ((pw0.opFit 0 ((pw0.op 0).calLaser).get! (mp : List Nat)).1).get!.2.1, ((pw0.opFit 0 ((pw0.op 0).calLaser).get! (mp : List Nat)).1).get!.2.2) ∧
      ((pw0.opFit 0 ((pw0.op 0).calLaser).get! (mp : List Nat)).1).get!.2.2 ≤ pw0.opl 0 ((pw0.op 0).calLaser).get! F.OP_LASER_BIAS_EOL) ∧
    (-- pwrAvgUpdate
      p1.isOn (opU 0) = true) :=
  ⟨by decide, by decide, by decide, by decide, by decide, by decide, by decide, by decide, by decide, by decide, by
   decide, by decide, by decide, by decide, by decide, by decide, by decide⟩

set_option maxRecDepth 100000 in
/-- OpticalCellsAreSentReceivedAndJudged: states and operands that meet the hypotheses of its clauses, one line group per clause. -/
theorem met_OpticalCellsAreSentReceivedAndJudged :
    (-- optSubmit
      p1.serves (.p0 : PortId) 48 = true ∧ p1.opJudge 0 (p1.acting (.p0 : PortId)) (cw : Word) = .ok ∧
      (List.range 4).find? (fun k => p1.opTxState 0 k == 0) = some (0 : Fin 4).val) ∧
    (-- optSubmit
      p1.serves (.p0 : PortId) 48 = true ∧ (p1.opJudge 0 (p1.acting (.p0 : PortId)) (0 : Word)) ≠ .ok) ∧
    (-- optPayloadCommit
      c1.serves (.p0 : PortId) 48 = true ∧ c1.g F.OP_CELL_TENANT (opTx 0 0) = c1.acting (.p0 : PortId) ∧ c1.opTxState 0 0 = 1) ∧
    (-- optPayloadCommit
      c2.serves (.p0 : PortId) 48 = true ∧ c2.g F.OP_CELL_TENANT (opTx 0 0) = c2.acting (.p0 : PortId) ∧ c2.opTxState 0 0 = 2) ∧
    (-- optCellAbort
      c2.serves (.p0 : PortId) 48 = true ∧ c2.g F.OP_CELL_TENANT (opTx 0 0) = c2.acting (.p0 : PortId) ∧ c2.opTxState 0 0 ≠ 0) ∧
    (-- optRxRelease
      r4.serves (.p0 : PortId) 48 = true ∧ (vget (r4.op 0).bufs 0).full = true ∧ (vget (r4.op 0).bufs 0).seen = true ∧
      (vget (r4.op 0).bufs 0).tenant = r4.acting (.p0 : PortId)) ∧
    (-- optCellTx
      (sub 0 1 (c2.modOp 0 fun x => {x with lit := false})).isOn (opU 0) = true ∧
      (((sub 0 1 (c2.modOp 0 fun x => {x with lit := false}))).op 0).lit = false ∧
      (sub 0 1 (c2.modOp 0 fun x => {x with lit := false})).opMayLight 0 = false ∧
      (((sub 0 1 (c2.modOp 0 fun x => {x with lit := false}))).op 0).cfgOld = none) ∧
    (-- optCellTx
      c2.isOn (opU 0) = true ∧ (c2.op 0).lit = true ∧ c2.opMayLight 0 = true ∧ (c2.op 0).transit = none ∧ (c2.op 0).cfgOld = none ∧
      ((c2.op 0).txOrder).head! < 4 ∧ (c2.op 0).timeDue = false ∧
      (c2.op 0).txOrder = ((c2.op 0).txOrder).head! :: ((c2.op 0).txOrder).tail ∧ c2.g F.OP_CELL_TYPE (opTx 0 ((c2.op 0).txOrder).head!) ≠ 4) ∧
    (-- optCellTx
      (c2.modOp 0 fun x => {x with txOrder := []}).isOn (opU 0) = true ∧ (((c2.modOp 0 fun x => {x with txOrder := []})).op 0).lit = true ∧
      (c2.modOp 0 fun x => {x with txOrder := []}).opMayLight 0 = true ∧
      (((c2.modOp 0 fun x => {x with txOrder := []})).op 0).transit = none ∧
      (((c2.modOp 0 fun x => {x with txOrder := []})).op 0).cfgOld = none ∧
      (((c2.modOp 0 fun x => {x with txOrder := []})).op 0).timeDue = false ∧
      (((c2.modOp 0 fun x => {x with txOrder := []})).op 0).txOrder = []) ∧
    (-- optCellTx
      c4.isOn (opU 0) = true ∧ (c4.op 0).lit = true ∧ c4.opMayLight 0 = true ∧ (c4.op 0).transit = none ∧ (c4.op 0).cfgOld = none ∧
      (c4.op 0).timeDue = true ∧ c4.opTimeMay 0 = true) ∧
    (-- timeCellDue
      (c4.modOp 0 fun x => {x with timeDue := false}).isOn (opU 0) = true ∧
      (c4.modOp 0 fun x => {x with timeDue := false}).opTimeMay 0 = true ∧
      (c4.modOp 0 fun x => {x with timeDue := false}).cycle % 2 ^ (c4.modOp 0 fun x => {x with timeDue := false}).opc 0 F.OP_CFG_TIME_EXP = 0) ∧
    (-- timeCellDue
      p1.isOn (opU 0) = true ∧ p1.opTimeMay 0 = false) ∧
    (-- optCellRx
      r0.isOn (opU 0) = true ∧ (r0.op 0).rxLock = 0 ∧ cellGood (0 : BitVec 192) = false) ∧
    (-- optCellRx
      r0.isOn (opU 0) = true ∧ (r0.op 0).rxLock = 0 ∧ cellGood (gc : BitVec 192) = true) ∧
    (-- optCellRx
      r1.isOn (opU 0) = true ∧ (r1.op 0).rxLock = 1 ∧ cellGood (0 : BitVec 192) = false) ∧
    (-- optCellRx
      (r1.modOp 0 fun x => {x with good := 0}).isOn (opU 0) = true ∧ (((r1.modOp 0 fun x => {x with good := 0})).op 0).rxLock = 1 ∧
      cellGood (gc : BitVec 192) = true ∧ (((r1.modOp 0 fun x => {x with good := 0})).op 0).good = 0) ∧
    (-- optCellRx
      r2.isOn (opU 0) = true ∧ (r2.op 0).rxLock = 1 ∧ cellGood (gc : BitVec 192) = true ∧ (r2.op 0).good ≠ 0) ∧
    (-- optCellRx
      r3.isOn (opU 0) = true ∧ (r3.op 0).rxLock = 2 ∧ cellGood (0 : BitVec 192) = false ∧ (r3.op 0).badRun < 6) ∧
    (-- optCellRx
      (r3.modOp 0 fun x => {x with badRun := 6}).isOn (opU 0) = true ∧ (((r3.modOp 0 fun x => {x with badRun := 6})).op 0).rxLock = 2 ∧
      cellGood (0 : BitVec 192) = false ∧ 6 ≤ (((r3.modOp 0 fun x => {x with badRun := 6})).op 0).badRun) ∧
    (-- optCellRx
      r3.isOn (opU 0) = true ∧ (r3.op 0).rxLock = 2 ∧ cellGood (gc : BitVec 192) = true ∧ (r3.op 0).rxTrack = false ∧
      (r3.op 0).rxNext = cellField (gc : BitVec 192) 164 8 ∧ cellField (gc : BitVec 192) 164 8 % 8 ≠ 0 ∧
      cellField (gc : BitVec 192) 181 3 = 1 ∧ r3.enabled (cellField (gc : BitVec 192) 172 6) = true ∧ 1 ≤ r3.opc 0 F.OP_CFG_RX_TLIM ∧
      (List.range 4).find? (fun bq => !(vget (r3.op 0).bufs bq).full) = some (0) ∧
      (∀ k : Fin 4, (vget (r3.op 0).bufs k.val).full = true → (vget (r3.op 0).bufs k.val).tenant ≠ cellField (gc : BitVec 192) 172 6)) ∧
    (-- optCellRx
      rg2.isOn (opU 0) = true ∧ (rg2.op 0).rxLock = 2 ∧ cellGood (gt : BitVec 192) = true ∧ (rg2.op 0).rxTrack = true ∧
      (rg2.op 0).prevOn = true ∧ (rg2.op 0).rxAuth = true ∧ (rg2.op 0).rxNext = cellField (gt : BitVec 192) 164 8 ∧
      cellField (gt : BitVec 192) 164 8 % 8 = 7 ∧ cellField (gt : BitVec 192) 181 3 = 0 ∧
      rg2.enabled (cellField (gt : BitVec 192) 172 6) = true ∧
      (rg2.opCause 0 ((rg2.op 0).rxGroup ++ [⟨BitVec.ofNat 152 (cellField (gt : BitVec 192) 32 152), BitVec.ofNat 16 (cellField (gt : BitVec 192) 0 16), bitOf (cellField (gt : BitVec 192) 160 4) 3⟩])) = 0) ∧
    (-- optCellRx
      r5.isOn (opU 0) = true ∧ (r5.op 0).rxLock = 2 ∧ cellGood (gi : BitVec 192) = true ∧ (r5.op 0).rxTrack = true ∧
      (r5.op 0).prevOn = true ∧ (r5.op 0).rxAuth = true ∧ (r5.op 0).rxNext = cellField (gi : BitVec 192) 164 8 ∧
      cellField (gi : BitVec 192) 164 8 % 8 = 7 ∧ cellField (gi : BitVec 192) 181 3 = 0 ∧
      r5.enabled (cellField (gi : BitVec 192) 172 6) = true ∧
      (r5.opCause 0 ((r5.op 0).rxGroup ++ [⟨BitVec.ofNat 152 (cellField (gi : BitVec 192) 32 152), BitVec.ofNat 16 (cellField (gi : BitVec 192) 0 16), bitOf (cellField (gi : BitVec 192) 160 4) 3⟩])) ≠ 0) :=
  ⟨by decide, by decide, by decide, by decide, by decide, by decide, by decide, by decide, by decide, by decide, by
   decide, by decide, by decide, by decide, by decide, by decide, by decide, by decide, by decide, by decide, by decide,
   by decide⟩

end W17

namespace W18

def b0 := unitsIn .on [.gy, .sens, .loop, .cald] ready
def c0 := b0.modSfc 1 fun x => {x with cur := [(F.SF_CH_EN,1),(F.SF_CH_EXC,2),(F.SF_CH_TENANT,3)].foldl (fun w x => x.1.into x.2 w) 0, excOn := true}
def c1 := c0.modSfc 1 fun x => {x with cur := F.SF_CH_FILTER.into 1 x.cur}
def c2 := c1.modSf fun x => {x with auxAt := some 2}
def c3 := (withF [(F.SF_CH_EN, 3, 1), (F.SF_CH_EXC, 3, 1)] c1).modSfc 1 fun x => {x with pend := true}
def c4 := nx (.excTrip 1 1) (withF [(F.SF_CFG_EXC_RETRY_S, 0, 5)] c0)
def d0 := (withF [(F.SF_CFG_IMP_EN, 0, 1), (F.SF_CFG_IMP_PERIOD, 0, 2)] c0).modSfc 1 fun x => {x with due := some 777}
def d1 := nx (.impCheckDue 1) d0
def d2 := nx .impCheckStart d1
def setSub (u : Src) (v : Nat) (s : State) : State := { s with units := vmod s.units u.idx (fun (m : Mirror) => {m with sub := v}) }
def l0 := withF [(F.LP_CTL_FAIL_LO, 0, 9000), (F.LP_CTL_FAIL_HI, 0, 60000), (F.LP_CTL_SLEW, 0, 100), (F.LP_CTL_MODE, 0, 2), (F.LP_CTL_HOLD_MS, 0, 3)] b0
def l1 := (unitsIn .stopping [.loop] l0).modLp fun x => {x with phase := 2, drive := true}
def l2 := setSub .loop 0 (withF [(F.LP_CTL_MODE, 0, 0)] l0)
def c5 := c0.modSfc 1 fun x => {x with cur := F.SF_CH_NEXP.into 3 (F.SF_CH_FILTER.into 1 x.cur)}
def c6 := c5.modGy fun x => {x with stamp := BitVec.ofNat 80 (5 * 2^48 + 77)}

/-- SensorConversionsChangesAndExcitation: states and operands that meet the hypotheses of its clauses, one line group per clause. -/
theorem met_SensorConversionsChangesAndExcitation :
    (-- sinc3Output
      c0.sfRuns 1 = true ∧ c0.sfNormal 1 = true ∧ c0.sfCur 1 F.SF_CH_FILTER ≠ 1) ∧
    (-- cycleWindowEnd
      c1.sfRuns 1 = true ∧ c1.sfNormal 1 = true ∧ c1.sfCur 1 F.SF_CH_FILTER = 1 ∧ (c1.sfc 1).jumps = c1.gy.jumps ∧
      c1.toCycle.cycle % 2 ^ c1.sfCur 1 F.SF_CH_NEXP = 0 ∧ (c1.sfc 1).lastOut ≠ some c1.toCycle.cycle) ∧
    (-- cycleWindowEnd
      c6.sfRuns 1 = true ∧ c6.sfNormal 1 = true ∧ c6.sfCur 1 F.SF_CH_FILTER = 1 ∧ (c6.sfc 1).jumps = c6.gy.jumps ∧
      c6.toCycle.cycle % 2 ^ c6.sfCur 1 F.SF_CH_NEXP ≠ 0) ∧
    (-- cycleWindowEnd
      (c1.modGy fun x => {x with jumps := 3}).sfRuns 1 = true ∧ (c1.modGy fun x => {x with jumps := 3}).sfNormal 1 = true ∧
      (c1.modGy fun x => {x with jumps := 3}).sfCur 1 F.SF_CH_FILTER = 1 ∧
      (((c1.modGy fun x => {x with jumps := 3})).sfc 1).jumps ≠ (c1.modGy fun x => {x with jumps := 3}).gy.jumps) ∧
    (-- auxConversion
      c1.isOn .sens = true ∧ c1.sf.auxAt = none) ∧
    (-- auxConversion
      c2.isOn .sens = true ∧ c2.sf.auxAt.isSome = true ∧ c2.sf.auxAt.get! < 5 ∧ c2.sf.auxJumps = c2.gy.jumps) ∧
    (-- auxConversion
      (c2.modGy fun x => {x with jumps := 3}).isOn .sens = true ∧
      (c2.modGy fun x => {x with jumps := 3}).sf.auxAt = some (((c2.modGy fun x => {x with jumps := 3})).sf.auxAt).get! ∧
      (((c2.modGy fun x => {x with jumps := 3})).sf.auxAt).get! < 5 ∧
      (c2.modGy fun x => {x with jumps := 3}).sf.auxJumps ≠ (c2.modGy fun x => {x with jumps := 3}).gy.jumps) ∧
    (-- sfChangeApply
      (withF [(F.SF_CH_FILTER, 3, 1)] c3).isOn .sens = true ∧ (((withF [(F.SF_CH_FILTER, 3, 1)] c3)).sfc 1).pend = true ∧
      F.SF_CH_FILTER.of (((withF [(F.SF_CH_FILTER, 3, 1)] c3)).rd 0x3C (2 + 1)) = (withF [(F.SF_CH_FILTER, 3, 1)] c3).sfCur 1 F.SF_CH_FILTER) ∧
    (-- sfChangeApply
      c3.isOn .sens = true ∧ (c3.sfc 1).pend = true ∧ F.SF_CH_FILTER.of (c3.rd 0x3C (2 + 1)) = 0 ∧ c3.sfCur 1 F.SF_CH_FILTER = 1 ∧
      c3.sfCur 1 F.SF_CH_EN = 1 ∧ c3.sfNormal 1 = true) ∧
    (-- excTrip
      c0.sfExcited 1 = true ∧ (1 = 1 ∨ 1 = 2 ∧ (∀ k : Fin 4, (1 : Fin 4) < k → c0.sfExcited k.val = false))) ∧
    (-- excRestore
      ((c4.sfc 1).retryAt).isSome = true ∧ c4.isOn .sens = true ∧ c4.b F.SF_CH_TRIPPED (2 + 1) = true) ∧
    (-- sfLoad
      c0.serves (.p0 : PortId) 48 = true ∧ c0.sfMayCommit (c0.acting (.p0 : PortId)) (6 + 1) = true) ∧
    (-- a value inside the range, and one outside
      c0.sfRuns 1 = true ∧ c0.sfNormal 1 = true ∧ -(2 ^ 23) < (2 ^ 23 - 1 : Int) ∧ (2 ^ 23 - 1 : Int) < 2 ^ 23 ∧ (2 : Int) ^ 23 ≤ 2 ^ 23) :=
  ⟨by decide, by decide, by decide, by decide, by decide, by decide, by decide, by decide, by decide, by decide, by
   decide, by decide, by decide⟩

/-- ImpedanceChecksAndLowRate: states and operands that meet the hypotheses of its clauses, one line group per clause. -/
theorem met_ImpedanceChecksAndLowRate :
    (-- impCheckDue
      d0.isOn .sens = true ∧ ((d0.sfc 1).due).isSome = true) ∧
    (-- impCheckStart
      d1.isOn .sens = true ∧ d1.sfNextCheck.get! < 4 ∧ d1.sf.check = none ∧ d1.sfNextCheck.isSome = true ∧ d1.sf.checkReq = none) ∧
    (-- impCheckStart
      (setSub .cald 2 d1).isOn .sens = true ∧ (((setSub .cald 2 d1)).sfNextCheck).get! < 4 ∧ (setSub .cald 2 d1).sf.check = none ∧
      (setSub .cald 2 d1).sfNextCheck = some (((setSub .cald 2 d1)).sfNextCheck).get! ∧ (setSub .cald 2 d1).sfNoPower = true) ∧
    (-- impCheckStart
      (d1.unitClaim .line 0x20).isOn .sens = true ∧ (((d1.unitClaim .line 0x20)).sfNextCheck).get! < 4 ∧
      (d1.unitClaim .line 0x20).sf.check = none ∧
      (d1.unitClaim .line 0x20).sfNextCheck = some (((d1.unitClaim .line 0x20)).sfNextCheck).get! ∧
      (d1.unitClaim .line 0x20).sfNoPower = false ∧ (d1.unitClaim .line 0x20).claimed 0x20 = true) ∧
    (-- impCheckStart
      d1.isOn .sens = true ∧ d1.sfNextCheck.get! < 4 ∧ d1.sf.check = none ∧ d1.sfNextCheck.isSome = true ∧ d1.sfNoPower = false ∧
      d1.claimed 0x20 = false) ∧
    (-- impResult
      d2.isOn .sens = true ∧ d2.sf.check.get! < 4 ∧ d2.sf.check.isSome = true ∧ 10 ≠ 0 ∧ (roundQ (1 * 10000 : Nat) 10).toNat < 65536) ∧
    (-- impResult
      d2.isOn .sens = true ∧ d2.sf.check.get! < 4 ∧ d2.sf.check.isSome = true ∧ 100 ≠ 0) ∧
    (-- impCheck
      (setSub .cald 2 c0).isOn .sens = true ∧ (setSub .cald 2 c0).ownerRow (.p0 : PortId) .sens (0 : Byte) (false : Bool) = true ∧
      (1 : Byte).toNat < 4 ∧ (setSub .cald 2 c0).sf.check = none ∧ (setSub .cald 2 c0).sfCheckable (1 : Byte).toNat = true ∧
      (setSub .cald 2 c0).sfNoPower = true) ∧
    (-- impCheck
      (c0.unitClaim .line 0x20).isOn .sens = true ∧
      (c0.unitClaim .line 0x20).ownerRow (.p0 : PortId) .sens (0 : Byte) (false : Bool) = true ∧ (1 : Byte).toNat < 4 ∧
      (c0.unitClaim .line 0x20).sf.check = none ∧ (c0.unitClaim .line 0x20).sfCheckable (1 : Byte).toNat = true ∧
      (c0.unitClaim .line 0x20).sfNoPower = false ∧ (c0.unitClaim .line 0x20).claimed 0x20 = true) ∧
    (-- impCheck
      c0.isOn .sens = true ∧ c0.ownerRow (.p0 : PortId) .sens (0 : Byte) (false : Bool) = true ∧ (1 : Byte).toNat < 4 ∧ c0.sf.check = none ∧
      c0.sfCheckable (1 : Byte).toNat = true ∧ c0.sfNoPower = false ∧ c0.claimed 0x20 = false) ∧
    (-- lowRate
      c0.isOn .sens = true ∧ c0.sfLow = (decide (4 ≤ c0.pw.steps) || (c0.mirror .sens).held == 1)) ∧
    (-- lowRate
      ({d2 with pw := {d2.pw with steps := 4}}).isOn .sens = true ∧
      ({d2 with pw := {d2.pw with steps := 4}}).sfLow ≠ (decide (4 ≤ ({d2 with pw := {d2.pw with steps := 4}}).pw.steps) || (({d2 with pw := {d2.pw with steps := 4}}).mirror .sens).held == 1) ∧
      (decide (4 ≤ ({d2 with pw := {d2.pw with steps := 4}}).pw.steps) || (({d2 with pw := {d2.pw with steps := 4}}).mirror .sens).held == 1) = true) :=
  ⟨by decide, by decide, by decide, by decide, by decide, by decide, by decide, by decide, by decide, by decide, by
   decide, by decide⟩

/-- LoopOutputFollowsItsTarget: states and operands that meet the hypotheses of its clauses, one line group per clause. -/
theorem met_LoopOutputFollowsItsTarget :
    (-- loopUpdate
      ((unitsIn .off [.loop] l0).lp.lastUpd ≠ some (unitsIn .off [.loop] l0).hcIndex ∨ (unitsIn .off [.loop] l0).onMark (unitsIn .off [.loop] l0).gy.grid 32768 = false) ∧
      (unitsIn .off [.loop] l0).isOn .loop = false ∧ (unitsIn .off [.loop] l0).st .loop ≠ .stopping) ∧
    (-- loopUpdate
      (l0.lp.lastUpd ≠ some l0.hcIndex ∨ l0.onMark l0.gy.grid 32768 = false) ∧ l0.isOn .loop = true ∧ 245 * 65536 < 240 * 67000) ∧
    (-- loopUpdate
      ((l0.modLp fun x => {x with phase := 1}).lp.lastUpd ≠ some (l0.modLp fun x => {x with phase := 1}).hcIndex ∨ (l0.modLp fun x => {x with phase := 1}).onMark (l0.modLp fun x => {x with phase := 1}).gy.grid 32768 = false) ∧
      (500 < 65536 ∧ 600 < 65536 ∧ 240 * 500 ≤ 245 * 65536) ∧ (l0.modLp fun x => {x with phase := 1}).isOn .loop = true ∧
      (l0.modLp fun x => {x with phase := 1}).lp.phase = 1) ∧
    (-- loopUpdate
      (l1.lp.lastUpd ≠ some l1.hcIndex ∨ l1.onMark l1.gy.grid 32768 = false) ∧ (500 < 65536 ∧ 600 < 65536 ∧ 240 * 500 ≤ 245 * 65536) ∧
      l1.st .loop = .stopping ∧ l1.lp.phase = 2) ∧
    (-- loopUpdate
      ((l1.modLp fun x => {x with phase := 1}).lp.lastUpd ≠ some (l1.modLp fun x => {x with phase := 1}).hcIndex ∨ (l1.modLp fun x => {x with phase := 1}).onMark (l1.modLp fun x => {x with phase := 1}).gy.grid 32768 = false) ∧
      (500 < 65536 ∧ 600 < 65536 ∧ 240 * 500 ≤ 245 * 65536) ∧ (l1.modLp fun x => {x with phase := 1}).st .loop = .stopping ∧
      (l1.modLp fun x => {x with phase := 1}).lp.phase ≠ 2) ∧
    (-- loopUpdate
      (l0.lp.lastUpd ≠ some l0.hcIndex ∨ l0.onMark l0.gy.grid 32768 = false) ∧ (500 < 65536 ∧ 600 < 65536 ∧ 240 * 500 ≤ 245 * 65536) ∧
      l0.isOn .loop = true ∧ l0.lp.phase ≠ 1 ∧ (l0.mirror .loop).pend = none ∧ (l0.g F.LP_CTL_MODE 0) = 2) ∧
    (-- loopUpdate
      ((withF [(F.LP_CTL_MODE, 0, 3)] l0).lp.lastUpd ≠ some (withF [(F.LP_CTL_MODE, 0, 3)] l0).hcIndex ∨ (withF [(F.LP_CTL_MODE, 0, 3)] l0).onMark (withF [(F.LP_CTL_MODE, 0, 3)] l0).gy.grid 32768 = false) ∧
      (500 < 65536 ∧ 600 < 65536 ∧ 240 * 500 ≤ 245 * 65536) ∧ (withF [(F.LP_CTL_MODE, 0, 3)] l0).isOn .loop = true ∧
      (withF [(F.LP_CTL_MODE, 0, 3)] l0).lp.phase ≠ 1 ∧ (((withF [(F.LP_CTL_MODE, 0, 3)] l0)).mirror .loop).pend = none ∧
      (((withF [(F.LP_CTL_MODE, 0, 3)] l0)).g F.LP_CTL_MODE 0) = 3) ∧
    (-- loopUpdate
      ((withF [(F.LP_CTL_MODE, 0, 1), (F.LP_STAT_OUTPUT, 3, 300)] l0).lp.lastUpd ≠ some (withF [(F.LP_CTL_MODE, 0, 1), (F.LP_STAT_OUTPUT, 3, 300)] l0).hcIndex ∨ (withF [(F.LP_CTL_MODE, 0, 1), (F.LP_STAT_OUTPUT, 3, 300)] l0).onMark (withF [(F.LP_CTL_MODE, 0, 1), (F.LP_STAT_OUTPUT, 3, 300)] l0).gy.grid 32768 = false) ∧
      (500 < 65536 ∧ 600 < 65536 ∧ 240 * 500 ≤ 245 * 65536) ∧
      (withF [(F.LP_CTL_MODE, 0, 1), (F.LP_STAT_OUTPUT, 3, 300)] l0).isOn .loop = true ∧
      (withF [(F.LP_CTL_MODE, 0, 1), (F.LP_STAT_OUTPUT, 3, 300)] l0).lp.phase ≠ 1 ∧
      (((withF [(F.LP_CTL_MODE, 0, 1), (F.LP_STAT_OUTPUT, 3, 300)] l0)).mirror .loop).pend = none ∧
      (((withF [(F.LP_CTL_MODE, 0, 1), (F.LP_STAT_OUTPUT, 3, 300)] l0)).g F.LP_CTL_MODE 0) = 1) ∧
    (-- loopUpdate
      ((l0.changeMirror .loop fun m => {m with held := 1}).lp.lastUpd ≠ some (l0.changeMirror .loop fun m => {m with held := 1}).hcIndex ∨ (l0.changeMirror .loop fun m => {m with held := 1}).onMark (l0.changeMirror .loop fun m => {m with held := 1}).gy.grid 32768 = false) ∧
      (500 < 65536 ∧ 600 < 65536 ∧ 240 * 500 ≤ 245 * 65536) ∧ (l0.changeMirror .loop fun m => {m with held := 1}).isOn .loop = true ∧
      (l0.changeMirror .loop fun m => {m with held := 1}).lp.phase ≠ 1 ∧
      (((l0.changeMirror .loop fun m => {m with held := 1})).mirror .loop).pend = none ∧
      (((l0.changeMirror .loop fun m => {m with held := 1})).mirror .loop).held = 1) ∧
    (-- loopUpdate
      ((l0.changeMirror .loop fun m => {m with held := 2}).lp.lastUpd ≠ some (l0.changeMirror .loop fun m => {m with held := 2}).hcIndex ∨ (l0.changeMirror .loop fun m => {m with held := 2}).onMark (l0.changeMirror .loop fun m => {m with held := 2}).gy.grid 32768 = false) ∧
      (500 < 65536 ∧ 600 < 65536 ∧ 240 * 500 ≤ 245 * 65536) ∧ (l0.changeMirror .loop fun m => {m with held := 2}).isOn .loop = true ∧
      (l0.changeMirror .loop fun m => {m with held := 2}).lp.phase ≠ 1 ∧
      (((l0.changeMirror .loop fun m => {m with held := 2})).mirror .loop).pend = none ∧
      (((l0.changeMirror .loop fun m => {m with held := 2})).mirror .loop).held = 2) ∧
    (-- loopUpdate
      (({ (withF [(F.LP_CTL_HOSTFAIL_EN, 0, 1)] l0) with dev := { l0.dev with hostLost := true } }).lp.lastUpd ≠ some ({ (withF [(F.LP_CTL_HOSTFAIL_EN, 0, 1)] l0) with dev := { l0.dev with hostLost := true } }).hcIndex ∨ ({ (withF [(F.LP_CTL_HOSTFAIL_EN, 0, 1)] l0) with dev := { l0.dev with hostLost := true } }).onMark ({ (withF [(F.LP_CTL_HOSTFAIL_EN, 0, 1)] l0) with dev := { l0.dev with hostLost := true } }).gy.grid 32768 = false) ∧
      (500 < 65536 ∧ 600 < 65536 ∧ 240 * 500 ≤ 245 * 65536) ∧
      ({ (withF [(F.LP_CTL_HOSTFAIL_EN, 0, 1)] l0) with dev := { l0.dev with hostLost := true } }).isOn .loop = true ∧
      ({ (withF [(F.LP_CTL_HOSTFAIL_EN, 0, 1)] l0) with dev := { l0.dev with hostLost := true } }).lp.phase ≠ 1 ∧
      (({ (withF [(F.LP_CTL_HOSTFAIL_EN, 0, 1)] l0) with dev := { l0.dev with hostLost := true } }).mirror .loop).pend = none ∧
      (({ (withF [(F.LP_CTL_HOSTFAIL_EN, 0, 1)] l0) with dev := { l0.dev with hostLost := true } }).mirror .loop).held = 0 ∧
      ({ (withF [(F.LP_CTL_HOSTFAIL_EN, 0, 1)] l0) with dev := { l0.dev with hostLost := true } }).b F.LP_CTL_HR_POL 0 = false ∧
      ({ (withF [(F.LP_CTL_HOSTFAIL_EN, 0, 1)] l0) with dev := { l0.dev with hostLost := true } }).dev.hostLost = true ∧
      ({ (withF [(F.LP_CTL_HOSTFAIL_EN, 0, 1)] l0) with dev := { l0.dev with hostLost := true } }).b F.LP_CTL_HOSTFAIL_EN 0 = true) ∧
    (-- loopSrc
      l2.isOn .loop = true ∧ l2.sub .loop % 4 = 0 ∧ l2.lpBit 3 = false) :=
  ⟨by decide, by decide, by decide, by decide, by decide, by decide, by decide, by decide, by decide, by decide, by
   decide, by decide⟩

end W18

namespace W19

def r0 := State.reset
def ph (p : Phase) (s : State) : State := { s with dev := { s.dev with phase := p, hibAt := 5, released := 17 } }
def base := withF [(F.PW_EMBER_HOST0_HOST3, 3, 77), (F.SN_STAT_LAPS, 0, 9), (F.LA_CFG_ADDR, 0, 5), (F.PW_EMBER_SECONDS,0,100)] ({on with tick := 60000000})
def st0 := ph .starting r0
def stp (k : Nat) (s : State) : State := { s with dev := { s.dev with step := k } }
def e0 := (unitsIn .on [.gov] base).modPw fun x => { x with emberNew := [(base.tick, 0, F.PW_EMBER_ALARM.into 55 (F.PW_EMBER_SECONDS.into 44 0)), (base.tick, 3, 5)], level := 1, pwren := true }
def al := withF [(F.PW_EMBER_ALARM_EN, 0, 1), (F.PW_EMBER_ALARM, 0, 3000), (F.PW_EMBER_PWREN_USED, 0, 1)] e0
def quiet := unitsIn .off [.line, .cald] al
def asl := (ph .hib al).modPw fun x => {x with pwren := false}
def xf := nx .x32Fail e0

/-- ResetsRestartTheDeviceWithTheirCause: states and operands that meet the hypotheses of its clauses, one line group per clause. -/
theorem met_ResetsRestartTheDeviceWithTheirCause :
    (-- powerOnReset
      (ph .por base).dev.phase = .por ∧ (true : Bool) = true) ∧
    (-- resetN
      (ph .reset base).dev.phase ≠ .por ∧ (ph .reset base).dev.phase ≠ .black ∧ (ph .reset base).dev.testHeld = false ∧
      (ph .reset base).dev.phase = .reset) ∧
    (-- resetN
      base.dev.phase ≠ .por ∧ base.dev.phase ≠ .black ∧ base.dev.testHeld = false ∧ base.dev.phase ≠ .reset) ∧
    (-- blackHoldExpire
      (ph .black base).dev.phase = .black) ∧
    (-- hibernateTimeout
      (ph .hib base).dev.phase = .hib) ∧
    (-- hibernateTimeout
      base.dev.phase ≠ .hib) :=
  ⟨by decide, by decide, by decide, by decide, by decide, by decide⟩

/-- StartUpTakesItsStepsInOrder: states and operands that meet the hypotheses of its clauses, one line group per clause. -/
theorem met_StartUpTakesItsStepsInOrder :
    (-- startUp
      (stp 5 (unitsIn .starting [.sinter] st0)).dev.phase = .starting ∧
      ((((stp 5 (unitsIn .starting [.sinter] st0))).dev.step = 3 ∧ (stp 5 (unitsIn .starting [.sinter] st0)).st .gov = .starting) ∨ (((stp 5 (unitsIn .starting [.sinter] st0))).dev.step = 5 ∧ (stp 5 (unitsIn .starting [.sinter] st0)).st .sinter = .starting))) ∧
    (-- startUp
      st0.dev.phase = .starting ∧ (¬ (st0.dev.step = 3 ∧ st0.st .gov = .starting)) ∧ (¬ (st0.dev.step = 5 ∧ st0.st .sinter = .starting)) ∧
      st0.dev.step < 7) ∧
    (-- startUp
      st0.dev.phase = .starting ∧ (¬ (st0.dev.step = 3 ∧ st0.st .gov = .starting)) ∧ (¬ (st0.dev.step = 5 ∧ st0.st .sinter = .starting)) ∧
      st0.dev.step = 0) ∧
    (-- startUp
      (stp 1 st0).dev.phase = .starting ∧ (¬ (((stp 1 st0)).dev.step = 3 ∧ (stp 1 st0).st .gov = .starting)) ∧
      (¬ (((stp 1 st0)).dev.step = 5 ∧ (stp 1 st0).st .sinter = .starting)) ∧ (stp 1 st0).dev.step = 1) ∧
    (-- startUp
      (stp 2 st0).dev.phase = .starting ∧ (¬ (((stp 2 st0)).dev.step = 3 ∧ (stp 2 st0).st .gov = .starting)) ∧
      (¬ (((stp 2 st0)).dev.step = 5 ∧ (stp 2 st0).st .sinter = .starting)) ∧ (stp 2 st0).dev.step = 2) ∧
    (-- startUp
      (stp 3 st0).dev.phase = .starting ∧ (¬ (((stp 3 st0)).dev.step = 3 ∧ (stp 3 st0).st .gov = .starting)) ∧
      (¬ (((stp 3 st0)).dev.step = 5 ∧ (stp 3 st0).st .sinter = .starting)) ∧ (stp 3 st0).dev.step = 3) ∧
    (-- startUp
      (stp 4 st0).dev.phase = .starting ∧ (¬ (((stp 4 st0)).dev.step = 3 ∧ (stp 4 st0).st .gov = .starting)) ∧
      (¬ (((stp 4 st0)).dev.step = 5 ∧ (stp 4 st0).st .sinter = .starting)) ∧ (stp 4 st0).dev.step = 4) ∧
    (-- startUp
      (stp 5 st0).dev.phase = .starting ∧ (¬ (((stp 5 st0)).dev.step = 3 ∧ (stp 5 st0).st .gov = .starting)) ∧
      (¬ (((stp 5 st0)).dev.step = 5 ∧ (stp 5 st0).st .sinter = .starting)) ∧ (stp 5 st0).dev.step = 5) ∧
    (-- startUp
      (stp 6 st0).dev.phase = .starting ∧ (¬ (((stp 6 st0)).dev.step = 3 ∧ (stp 6 st0).st .gov = .starting)) ∧
      (¬ (((stp 6 st0)).dev.step = 5 ∧ (stp 6 st0).st .sinter = .starting)) ∧ (stp 6 st0).dev.step = 6 ∧ (stp 6 st0).bootWords = none ∧
      (stp 6 st0).images = []) ∧
    (-- startUp
      (stp 7 st0).dev.phase = .starting ∧ (¬ (((stp 7 st0)).dev.step = 3 ∧ (stp 7 st0).st .gov = .starting)) ∧
      (¬ (((stp 7 st0)).dev.step = 5 ∧ (stp 7 st0).st .sinter = .starting)) ∧ (stp 7 st0).dev.step = 7) :=
  ⟨by decide, by decide, by decide, by decide, by decide, by decide, by decide, by decide, by decide, by decide⟩

/-- EmberHibernationAndWaking: states and operands that meet the hypotheses of its clauses, one line group per clause. -/
theorem met_EmberHibernationAndWaking :
    (-- pwEmberCommit
      base.pw.emberNew = []) ∧
    (-- pwEmberCommit
      e0.pw.emberNew = e0.pw.emberNew.head! :: e0.pw.emberNew.tail ∧ e0.pw.emberNew.head!.2.1 < 6 ∧ e0.pw.emberNew.head!.2.1 = 0) ∧
    (-- pwEmberCommit
      (nx .pwEmberCommit e0).pw.emberNew = (((nx .pwEmberCommit e0)).pw.emberNew).head! :: (((nx .pwEmberCommit e0)).pw.emberNew).tail ∧
      (((nx .pwEmberCommit e0)).pw.emberNew).head!.2.1 < 6 ∧ (((nx .pwEmberCommit e0)).pw.emberNew).head!.2.1 ≠ 0) ∧
    (-- door
      ((!e0.pw.doorRaw) : Bool) ≠ e0.pw.doorRaw ∧ e0.b F.PW_EMBER_X32_FAIL 1 = false ∧ e0.coreRuns = true) ∧
    (-- door
      ((!e0.pw.doorRaw) : Bool) ≠ (ph .reset e0).pw.doorRaw ∧ (ph .reset e0).b F.PW_EMBER_X32_FAIL 1 = false ∧
      (ph .reset e0).coreRuns = false) ∧
    (-- rtcAlarm
      ((withF [(F.PW_EMBER_SECONDS, 0, 3000)] al).modPw fun x => {x with rtcAt := al.tick}).b F.PW_EMBER_ALARM_EN 0 = true ∧
      ((withF [(F.PW_EMBER_SECONDS, 0, 3000)] al).modPw fun x => {x with rtcAt := al.tick}).b F.PW_EMBER_X32_FAIL 1 = false ∧
      (¬ ((((withF [(F.PW_EMBER_SECONDS, 0, 3000)] al).modPw fun x => {x with rtcAt := al.tick})).rtcNow / 32768 = ((withF [(F.PW_EMBER_SECONDS, 0, 3000)] al).modPw fun x => {x with rtcAt := al.tick}).g F.PW_EMBER_ALARM 0 ∧ ((withF [(F.PW_EMBER_SECONDS, 0, 3000)] al).modPw fun x => {x with rtcAt := al.tick}).pw.alarmDone = true)) ∧
      ((withF [(F.PW_EMBER_SECONDS, 0, 3000)] al).modPw fun x => {x with rtcAt := al.tick}).rtcNow / 32768 = ((withF [(F.PW_EMBER_SECONDS, 0, 3000)] al).modPw fun x => {x with rtcAt := al.tick}).g F.PW_EMBER_ALARM 0) ∧
    (-- rtcAlarm
      al.b F.PW_EMBER_ALARM_EN 0 = true ∧ al.b F.PW_EMBER_X32_FAIL 1 = false ∧
      (¬ (al.rtcNow / 32768 = al.g F.PW_EMBER_ALARM 0 ∧ al.pw.alarmDone = true)) ∧ al.coreRuns = true) ∧
    (-- rtcAlarm
      (ph .por al).b F.PW_EMBER_ALARM_EN 0 = true ∧ (ph .por al).b F.PW_EMBER_X32_FAIL 1 = false ∧
      (¬ (((ph .por al)).rtcNow / 32768 = (ph .por al).g F.PW_EMBER_ALARM 0 ∧ (ph .por al).pw.alarmDone = true)) ∧
      (ph .por al).coreRuns = false) ∧
    (-- hibernate
      quiet.ownerRow (.p0 : PortId) .gov (0 : Byte) (false : Bool) = true ∧ quiet.b F.PW_EMBER_PWREN_USED 0 = true ∧
      quiet.isOn .gov = true ∧ (quiet.b F.PW_EMBER_WAKE_N_EN 0 || quiet.b F.PW_EMBER_DOOR_EN 0 || quiet.b F.PW_EMBER_ALARM_EN 0) = true ∧
      quiet.pw.level < 2 ∧ (∀ u ∈ hibOrder, quiet.st u ≠ .stopping) ∧ (∀ u ∈ hibOrder, quiet.running u = false) ∧ quiet.sn.order = [] ∧
      quiet.sn.running = none) ∧
    (-- hibernate
      al.ownerRow (.p0 : PortId) .gov (0 : Byte) (false : Bool) = true ∧ al.b F.PW_EMBER_PWREN_USED 0 = true ∧ al.isOn .gov = true ∧
      (al.b F.PW_EMBER_WAKE_N_EN 0 || al.b F.PW_EMBER_DOOR_EN 0 || al.b F.PW_EMBER_ALARM_EN 0) = true ∧ al.pw.level < 2 ∧
      (∀ uq ∈ hibOrder, al.st uq ≠ .stopping) ∧ hibOrder.find? (fun uq => al.running uq) = some (.line)) ∧
    (-- hibernate
      al.ownerRow (.p0 : PortId) .gov (0 : Byte) (false : Bool) = true ∧ ((0xA4 : Byte) ≠ 0xA5 ∨ al.b F.PW_EMBER_PWREN_USED 0 = false)) ∧
    (-- wakeSource
      (asl.dev.phase = .hib ∨ asl.dev.phase = .por ∧ asl.dev.cause = 6) ∧
      (if 2 = 0 then asl.b F.PW_EMBER_WAKE_N_EN 0 else if 2 = 1 then asl.b F.PW_EMBER_DOOR_EN 0 && !asl.b F.PW_EMBER_X32_FAIL 1 else asl.b F.PW_EMBER_ALARM_EN 0 && !asl.b F.PW_EMBER_X32_FAIL 1) = true ∧
      asl.pw.pwren = false) ∧
    (-- wakeSource
      (¬ (base.dev.phase = .hib ∨ base.dev.phase = .por ∧ base.dev.cause = 6))) :=
  ⟨by decide, by decide, by decide, by decide, by decide, by decide, by decide, by decide, by decide, by decide, by
   decide, by decide, by decide⟩

/-- ClockFailuresResetTheDeviceOrStopTheRtc: states and operands that meet the hypotheses of its clauses, one line group per clause. -/
theorem met_ClockFailuresResetTheDeviceOrStopTheRtc :
    (-- clockFail
      base.dev.phase ≠ .por ∧ base.dev.phase ≠ .black ∧ base.dev.phase ≠ .reset) ∧
    (-- door
      xf.b F.PW_EMBER_X32_FAIL 1 = true) ∧
    (-- wakeSource
      (nx .x32Fail asl).b F.PW_EMBER_X32_FAIL 1 = true ∧
      ((nx .x32Fail asl).dev.phase = .hib ∨ (nx .x32Fail asl).dev.phase = .por ∧ (nx .x32Fail asl).dev.cause = 6) ∧
      (nx .x32Fail asl).b F.PW_EMBER_WAKE_N_EN 0 = true ∧ (nx .x32Fail asl).pw.pwren = false) :=
  ⟨by decide, by decide, by decide⟩

end W19

namespace W20

def q0 := unitsIn .on [.gy, .gov, .sens, .loop, .cald, .line, .opt1, .opt2, .sinter] ready
def g0 := (withF [(F.PW_GOV_FEED_EN, 0, 1), (F.PW_GOV_HOLD_EN, 0, 1), (F.PW_GOV_PFAIL_EN, 0, 1)] q0).modPw fun x => {x with firstLevel := true, level := 0}
def fa := g0.gov F.PW_GOV_F_AMBER
def hb := g0.gov F.PW_GOV_H_BLACK
def g1 := g0.modPw fun x => {x with amberRun := g0.gov F.PW_GOV_AMBER_MS - 1}
def g2 := g0.modPw fun x => {x with level := 2}
def g3 := g0.modPw fun x => {x with level := 2}
def g4 := (nx .govLevelFall g3).modPw fun x => {x with riseAt := some 100}
def g6 := (withF [(F.PW_EMBER_HOST0_HOST3, 3, 77)] g0).modPw fun x => {x with level := 3, emberNew := [(0,3,5)]}
def rb := nx (.rail 2 true) g0

/-- MonitorsMoveTheGovernorsLevel: states and operands that meet the hypotheses of its clauses, one line group per clause. -/
theorem met_MonitorsMoveTheGovernorsLevel :
    (-- govSample
      g1.pw.firstLevel = true ∧ g1.pw.level < 3 ∧ (¬ ((g1.gov F.PW_GOV_FEED_EN = 1) ∧ capAt 4095 ((fa-1) : Nat) < g1.gov F.PW_GOV_F_RED)) ∧
      (¬ (g1.gov F.PW_GOV_HOLD_EN = 1 ∧ capAt 4095 4000 < g1.gov F.PW_GOV_H_OK)) ∧
      ((g1.gov F.PW_GOV_FEED_EN = 1) ∧ capAt 4095 ((fa-1) : Nat) < g1.gov F.PW_GOV_F_AMBER) ∧
      g1.gov F.PW_GOV_AMBER_MS ≤ g1.pw.amberRun + 1 ∧ g1.pw.level = 0) ∧
    (-- govSample
      g2.pw.firstLevel = true ∧ g2.pw.level < 3 ∧ (¬ ((g2.gov F.PW_GOV_FEED_EN = 1) ∧ capAt 4095 4000 < g2.gov F.PW_GOV_F_RED)) ∧
      (¬ (g2.gov F.PW_GOV_HOLD_EN = 1 ∧ capAt 4095 4000 < g2.gov F.PW_GOV_H_OK)) ∧
      (¬ ((g2.gov F.PW_GOV_FEED_EN = 1) ∧ capAt 4095 4000 < g2.gov F.PW_GOV_F_AMBER) ∧ 0 < g2.gov F.PW_GOV_AMBER_MS ∨ g2.pw.level = 2)) ∧
    (-- govSample
      g2.pw.firstLevel = true ∧ g2.pw.level < 3 ∧ g2.gov F.PW_GOV_HOLD_EN = 1 ∧ ((hb-1) : Nat) < g2.gov F.PW_GOV_H_BLACK ∧
      g2.pw.blackRun = 0) ∧
    (-- govSample
      g0.pw.firstLevel = true ∧ g0.pw.level < 3 ∧ (¬ (g0.gov F.PW_GOV_HOLD_EN = 1 ∧ 4000 < g0.gov F.PW_GOV_H_BLACK))) ∧
    (-- govSample
      (g0.modPw fun x => {x with firstLevel := false}).pw.firstLevel = false ∧
      (g0.modPw fun x => {x with firstLevel := false}).st .gov ≠ .starting) ∧
    (-- pfailN
      (true : Bool) = true ∧ g0.gov F.PW_GOV_PFAIL_EN = 1 ∧ g0.pw.firstLevel = true ∧ g0.pw.level < 2) ∧
    (-- pfailN
      ((false : Bool) = false ∨ g2.gov F.PW_GOV_PFAIL_EN ≠ 1 ∨ 2 ≤ g2.pw.level)) ∧
    (-- thermal
      g0.pw.firstLevel = true ∧
      (if ((16*20) : Int) ≤ 16 * ((g0.gov F.PW_GOV_T_CAP : Int) - 5) then false else if 16 * (g0.gov F.PW_GOV_T_CAP : Int) ≤ ((16*20) : Int) then true else g0.pw.capped) = g0.pw.capped ∧
      (if ((16*20) : Int) ≤ 16 * ((g0.gov F.PW_GOV_T_HOT : Int) - 5) then false else if 16 * (g0.gov F.PW_GOV_T_HOT : Int) ≤ ((16*20) : Int) then true else g0.pw.hot) = g0.pw.hot) ∧
    (-- thermal
      g0.pw.firstLevel = true ∧
      ((if ((16*126) : Int) ≤ 16 * ((g0.gov F.PW_GOV_T_CAP : Int) - 5) then false else if 16 * (g0.gov F.PW_GOV_T_CAP : Int) ≤ ((16*126) : Int) then true else g0.pw.capped) ≠ g0.pw.capped ∨ (if ((16*126) : Int) ≤ 16 * ((g0.gov F.PW_GOV_T_HOT : Int) - 5) then false else if 16 * (g0.gov F.PW_GOV_T_HOT : Int) ≤ ((16*126) : Int) then true else g0.pw.hot) ≠ g0.pw.hot)) ∧
    (-- thermal
      g0.pw.firstLevel = true ∧
      (if ((16*126) : Int) ≤ 16 * ((g0.gov F.PW_GOV_T_HOT : Int) - 5) then false else if 16 * (g0.gov F.PW_GOV_T_HOT : Int) ≤ ((16*126) : Int) then true else g0.pw.hot) = true ∧
      g0.pw.hot = false ∧ g0.pw.level = 0) ∧
    (-- floor
      g2.ownerRow (.p0 : PortId) .gov (0 : Byte) (false : Bool) = true ∧ 3 ≤ (3 : Byte).toNat) ∧
    (-- floor
      g2.ownerRow (.p0 : PortId) .gov (0 : Byte) (false : Bool) = true ∧ g2.isOn .gov = true ∧ (1 : Byte).toNat < 3 ∧
      (1 : Byte).toNat ≤ g2.pw.level) ∧
    (-- floor
      g0.ownerRow (.p0 : PortId) .gov (0 : Byte) (false : Bool) = true ∧ g0.isOn .gov = true ∧ (1 : Byte).toNat < 3 ∧
      g0.pw.level < (1 : Byte).toNat) :=
  ⟨by decide, by decide, by decide, by decide, by decide, by decide, by decide, by decide, by decide, by decide, by
   decide, by decide, by decide⟩

/-- LevelStepsAndTheLastGasp: states and operands that meet the hypotheses of its clauses, one line group per clause. -/
theorem met_LevelStepsAndTheLastGasp :
    (-- govLevelFall
      (g3.modPw fun x => {x with steps := 6}).isOn .gov = true ∧ (g3.modPw fun x => {x with steps := 6}).pw.steps ≤ 6 ∧
      (if (g3.modPw fun x => {x with steps := 6}).pw.level = 0 then 0 else if (g3.modPw fun x => {x with steps := 6}).pw.level = 1 then 4 else 6) ≤ (g3.modPw fun x => {x with steps := 6}).pw.steps) ∧
    (-- govLevelFall
      (unitsIn .off [.opt1] g3).isOn .gov = true ∧ (unitsIn .off [.opt1] g3).pw.steps ≤ 6 ∧
      (unitsIn .off [.opt1] g3).pw.steps < (if (unitsIn .off [.opt1] g3).pw.level = 0 then 0 else if (unitsIn .off [.opt1] g3).pw.level = 1 then 4 else 6) ∧
      (unitsIn .off [.opt1] g3).isOn .opt1 = false) ∧
    (-- govLevelFall
      g3.isOn .gov = true ∧ g3.pw.steps ≤ 6 ∧ g3.pw.steps < (if g3.pw.level = 0 then 0 else if g3.pw.level = 1 then 4 else 6) ∧
      g3.pw.steps < 3 ∧ g3.st .opt2 = .on) ∧
    (-- govLevelFall
      g3.isOn .gov = true ∧ g3.pw.steps ≤ 6 ∧ g3.pw.steps < (if g3.pw.level = 0 then 0 else if g3.pw.level = 1 then 4 else 6) ∧
      g3.pw.steps < 4 ∧ g3.isOn .sens = true) ∧
    (-- govLevelRise
      g4.isOn .gov = true ∧ g4.pw.steps ≤ 6 ∧ g4.pw.riseAt.isSome = true ∧ (g4.pw.level = 1 ∨ g4.pw.level = 2) ∧ g4.govCap ≤ g4.pw.level - 1) ∧
    (-- govLevelRise
      (unitsIn .off [.opt1] g4).isOn .gov = true ∧ (unitsIn .off [.opt1] g4).pw.steps ≤ 6 ∧
      (unitsIn .off [.opt1] g4).pw.riseAt = some (((unitsIn .off [.opt1] g4)).pw.riseAt).get! ∧
      ((unitsIn .off [.opt1] g4).pw.level = 1 ∨ (unitsIn .off [.opt1] g4).pw.level = 2) ∧
      (unitsIn .off [.opt1] g4).govCap ≤ (unitsIn .off [.opt1] g4).pw.level - 1 ∧ (unitsIn .off [.opt1] g4).isOn .opt1 = false) ∧
    (-- black
      g6.pw.level = 3 ∧ g6.dev.phase ≠ .black ∧ g6.sn.running = none) ∧
    (-- black
      g0.pw.level ≠ 3) :=
  ⟨by decide, by decide, by decide, by decide, by decide, by decide, by decide, by decide⟩

/-- AnalogueRailsAreShownRaisedAndFaultTheirUnits: states and operands that meet the hypotheses of its clauses, one line group per clause. -/
theorem met_AnalogueRailsAreShownRaisedAndFaultTheirUnits :
    (-- registerWrite
      rb.serves (.p0 : PortId) 16 = true ∧ rb.pw.level < 4 ∧ rb.pw.floor < 4) ∧
    (-- rail
      bitOf g0.dev.anaBad 2 ≠ (true : Bool) ∧ (true : Bool) = true) ∧
    (-- rail
      bitOf ({ g0 with dev := { g0.dev with phase := .por } }).dev.anaBad 2 ≠ (true : Bool) ∧
      ({ g0 with dev := { g0.dev with phase := .por } }).coreRuns = false) ∧
    (-- rail
      bitOf g0.dev.anaBad 2 ≠ (true : Bool) ∧ g0.coreRuns = true) ∧
    (-- railBadPersist
      bitOf (nx (.rail 2 true) g0).dev.anaBad 2 = true) ∧
    (-- startStepsDone
      ((.sens : Src), (2)) ∈ [(Src.line, 0), (.opt1, 1), (.opt2, 1), (.sens, 2), (.loop, 2)] ∧
      (unitsIn .starting [.sens] rb).st (.sens : Src) = .starting ∧ bitOf (unitsIn .starting [.sens] rb).dev.anaBad (2) = true) ∧
    (-- GOV_STAT
      rb.serves .p0 16 = true ∧ rb.pw.level < 4 ∧ rb.pw.floor < 4) :=
  ⟨by decide, by decide, by decide, by decide, by decide, by decide, by decide⟩

end W20

namespace W21

def k0 := (withF [(F.CJ_PAGE_ASSIGNED, 0, 1), (F.SN_QUOTA_QUOTA, 6, 8192)] (unitsIn .on [.sinter, .cald] ready)).modPw fun x => {x with level := 0}
def ww : Word := [(F.PW_SINTER_OP, 1), (F.PW_SINTER_LEN, 2), (F.PW_SINTER_ADDR, 0x600), (F.PW_SINTER_KEY, 9), (F.PW_SINTER_TAG, 0x55)].foldl (fun w x => x.1.into x.2 w) 0
def rw : Word := F.PW_SINTER_OP.into 2 ww
def k1 := nx (.sinterSubmit .p0 1 ww) (withF [(F.TENANTS_BIND_P1, 1, 0)] k0)
def k2 := nx .sinterTxnDone k1
def k3 := (withF [(F.PW_SINTER_ADDR, 2, 0x610)] (nx (.sinterSubmit .p0 1 rw) k2)).modCj fun x => x
def k4 := nx (.sinterSubmit .p0 1 ww) k1
def k5 := nx (.counterRaise 0) k0
def k6 := nx .sinterTxnStart k5
def k7 := (k2.modSn fun x => {x with head := nvSize - 500})

set_option maxRecDepth 100000 in
/-- SinterTransactionsAreQueuedRunAndEnded: states and operands that meet the hypotheses of its clauses, one line group per clause. -/
theorem met_SinterTransactionsAreQueuedRunAndEnded :
    (-- sinterSubmit
      k0.serves (.p0 : PortId) 48 = true ∧ 1 ≤ (1) ∧ (1) < 5 ∧ (k0.snJudge (k0.acting (.p0 : PortId)) (0 : Word)) ≠ .ok) ∧
    (-- sinterSubmit
      k1.serves (.p0 : PortId) 48 = true ∧ 1 ≤ k1.snFreeEntry.get! ∧ k1.snFreeEntry.get! < 5 ∧
      k1.snJudge (k1.acting (.p0 : PortId)) (ww : Word) = .ok ∧ k1.snFreeEntry.isSome = true ∧ k1.sn.running ≠ none) ∧
    (-- sinterSubmit
      k2.serves (.p0 : PortId) 48 = true ∧ 1 ≤ k2.snFreeEntry.get! ∧ k2.snFreeEntry.get! < 5 ∧
      k2.snJudge (k2.acting (.p0 : PortId)) (rw : Word) = .ok ∧ k2.snFreeEntry.isSome = true ∧ k2.sn.running = none ∧ k2.sn.device = [] ∧
      k2.sn.order = [] ∧ F.PW_SINTER_OP.of (rw : Word) ≠ 1) ∧
    (-- sinterAbort
      k4.serves (.p0 : PortId) 48 = true ∧ 1 ≤ 2 ∧ 2 < 5 ∧ vget k4.sn.owner 2 = k4.acting (.p0 : PortId)) ∧
    (-- sinterAbort
      (k1.advance 100000).serves (.p0 : PortId) 48 = true ∧ 1 ≤ 1 ∧ 1 < 5 ∧
      vget (k1.advance 100000).sn.owner 1 = (k1.advance 100000).acting (.p0 : PortId) ∧ (k1.advance 100000).g F.PW_SINTER_STATE 1 = 2 ∧
      (k1.advance 100000).sn.running = some (((k1.advance 100000)).sn.running).get! ∧
      (((k1.advance 100000)).sn.running).get!.committing (((k1.advance 100000)).tick + 47) = true) ∧
    (-- sinterRelease
      k2.serves (.p0 : PortId) 48 = true ∧ 1 ≤ 1 ∧ 1 < 5 ∧ vget k2.sn.owner 1 = k2.acting (.p0 : PortId) ∧ k2.g F.PW_SINTER_STATE 1 = 3) ∧
    (-- sinterRelease
      k1.serves (.p0 : PortId) 48 = true ∧ 1 ≤ 1 ∧ 1 < 5 ∧ vget k1.sn.owner 1 = k1.acting (.p0 : PortId) ∧ k1.g F.PW_SINTER_STATE 1 ≠ 3) ∧
    (-- sinterTxnDone
      k1.sn.running.isSome = true ∧ k1.dev.hibReq = false ∧ (k1.sn.running.get!.kind = 1 ∨ k1.sn.running.get!.kind = 3) ∧
      1 ≤ k1.sn.running.get!.who ∧ k1.sn.running.get!.who < 5 ∧ k1.enabled (vget k1.sn.owner k1.sn.running.get!.who) = true) ∧
    (-- sinterTxnDone
      k6.sn.running.isSome = true ∧ k6.dev.hibReq = false ∧ k6.sn.running.get!.kind = 1 ∧ k6.sn.running.get!.who = 0 ∧
      k6.sn.running.get!.slot = none ∧ k6.sn.running.get!.rtype = 5) ∧
    (-- sinterTxnDone
      k3.sn.running.isSome = true ∧ k3.dev.hibReq = false ∧ k3.sn.running.get!.kind = 2 ∧ 1 ≤ k3.sn.running.get!.who ∧
      k3.sn.running.get!.who < 5 ∧ k3.enabled (vget k3.sn.owner k3.sn.running.get!.who) = true ∧
      (k3.snTarget 2 k3.sn.running.get!.rtype (vget k3.sn.owner k3.sn.running.get!.who) k3.sn.running.get!.key).isSome = true ∧
      k3.g F.PW_SINTER_ADDR k3.sn.running.get!.who + k3.g F.PW_SINTER_LEN k3.sn.running.get!.who ≤ 4096) ∧
    (-- an entry of the tenant
      k1.serves .p0 48 = true ∧ 1 ≤ 1 ∧ 1 < 5 ∧ vget k1.sn.owner 1 = k1.acting .p0 ∧
      (k1.g F.PW_SINTER_STATE 1 = 1 ∨ k1.g F.PW_SINTER_STATE 1 = 2)) :=
  ⟨by decide, by decide, by decide, by decide, by decide, by decide, by decide, by decide, by decide, by decide, by
   decide⟩

set_option maxRecDepth 100000 in
/-- DeviceTransactionsCountersAndTheTap: states and operands that meet the hypotheses of its clauses, one line group per clause. -/
theorem met_DeviceTransactionsCountersAndTheTap :
    (-- sinterTxnStart
      (k5.modPw fun x => {x with level := 2}).snAccepts = false) ∧
    (-- sinterTxnStart
      k5.snAccepts = true ∧ k5.sn.running = none ∧ k5.sn.device = k5.sn.device.head! :: k5.sn.device.tail) ∧
    (-- sinterTxnStart
      (withF [(F.PW_SINTER_OP, 2, 2)] (k4.modSn fun x => {x with running := none})).snAccepts = true ∧
      (withF [(F.PW_SINTER_OP, 2, 2)] (k4.modSn fun x => {x with running := none})).sn.running = none ∧
      (withF [(F.PW_SINTER_OP, 2, 2)] (k4.modSn fun x => {x with running := none})).sn.device = [] ∧
      (withF [(F.PW_SINTER_OP, 2, 2)] (k4.modSn fun x => {x with running := none})).sn.order = (((withF [(F.PW_SINTER_OP, 2, 2)] (k4.modSn fun x => {x with running := none}))).sn.order).head! :: (((withF [(F.PW_SINTER_OP, 2, 2)] (k4.modSn fun x => {x with running := none}))).sn.order).tail ∧
      1 ≤ (((withF [(F.PW_SINTER_OP, 2, 2)] (k4.modSn fun x => {x with running := none}))).sn.order).head! ∧
      (((withF [(F.PW_SINTER_OP, 2, 2)] (k4.modSn fun x => {x with running := none}))).sn.order).head! < 5 ∧
      (withF [(F.PW_SINTER_OP, 2, 2)] (k4.modSn fun x => {x with running := none})).g F.PW_SINTER_OP (((withF [(F.PW_SINTER_OP, 2, 2)] (k4.modSn fun x => {x with running := none}))).sn.order).head! ≠ 1) ∧
    (-- counterRaise
      (if 0 = 0 then (k0.modLn fun x => {x with fcMark := 70000}).g F.LA_STAT_TX_FC 0 else (k0.modLn fun x => {x with fcMark := 70000}).g F.RC_TAG_TX_FC (2 * (0 - 1) + 1)) + 16384 < (k0.modLn fun x => {x with fcMark := 70000}).fcMark 0) ∧
    (-- counterRaise
      k5.fcMark 0 ≤ (if 0 = 0 then k5.g F.LA_STAT_TX_FC 0 else k5.g F.RC_TAG_TX_FC (2 * (0 - 1) + 1)) + 16384 ∧
      (k5.sn.device.any (fun (x : SnTxn) => x.rtype == 5 && x.key == 0) || k5.sn.running.any (fun (x : SnTxn) => x.rtype == 5 && x.key == 0)) = true) ∧
    (-- counterRaise
      k0.fcMark 0 ≤ (if 0 = 0 then k0.g F.LA_STAT_TX_FC 0 else k0.g F.RC_TAG_TX_FC (2 * (0 - 1) + 1)) + 16384 ∧
      (k0.sn.device.any (fun (x : SnTxn) => x.rtype == 5 && x.key == 0) || k0.sn.running.any (fun (x : SnTxn) => x.rtype == 5 && x.key == 0)) = false) ∧
    (-- compaction
      k2.isOn .sinter = true ∧ 1024 ≤ k2.snFreeWords ∧ k2.sn.compacting = false) ∧
    (-- compaction
      k7.isOn .sinter = true ∧ k7.sn.running = none ∧ k7.sn.device.any (fun x => x.kind == 4) = false ∧ k7.snTail.isSome = true ∧
      k7.snFreeWords < 2048 ∧ k7.snTail.get!.len + 2 ≤ k7.snFreeWords ∧ (k7.snFreeWords < 1024 ∨ k7.sn.compacting = true)) ∧
    (-- compact
      k7.isOn .sinter = true ∧ k7.sn.running = none ∧ k7.sn.device.any (fun x => x.kind == 4) = false ∧ k7.snTail.isSome = true ∧
      k7.snFreeWords < 2048 ∧ k7.snTail.get!.len + 2 ≤ k7.snFreeWords ∧ k7.ownerRow (.p0 : PortId) .sinter (0 : Byte) (false : Bool) = true) ∧
    (-- compact
      (unitsIn .off [.sinter] k7).ownerRow (.p0 : PortId) .sinter (0 : Byte) (false : Bool) = true ∧
      (unitsIn .off [.sinter] k7).isOn .sinter = false) ∧
    (-- tapInstruction
      ({ k7 with dev := { k7.dev with phase := .por } }).dev.phase = .por) ∧
    (-- tapInstruction
      k7.dev.phase ≠ .por) :=
  ⟨by decide, by decide, by decide, by decide, by decide, by decide, by decide, by decide, by decide, by decide, by
   decide, by decide⟩

end W21

namespace W22


/-- StepTakesTheFrontCommandOrOneTick: states and operands that meet the hypotheses of its clauses, one line group per clause. -/
theorem met_StepTakesTheFrontCommandOrOneTick :
    (-- an idle step
      State.reset.pending = []) :=
  by decide

/-- ResetIsWellFormed: states and operands that meet the hypotheses of its clauses, one line group per clause. -/
theorem met_ResetIsWellFormed :
    (-- the last tenant
      63 < 64) :=
  by decide

/-- EveryStepKeepsTheStateWellFormed: states and operands that meet the hypotheses of its clauses, one line group per clause. -/
theorem met_EveryStepKeepsTheStateWellFormed :
    (-- a step
      State.reset.wf) :=
  wf_of _ (by decide)

end W22

/-- CommandsChangeOnlyWhatTheyTouch: a state, a command and the state it leaves. -/
theorem met_CommandsChangeOnlyWhatTheyTouch :
    State.reset.wf ∧ exec .mapRepeat State.reset = .next (nx .mapRepeat State.reset) :=
  ⟨wf_of _ (by decide), rfl⟩

/-! Well-formed commands. -/

/-- Every check of WellFormed.lean refuses a command that fails it alone. -/
theorem test_wellFormed_refuses :
    (Instr.registerWrite .p0 0x60 none).wf = false ∧
    (Instr.registerWrite .p0 0x01 none).wf = false ∧
    (Instr.undefinedAddressAccess 0x5E false).wf = false ∧
    (Instr.undefinedAddressAccess 0x80 false).wf = false ∧
    (Instr.undefinedAddressAccess 0x61 false).wf = false ∧
    (Instr.hostFrameNop { (default : Frame) with data := List.replicate 9 0 }).wf = false ∧
    (Instr.hostFrameRead { (default : Frame) with data := List.replicate 9 0 }).wf = false ∧
    (Instr.hostFrameWrite { (default : Frame) with data := List.replicate 9 0 }).wf = false ∧
    (Instr.hostFrameReplay { (default : Frame) with data := List.replicate 9 0 }).wf = false ∧
    (Instr.tenantEnable .p0 0 64 0).wf = false ∧
    (Instr.tenantDisable .p0 0 64 0).wf = false ∧
    (Instr.agcStep 0 16384).wf = false ∧
    (Instr.lineTxAbort .p0 0 16).wf = false ∧
    (Instr.lineRxRelease .p0 0 2).wf = false ∧
    (Instr.wakeDetect 17).wf = false ∧
    (Instr.ownMapCommit .p0 0 2 0).wf = false ∧
    (Instr.cjAbort .p0 0 8).wf = false ∧
    (Instr.cjRelease .p0 0 8).wf = false ∧
    (Instr.cjPageCommit .p0 0 40 0).wf = false ∧
    (Instr.ecc 4096 false).wf = false ∧
    (Instr.obLoad .p0 0 272 0 false 0).wf = false ∧
    (Instr.obLoad .p0 0 0 0 false 4).wf = false ∧
    (Instr.obUnwrap .p0 0 272 0 false 0 0).wf = false ∧
    (Instr.obUnwrap .p0 0 0 0 false 4 0).wf = false ∧
    (Instr.obUnwrap .p0 0 0 0 false 0 272).wf = false ∧
    (Instr.obGenerate .p0 0 272 0 false 0).wf = false ∧
    (Instr.obGenerate .p0 0 0 0 false 4).wf = false ∧
    (Instr.obErase .p0 0 272).wf = false ∧
    (Instr.obRestrict .p0 0 272 0).wf = false ∧
    (Instr.slotCmdDone 272).wf = false ∧
    (Instr.obGo .p0 0 3).wf = false ∧
    (Instr.obGo .p0 0 16).wf = false ∧
    (Instr.obAbort .p0 0 3).wf = false ∧
    (Instr.obAbort .p0 0 16).wf = false ∧
    (Instr.obRelease .p0 0 3).wf = false ∧
    (Instr.obRelease .p0 0 16).wf = false ∧
    (Instr.msAbort .p0 0 16).wf = false ∧
    (Instr.msRelease .p0 0 16).wf = false ∧
    (Instr.tagAllow .p0 0 128 0).wf = false ∧
    (Instr.tagFree .p0 0 128).wf = false ∧
    (Instr.radioTxAbort .p0 0 8).wf = false ∧
    (Instr.radioTxRelease .p0 0 8).wf = false ∧
    (Instr.radioRxRelease .p0 0 2).wf = false ∧
    (Instr.laserFail 0 0).wf = false ∧
    (Instr.laserFail 0 3).wf = false ∧
    (Instr.calDone 0 [0, 0, 0, 0, 0, 0, 0]).wf = false ∧
    (Instr.sinc3Output 0 2147483648 false 0).wf = false ∧
    (Instr.sinc3Output 0 (-2147483649) false 0).wf = false ∧
    (Instr.cycleWindowEnd 0 2147483648 false 0).wf = false ∧
    (Instr.auxConversion 2147483648 false).wf = false ∧
    (Instr.sfChangeApply 0 2147483648 false).wf = false ∧
    (Instr.excTrip 0 0).wf = false ∧
    (Instr.excTrip 0 4).wf = false ∧
    (Instr.thermal (-32769)).wf = false ∧
    (Instr.thermal 32768).wf = false ∧
    (Instr.sinterAbort .p0 0 0).wf = false ∧
    (Instr.sinterAbort .p0 0 5).wf = false ∧
    (Instr.sinterRelease .p0 0 0).wf = false ∧
    (Instr.sinterRelease .p0 0 5).wf = false ∧
    (Instr.counterRaise 129).wf = false := by
  decide

/-! Single steps. -/

/-- With nothing waiting one core tick passes (notes/assumptions/1.md). -/
theorem test_idle_step_is_a_tick :
    (match step State.reset with | .next t => decide (t.tick = 1) && decide (t.gy.stamp = State.reset.gy.rate.setWidth 80) | _ => false) = true := by
  decide

/-- A command in front of the queue is taken from it. -/
theorem test_front_command_is_taken :
    (match step { State.reset with pending := [.mapRepeat, .scrub] } with | .next t => t.pending | _ => []) = [.scrub] := by
  decide

/-- ID reads 0x6408 on a READY device (spec/18_register_index.md, table of registers). -/
theorem test_id_read : ((nx (.registerWrite .p0 0x00 none) ready).port .p0).hd = 0x6408 := by decide

/-- Before READY an access is refused with NOT_READY (spec/00_scope.md R659). -/
theorem test_access_before_ready :
    ((nx (.registerWrite .p0 0x38 (some 5)) { ready with dev := { ready.dev with ready := false, phase := .starting, step := 3 } }).port .p0).outcome =
      Oc.notReady.code := by decide

/-- A word of bytes. -/
def ofBytes (l : List Nat) : Word := Word.ofBytes (l.map (BitVec.ofNat 8))

/-- The positive half-cycle of the worked case of spec/05_line_signal.md: slots 2 to 5 of tone set 3, slots 7 to 15 of set 5. -/
def slots : Word := ofBytes ([0, 0, 0x53, 0x53, 0x53, 0x53, 0] ++ List.replicate 9 0x65)
/-- The tone sets of that case. -/
def tones : State :=
  (State.reset.wr 0x11 3 (ofBytes ((List.range 8).flatMap fun k => [60 + 8 * k, 0]))).wr 0x11 5
    (ofBytes ((List.range 16).map fun k => 120 + 2 * k))

/-- The grid indices sent are those of the worked case (spec/05_line_signal.md R171, R172). -/
theorem test_payload_half_cycle :
    tones.sectionSymbols (carriers (mapAt slots 0) 48 16 0 []).1 (bitsBE 0xB25E019CD473 48) =
      [(2, [108]), (3, [84]), (4, [100]), (5, [100]), (7, [120]), (8, [120]), (9, [142]), (10, [126]), (11, [122]),
        (12, [140]), (13, [128]), (14, [150]), (15, [138])] := by decide

/-- The memory of the worked case of spec/08_caldera_formats.md: two T8 operands of one word and their block scales. -/
def t8mem (a : Nat) : Word :=
  match a with
  | 0x600 => ofBytes [0x48, 0x3C, 0xC6, 0x05, 0x7F]
  | 0x601 => 0x7B
  | 0x610 => ofBytes [0x40, 0xB8, 0x44, 0x70, 0x08]
  | 0x611 => 0x82
  | _ => 0
/-- Its DOT job, with the initial value 2^24. -/
def t8job : Cf.Jd :=
  Cf.Jd.mk' ([(F.CJ_Q_OP, 1), (F.CJ_Q_FMT_A, 3), (F.CJ_Q_FMT_B, 3), (F.CJ_Q_COUNT, 16), (F.CJ_Q_ADDR_A, 0x600),
    (F.CJ_Q_ADDR_B, 0x610), (F.CJ_Q_ADDR_Y, 0x620), (F.CJ_Q_ADDR_P, 0x630)].foldl (fun w x => x.1.into x.2 w) 0)
    (BitVec.ofNat 128 (0x4B800000 * 2 ^ 32))

/-- The result is 16,777,218 and no flag is set, as in the worked case (spec/08_caldera_formats.md R285). -/
theorem test_t8_dot : t8job.run t8mem = (0, [(0x620, 0x4B800001)]) := by decide

/-- No row of the table gives bits, so no word spells a command. -/
theorem test_no_word_spells_a_command (nbits w : Nat) :
    decodeTableWord nbits w = none ∧ State.reset.withFetchWord nbits w = State.reset := ⟨rfl, rfl⟩

end Sys2Proof.Tests
end

section
/-! Enabling and disabling a tenant: what a commit to TENANTS leaves in the entry, in the tenant's view and in the
windows it holds (spec/02_host_access.md R74, R81, spec/03_units_events.md R93). -/

namespace Sys2Proof.Machine

open Sys2Proof

/-! The entry. -/

theorem State.enabled_eq {s t : State} (h : t.cells = s.cells) (k : Nat) : t.enabled k = s.enabled k := by
  simp only [State.enabled, State.b_eq h]

/-- A field of an entry that has just been written. -/
theorem State.g_wr (s : State) (f : Fld) (e : Nat) (w : Word) : (s.wr f.tab e w).g f e = f.of w := by
  rw [State.g, State.rd_wr]

theorem State.g_bump (s : State) (f : Fld) (e : Nat) (h : f.lo + f.w ≤ 128) :
    (s.bump f e).g f e = (s.g f e + 1) % 2 ^ f.w := State.g_p s f e _ h

theorem State.g_bump_ne (s : State) (f g : Fld) (e : Nat) (ht : f.tab = g.tab)
    (h : f.lo + f.w ≤ g.lo ∨ g.lo + g.w ≤ f.lo) : (s.bump g e).g f e = s.g f e := State.g_p_ne s f g e _ ht h

theorem State.enabled_of_g {s : State} {k v : Nat} (hk : k < 64) (h : s.g F.TENANTS_ENABLE k = v) :
    s.enabled k = (v != 0) := by
  simp only [State.enabled, State.b, h, hk, decide_true, Bool.true_and]

/-- The owner reaches every entry of TENANTS for a commit. -/
theorem State.reach_tenants (s : State) {k : Nat} (hk : k < 64) : s.reach 0x01 k 0 true = some k := by
  have hsize : ¬ tableSize 0x01 ≤ k := by show ¬ 64 ≤ k; omega
  simp [State.reach, hsize, tableClass, State.tag]

/-! The word that the two commands commit: the entry with ENABLE and LABEL set. -/

theorem tenantWord_enable (v l : Nat) (w : Word) :
    F.TENANTS_ENABLE.of (F.TENANTS_LABEL.into l (F.TENANTS_ENABLE.into v w)) = v % 2 := by
  rw [Fld.of_into_ne _ _ _ _ (by decide), Fld.of_into _ _ _ (by decide)]
  rfl

theorem tenantWord_label (label : BitVec 64) (w : Word) :
    F.TENANTS_LABEL.of (F.TENANTS_LABEL.into label.toNat w) = label.toNat := by
  rw [Fld.of_into _ _ _ (by decide)]
  exact Nat.mod_eq_of_lt label.isLt

/-- A commit to TENANTS writes ENABLE and LABEL. -/
theorem wcMask_tenants (e : Nat) : wcMask 0x01 e = 0 ||| F.TENANTS_ENABLE.mask ||| F.TENANTS_LABEL.mask := rfl

theorem State.merged_tenants_enable (s : State) (k : Nat) (w : Word) :
    F.TENANTS_ENABLE.of (s.merged 0x01 k w) = F.TENANTS_ENABLE.of w :=
  Fld.of_merge _ _ _ _ (by rw [wcMask_tenants]; decide)

theorem State.merged_tenants_label (s : State) (k : Nat) (w : Word) :
    F.TENANTS_LABEL.of (s.merged 0x01 k w) = F.TENANTS_LABEL.of w :=
  Fld.of_merge _ _ _ _ (by rw [wcMask_tenants]; decide)

theorem State.merged_tenants_gen (s : State) (k : Nat) (w : Word) :
    F.TENANTS_GEN.of (s.merged 0x01 k w) = s.g F.TENANTS_GEN k :=
  Fld.of_merge_ro _ _ _ _ (by rw [wcMask_tenants]; decide)

/-! The view. -/

@[simp] theorem State.viewStart_cells (s : State) (k : Nat) : (s.viewStart k).cells = s.cells := rfl
@[simp] theorem State.viewStart_tick (s : State) (k : Nat) : (s.viewStart k).tick = s.tick := rfl
@[simp] theorem State.viewStart_units (s : State) (k : Nat) : (s.viewStart k).units = s.units := rfl
@[simp] theorem State.viewStart_src (s : State) (k : Nat) : (s.viewStart k).src = s.src := rfl

theorem State.viewStart_view (s : State) {k : Nat} (hk : k < 64) :
    vget (s.viewStart k).views k = { en := if k = 0 then 0x1C else 0, pops := (vget s.views k).pops + 1 } := by
  simp [State.viewStart, vget_vmod, hk]

/-! The windows. -/

/-- A window held by tenant `t` has neither a staging word nor a snapshot. -/
def Win.clearOf (t : Nat) (w : Win) : Prop := w.holder = t → w.staging = none ∧ w.snap = none

theorem Win.clearOf_drop (t : Nat) (w : Win) : w.drop.clearOf t := fun _ => ⟨rfl, rfl⟩

/-- The advance of a window after a DATA access takes nothing up. -/
theorem Win.clearOf_step {t : Nat} {w : Win} (h : w.clearOf t) : w.step.clearOf t := by
  unfold Win.step
  split
  · split
    · exact Win.clearOf_drop t w
    · exact h
  · exact h

theorem Port.disable_clearOf (t : Nat) (p : Port) {m : Nat} (hm : m < 4) : (vget (p.disable t).win m).clearOf t := by
  have hwin : vget (p.disable t).win m = if (vget p.win m).holder = t then (vget p.win m).drop else vget p.win m := by
    simp [Port.disable, vget, hm]
  rw [hwin]
  split
  · exact Win.clearOf_drop t _
  next hne => exact fun h => absurd h hne

theorem State.winOf_modWin_ne (s : State) (p : PortId) {n m : Nat} (f : Win → Win) (h : n ≠ m) :
    (s.modWin p n f).winOf p m = s.winOf p m := by
  cases p <;> exact vget_vset_ne _ _ _ _ h

/-- The windows after a commit: the one it went through has moved on, every other one stands. -/
theorem State.committed_winOf (y : State) (p q : PortId) (n : Fin 4) (m : Nat) (o : Oc) :
    (y.committed p n o).winOf q m =
      if p = q ∧ n.val = m then { (y.winOf q m).step with outcome := o.code } else y.winOf q m := by
  by_cases hp : p = q
  · subst hp
    rw [State.committed, State.ended_winOf]
    by_cases hn : n.val = m
    · subst hn
      rw [State.winDone_winOf, if_pos ⟨rfl, rfl⟩]
    · rw [if_neg (fun h => hn h.2)]
      exact State.winOf_modWin_ne y p _ hn
  · rw [if_neg (fun h => hp h.1)]
    cases p
    · cases q
      · exact absurd rfl hp
      · rfl
    · cases q
      · rfl
      · exact absurd rfl hp

theorem State.committed_clearOf {y : State} {t : Nat} {q : PortId} {m : Nat} (p : PortId) (n : Fin 4) (o : Oc)
    (h : (y.winOf q m).clearOf t) : ((y.committed p n o).winOf q m).clearOf t := by
  rw [State.committed_winOf]
  split
  · exact Win.clearOf_step h
  · exact h

/-! Disabling. -/

/-- Disabling a tenant ends its requests but writes no entry of TENANTS. -/
theorem State.tenantOff_rd_tenants {s : State} (k e : Nat) (hs : s.wf) : (s.tenantOff k).rd 0x01 e = s.rd 0x01 e :=
  (State.tenantOff_kept (Nat.and_self _) (Kept.refl _ s)).tab 0x01 e (by decide) (by decide) hs

/-- Disabling a tenant ends with the restart of its view and with its ports' windows, over some state `x` that the ends
of its requests leave. -/
theorem State.tenantOff_ends (s : State) (k : Nat) :
    ∃ x : State, s.tenantOff k =
      { x.viewStart k with port0 := (x.viewStart k).port0.disable k, port1 := (x.viewStart k).port1.disable k } := by
  unfold State.tenantOff
  extract_lets a b
  exact ⟨(a.snDisable k).claimsDisable k, rfl⟩

theorem State.tenantOff_view (s : State) {k : Nat} (hk : k < 64) :
    ∃ c, vget (s.tenantOff k).views k = { en := if k = 0 then 0x1C else 0, pops := c } := by
  obtain ⟨x, hx⟩ := s.tenantOff_ends k
  rw [hx]
  exact ⟨_, x.viewStart_view hk⟩

theorem State.tenantOff_clearOf (s : State) (k : Nat) (q : PortId) {m : Nat} (hm : m < 4) :
    ((s.tenantOff k).winOf q m).clearOf k := by
  obtain ⟨x, hx⟩ := s.tenantOff_ends k
  rw [hx]
  cases q
  · exact Port.disable_clearOf k (x.viewStart k).port0 hm
  · exact Port.disable_clearOf k (x.viewStart k).port1 hm

/-! The commit. -/

/-- A commit of ENABLE = 1 to the entry of a disabled tenant. -/
theorem State.tenantsCommit_enables {s : State} {k : Nat} {w : Word} (hoff : s.enabled k = false)
    (hw : F.TENANTS_ENABLE.of w = 1) :
    s.tenantsCommit k w = (.ok, ((s.wr 0x01 k (s.merged 0x01 k w)).bump F.TENANTS_GEN k).viewStart k) := by
  simp [State.tenantsCommit, State.merged_tenants_enable, hw, hoff]

/-- A commit of ENABLE = 0 to the entry of an enabled tenant other than the owner. -/
theorem State.tenantsCommit_disables {s : State} {k : Nat} {w : Word} (hk : k ≠ 0) (hon : s.enabled k = true)
    (hw : F.TENANTS_ENABLE.of w = 0) :
    s.tenantsCommit k w = (.ok, (s.wr 0x01 k (s.merged 0x01 k w)).tenantOff k) := by
  simp [State.tenantsCommit, State.merged_tenants_enable, hw, hon, hk]

/-- A commit of the owner to TENANTS on a port that serves it. -/
theorem State.entryRow_tenants {s : State} {p : PortId} {n : Fin 4} {k : Nat} {w : Word} {o : Oc} {y : State}
    (hs : s.serves p 48 = true) (ho : s.acting p = 0) (hk : k < 64)
    (hc : (s.committing p n 0x01 k w).tenantsCommit k w = (o, y)) :
    s.entryRow p n 0x01 k w = y.committed p n o := by
  have hr : s.reach 0x01 k (s.acting p) true = some k := by rw [ho]; exact s.reach_tenants hk
  have hcommit : (s.committing p n 0x01 k w).commit 0x01 k (s.acting p) w = (o, y) := hc
  rw [State.entryRow_commit hs hr, hcommit]

/-- What enabling leaves in the entry: the fields of the committed word, and the next generation. -/
theorem State.tenantEntry_enabled (s : State) {k : Nat} {w : Word} (hk : k < 64) (hw : F.TENANTS_ENABLE.of w = 1) :
    let t := (s.wr 0x01 k (s.merged 0x01 k w)).bump F.TENANTS_GEN k
    t.enabled k = true ∧ t.g F.TENANTS_LABEL k = F.TENANTS_LABEL.of w ∧
      t.g F.TENANTS_GEN k = (s.g F.TENANTS_GEN k + 1) % 2 ^ F.TENANTS_GEN.w := by
  refine ⟨State.enabled_of_g (v := 1) hk ?_, ?_, ?_⟩
  · calc _ = (s.wr 0x01 k (s.merged 0x01 k w)).g F.TENANTS_ENABLE k :=
            State.g_bump_ne _ F.TENANTS_ENABLE F.TENANTS_GEN k rfl (by decide)
      _ = F.TENANTS_ENABLE.of (s.merged 0x01 k w) := State.g_wr s F.TENANTS_ENABLE k _
      _ = 1 := (s.merged_tenants_enable k w).trans hw
  · calc _ = (s.wr 0x01 k (s.merged 0x01 k w)).g F.TENANTS_LABEL k :=
            State.g_bump_ne _ F.TENANTS_LABEL F.TENANTS_GEN k rfl (by decide)
      _ = F.TENANTS_LABEL.of (s.merged 0x01 k w) := State.g_wr s F.TENANTS_LABEL k _
      _ = F.TENANTS_LABEL.of w := s.merged_tenants_label k w
  · have hgen : (s.wr 0x01 k (s.merged 0x01 k w)).g F.TENANTS_GEN k = s.g F.TENANTS_GEN k :=
      (State.g_wr s F.TENANTS_GEN k _).trans (s.merged_tenants_gen k w)
    rw [State.g_bump _ _ _ (by decide), hgen]

/-- Once ENABLE is written 0, the tenant stays disabled whatever its requests end as. -/
theorem State.tenantOff_enabled {s : State} {k : Nat} {w : Word} (hs : s.wf) (hk : k < 64)
    (hw : F.TENANTS_ENABLE.of w = 0) : ((s.wr 0x01 k (s.merged 0x01 k w)).tenantOff k).enabled k = false := by
  have hwr : (s.wr 0x01 k (s.merged 0x01 k w)).wf :=
    (State.wr_kept (Nat.and_self _) (Kept.refl (tabMask 0x01) s)).wf hs
  refine State.enabled_of_g (v := 0) hk ?_
  calc F.TENANTS_ENABLE.of (((s.wr 0x01 k (s.merged 0x01 k w)).tenantOff k).rd 0x01 k)
      = F.TENANTS_ENABLE.of (s.merged 0x01 k w) := by rw [State.tenantOff_rd_tenants k k hwr, State.rd_wr]
    _ = 0 := (s.merged_tenants_enable k w).trans hw

/-! The two commands. -/

theorem exec_tenantEnable (s : State) (p : PortId) (n : Fin 4) (k : Nat) (label : BitVec 64) :
    exec (.tenantEnable p n k label) s =
      .next (s.entryRow p n 0x01 k (F.TENANTS_LABEL.into label.toNat (F.TENANTS_ENABLE.into 1 (s.rd 0x01 k)))) := rfl

theorem exec_tenantDisable (s : State) (p : PortId) (n : Fin 4) (k : Nat) (label : BitVec 64) :
    exec (.tenantDisable p n k label) s =
      .next (s.entryRow p n 0x01 k (F.TENANTS_LABEL.into label.toNat (F.TENANTS_ENABLE.into 0 (s.rd 0x01 k)))) := rfl

/-- TENANT_ENABLE of a disabled tenant. -/
theorem exec_tenantEnable_effect {s : State} {p : PortId} {n : Fin 4} {k : Nat} {label : BitVec 64}
    (hserves : s.serves p 48 = true) (howner : s.acting p = 0) (hpos : 0 < k) (hk : k < 64) (hoff : s.enabled k = false) :
    ∃ t, exec (.tenantEnable p n k label) s = .next t ∧ (t.port p).outcome = Oc.ok.code ∧ t.enabled k = true ∧
      t.g F.TENANTS_LABEL k = label.toNat ∧ t.g F.TENANTS_GEN k = (s.g F.TENANTS_GEN k + 1) % 2 ^ F.TENANTS_GEN.w ∧
      (vget t.views k).log = [] ∧ (vget t.views k).seq = 0 ∧ (vget t.views k).lost = 0 ∧ (vget t.views k).pend = 0 ∧
      (vget t.views k).en = 0 ∧ t.tick = s.tick + 48 ∧ t.units = s.units ∧ t.src = s.src := by
  set w := F.TENANTS_LABEL.into label.toNat (F.TENANTS_ENABLE.into 1 (s.rd 0x01 k)) with hwdef
  have hw : F.TENANTS_ENABLE.of w = 1 := tenantWord_enable _ _ _
  set c := s.committing p n 0x01 k w
  have hcells : c.cells = s.cells := State.committing_cells ..
  have hcommit := State.tenantsCommit_enables (s := c) ((State.enabled_eq hcells k).trans hoff) hw
  obtain ⟨hon, hlabel, hgen⟩ := c.tenantEntry_enabled hk hw
  set y := (c.wr 0x01 k (c.merged 0x01 k w)).bump F.TENANTS_GEN k with hy
  have hview := y.viewStart_view hk
  rw [if_neg hpos.ne'] at hview
  have hycells : ((y.viewStart k).committed p n .ok).cells = y.cells := by simp
  have hyviews : ((y.viewStart k).committed p n .ok).views = (y.viewStart k).views := by simp
  refine ⟨(y.viewStart k).committed p n .ok, ?_, State.committed_outcome .., ?_, ?_, ?_, ?_⟩
  · rw [exec_tenantEnable, ← hwdef, State.entryRow_tenants hserves howner hk hcommit]
  · rw [State.enabled_eq hycells, hon]
  · rw [State.g_eq hycells, hlabel, hwdef, tenantWord_label]
  · rw [State.g_eq hycells, hgen, State.g_eq hcells]
  · rw [hyviews, hview]
    simp [hy, c]

/-- TENANT_DISABLE of an enabled tenant other than the owner. -/
theorem exec_tenantDisable_effect {s : State} {p : PortId} {n : Fin 4} {k : Nat} {label : BitVec 64} (hwf : s.wf)
    (hserves : s.serves p 48 = true) (howner : s.acting p = 0) (hpos : 0 < k) (hk : k < 64) (hon : s.enabled k = true) :
    ∃ t, exec (.tenantDisable p n k label) s = .next t ∧ (t.port p).outcome = Oc.ok.code ∧ t.enabled k = false ∧
      (vget t.views k).log = [] ∧ (vget t.views k).seq = 0 ∧ (vget t.views k).pend = 0 ∧
      (∀ q m, m < 4 → (t.winOf q m).holder = k → (t.winOf q m).staging = none ∧ (t.winOf q m).snap = none) := by
  set w := F.TENANTS_LABEL.into label.toNat (F.TENANTS_ENABLE.into 0 (s.rd 0x01 k)) with hwdef
  have hw : F.TENANTS_ENABLE.of w = 0 := tenantWord_enable _ _ _
  set c := s.committing p n 0x01 k w
  have hcells : c.cells = s.cells := State.committing_cells ..
  have hcwf : c.wf := wf_of_stores hcells (State.committing_nv ..) (State.committing_views ..) hwf
  have hcommit := State.tenantsCommit_disables (s := c) hpos.ne' ((State.enabled_eq hcells k).trans hon) hw
  have hoff := State.tenantOff_enabled hcwf hk hw
  set y := (c.wr 0x01 k (c.merged 0x01 k w)).tenantOff k
  obtain ⟨pops, hview⟩ := (c.wr 0x01 k (c.merged 0x01 k w)).tenantOff_view hk
  have hyviews : vget (y.committed p n .ok).views k = _ := (congrArg (vget · k) (State.committed_views ..)).trans hview
  refine ⟨y.committed p n .ok, ?_, State.committed_outcome .., ?_, ?_, ?_, ?_, fun q m hm => ?_⟩
  · rw [exec_tenantDisable, ← hwdef, State.entryRow_tenants hserves howner hk hcommit]
  · rw [State.enabled_eq (State.committed_cells ..), hoff]
  · rw [hyviews]
  · rw [hyviews]
  · rw [hyviews]
  · exact State.committed_clearOf p n .ok (State.tenantOff_clearOf _ k q hm)

/-- Settles O9: the commit is judged in `State.tenantsCommit_enables` and `State.tenantsCommit_disables`; both ends of a
tenant's life restart its view, and disabling drops what its windows hold. -/
theorem tenantEnableAndDisableRestartTheView : Obligations.TenantEnableAndDisableRestartTheView := by
  unfold Obligations.TenantEnableAndDisableRestartTheView
  intro s p n k label hwf hserves howner hpos hk
  exact ⟨exec_tenantEnable_effect hserves howner hpos hk, exec_tenantDisable_effect hwf hserves howner hpos hk⟩

end Sys2Proof.Machine
end

section
/-! The analogue rails: GOV_STAT shows them, every change raises RAIL, and a unit in service fed by a bad one goes to FAULT
(spec/16_power_start_sinter.md R575, R617). -/

namespace Sys2Proof.Machine

open Sys2Proof

/-! GOV_STAT. -/

theorem exec_registerRead_govStat {s : State} {p : PortId} (h : s.serves p 16 = true) :
    exec (.registerWrite p 0x4E none) s = .next ((s.advance 15).ended p 0x4E .ok (some s.govStat)) := by
  have hrow : exec (.registerWrite p 0x4E none) s = .next (s.bus p 0x4E none) := rfl
  have hread : (s.advance 15).regRead p 0x4E false = (.ok, s.govStat, s.advance 15) := rfl
  rw [hrow, State.bus_read (n := 16) h (by cases p <;> rfl), hread]
  rfl

theorem b2n_le_one (b : Bool) : b2n b ≤ 1 := by cases b <;> decide

/-- RAIL_BAD stands in bits 11 to 8 of GOV_STAT, LEVEL and FLOOR not reaching beyond their fields (R617). -/
theorem State.govStat_railBad {s : State} (hlevel : s.pw.level < 4) (hfloor : s.pw.floor < 4) :
    s.govStat.toNat / 256 % 16 = s.dev.anaBad % 16 := by
  have h1 := b2n_le_one s.pw.pfail
  have h2 := b2n_le_one s.pw.capped
  have h3 := b2n_le_one s.pw.hot
  have h4 := b2n_le_one s.pw.holdOk
  have h5 := b2n_le_one s.snAccepts
  rw [State.govStat, BitVec.toNat_ofNat]
  omega

/-! RAIL. -/

/-- RAIL_BAD once rail `r` has gone bad or good. -/
def railBits (x r : Nat) (bad : Bool) : Nat := if bad then x ||| 2 ^ r else x &&& (15 ^^^ 2 ^ r)

theorem bitOf_railBits_same (x : Nat) {r : Nat} (bad : Bool) (hr : r < 4) : bitOf (railBits x r bad) r = bad := by
  cases bad with
  | true => simp [railBits, bitOf, Nat.testBit_or, Nat.testBit_two_pow_self]
  | false =>
    have h15 : (15 : Nat).testBit r = true := by interval_cases r <;> rfl
    simp [railBits, bitOf, Nat.testBit_and, Nat.testBit_xor, Nat.testBit_two_pow_self, h15]

theorem bitOf_railBits_ne (x : Nat) {r k : Nat} (bad : Bool) (hk : k < 4) (hne : k ≠ r) :
    bitOf (railBits x r bad) k = bitOf x k := by
  have hpow : (2 ^ r).testBit k = false := Nat.testBit_two_pow_of_ne (Ne.symm hne)
  cases bad with
  | true => simp [railBits, bitOf, Nat.testBit_or, hpow]
  | false =>
    have h15 : (15 : Nat).testBit k = true := by interval_cases k <;> rfl
    simp [railBits, bitOf, Nat.testBit_and, Nat.testBit_xor, hpow, h15]

/-- Rail `r` goes bad or good, before the event. -/
def State.setRail (s : State) (r : Fin 4) (bad : Bool) : State :=
  s.modDev (fun x => { x with
    anaBad := railBits s.dev.anaBad r.val bad, anaSince := if bad then vset x.anaSince r.val s.tick else x.anaSince })

/-- RAIL at a change; without CORE nothing is raised. -/
theorem exec_rail_change {s : State} {r : Fin 4} {bad : Bool} (h : bitOf s.dev.anaBad r.val ≠ bad) :
    exec (.rail r bad) s = .next (if s.coreRuns then
      (s.setRail r bad).raiseCommon .gov 2 0x12 (railBits s.dev.anaBad r.val bad) else s.setRail r bad) :=
  if_neg h

theorem exec_rail_effect {s : State} {r : Fin 4} {bad : Bool} (h : bitOf s.dev.anaBad r.val ≠ bad) :
    ∃ t, exec (.rail r bad) s = .next t ∧ t.tick = s.tick ∧ bitOf t.dev.anaBad r.val = bad ∧
      (∀ k, k < 4 → k ≠ r.val → bitOf t.dev.anaBad k = bitOf s.dev.anaBad k) ∧ t.cells = s.cells ∧ t.units = s.units ∧
      (bad = true → vget t.dev.anaSince r.val = s.tick) ∧ (s.coreRuns = false → t.src = s.src) ∧
      (s.coreRuns = true → (vget t.src Src.gov.idx).q = (vget s.src Src.gov.idx).q ++
        [{ common := true, tenant := 0, sev := 2, code := 0x12, arg := t.dev.anaBad % 2 ^ 32, ref := 0 }]) := by
  have hsame := bitOf_railBits_same s.dev.anaBad bad r.isLt
  have hother : ∀ k, k < 4 → k ≠ r.val → bitOf (railBits s.dev.anaBad r.val bad) k = bitOf s.dev.anaBad k :=
    fun k hk hne => bitOf_railBits_ne s.dev.anaBad bad hk hne
  have hsince : bad = true → vget (s.setRail r bad).dev.anaSince r.val = s.tick := by
    rintro rfl
    exact vget_vset_same _ _ _ r.isLt
  refine ⟨_, exec_rail_change h, ?_⟩
  cases hrun : s.coreRuns with
  | false => exact ⟨rfl, hsame, hother, rfl, rfl, hsince, fun _ => rfl, nofun⟩
  | true => exact ⟨rfl, hsame, hother, rfl, rfl, hsince, nofun, fun _ => State.raise_q _ _ _⟩

/-! What the units show of their service: state and cause. Ending a unit's requests and taking its outputs out of service
changes neither, and takes no time. -/

/-- The state and the cause a unit shows. -/
def State.shown (s : State) (u : Src) : UState × Nat := (s.st u, (s.mirror u).cause)

/-- The time, and the state and cause of every unit. -/
def State.service (s : State) : Nat × (Src → UState × Nat) := (s.tick, s.shown)

theorem State.service_of_units {s t : State} (htick : t.tick = s.tick) (hunits : t.units = s.units) :
    t.service = s.service :=
  Prod.ext htick (funext fun u => by simp only [State.service, State.shown, State.st, State.mirror, hunits])

theorem State.foldl_service {α : Type} {f : State → α → State} (l : List α) (s : State)
    (hf : ∀ y a, (f y a).service = y.service) : (l.foldl f s).service = s.service := by
  induction l generalizing s with
  | nil => rfl
  | cons a l ih => exact (ih (f s a)).trans (hf s a)

theorem State.ite_service {c : Prop} [Decidable c] {s t y : State} (hs : s.service = y.service)
    (ht : t.service = y.service) : (if c then s else t).service = y.service := by split <;> assumption

@[simp] theorem State.wr_service (s : State) (t e : Nat) (w : Word) : (s.wr t e w).service = s.service :=
  State.service_of_units (by simp) (by simp)

@[simp] theorem State.p_service (s : State) (f : Fld) (e v : Nat) : (s.p f e v).service = s.service :=
  State.wr_service ..

@[simp] theorem State.ps_service (s : State) (t e : Nat) (l : List (Fld × Nat)) : (s.ps t e l).service = s.service :=
  State.wr_service ..

@[simp] theorem State.raise_service (s : State) (u : Src) (e : Ev) : (s.raise u e).service = s.service := rfl
@[simp] theorem State.modGy_service (s : State) (f : Gy → Gy) : (s.modGy f).service = s.service := rfl
@[simp] theorem State.modLn_service (s : State) (f : Ln → Ln) : (s.modLn f).service = s.service := rfl
@[simp] theorem State.modLl_service (s : State) (f : Ll → Ll) : (s.modLl f).service = s.service := rfl
@[simp] theorem State.modSf_service (s : State) (f : Sf → Sf) : (s.modSf f).service = s.service := rfl
@[simp] theorem State.modLp_service (s : State) (f : Lp → Lp) : (s.modLp f).service = s.service := rfl

@[simp] theorem State.modOp_service (s : State) (n : Nat) (f : Op → Op) : (s.modOp n f).service = s.service :=
  State.ite_service rfl rfl

/-- A change of a unit's mirror that leaves its state and cause. -/
theorem State.changeMirror_service {s : State} {u : Src} {f : Mirror → Mirror} (hu : u.idx < 13) :
    (s.changeMirror u f).service =
      (s.tick, Function.update s.shown u ((f (s.mirror u)).st, (f (s.mirror u)).cause)) := by
  refine Prod.ext (State.changeMirror_tick ..) (funext fun v => ?_)
  by_cases hv : v = u
  · subst hv
    obtain ⟨g, c, a, w, e⟩ := s.changeMirror_mirror v f hu
    simp [State.service, State.shown, State.st, e]
  · have hidx : u.idx ≠ v.idx := fun h => hv (Src.idx_inj h).symm
    simp [State.service, State.shown, State.st, hv, State.changeMirror_mirror_ne s u v f hidx]

theorem State.setSub_service {s : State} {u : Src} {v : Nat} (hu : u.idx < 13) : (s.setSub u v).service = s.service := by
  rw [State.setSub, State.changeMirror_service hu]
  exact congrArg _ (Function.update_eq_self u s.shown)

@[simp] theorem State.freeClaim_service (s : State) (r : Nat) : (s.freeClaim r).service = s.service := by
  unfold State.freeClaim
  exact State.ite_service (by simp) (State.ite_service (by simp) (by simp))

@[simp] theorem State.releaseUnitClaims_service (s : State) (u : Src) : (s.releaseUnitClaims u).service = s.service :=
  State.foldl_service _ _ fun y r => State.ite_service (y.freeClaim_service r) rfl

@[simp] theorem State.ascDrop_service (s : State) (l : List Nat) : (s.ascDrop l).service = s.service :=
  State.foldl_service _ _ fun y e => y.wr_service 0x0A e 0

/-! LINE. -/

@[simp] theorem State.lnEnd_service (s : State) (q : Nat) (o : Oc) : (s.lnEnd q o).service = s.service := by
  simp only [State.lnEnd, State.lnCount, State.raiseDone, State.p_service, State.raise_service, State.ps_service]
  exact State.ite_service (by simp [State.lnFreeStage]) (by simp)

@[simp] theorem State.lnEndAll_service (s : State) (o : Oc) : (State.lnEndAll o s).service = s.service :=
  State.foldl_service _ _ fun y q => State.ite_service (by simp [State.lnDrop, State.lnRefund]) rfl

@[simp] theorem State.lnOut_service (s : State) : s.lnOut.service = s.service := by
  simp [State.lnOut, State.llStop, State.llPendFlags]

/-! The optical ports. -/

@[simp] theorem State.opEndAll_service (s : State) (n : Nat) (o : Oc) : (State.opEndAll n o s).service = s.service :=
  State.foldl_service _ _ fun y i => State.ite_service rfl (by simp [State.opFreeTx])

@[simp] theorem State.opOut_service (s : State) (n : Nat) : (s.opOut n).service = s.service := by
  simp only [State.opOut, State.ascDrop_service, State.p_service, State.modOp_service]
  exact State.foldl_service _ _ fun y b => by simp [State.opFreeRx]

/-! SENS. -/

@[simp] theorem State.sfCheckEnd_service (s : State) : s.sfCheckEnd.service = s.service := by
  unfold State.sfCheckEnd
  split
  · rfl
  · rw [State.sfSetSub, State.setSub_service (by decide), State.ps_service]
    exact State.ite_service (by simp [State.sfMark, State.modSfc]) (by simp [State.sfMark, State.modSfc])

@[simp] theorem State.sfAbandon_service (s : State) : s.sfAbandon.service = s.service := by
  unfold State.sfAbandon
  split
  · rfl
  · simp [State.sfResult, State.raiseTenant]

@[simp] theorem State.sfOut_service (s : State) : s.sfOut.service = s.service := by
  rw [State.sfOut, State.p_service, State.foldl_service _ _ fun y n => by simp [State.modSfc]]
  simp

/-! LOOP. -/

@[simp] theorem State.lpOut_service (s : State) : s.lpOut.service = s.service := by
  rw [State.lpOut, State.lpSetSub, State.setSub_service (by decide)]
  simp

/-! FAULT. -/

/-- The units that run from an analogue rail (R573, Table PW-1). -/
def railUnits : List Src := [.line, .opt1, .opt2, .sens, .loop]

theorem idx_lt_of_railUnits {u : Src} (hu : u ∈ railUnits) : u.idx < 13 := by revert u; decide

theorem State.unitEndAll_service (s : State) {u : Src} (o : Oc) (hu : u ∈ railUnits) :
    (State.unitEndAll u o s).service = s.service := by
  simp only [railUnits, List.mem_cons, List.not_mem_nil, or_false] at hu
  rcases hu with rfl | rfl | rfl | rfl | rfl <;> simp [State.unitEndAll]

theorem State.unitOut_service (s : State) {u : Src} (hu : u ∈ railUnits) : (s.unitOut u).service = s.service := by
  simp only [railUnits, List.mem_cons, List.not_mem_nil, or_false] at hu
  rcases hu with rfl | rfl | rfl | rfl | rfl <;> simp [State.unitOut]

theorem State.unitFault_eq_goFault (s : State) {u : Src} (hu : u ∈ railUnits) (hst : s.st u ≠ .fault) :
    s.unitFault u = (s.goFault u (s.subOut u) (State.unitEndAll u)).unitOut u := by
  simp only [railUnits, List.mem_cons, List.not_mem_nil, or_false] at hu
  rcases hu with rfl | rfl | rfl | rfl | rfl <;> exact if_neg hst

/-- A unit on a rail goes to FAULT: it alone changes its state and cause, in no time. -/
theorem State.unitFault_service {s : State} {u : Src} (hu : u ∈ railUnits) (hst : s.st u ≠ .fault) :
    (s.unitFault u).service = (s.tick, Function.update s.shown u (.fault, Oc.fault.code)) := by
  rw [s.unitFault_eq_goFault hu hst, State.unitOut_service _ hu, State.goFault, State.releaseUnitClaims_service,
    State.unitEndAll_service _ _ hu, State.changeMirror_service (idx_lt_of_railUnits hu)]

/-! START_STEPS_DONE. -/

theorem State.settle_st (s : State) (u : Src) : (s.settle u).st u = s.st u := by
  unfold State.settle
  split <;> rfl

theorem exec_startStepsDone_railBad {s : State} {u : Src} (hu : u ∈ railUnits) (hst : s.st u = .starting)
    (hbad : s.railBad u = true) :
    ∃ t, exec (.startStepsDone u) s = .next t ∧ t.st u = .fault ∧ (t.mirror u).cause = Oc.fault.code := by
  have hexec : exec (.startStepsDone u) s = .next ((s.settle u).unitFault u) := by
    show execStartStepsDone u s = _
    rw [execStartStepsDone, if_neg (not_not.2 hst), if_pos hbad]
  have hrun : (s.settle u).st u ≠ .fault := by rw [State.settle_st, hst]; decide
  have hshown : ((s.settle u).unitFault u).shown u = (.fault, Oc.fault.code) :=
    (congrFun (congrArg Prod.snd (State.unitFault_service hu hrun)) u).trans (Function.update_self ..)
  exact ⟨_, hexec, congrArg Prod.fst hshown, congrArg Prod.snd hshown⟩

/-! RAIL_BAD_PERSIST. -/

/-- Analogue rail `r` feeds a unit on the rails (R573, Table PW-1). -/
def railFeeds (r : Fin 4) (u : Src) : Bool :=
  match u with | .line => r.val == 0 | .opt1 => r.val == 1 | .opt2 => r.val == 1 | _ => r.val == 2

/-- A unit in ON that rail `r` feeds goes to FAULT. -/
def State.railFault (r : Fin 4) (s : State) (u : Src) : State := if railFeeds r u && s.isOn u then s.unitFault u else s

theorem exec_railBadPersist {s : State} {r : Fin 4} (h : bitOf s.dev.anaBad r.val = true) :
    exec (.railBadPersist r) s =
      .next (railUnits.foldl (State.railFault r) (s.advanceTo (vget s.dev.anaSince r.val + msTicks))) := if_pos h

theorem State.railFault_tick (r : Fin 4) (s : State) {u : Src} (hu : u ∈ railUnits) : (s.railFault r u).tick = s.tick := by
  unfold State.railFault
  split
  next h =>
    have hon : s.st u = .on := by simpa [State.isOn] using (Bool.and_eq_true_iff.1 h).2
    exact congrArg Prod.fst (State.unitFault_service hu (by rw [hon]; decide))
  · rfl

theorem State.railFault_shown (r : Fin 4) (s : State) {u : Src} (hu : u ∈ railUnits) (v : Src) :
    (s.railFault r u).shown v =
      if v = u ∧ railFeeds r u = true ∧ s.isOn u = true then (.fault, Oc.fault.code) else s.shown v := by
  unfold State.railFault
  by_cases h : railFeeds r u = true ∧ s.isOn u = true
  · have hon : s.st u = .on := by simpa [State.isOn] using h.2
    have hs := congrFun (congrArg Prod.snd (State.unitFault_service hu (by rw [hon]; decide))) v
    rw [if_pos (Bool.and_eq_true_iff.2 h)]
    refine hs.trans ?_
    simp only [Function.update_apply, h, and_true, and_self]
  · rw [if_neg (fun k => h (Bool.and_eq_true_iff.1 k)), if_neg (fun k => h k.2)]

theorem State.foldl_railFault (r : Fin 4) {l : List Src} (s : State) (hl : ∀ u ∈ l, u ∈ railUnits) (hnd : l.Nodup) :
    (l.foldl (State.railFault r) s).tick = s.tick ∧ ∀ v, (l.foldl (State.railFault r) s).shown v =
      if v ∈ l ∧ railFeeds r v = true ∧ s.isOn v = true then (.fault, Oc.fault.code) else s.shown v := by
  induction l generalizing s with
  | nil => exact ⟨rfl, fun v => rfl⟩
  | cons u l ih =>
    obtain ⟨hu, hl⟩ := List.forall_mem_cons.1 hl
    obtain ⟨hul, hnd⟩ := List.nodup_cons.1 hnd
    obtain ⟨htick, hshown⟩ := ih (s.railFault r u) hl hnd
    refine ⟨htick.trans (s.railFault_tick r hu), fun v => (hshown v).trans ?_⟩
    have hv := s.railFault_shown r hu v
    by_cases hvu : v = u
    · subst hvu
      simp [hul, hv]
    · have hkeep : (s.railFault r u).shown v = s.shown v := hv.trans (if_neg fun k => hvu k.1)
      have hon : (s.railFault r u).isOn v = s.isOn v := by
        rw [State.isOn, show (s.railFault r u).st v = s.st v from congrArg Prod.fst hkeep, State.isOn]
      simp [hvu, hkeep, hon]

theorem State.advanceTo_tick (s : State) (n : Nat) : (s.advanceTo n).tick = max s.tick n := by
  rw [State.advanceTo, State.advance_tick]
  omega

theorem exec_railBadPersist_effect {s : State} {r : Fin 4} (h : bitOf s.dev.anaBad r.val = true) :
    ∃ t, exec (.railBadPersist r) s = .next t ∧ t.tick = max s.tick (vget s.dev.anaSince r.val + msTicks) ∧
      (∀ u ∈ railUnits, railFeeds r u = true → s.isOn u = true →
        t.st u = .fault ∧ (t.mirror u).cause = Oc.fault.code) ∧
      (∀ u, u ∉ railUnits → t.st u = s.st u) := by
  set y := s.advanceTo (vget s.dev.anaSince r.val + msTicks)
  obtain ⟨htick, hshown⟩ := State.foldl_railFault r y (fun _ h => h) (by decide : railUnits.Nodup)
  refine ⟨_, exec_railBadPersist h, htick.trans (State.advanceTo_tick ..), fun u hu hfeeds hon => ?_, fun u hu => ?_⟩
  · have hfault := (hshown u).trans (if_pos ⟨hu, hfeeds, hon⟩)
    exact ⟨congrArg Prod.fst hfault, congrArg Prod.snd hfault⟩
  · exact congrArg Prod.fst ((hshown u).trans (if_neg fun k => hu k.1))

/-! The table of the rails and the units they feed. -/

theorem mem_railUnits_of_fed {u : Src} {r : Nat}
    (h : (u, r) ∈ [(Src.line, 0), (.opt1, 1), (.opt2, 1), (.sens, 2), (.loop, 2)]) : u ∈ railUnits :=
  List.mem_map_of_mem (f := Prod.fst) h

theorem railFeeds_of_fed {u : Src} {r : Fin 4}
    (h : (u, r.val) ∈ [(Src.line, 0), (.opt1, 1), (.opt2, 1), (.sens, 2), (.loop, 2)]) : railFeeds r u = true := by
  simp only [List.mem_cons, Prod.mk.injEq, List.not_mem_nil, or_false] at h
  rcases h with ⟨rfl, hr⟩ | ⟨rfl, hr⟩ | ⟨rfl, hr⟩ | ⟨rfl, hr⟩ | ⟨rfl, hr⟩ <;> simp [railFeeds, hr]

theorem State.railBad_of_fed {s : State} {u : Src} {r : Nat}
    (h : (u, r) ∈ [(Src.line, 0), (.opt1, 1), (.opt2, 1), (.sens, 2), (.loop, 2)]) (hbad : bitOf s.dev.anaBad r = true) :
    s.railBad u = true := by
  simp only [List.mem_cons, Prod.mk.injEq, List.not_mem_nil, or_false] at h
  rcases h with ⟨rfl, rfl⟩ | ⟨rfl, rfl⟩ | ⟨rfl, rfl⟩ | ⟨rfl, rfl⟩ | ⟨rfl, rfl⟩ <;> exact hbad

/-- Settles O58: RAIL_BAD is a field of GOV_STAT and follows RAIL; the fault of one unit on a rail leaves the state and
cause of every other (`State.unitFault_service`), so RAIL_BAD_PERSIST takes exactly the fed units in ON to FAULT. -/
theorem analogueRailsAreShownRaisedAndFaultTheirUnits : Obligations.AnalogueRailsAreShownRaisedAndFaultTheirUnits := by
  unfold Obligations.AnalogueRailsAreShownRaisedAndFaultTheirUnits
  intro s
  refine ⟨fun p hserves hlevel hfloor => ⟨exec_registerRead_govStat hserves, State.govStat_railBad hlevel hfloor⟩,
    fun r bad hchange => exec_rail_effect hchange, fun r hbad => ?_, fun u r hfed hst hbad => ?_⟩
  · obtain ⟨t, hexec, htick, hfault, hother⟩ := exec_railBadPersist_effect hbad
    exact ⟨t, hexec, htick, fun u hfed => hfault u (mem_railUnits_of_fed hfed) (railFeeds_of_fed hfed), hother⟩
  · exact exec_startStepsDone_railBad (mem_railUnits_of_fed hfed) hst (State.railBad_of_fed hfed hbad)

end Sys2Proof.Machine
end

section
/-! Failures of the clocks (spec/16_power_start_sinter.md R578): the reset with cause 4, and the RTC without its crystal.
What R578 says holds of every well-formed state (`State.clockFailures_of_wf`). Over all states it does not: a list of
window-table words that is out of order hides a word of Ember from a read, and the reset, which drops the words of the
other tables, uncovers it. -/

namespace Sys2Proof.Machine

open Sys2Proof

/-! The words a reset keeps. -/

theorem Sparse.get_eq_none {α : Type} {l : List (Nat × α)} {k : Nat} (h : ∀ q ∈ l, q.1 ≠ k) : Sparse.get l k = none := by
  induction l with
  | nil => rfl
  | cons q l ih =>
    obtain ⟨hq, hl⟩ := List.forall_mem_cons.1 h
    rw [Sparse.get, if_neg hq, ih hl, ite_self]

/-- A filter of a rising store that drops nothing under a key keeps what the key reads as. -/
theorem Sparse.get_filter {α : Type} {l : List (Nat × α)} {a : Option Nat} {k : Nat} {p : Nat × α → Bool}
    (hl : Sparse.above a l = true) (hp : ∀ x, p (k, x) = true) : Sparse.get (l.filter p) k = Sparse.get l k := by
  induction l generalizing a with
  | nil => rfl
  | cons q l ih =>
    obtain ⟨j, x⟩ := q
    have htail : Sparse.above (some j) l = true := by
      cases a with
      | none => exact hl
      | some lo => exact (Bool.and_eq_true_iff.1 hl).2
    rw [List.filter_cons]
    split
    · simp only [Sparse.get, ih htail]
    next hdrop =>
      have hjk : j ≠ k := by rintro rfl; exact hdrop (hp x)
      rw [ih htail, Sparse.get, if_neg hjk]
      split
      next hlt => exact Sparse.get_none_of_above (Sparse.above_mono (.inr ⟨j, k, rfl, rfl, hlt.le⟩) htail)
      · rfl

theorem cellKey_div (t e : Nat) : cellKey t e / 4096 = t := by simp only [cellKey]; omega

/-- Of a rising store `emberCells` keeps the entries of PW_EMBER. -/
theorem State.rd_emberCells {s t : State} (hcells : t.cells = emberCells s.cells) (hs : cellsWf s.cells = true) (e : Nat) :
    t.rd 0x06 e = s.rd 0x06 e := by
  have hget : Sparse.get t.cells (cellKey 0x06 e) = Sparse.get s.cells (cellKey 0x06 e) := by
    rw [hcells]
    exact Sparse.get_filter (Bool.and_eq_true_iff.1 hs).1 fun x => by simp [cellKey_div]
  simp only [State.rd, State.cell, hget]

/-- `emberCells` leaves every entry of another table at its reset word. -/
theorem State.rd_emberCells_ne {t : State} {l : List (Nat × Cell)} (hcells : t.cells = emberCells l) {n : Nat}
    (hn : n ≠ 0x06) (e : Nat) : t.rd n e = State.reset.rd n e := by
  have hget : Sparse.get t.cells (cellKey n e) = none := by
    rw [hcells]
    refine Sparse.get_eq_none fun q hq hkey => hn ?_
    have h6 : q.1 / 4096 = 0x06 := by simpa using (List.mem_filter.1 hq).2
    rw [← cellKey_div n e, ← hkey, h6]
  simp only [State.rd, State.cell, hget]
  rfl

/-! The RTC. -/

theorem State.rtcSync_rd_ne {s : State} (hs : cellsWf s.cells = true) {n e : Nat}
    (h : cellKey n e ≠ cellKey 0x06 0) : s.rtcSync.rd n e = s.rd n e :=
  State.rd_wr_ne s 0x06 0 n e _ hs h

/-- SECONDS and FRAC hold the present count once they have been brought up to date. -/
theorem State.rtcSync_count (s : State) :
    s.rtcSync.g F.PW_EMBER_SECONDS 0 * 32768 + s.rtcSync.g F.PW_EMBER_FRAC 0 = s.rtcNow := by
  have hlt : s.rtcNow < 2 ^ 47 := Nat.mod_lt _ (by decide)
  have hseconds : s.rtcSync.g F.PW_EMBER_SECONDS 0 = s.rtcNow / 32768 % 2 ^ 32 := by
    refine (State.g_ps s F.PW_EMBER_SECONDS 0x06 0 _ rfl).trans ?_
    rw [List.foldl_cons, List.foldl_cons, List.foldl_nil,
      Fld.of_into_ne F.PW_EMBER_SECONDS F.PW_EMBER_FRAC _ _ (by decide), Fld.of_into _ _ _ (by decide)]
    rfl
  have hfrac : s.rtcSync.g F.PW_EMBER_FRAC 0 = s.rtcNow % 32768 % 2 ^ 15 := by
    refine (State.g_ps s F.PW_EMBER_FRAC 0x06 0 _ rfl).trans ?_
    rw [List.foldl_cons, List.foldl_cons, List.foldl_nil, Fld.of_into _ _ _ (by decide)]
    rfl
  rw [hseconds, hfrac]
  omega

/-- Without its crystal the RTC shows what SECONDS and FRAC hold. -/
theorem State.rtcNow_of_x32Fail {s : State} (h : s.b F.PW_EMBER_X32_FAIL 1 = true) :
    s.rtcNow = (s.g F.PW_EMBER_SECONDS 0 * 32768 + s.g F.PW_EMBER_FRAC 0) % 2 ^ 47 := by
  rw [State.rtcNow, if_pos h, Nat.add_zero]

theorem State.rtcSync_wf {s : State} (hs : s.wf) : s.rtcSync.wf :=
  (State.rtcSync_kept (Nat.and_self _) (Kept.refl _ s)).wf hs

/-- X32_FAIL changes entry 1 of PW_EMBER, and entry 0 only to the count it stands for. -/
theorem exec_x32Fail_effect {s : State} (hs : s.wf) :
    ∃ t, exec .x32Fail s = .next t ∧ t.tick = s.tick ∧ t.b F.PW_EMBER_X32_FAIL 1 = true ∧ t.rtcNow = s.rtcNow ∧
      t.src = s.src ∧ t.units = s.units ∧ (∀ e, 2 ≤ e → e < 6 → t.rd 0x06 e = s.rd 0x06 e) := by
  set t := s.rtcSync.p F.PW_EMBER_X32_FAIL 1 1
  have hfail : t.b F.PW_EMBER_X32_FAIL 1 = true := by
    rw [State.b, State.g_p _ F.PW_EMBER_X32_FAIL 1 1 (by decide)]
    rfl
  have hrd : ∀ e, e < 6 → e ≠ 1 → t.rd 0x06 e = s.rtcSync.rd 0x06 e := fun e he hne =>
    State.rd_wr_ne s.rtcSync 0x06 1 0x06 e _ (State.rtcSync_wf hs).1 (by simp only [cellKey]; omega)
  have hnow : t.rtcNow = s.rtcNow := by
    have hentry := hrd 0 (by decide) (by decide)
    have hseconds : t.g F.PW_EMBER_SECONDS 0 = s.rtcSync.g F.PW_EMBER_SECONDS 0 := congrArg F.PW_EMBER_SECONDS.of hentry
    have hfrac : t.g F.PW_EMBER_FRAC 0 = s.rtcSync.g F.PW_EMBER_FRAC 0 := congrArg F.PW_EMBER_FRAC.of hentry
    rw [State.rtcNow_of_x32Fail hfail, hseconds, hfrac, State.rtcSync_count]
    exact Nat.mod_mod _ _
  refine ⟨t, rfl, by simp [t, State.rtcSync], hfail, hnow, by simp [t, State.rtcSync], by simp [t, State.rtcSync],
    fun e h2 h6 => ?_⟩
  exact (hrd e h6 (by omega)).trans (State.rtcSync_rd_ne hs.1 (by simp only [cellKey]; omega))

/-- WAKE_N needs no crystal. -/
theorem exec_wakeSource_wakeN {s : State} (hasleep : s.dev.phase = .hib ∨ s.dev.phase = .por ∧ s.dev.cause = 6)
    (hen : s.b F.PW_EMBER_WAKE_N_EN 0 = true) (hlow : s.pw.pwren = false) :
    ∃ t, exec (.wakeSource 0) s = .next t ∧ t.pw.pwren = true ∧ t.pw.woke = true ∧ t.g F.PW_EMBER_WAKE_CAUSE 1 = 1 := by
  refine ⟨(s.p F.PW_EMBER_WAKE_CAUSE 1 1).modPw fun x => { x with pwren := true, woke := true }, ?_, rfl, rfl,
    State.g_p s F.PW_EMBER_WAKE_CAUSE 1 1 (by decide)⟩
  exact if_pos ⟨hasleep, hen, by simp [hlow]⟩

/-! The reset. -/

/-- The state whose Ember and array a reset keeps: the transaction under way broken off, the RTC brought up to date,
X32_FAIL cleared and the commits on their way landed. -/
def State.atReset (s : State) : State :=
  let y := s.snCollapse.rtcSync.p F.PW_EMBER_X32_FAIL 1 0
  y.pw.emberNew.foldl (fun s x => s.emberLand x.2.1 x.2.2) y

@[simp] theorem State.snCollapse_cells (s : State) : s.snCollapse.cells = s.cells := by
  unfold State.snCollapse
  split
  · rfl
  · split <;> rfl

@[simp] theorem State.snCollapse_pw (s : State) : s.snCollapse.pw = s.pw := by
  unfold State.snCollapse
  split
  · rfl
  · split <;> rfl

theorem State.snCollapse_idle {s : State} (h : s.sn.running = none) : s.snCollapse = s := by rw [State.snCollapse, h]

theorem State.snCollapse_keeps (s : State) : Kept 0x300000 s s.snCollapse :=
  State.snCollapse_kept (Nat.and_self _) (Kept.refl _ s)

/-- Between the break-off and the restart only PW_EMBER and its counters change. -/
theorem State.atReset_kept (s : State) : Kept 0x400000000000080000 s.snCollapse s.atReset :=
  Kept.foldl (fun _ _ hy => State.emberLand_kept (Nat.and_self _) hy)
    (State.p_kept (by decide) (State.rtcSync_kept (Nat.and_self _) (Kept.refl _ _)))

theorem State.atReset_wf {s : State} (hs : s.wf) : s.atReset.wf := s.atReset_kept.wf (s.snCollapse_keeps.wf hs)

theorem State.atReset_laps {s : State} (hs : s.wf) : s.atReset.g F.SN_STAT_LAPS 0 = s.g F.SN_STAT_LAPS 0 := by
  have htab : s.atReset.rd 0x07 0 = s.snCollapse.rd 0x07 0 :=
    s.atReset_kept.tab 0x07 0 (by decide) (by decide) (s.snCollapse_keeps.wf hs)
  exact congrArg F.SN_STAT_LAPS.of (htab.trans (State.rd_eq s.snCollapse_cells 0x07 0))

theorem State.atReset_ember {s : State} (hs : s.wf) (hnew : s.pw.emberNew = []) {e : Nat} (h2 : 2 ≤ e) (h6 : e < 6) :
    s.atReset.rd 0x06 e = s.rd 0x06 e := by
  have hcollapse := s.snCollapse_keeps.wf hs
  have hland : s.atReset = s.snCollapse.rtcSync.p F.PW_EMBER_X32_FAIL 1 0 := by
    have hnone : (s.snCollapse.rtcSync.p F.PW_EMBER_X32_FAIL 1 0).pw.emberNew = [] := by simp [State.rtcSync, hnew]
    rw [State.atReset, hnone]
    rfl
  calc s.atReset.rd 0x06 e = s.snCollapse.rtcSync.rd 0x06 e := by
        rw [hland]
        exact State.rd_wr_ne _ 0x06 1 0x06 e _ (State.rtcSync_wf hcollapse).1 (by simp only [cellKey]; omega)
    _ = s.snCollapse.rd 0x06 e := State.rtcSync_rd_ne hcollapse.1 (by simp only [cellKey]; omega)
    _ = s.rd 0x06 e := State.rd_eq s.snCollapse_cells 0x06 e

/-- A reset starts the machine afresh over the words of Ember, the array and the count of its laps. -/
theorem State.toReset_afresh (s : State) (phase : Phase) (cause : Nat) :
    ∃ y : State, s.toReset phase cause = y.p F.SN_STAT_LAPS 0 (s.atReset.g F.SN_STAT_LAPS 0) ∧
      y.cells = emberCells s.atReset.cells ∧ y.nv = s.atReset.nv ∧ y.pending = s.atReset.pending ∧
      y.dev.phase = phase ∧ y.dev.cause = cause ∧ y.dev.ready = false ∧ y.dev.step = 0 ∧ y.tick = 0 ∧
      y.units = State.reset.units ∧ y.src = State.reset.src ∧ y.views = State.reset.views ∧ y.sn.running = none :=
  ⟨_, rfl, rfl, rfl, rfl, rfl, rfl, rfl, rfl, rfl, rfl, rfl, rfl, rfl⟩

theorem State.toReset_nv (s : State) (phase : Phase) (cause : Nat) : (s.toReset phase cause).nv = s.snCollapse.nv := by
  obtain ⟨y, hy, -, hnv, -⟩ := s.toReset_afresh phase cause
  rw [hy, State.p_nv, hnv]
  exact s.atReset_kept.nv (by decide)

/-- The words of a restarted device but the entry with the lap count. -/
theorem State.rd_p_laps {y : State} {v n e : Nat} (hy : cellsWf y.cells = true) (hn : n ≠ 0x07) :
    (y.p F.SN_STAT_LAPS 0 v).rd n e = y.rd n e :=
  State.rd_wr_ne y 0x07 0 n e _ hy fun h => hn (by rw [← cellKey_div n e, h, cellKey_div])

theorem State.restarted_toReset {s : State} (hs : s.wf) (phase : Phase) (cause : Nat) :
    s.restarted (s.toReset phase cause) phase cause := by
  have hnv := s.toReset_nv phase cause
  obtain ⟨y, hy, hcells, -, hpending, hphase, hcause, hready, hstep, htick, hunits, hsrc, hviews, hrunning⟩ :=
    s.toReset_afresh phase cause
  have hywf : cellsWf y.cells = true := hcells ▸ cellsWf_filter _ (State.atReset_wf hs).1
  have hlaps : (y.p F.SN_STAT_LAPS 0 (s.atReset.g F.SN_STAT_LAPS 0)).g F.SN_STAT_LAPS 0 = s.g F.SN_STAT_LAPS 0 := by
    rw [State.g_p _ _ _ _ (by decide), State.atReset_laps hs]
    exact Nat.mod_eq_of_lt (Fld.of_lt F.SN_STAT_LAPS _)
  have hidle : s.sn.running = none → (s.toReset phase cause).nv = s.nv := fun h => by rw [hnv, State.snCollapse_idle h]
  have hqueue : y.pending = s.pending := hpending.trans (s.atReset_kept.pending.trans s.snCollapse_keeps.pending)
  rw [hy] at hidle ⊢
  simp only [State.restarted, State.p_dev, State.p_tick, State.p_units, State.p_src, State.p_views, State.p_sn,
    State.p_pending]
  exact ⟨hphase, hcause, hready, hstep, htick, hunits, hsrc, hviews, hrunning,
    fun n e _ h6 h7 => (State.rd_p_laps hywf h7).trans (State.rd_emberCells_ne hcells h6 e), hlaps, hidle, hqueue⟩

theorem State.emberKept_toReset {s : State} (hs : s.wf) (phase : Phase) (cause : Nat) :
    s.emberKept (s.toReset phase cause) := by
  intro hnew e h2 h6
  obtain ⟨y, hy, hcells, -⟩ := s.toReset_afresh phase cause
  have hwf := (State.atReset_wf hs).1
  have hywf : cellsWf y.cells = true := hcells ▸ cellsWf_filter _ hwf
  calc (s.toReset phase cause).rd 0x06 e = y.rd 0x06 e := by rw [hy, State.rd_p_laps hywf (by decide)]
    _ = s.atReset.rd 0x06 e := State.rd_emberCells hcells hwf e
    _ = s.rd 0x06 e := State.atReset_ember hs hnew h2 h6

theorem exec_clockFail {s : State} (hpor : s.dev.phase ≠ .por) (hblack : s.dev.phase ≠ .black)
    (hreset : s.dev.phase ≠ .reset) : exec .clockFail s = .next (s.toReset .starting 4) :=
  if_neg (by simp [hpor, hblack, hreset])

/-! The statement. -/

/-- What `Obligations.ClockFailuresResetTheDeviceOrStopTheRtc` says of one state. -/
def State.clockFailures (s : State) : Prop :=
  (s.dev.phase ≠ .por → s.dev.phase ≠ .black → s.dev.phase ≠ .reset →
    ∃ t, exec .clockFail s = .next t ∧ s.restarted t .starting 4 ∧ s.emberKept t ∧ t.nv = s.snCollapse.nv) ∧
  (∃ t, exec .x32Fail s = .next t ∧ t.tick = s.tick ∧ t.b F.PW_EMBER_X32_FAIL 1 = true ∧ t.rtcNow = s.rtcNow ∧
    t.src = s.src ∧ t.units = s.units ∧ (∀ e, 2 ≤ e → e < 6 → t.rd 0x06 e = s.rd 0x06 e)) ∧
  (s.b F.PW_EMBER_X32_FAIL 1 = true →
    (∀ n, (s.advance n).rtcNow = s.rtcNow) ∧ (∀ level, exec (.door level) s = .next s) ∧ exec .rtcAlarm s = .next s ∧
    (s.dev.phase = .hib ∨ s.dev.phase = .por ∧ s.dev.cause = 6 → s.b F.PW_EMBER_WAKE_N_EN 0 = true → s.pw.pwren = false →
      ∃ t, exec (.wakeSource 0) s = .next t ∧ t.pw.pwren = true ∧ t.pw.woke = true ∧
        t.g F.PW_EMBER_WAKE_CAUSE 1 = 1))

theorem clockFailuresResetTheDeviceOrStopTheRtc_iff :
    Obligations.ClockFailuresResetTheDeviceOrStopTheRtc ↔ ∀ s : State, s.clockFailures := Iff.rfl

/-- R578 holds of every well-formed state. -/
theorem State.clockFailures_of_wf {s : State} (hs : s.wf) : s.clockFailures := by
  refine ⟨fun hpor hblack hreset => ?_, exec_x32Fail_effect hs, fun hfail => ⟨fun n => ?_, fun level => ?_, ?_, ?_⟩⟩
  · exact ⟨_, exec_clockFail hpor hblack hreset, State.restarted_toReset hs .starting 4,
      State.emberKept_toReset hs .starting 4, s.toReset_nv .starting 4⟩
  · exact (State.rtcNow_of_x32Fail (s := s.advance n) hfail).trans (State.rtcNow_of_x32Fail hfail).symm
  · exact if_pos (.inr hfail)
  · exact if_pos (by rw [hfail, Bool.or_true])
  · exact exec_wakeSource_wakeN

/-- A running device whose window-table words are out of order: an entry of PW_SINTER stands before HOST0 of Ember, so a
read of HOST0 ends before it comes to its word. -/
def disorderedStore : State :=
  { State.reset with
    dev := { phase := .ready }
    cells := [(cellKey 0x07 0, { word := 0, ver := 1 }), (cellKey 0x06 2, { word := 1, ver := 1 })] }

theorem disorderedStore_reads : disorderedStore.rd 0x06 2 = 0 ∧ (disorderedStore.toReset .starting 4).rd 0x06 2 = 1 := by
  decide

theorem disorderedStore_not_wf : ¬ disorderedStore.wf := fun h => absurd h.1 (by decide)

/-- Refutes O55 in its clause on Ember at CLOCK_FAIL, for want of `s.wf`: from `disorderedStore`, which is not
well-formed, HOST0 reads 0 before the reset and 1 after it. Of every well-formed state the whole statement holds
(`State.clockFailures_of_wf`). -/
theorem not_clockFailuresResetTheDeviceOrStopTheRtc : ¬ Obligations.ClockFailuresResetTheDeviceOrStopTheRtc := by
  intro h
  obtain ⟨hclock, -⟩ := clockFailuresResetTheDeviceOrStopTheRtc_iff.1 h disorderedStore
  obtain ⟨t, hexec, -, hkept, -⟩ := hclock (by decide) (by decide) (by decide)
  obtain ⟨hbefore, hafter⟩ := disorderedStore_reads
  obtain rfl : disorderedStore.toReset .starting 4 = t := by
    rw [exec_clockFail (by decide) (by decide) (by decide)] at hexec
    exact Host.Outcome.next.inj hexec
  have hsame := hkept rfl 2 (by decide) (by decide)
  rw [hbefore, hafter] at hsame
  exact absurd hsame (by decide)

end Sys2Proof.Machine
end
